-- ==== Sys2Proof/Word.lean ====
section
/-!
DEFINITION. The word and byte types of the module (R36: every register is 32 bits wide).
-/
namespace Sys2Proof

/-- A 32-bit register or bench word. -/
abbrev Word := BitVec 32

/-- A byte of memory. -/
abbrev Byte := BitVec 8

end Sys2Proof
end

