-- ==== Sys2Proof/Syntax.lean ====
section
/-!
DEFINITION. The commands the block takes: one constructor of `Instr` per row of spec/opcode_table.json, and the types
of their operands. An operand of a bounded type (`Fin`) cannot name an engine, slot or channel that does not exist;
what else an operand must satisfy is checked in WellFormed.lean.
-/
namespace Sys2Proof

/-- Who makes an access (R49): a supervisor processor, a session entry, a task slot, a ring peer with the tin and
right its request carries, a loop, the pair or peel block (which stage domain entries, R179). -/
inductive Req where
  | fw (cpu : Fin 4)
  | ses (n : Fin 64)
  | task (e : Fin 16) (j : Fin 8)
  | peer (id tin rights : Nat) (ls : Bool)
  | loop (n : Fin 256)
  | pairBlk
  | peelBlk
deriving DecidableEq, Repr

/-- What the bench code (R66) found in the words an instruction fetched or read: nothing, a corrected error, a double error in
the fetched word, or one in the word that the operand reads (R95). -/
inductive Ecc where
  | ok | corrected | uncorrectable | operand
deriving DecidableEq, Repr

/-- One item of a slot's input image map: the I word (and bit of it) it fills, the point's tower address, the bit of
the point's word it takes, and the remote bound as b - 1, b being 1 to 16 ticks; none where none is configured (R22). -/
structure InItem where
  word : Nat
  bit : Option Nat
  addr : Nat
  srcBit : Nat
  bound : Option (Fin 16)
deriving DecidableEq, Repr

/-- The remote bound of an input item in ticks: 2 where none is configured (R22). -/
def InItem.ticks (i : InItem) : Nat := (i.bound.map fun b => b.val + 1).getD 2

/-- One item of a slot's output image map: the Q word (and bit of it) it publishes, the point's tower address and
the bit of the point's word it drives. -/
structure OutItem where
  word : Nat
  bit : Option Nat
  addr : Nat
  dstBit : Nat
deriving DecidableEq, Repr

/-- The image map of a slot in one bank. -/
structure ImgMap where
  ins : List InItem
  outs : List OutItem
deriving DecidableEq, Repr

/-- What the loader placed while PROG_OPEN was 1: words of the program bank by index, words of the data region by
index (P windows and first contents of disjoint journalled windows), the K initial values (slot, word, value), and
the image maps of the slots. -/
structure ProgLoad where
  words : List (Nat × Word)
  data : List (Nat × Word)
  kinit : List (Nat × Nat × Word)
  maps : List (Nat × ImgMap)
deriving DecidableEq, Repr


/-- A cause of a slice fault that arises outside the registers (R238). -/
inductive SliceCause where
  | fsLow | conn | isl | cfg
deriving DecidableEq, Repr

/-- A message of the message set (R259): its number, its length in samples, and whether its CRC is right. -/
structure MsgItem where
  num : Fin 256
  len : Nat
  crcOk : Bool
deriving DecidableEq, Repr

/-- The header of a frame as it arrives (R302): the port (0 east, 1 west, 2 the pair link), sender and its carrier
position, target, epochs, sequence number, class, BOTH, hops; with its length in octets and the time of its arrival in
µs from the start of the current tick. -/
structure Hdr where
  port : Fin 3
  src : Fin 256
  pos : Bool
  dst : Fin 256
  srcEpoch : Nat
  dstEpoch : Nat
  seq : Nat
  ls : Bool
  both : Bool
  hops : Nat
  octets : Nat
  us : Nat
deriving DecidableEq, Repr

/-- A port that keeps counters (R299): a ring port (0 east, 1 west), a floor segment, the service port, the pair
link. -/
inductive NetPort where
  | ring (p : Fin 2)
  | seg (s : Fin 8)
  | svc
  | pair
deriving DecidableEq, Repr

/-- What is wrong with a frame that no consumer takes, or with a codeword (R300). A good frame that its port does not accept
has its octets; an Unzan frame of a type that R303 does not list has its header. -/
inductive BadFrame where
  | unknown (octets : Nat) | untyped (h : Hdr) (type : Fin 256)
  | fcs | undersize | oversize | code | reasm | fecCorr | fecUncorr
deriving DecidableEq, Repr


/-- What an Announce carries (R337): the grandmaster's clockIdentity and data set, stepsRemoved, currentUtcOffset and
timeTraceable. -/
structure Announce where
  id : Nat
  prio1 : Fin 256
  cls : Fin 256
  acc : Fin 256
  var : Fin 65536
  prio2 : Fin 256
  steps : Nat
  utc : Nat
  traceable : Bool
deriving DecidableEq, Repr

/-- The payload of an AUDIO frame that a receiver looks at (R264): its audio channel, and the tick that it names. -/
structure AudioIn where
  ch : Fin 64
  tick : Nat
deriving DecidableEq, Repr

/-- Where a SESSION frame comes from (R332, R388, R394): the service port, with the octets of
the frame, or a ring client. -/
inductive SesSrc where
  | svc (octets : Nat)
  | ring (h : Hdr)
deriving DecidableEq, Repr

/-- A HELLO (R389): whether it is well formed, MODE, requested tin, PSK slot; the handshake operations that wait in the vault's
queue (R396); and the octets of the client's nonce and ephemeral key. -/
structure HelloIn where
  wf : Bool
  mode : Nat
  tin : Fin 256
  slot : Fin 64
  queued : Nat
  nonce : List Nat
  key : List Nat
deriving DecidableEq, Repr

/-- A FINISH (R389, R391): whether it is well formed; the octets of its body up to the end of its certificates, and of its
signature or MAC; and what the vault finds in certificate mode: whether the signature verifies, whether the chain verifies and
to which anchor slot, whether the dates hold, and the session extension's tin and rights. -/
structure FinishIn where
  wf : Bool
  body : List Nat
  auth : List Nat
  proof : Bool
  chain : Bool
  anchor : Fin 64
  dates : Bool
  ext : Option (Nat × Nat)
deriving DecidableEq, Repr

/-- One operation of a DATA frame (R393): write or read, TAG, address and value. -/
structure SesOp where
  write : Bool
  tag : Nat
  addr : Nat
  val : Word
deriving DecidableEq, Repr

/-- The payload of a LEASE frame (R368): pair and witness ID, flags, epoch, renewal sequence or tick, and the lease clock
in µs when the frame arrived. In GRANT and REFUSE `seq` names the position answered, in CLAIM the position that the
sender's PREFER names. -/
structure LeaseIn where
  pair : Fin 256
  wit : Fin 256
  synced : Bool
  driving : Bool
  drill : Bool
  epoch : Nat
  seq : Nat
  lc : Nat
deriving DecidableEq, Repr

/-- What the world brings to a start (R433, R434): the time from the start's reference to the moment in ms; whether the vault starts under the test root, whether a vendor slot could not be derived, and whether
the root fuses could not be read; the banks of stores found damaged (store, bank 1); and the verdicts on the signature
of a staged header and on its payload's digest. -/
structure StartIn where
  ms : Nat
  debug : Bool
  vaultFail : Bool
  rootFail : Bool
  damaged : List (Nat × Bool)
  sigOk : Bool
  digestOk : Bool
deriving DecidableEq, Repr

/-- A leaf of the tower point map: the span's first address, the level at which the leaf stands, and the leaf entry (R173,
R174). -/
structure MapLeaf where
  addr : Nat
  level : Nat
  leaf : Nat
deriving DecidableEq, Repr

/-- A queue of R11: an engine's or the loop engine's to the batch controller, the ring's to translation, translation's to
the image builder, a transmitter's to the ring. -/
inductive CreditQ where
  | eng (e : Fin 16)
  | loop
  | rx
  | img
  | tx (x : Fin 16)
deriving DecidableEq, Repr

/-- A measured quantity that the world gives the module at a tick: an engine's load over the last 160 ticks (R100), the
walker's load and the fixed part and duration of the last capture (XLT_LOAD, XLT_CAP), corrected table errors (XLT_ECC),
an output's current and whether its terminal is driven from outside, a slice's load (R230, R234), a source's peak level,
bench cycles that movers took or waited for (R451), time the walker was busy in units of 2.5 ns, the physical address of
a table entry that memory can no longer correct (R176), what a port's own monitors count, and the flash's wear and spare blocks
in ‰ and the GiB written to it (R454). -/
inductive Meas where
  | engLoad (e : Fin 16) (v : Fin 1001)
  | xltLoad (v : Fin 1001)
  | xltCap (fixed last : Fin 65536)
  | xltEcc (n : Nat)
  | outCurrent (c : Fin 96) (ma : Fin 2048)
  | outExternal (c : Fin 96) (on : Bool)
  | sliceLoad (d : Fin 6) (ma : Fin 16384)
  | srcPeak (k : Fin 32) (v : Fin 256)
  | mover (e : Fin 16) (used waited : Nat)
  | walkBusy (n : Nat)
  | tableBad (pa : Nat)
  | portCount (p : NetPort) (k : Fin 3) (n : Nat)
  | flash (wear spare : Fin 1001) (gib : Nat)
deriving DecidableEq, Repr

/-- What the world brings to a tick boundary: the slots whose peel destination on another module has answered, for a seal
point that comes with the boundary (R371); the lease clock in µs (R355); the RTC edges since the last boundary (R342); the
slots whose capture ends after step 5 (R115); on a standby, the slots whose mirrored image has not come by step 5, whether
a mirrored batch is missing, and the process values that came with the images (R361, R362); the module inputs and field
supplies in mV and the power in units of 0.1 W (R425); and the measured quantities. -/
structure TickIn where
  answered : List (Fin 128)
  lc : Nat
  edges : Nat
  slow : List (Fin 128)
  noMirror : List (Fin 128)
  mirrorMissing : Bool
  pvs : List (Fin 256 × Word)
  vinA : Nat
  vinB : Nat
  fs1 : Nat
  fs2 : Nat
  fs3 : Nat
  power : Nat
  meas : List Meas
deriving DecidableEq, Repr

/-- The commands of the block: one constructor per row of the spec's table of operations and events. -/
inductive Instr where
  /-- TICK_BOUNDARY (R20). The commit grid reaches the boundary of tick n, and the module does the fixed per-tick work in order. -/
  | tickBoundary (t : TickIn)
  /-- SEAL_POINT (R155). 12 us before a boundary the batch controller validates every opened batch due at that tick. -/
  | sealPoint (answered : List (Fin 128))
  /-- REGISTER_WRITE (R1). A write to a register that has no row of its own acts by its access codes, staging RWS fields. -/
  | registerWrite (r : Req) (off : Fin 16777216) (size : Nat) (w : Word)
  /-- HALF_LOW_READ (R37). A read of an _L register snapshots its _H half for the same requester. -/
  | halfLowRead (r : Req) (off : Fin 16777216)
  /-- BATCH_TAG_WRITE (R40). A write of BATCH_TAG sets the requester's tag, refused when VALID names a batch not open by it. -/
  | batchTagWrite (r : Req) (page : Fin 256) (w : Word)
  /-- ERR_CLEAR (R48). Writing ERR_CODE.CLEAR clears CODE, REQ, TIN, COUNT and ERR_ADDR. -/
  | errClear (r : Req) (page : Fin 256)
  /-- PAGE_LOCK (R45). Writing PAGE_CTRL.LOCK locks the page's RWL fields and ENABLE until PO or CR. -/
  | pageLock (r : Req) (page : Fin 256)
  /-- CREDIT_RETURN (R10). A consumer returns a credit to a queue whose producer may be stalled. -/
  | creditReturn (q : CreditQ)
  /-- BATCH_ENTRY_ACCEPT (R157). The batch controller takes an entry from a producer queue and validates it for its fixed batch. -/
  | batchEntryAccept (q : Option (Fin 16))
  /-- FIRE_INPUT_ASSERT (R60). An enabled fire input's latched unforced value becomes 1 and asserts a fire source. -/
  | fireInputAssert (i : Fin 8)
  /-- MOD_FIRE_ENTER_CMD (R59). MOD_CMD FIRE_ENTER asks for entry into MOD_FIRE at the next boundary. -/
  | modFireEnterCmd (r : Req)
  /-- MOD_FIRE_RESET_CMD (R31). MOD_CMD FIRE_RESET asks to leave MOD_FIRE, checked at the next boundary. -/
  | modFireResetCmd (r : Req)
  /-- MOD_WARM_RESTART (R59). MOD_CMD WARM_RESTART makes a warm restart at the next boundary, refused in a fire. -/
  | modWarmRestart (r : Req)
  /-- MOD_COLD_RESTART (R59). MOD_CMD COLD_RESTART makes a cold restart at the next boundary, refused in a fire. -/
  | modColdRestart (r : Req)
  /-- MOD_LAMP_TEST (R59). MOD_CMD LAMP_TEST lights all seven lamps for 2.0 s. -/
  | modLampTest (r : Req)
  /-- LAMP_TEST_END (R59). The 2.0 s of a lamp test expire and the lamps return to their states. -/
  | lampTestEnd
  /-- ROUTER_SERVE (R54). The event router serves a source in its round and delivers the merged count to its destinations. -/
  | routerServe
  /-- EVENT_DELIVERY_LAND (R121). Router deliveries land on a task event input at a sample edge, setting PEND, COUNT, MASK and OVF. -/
  | eventDeliveryLand (e : Fin 16)
  /-- RECORDER_DELIVERY (R410). A delivery reaches the event recorder, which writes a new record or updates the newest one. -/
  | recorderDelivery
  /-- SCAN_START (R65). The engine starts or resumes the scan of the READY slot it chooses, resetting its registers at a new scan. -/
  | scanStart (e : Fin 16)
  /-- ILLEGAL_OPCODE (R75). An instruction with an unassigned opcode or non-zero required field faults with ILLEGAL. -/
  | illegalOpcode (e : Fin 16) (ecc : Ecc)
  /-- NOP (R76). Does nothing for one cycle. -/
  | nNop (e : Fin 16) (ecc : Ecc)
  /-- END (R93). Ends the scan, makes dirty lines current and pushes the Q image entry. -/
  | nEnd (e : Fin 16) (ecc : Ecc)
  /-- JMP (R76). Jumps to the target index. -/
  | nJmp (e : Fin 16) (ecc : Ecc)
  /-- JB1 (R76). Jumps when LB is 1. -/
  | nJb1 (e : Fin 16) (ecc : Ecc)
  /-- JB0 (R76). Jumps when LB is 0. -/
  | nJb0 (e : Fin 16) (ecc : Ecc)
  /-- JZ (R76). Jumps when ACC is 0. -/
  | nJz (e : Fin 16) (ecc : Ecc)
  /-- JNZ (R76). Jumps when ACC is not 0. -/
  | nJnz (e : Fin 16) (ecc : Ecc)
  /-- CALL (R78). Pushes the return index and jumps to the target. -/
  | nCall (e : Fin 16) (ecc : Ecc)
  /-- RET (R78). Pops the call stack into PC. -/
  | nRet (e : Fin 16) (ecc : Ecc)
  /-- DJNZ (R76). Decrements an index register and jumps while it is not 0. -/
  | nDjnz (e : Fin 16) (ecc : Ecc)
  /-- LEVT (R80). Loads the release's event word into ACC. -/
  | nLevt (e : Fin 16) (ecc : Ecc)
  /-- LDTK (R80). Loads release tick bits [31:0] into ACC. -/
  | nLdtk (e : Fin 16) (ecc : Ecc)
  /-- LDST (R64). Copies the status word into ACC. -/
  | nLdst (e : Fin 16) (ecc : Ecc)
  /-- CLST (R76). Clears the sticky flags VS, DZ and PF. -/
  | nClst (e : Fin 16) (ecc : Ecc)
  /-- LDB (R76). Loads an operand bit into LB. -/
  | nLdb (e : Fin 16) (ecc : Ecc)
  /-- LDBN (R76). Loads the negated operand bit into LB. -/
  | nLdbn (e : Fin 16) (ecc : Ecc)
  /-- ANDB (R76). ANDs an operand bit into LB. -/
  | nAndb (e : Fin 16) (ecc : Ecc)
  /-- ANDBN (R76). ANDs the negated operand bit into LB. -/
  | nAndbn (e : Fin 16) (ecc : Ecc)
  /-- ORB (R76). ORs an operand bit into LB. -/
  | nOrb (e : Fin 16) (ecc : Ecc)
  /-- ORBN (R76). ORs the negated operand bit into LB. -/
  | nOrbn (e : Fin 16) (ecc : Ecc)
  /-- XORB (R76). XORs an operand bit into LB. -/
  | nXorb (e : Fin 16) (ecc : Ecc)
  /-- PUSHB (R77). Pushes LB on the branch stack. -/
  | nPushb (e : Fin 16) (ecc : Ecc)
  /-- ANDS (R77). Pops s and leaves s AND LB in LB. -/
  | nAnds (e : Fin 16) (ecc : Ecc)
  /-- ANDNS (R77). Pops s and leaves s AND NOT LB in LB. -/
  | nAndns (e : Fin 16) (ecc : Ecc)
  /-- ORS (R77). Pops s and leaves s OR LB in LB. -/
  | nOrs (e : Fin 16) (ecc : Ecc)
  /-- XORS (R77). Pops s and leaves s XOR LB in LB. -/
  | nXors (e : Fin 16) (ecc : Ecc)
  /-- NOT (R76). Negates LB. -/
  | nNot (e : Fin 16) (ecc : Ecc)
  /-- SET1 (R76). Sets LB to 1. -/
  | nSet1 (e : Fin 16) (ecc : Ecc)
  /-- CLR1 (R76). Sets LB to 0. -/
  | nClr1 (e : Fin 16) (ecc : Ecc)
  /-- STB (R76). Stores LB to an operand bit, journalled or staged for P. -/
  | nStb (e : Fin 16) (ecc : Ecc)
  /-- SETB (R76). Sets an operand bit when LB is 1. -/
  | nSetb (e : Fin 16) (ecc : Ecc)
  /-- RSTB (R76). Clears an operand bit when LB is 1. -/
  | nRstb (e : Fin 16) (ecc : Ecc)
  /-- EDGR (R82). Detects a rising edge of LB against its E bit. -/
  | nEdgr (e : Fin 16) (ecc : Ecc)
  /-- EDGF (R82). Detects a falling edge of LB against its E bit. -/
  | nEdgf (e : Fin 16) (ecc : Ecc)
  /-- LDL (R76). Loads an I word's late flag into LB. -/
  | nLdl (e : Fin 16) (ecc : Ecc)
  /-- ANDL (R76). ANDs an I word's late flag into LB. -/
  | nAndl (e : Fin 16) (ecc : Ecc)
  /-- ORL (R76). ORs an I word's late flag into LB. -/
  | nOrl (e : Fin 16) (ecc : Ecc)
  /-- LDW (R76). Loads an operand word into ACC. -/
  | nLdw (e : Fin 16) (ecc : Ecc)
  /-- LDI (R76). Loads a sign-extended immediate into ACC. -/
  | nLdi (e : Fin 16) (ecc : Ecc)
  /-- LDIH (R76). Loads ACC bits [31:22] from an immediate. -/
  | nLdih (e : Fin 16) (ecc : Ecc)
  /-- STW (R76). Stores ACC to an operand word. -/
  | nStw (e : Fin 16) (ecc : Ecc)
  /-- ADD (R79). Adds an operand word to ACC. -/
  | nAdd (e : Fin 16) (ecc : Ecc)
  /-- SUB (R79). Subtracts an operand word from ACC. -/
  | nSub (e : Fin 16) (ecc : Ecc)
  /-- MUL (R79). Multiplies ACC by an operand word. -/
  | nMul (e : Fin 16) (ecc : Ecc)
  /-- DIV (R79). Divides ACC by an operand word, signed. -/
  | nDiv (e : Fin 16) (ecc : Ecc)
  /-- ADDI (R79). Adds an immediate to ACC. -/
  | nAddi (e : Fin 16) (ecc : Ecc)
  /-- ANDW (R76). ANDs an operand word into ACC. -/
  | nAndw (e : Fin 16) (ecc : Ecc)
  /-- ORW (R76). ORs an operand word into ACC. -/
  | nOrw (e : Fin 16) (ecc : Ecc)
  /-- XORW (R76). XORs an operand word into ACC. -/
  | nXorw (e : Fin 16) (ecc : Ecc)
  /-- SHL (R79). Shifts ACC left. -/
  | nShl (e : Fin 16) (ecc : Ecc)
  /-- SHR (R79). Shifts ACC right with zero fill. -/
  | nShr (e : Fin 16) (ecc : Ecc)
  /-- SAR (R79). Shifts ACC right with sign fill. -/
  | nSar (e : Fin 16) (ecc : Ecc)
  /-- NEG (R79). Negates ACC. -/
  | nNeg (e : Fin 16) (ecc : Ecc)
  /-- CMPEQ (R79). Sets LB to ACC equal to the operand word. -/
  | nCmpeq (e : Fin 16) (ecc : Ecc)
  /-- CMPNE (R79). Sets LB to ACC not equal to the operand word. -/
  | nCmpne (e : Fin 16) (ecc : Ecc)
  /-- CMPLT (R79). Sets LB to ACC less than the operand word, signed. -/
  | nCmplt (e : Fin 16) (ecc : Ecc)
  /-- CMPLE (R79). Sets LB to ACC at most the operand word, signed. -/
  | nCmple (e : Fin 16) (ecc : Ecc)
  /-- CMPGT (R79). Sets LB to ACC greater than the operand word, signed. -/
  | nCmpgt (e : Fin 16) (ecc : Ecc)
  /-- CMPGE (R79). Sets LB to ACC at least the operand word, signed. -/
  | nCmpge (e : Fin 16) (ecc : Ecc)
  /-- SHIFTA (R81). Shifts an array of X3 words up by one and writes ACC to its first word. -/
  | nShifta (e : Fin 16) (ecc : Ecc)
  /-- LDXI (R76). Loads an immediate into an index register. -/
  | nLdxi (e : Fin 16) (ecc : Ecc)
  /-- ADDXI (R76). Adds an immediate to an index register. -/
  | nAddxi (e : Fin 16) (ecc : Ecc)
  /-- TAX (R76). Copies ACC to an index register. -/
  | nTax (e : Fin 16) (ecc : Ecc)
  /-- TXA (R76). Copies an index register to ACC. -/
  | nTxa (e : Fin 16) (ecc : Ecc)
  /-- TON (R85). Runs an on-delay timer with preset from ACC. -/
  | nTon (e : Fin 16) (ecc : Ecc)
  /-- TOF (R85). Runs an off-delay timer with preset from ACC. -/
  | nTof (e : Fin 16) (ecc : Ecc)
  /-- TP (R85). Runs a pulse timer with preset from ACC. -/
  | nTp (e : Fin 16) (ecc : Ecc)
  /-- TONR (R85). Runs a retentive on-delay timer with preset from ACC. -/
  | nTonr (e : Fin 16) (ecc : Ecc)
  /-- TRST (R86). Resets a timer when LB is 1. -/
  | nTrst (e : Fin 16) (ecc : Ecc)
  /-- LDT (R86). Loads a timer's elapsed ticks into ACC. -/
  | nLdt (e : Fin 16) (ecc : Ecc)
  /-- CTU (R87). Counts a counter up on a rising input. -/
  | nCtu (e : Fin 16) (ecc : Ecc)
  /-- CTD (R87). Counts a counter down on a rising input. -/
  | nCtd (e : Fin 16) (ecc : Ecc)
  /-- CTS (R76). Sets a counter's count from ACC when LB is 1. -/
  | nCts (e : Fin 16) (ecc : Ecc)
  /-- CRST (R76). Clears a counter's count when LB is 1. -/
  | nCrst (e : Fin 16) (ecc : Ecc)
  /-- LDC (R76). Loads a counter's count into ACC. -/
  | nLdc (e : Fin 16) (ecc : Ecc)
  /-- WALK_COMPLETE (R177). A translation walk ends with a target or a walk fault. -/
  | walkComplete (e : Fin 16) (ecc : Option (Fin 4)) (cyc : Nat)
  /-- P_READ_TIMEOUT (R91). A direct read of another module's point gets no answer within TIMEOUT and reads 0 with PF set. -/
  | pReadTimeout (e : Fin 16)
  /-- CAPTURE_DONE (R115). A slow capture ends after step 5 and its slot becomes READY with CAP_SLOW set. -/
  | captureDone (e : Fin 16) (j : Fin 8)
  /-- TASK_WDOG_EXPIRE (R118). An overrunning scan reaches deadline plus WDOG and is aborted. -/
  | taskWdogExpire (e : Fin 16) (j : Fin 8)
  /-- KRET_SNAPSHOT (R133). At a 4,000-tick boundary with changed content, or after the supply warning, the module snapshots retained state. -/
  | kretSnapshot
  /-- ENG_SWAP_STAGE (R72). Staging ENG_CTRL.SWAP requests that every slot adopt the other bank at commit. -/
  | engSwapStage (r : Req) (e : Fin 16)
  /-- PROG_OPEN_SET (R99). Writing PROG_OPEN 1 opens the unadopted bank to program loads and window writes. -/
  | progOpenSet (r : Req) (e : Fin 16)
  /-- PROG_OPEN_CLEAR (R137). Writing PROG_OPEN 0 starts the bank CRC and its copy to the configuration store. -/
  | progOpenClear (r : Req) (e : Fin 16) (load : ProgLoad)
  /-- PROG_CRC_DONE (R137). The CRC of the unadopted bank is complete and written to ENG_PROG_CRC. -/
  | progCrcDone (e : Fin 16)
  /-- AREA_WIN_WRITE (R99). A write of AREA_WIN sets a window of an open, unadopted bank. -/
  | areaWinWrite (r : Req) (e : Fin 16) (w : Word)
  /-- ENG_FAULT_CLEAR (R95). Writing 1 to ENG_FAULT.VALID clears the fault record. -/
  | engFaultClear (r : Req) (e : Fin 16)
  /-- ENG_PEAK_CLR (R100). Writing ENG_LOAD.PEAK_CLR sets PEAK to the current load. -/
  | engPeakClr (r : Req) (e : Fin 16)
  /-- TSK_RESUME (R120). TSK_CMD.RESUME moves a STOPPED slot to IDLE at the next boundary. -/
  | tskResume (r : Req) (e : Fin 16)
  /-- TSK_EXEC_CLR (R144). TSK_CMD.EXEC_CLR sets TSK_EXEC_MAX to 0. -/
  | tskExecClr (r : Req) (e : Fin 16)
  /-- BAT_OPEN (R149). BAT_OPEN opens a batch with the lowest free ID and tags the requester. -/
  | batOpen (r : Req) (xmod : Bool)
  /-- COMMIT_AT (R156). BAT_CMD COMMIT_AT requests commit of the tagged batch at a named tick. -/
  | commitAt (r : Req)
  /-- COMMIT_NOW (R156). BAT_CMD COMMIT_NOW requests commit at the first tick whose seal point has not passed. -/
  | commitNow (r : Req)
  /-- BAT_ABORT (R151). BAT_CMD ABORT aborts the requester's tagged batch. -/
  | batAbort (r : Req)
  /-- ABORT_SEL (R150). BAT_CMD ABORT_SEL aborts the batch selected by BAT_SEL, whoever opened it. -/
  | abortSel (r : Req)
  /-- BATCH_OPEN_LIMIT (R151). A batch with no commit request after OPEN_LIMIT ticks aborts with 0x0E. -/
  | batchOpenLimit (id : Fin 64)
  /-- RING_STAGE (R160). A STAGE frame opens or adds to a participant's part of a cross-module batch, answered by STAGE_ANS. -/
  | ringStage (h : Hdr) (id : Nat) (tin : Nat) (addr : Nat) (tag : Nat) (val : Word) (sel : Nat)
  /-- RING_STAGE_ANS (R160). A STAGE_ANS frame returns a participant's staging result to the coordinator. -/
  | ringStageAns (h : Hdr) (tag : Nat) (code : Nat) (id : Nat)
  /-- COMMIT_PREPARE (R161). A PREPARE record makes a participant validate its part and answer PREPARED or REFUSED. -/
  | commitPrepare (h : Hdr) (id : Fin 256) (tick : Nat) (parts : List Nat)
  /-- COMMIT_PREPARED (R161). A PREPARED record from a participant is recorded toward commit at tick k. -/
  | commitPrepared (h : Hdr) (coord : Fin 256) (id : Fin 256)
  /-- COMMIT_REFUSED (R161). A REFUSED record makes the participant abort its part at once. -/
  | commitRefused (h : Hdr) (coord : Fin 256) (id : Fin 256) (code : Fin 256)
  /-- COMMIT_OUTCOME (R164). An OUTCOME record tells the coordinator whether a participant committed. -/
  | commitOutcome (h : Hdr) (id : Fin 256) (committed : Bool)
  /-- XMOD_OUTCOME_TIMEOUT (R165). A coordinator missing outcomes at k + 2 fires XMOD_SPLIT naming the missing modules. -/
  | xmodOutcomeTimeout
  /-- WAKE_SLOT (R170). A 100 us wake slot of start-up wakes up to four islands in fixed order. -/
  | wakeSlot
  /-- XLT_SWAP_STAGE (R188). Staging XLT_CTRL.SWAP exchanges ACTIVE and SHADOW at commit and sets HOLD_OLD. -/
  | xltSwapStage (r : Req)
  /-- SHADOW_OPEN_WRITE (R187). A write of SHADOW_OPEN opens or closes SHADOW to the rebuild. none: 0 is
  written; else 1, with the tower point map that the rebuild takes where it has changed, empty: the map as it stands. -/
  | shadowOpenWrite (r : Req) (open_ : Option (List MapLeaf))
  /-- XLT_TBL_WRITE (R176). A write of XLT_TBL_BASE or XLT_TBL_LIMIT sets table memory, checked against the device region. -/
  | xltTblWrite (r : Req) (limit : Bool) (w : Word)
  /-- XLT_ROOT_WRITE (R187). A write of a root pointer is accepted only while it is SHADOW and SHADOW_OPEN is 1. -/
  | xltRootWrite (r : Req) (root1 : Bool) (w : Word)
  /-- PW_START (R191). Writing PW_START starts a prewarm of the listed addresses in SHADOW's generation. -/
  | pwStart (r : Req)
  /-- PREWARM_DONE (R191). The last prewarm walk ends and PREWARM_DONE fires. -/
  | prewarmDone
  /-- HOLD_OLD_CLEAR (R189). At the first boundary with no old-generation user left, HOLD_OLD clears and the sweep starts. -/
  | holdOldClear
  /-- SWEEP_DONE (R189). The cache sweep after a swap ends and SWAP_DONE fires. -/
  | sweepDone
  /-- DUAL_WRITE_STAGE (R190). A write of XLT_DW_LEAF_L stages one dual write of a leaf in both roots. -/
  | dualWriteStage (r : Req) (low : Word)
  /-- DUAL_WRITE_SETTLE (R190). Both roots hold the dual-written leaf and its overlay entry is freed. -/
  | dualWriteSettle (page : Nat) (level : Fin 2)
  /-- XLT_WF_CLEAR (R182). Writing 1 to XLT_WF_INFO.VALID clears the walk-fault record. -/
  | xltWfClear (r : Req)
  /-- TIN_GRANT_WRITE (R185). A write of TIN_GRANT sets the operator and life-safety rights and fires GRANT_CHANGE. -/
  | tinGrantWrite (r : Req) (w : Word)
  /-- LOOP_FAULT_CLR (R214). LOOP_CMD.FAULT_CLR clears a loop's plausibility FAULT and CNT. -/
  | loopFaultClr (r : Req) (page : Fin 16)
  /-- DIO_INPUT_CHANGE (R226). A digital input terminal changes level and starts its filter time. -/
  | dioInputChange (c : Fin 96) (level : Bool)
  /-- DIO_FILTER_EXPIRE (R226). A terminal has held its new level for the filter time and the filtered value changes. -/
  | dioFilterExpire (c : Fin 96)
  /-- WIRE_BREAK_DETECT (R228). Input current stays below the wire-break threshold for 2 ms and a break is declared. -/
  | wireBreakDetect (c : Fin 96)
  /-- WIRE_BREAK_CLEAR (R228). Input current stays at or above the threshold for 2 ms and the break clears. -/
  | wireBreakClear (c : Fin 96)
  /-- OUTPUT_DRIVER_FAULT (R232). A conducting output detects a short or over-temperature, turns off and latches the fault. -/
  | outputDriverFault (c : Fin 96) (ot : Bool)
  /-- DIO_CLR_FAULT (R232). DIO_CH_CMD.CLR_FAULT clears a latched output fault at the next boundary. -/
  | dioClrFault (r : Req) (d : Fin 6)
  /-- OPEN_LOAD_DETECT (R233). An on output carries less than the open-load threshold for 10 ms and sets OL. -/
  | openLoadDetect (c : Fin 96)
  /-- SLICE_OVERLOAD (R234). Slice output current exceeds 8.0 A for 10 ms and a shedding episode begins. -/
  | sliceOverload (d : Fin 6)
  /-- OVERLOAD_SHED_NEXT (R234). Each 1 ms of an overload episode sheds the next output while the total exceeds 8.0 A. -/
  | overloadShedNext (d : Fin 6) (excess : Bool)
  /-- SLICE_WDOG_EXPIRE (R236). A slice watchdog expires and the slice enters SAFE with its outputs at their safe states. -/
  | sliceWdogExpire (sl : Fin 9)
  /-- SLICE_REARM_CMD (R237). SLICE_CMD.REARM allows a SAFE slice to re-arm at its next refresh. -/
  | sliceRearmCmd (r : Req) (sl : Fin 9)
  /-- SLICE_FAULT_CAUSE_SET (R238). A slice fault cause sets and the slice enters FAULT with safe outputs. -/
  | sliceFaultCauseSet (sl : Fin 9) (cause : SliceCause)
  /-- SLICE_FAULT_CAUSE_CLEAR (R238). A slice fault cause clears. -/
  | sliceFaultCauseClear (sl : Fin 9) (cause : SliceCause)
  /-- SLICE_FAULT_EXIT (R239). At the first boundary after the last cause clears, the slice leaves FAULT and enters SAFE. -/
  | sliceFaultExit (sl : Fin 9)
  /-- CAPTURE_EDGE (R242). A filtered edge on a capture channel is timestamped and counted for speed or position. -/
  | captureEdge (c : Fin 48) (cnt : Fin 25000) (a : Bool) (b : Bool)
  /-- STANDSTILL_TIMEOUT (R244). No counted edge for STILL ms and the channel declares standstill. -/
  | standstillTimeout (c : Fin 48)
  /-- CAP_FIFO_POP (R242). A read of CAP_FIFO_L pops the oldest timestamp entry. -/
  | capFifoPop (r : Req)
  /-- ANALOG_CONVERSION (R249). An analog input completes a conversion and checks its limits and range. -/
  | analogConversion (c : Fin 48) (v : Int) (wb : Bool) (sc : Bool)
  /-- MP_START (R260). Staging MP_CTRL.START begins a message from its first sample at block k + 3. -/
  | mpStart (r : Req) (msg : Fin 256) (rep : Fin 256) (gap : Fin 256)
  /-- MP_STOP (R260). Staging MP_CTRL.STOP ends playback at block k + 3. -/
  | mpStop (r : Req)
  /-- PLAYER_END (R260). A player's last repeat ends and the player becomes idle. -/
  | playerEnd (mp : Fin 4)
  /-- MSG_RELOAD (R259). MSG_CMD.RELOAD copies the message set into audio memory and checks each CRC. -/
  | msgReload (r : Req) (set : List MsgItem)
  /-- TB_OPEN_DETECT (R263). Phantom current stays below 0.5 mA for 1 s and the talkback input becomes OPEN. -/
  | tbOpenDetect (tb : Fin 4)
  /-- TB_OPEN_CLEAR (R263). Phantom current stays at or above 0.5 mA for 1 s and OPEN clears. -/
  | tbOpenClear (tb : Fin 4)
  /-- SUPERVISION_WINDOW (R265). Every 1,000 ticks each zone demodulates the pilot and classifies its line. -/
  | supervisionWindow (z : Fin 16) (vc : Int) (vs : Int) (ic : Int) (ishunt : Int)
  /-- EARTH_MEASURE (R266). Once per second a zone measures insulation resistance and declares or clears EARTH. -/
  | earthMeasure (z : Fin 16) (kohm : Nat)
  /-- ZONE_COMMISSION (R267). ZONE_CMD.COMMISSION averages the next 8 windows into ZREF and ZREF_PH. -/
  | zoneCommission (r : Req) (page : Fin 4)
  /-- AUDIO_AUTONOMOUS_ENTER (R270). After 8 ticks without heartbeat or tick announcement the audio island plays on alone. -/
  | audioAutonomousEnter
  /-- AUDIO_AUTONOMOUS_EXIT (R271). When heartbeats, ticks and the reloaded configuration return, the audio island leaves the autonomous state. -/
  | audioAutonomousExit
  /-- AUDIO_THERMAL_MUTE (R269). The audio island mutes its zones at 125 C board temperature and unmutes at 120 C. -/
  | audioThermalMute (temp : Int)
  /-- METROLOGY_INTERVAL (R279). Every 200 ms the island computes and accumulates energies and sends a data frame. The operands are
  the interval's 1,600 converter samples of each voltage input, in µV, and of each current input, in nV, and the frequency measured
  on each voltage input, in mHz. -/
  | metrologyInterval (v : List (List Int)) (i : List (List Int)) (f : List Nat)
  /-- MET_FRAME_RX (R283). The gateway receives an island data frame and keeps it for the next latch or discards it on CRC error. -/
  | metFrameRx (crcOk : Bool)
  /-- MET_LINK_LOST (R285). No correct frame for 1 s and every meter page shows QUAL 0. -/
  | metLinkLost
  /-- MET_RECORD_RX (R296). A log, tamper or parameter record from the island arrives at the gateway. -/
  | metRecordRx
  /-- ISLAND_SUPPLY_CHANGE (R275). The island's power source changes, switching to VBAT when neither supply remains. The
  module-side supply, a line-to-neutral pair of each voltage set that carries 85 V rms or more, and VBAT. -/
  | islandSupplyChange (mod : Bool) (mains0 : Bool) (mains1 : Bool) (vbat : Bool)
  /-- VOLTAGE_PHASE_ABSENT (R282). 40 ms without a zero crossing makes a voltage phase absent. -/
  | voltagePhaseAbsent (v : Fin 8)
  /-- VOLTAGE_ZERO_CROSSING (R282). A rising zero crossing of a voltage input is detected. -/
  | voltageZeroCrossing (v : Fin 8) (within : Bool)
  /-- BATTERY_MODE_ENTRY (R286). Running from VBAT with both voltage sets absent, or 100 ms after the switch, the island enters battery mode. -/
  | batteryModeEntry
  /-- BATTERY_BURST (R287). Every BURST seconds the island measures currents for 100 ms and adds ampere-hours: 800 converter samples
  of each current input, in nV. -/
  | batteryBurst (i : List (List Int))
  /-- BATTERY_BUDGET_END (R288). The episode reaches DAYS or VBAT falls below 2.7 V and bursts end. -/
  | batteryBudgetEnd (cell : Bool)
  /-- COVER_SWITCH_CHANGE (R289). The debounced cover switch opens or closes. -/
  | coverSwitchChange (open_ : Bool)
  /-- DEBUG_LINE_CHANGE (R295). The debug line to the island changes and DEBUG_ON or DEBUG_OFF is logged. -/
  | debugLineChange (on : Bool)
  /-- ISLAND_START (R291). The island starts, verifies its last-installed LRF bank and falls back if it fails. -/
  | islandStart (ok0 : Bool) (ok1 : Bool) (gap : Nat)
  /-- LOG_RESYNC (R293). MET command LOG_RESYNC makes the island resend its log, tamper buffer and parameters. -/
  | logResync (r : Req)
  /-- PARAM_WRITE (R292). MET command PARAM_WRITE changes a metrological parameter while the cover is open. -/
  | paramWrite (r : Req)
  /-- LRF_BEGIN (R291). MET command LRF_BEGIN starts an LRF load. -/
  | lrfBegin (r : Req)
  /-- LRF_DATA_WRITE (R291). A write of MET_LRF_DATA sends the next LRF image word. -/
  | lrfDataWrite (r : Req) (w : Word)
  /-- LRF_END (R291). MET command LRF_END ends the load and starts verification. -/
  | lrfEnd (r : Req)
  /-- LRF_ABORT (R291). MET command LRF_ABORT ends the load with LRF_REFUSED. -/
  | lrfAbort (r : Req)
  /-- LRF_WORD_TIMEOUT (R291). No LRF word arrives for 10 s and the load is refused. -/
  | lrfWordTimeout
  /-- LRF_VERIFY_DONE (R291). The island finishes verifying a loaded LRF and installs and restarts, or refuses it. -/
  | lrfVerifyDone (good : Bool) (version : Nat) (roll : Nat) (gap : Nat)
  /-- MET_BAT_CFG (R293). MET command BAT_CFG sets the battery-mode DAYS, PRES and BURST. -/
  | metBatCfg (r : Req)
  /-- MET_CMD_OUTCOME (R293). The island reports a command's outcome and BUSY clears. -/
  | metCmdOutcome
  /-- RING_TOKEN (R307). A TOKEN frame arrives, adds reservations and is forwarded, or ends a rotation at the master. -/
  | ringToken (h : Hdr) (tick : Nat) (resAll : Nat) (resLs : Nat) (nodes : Nat) (isoOver : Bool) (rank : Fin 8) (rot : Nat)
  /-- TOKEN_MISS (R307). No TOKEN by offset 50 us counts a miss and may start token sending by rank. -/
  | tokenMiss
  /-- RING_ASYNC_TOKEN (R310). ASYNC_TOKEN arrives and the node sends asynchronous frames under the timed-token rule. -/
  | ringAsyncToken (h : Hdr)
  /-- RING_IMAGE (R303). An IMAGE frame delivers point values or a placed slot's remote outputs. -/
  | ringImage (h : Hdr) (tick : Nat) (runs : List (Nat × List Nat))
  /-- RING_AUDIO (R264). An AUDIO frame delivers a block to a ring receiver. -/
  | ringAudio (h : Hdr) (x : AudioIn)
  /-- RING_FIRE (R316). A FIRE frame listing this module asserts the ring fire source. -/
  | ringFire (h : Hdr) (ids : List Nat)
  /-- FIRE_RX_TIMEOUT (R316). 8 cycles without a FIRE frame deassert the ring fire source. -/
  | fireRxTimeout
  /-- RING_REQUEST (R193). A REQUEST frame is rechecked at the holder and performed or refused, answered by RESPONSE. -/
  | ringRequest (h : Hdr) (op : Nat) (kind : Nat) (right : Nat) (tin : Nat) (addr : Nat) (tag : Nat) (val : Word)
  /-- RING_RESPONSE (R303). A RESPONSE frame answers a remote access, ending a direct-read stall. -/
  | ringResponse (h : Hdr) (tag : Nat) (code : Nat) (val : Word)
  /-- RING_ALARM (R55). An ALARM frame from a peer is passed to the supervisor. -/
  | ringAlarm (h : Hdr) (src : Nat) (n : Nat) (owner : Nat)
  /-- LINK_HELLO (R312). A HELLO LINK frame from a neighbour offers its wake time. -/
  | linkHello (h : Hdr) (tw : Nat) (lpi : Bool) (late : Bool)
  /-- LINK_BREAK (R313). A BREAK frame makes the node enter STEERING at the next cycle boundary. -/
  | linkBreak (h : Hdr)
  /-- LINK_HEAL (R314). A HEAL frame makes the node return to primary-only sending after 2 cycles. -/
  | linkHeal (h : Hdr)
  /-- PORT_LINK_CHANGE (R313). A port's link goes down or up. -/
  | portLinkChange (p : NetPort) (up : Bool) (slow : Bool) (cage : Bool) (cfault : Bool)
  /-- PORT_LINK_FRAME_TIMEOUT (R313). 4 cycles without a LINK frame declare a port broken. -/
  | portLinkFrameTimeout (p : Fin 2)
  /-- RING_HEAL_READY (R314). Both ports up with LINK frames for 16 cycles after a break, and the node sends HEAL. -/
  | ringHealReady
  /-- RATE_ALTERNATE (R315). A RATE 2 port switches between 25.78125 and 10.3125 GBd every 50 ms until it links. -/
  | rateAlternate (p : Fin 2)
  /-- PREEMPT_VERIFY_FAIL (R311). Clause 99 preemption verification with a neighbour fails. -/
  | preemptVerifyFail (p : Fin 2)
  /-- DUP_ID_SEEN (R317). A LINK or TOKEN from a node with this module's ID and position silences the node. -/
  | dupIdSeen (h : Hdr)
  /-- RX_BUFFER_RELEASE (R318). A frame held in the receive buffer enters the ring-receive queue when a credit frees. -/
  | rxBufferRelease
  /-- SEG_ANSWER (R326). A node's ANSWER frame arrives and is kept for the next latch, or discarded as late. -/
  | segAnswer (sg : Fin 8) (j : Fin 32) (us : Nat) (status : Nat) (type : Nat) (words : List Word)
  /-- PLCA_FOREIGN_BEACON (R331). A foreign beacon or collision is seen on a segment. -/
  | plcaForeignBeacon (sg : Fin 8)
  /-- SVC_WAKE_PATTERN (R333). A wake pattern in MODE 2 switches the service port to MODE 1 behaviour. -/
  | svcWakePattern (key : Word)
  /-- PTP_SYNC_RX (R336). A Sync is forwarded with its correction and, when usable, disciplines the clock and lock state. -/
  | ptpSyncRx (p : Fin 2) (domain : Nat) (two : Bool) (gm : Nat) (seq : Nat) (off : Int) (freq : Int) (us : Nat)
  /-- PTP_ANNOUNCE_RX (R337). An Announce is forwarded and feeds best master clock selection. -/
  | ptpAnnounceRx (p : Fin 2) (domain : Nat) (a : Announce)
  /-- PTP_PDELAY (R336). Each second a port exchanges Pdelay with its neighbour and updates LINK_DELAY. -/
  | ptpPdelay (p : Fin 2) (ns : Nat)
  /-- PTP_SYNC_TIMEOUT (R338). 1 s without usable Sync, or an Announce timeout, moves a LOCKED module to HOLDOVER. -/
  | ptpSyncTimeout
  /-- PTP_ADJ_WRITE (R341). A write of PTP_ADJ makes the grandmaster slew tower time. -/
  | ptpAdjWrite (r : Req) (w : Word)
  /-- PTP_NS_READ (R342). A read of PTP_NS snapshots the seconds and fraction for the requester. -/
  | ptpNsRead (r : Req) (sub : Nat) (frac : Nat)
  /-- RTC_SEC_WRITE (R344). A write of RTC_SEC_L stages a seconds write carrying both halves. -/
  | rtcSecWrite (r : Req) (w : Word)
  /-- RTC_SEC_LANDING (R344). At the second RTC edge after commit the seconds write lands, clears OSF and fires SEC_WRITE. -/
  | rtcSecLanding
  /-- RTC_AUTOSET (R345). Every hour, or after lock with OSF set, the module stages a seconds write from PTP time. -/
  | rtcAutoset
  /-- RTC_ALARM (R347). An RTC alarm's match begins and the alarm fires. -/
  | rtcAlarm (k : Fin 2)
  /-- RTC_OSC_STOP (R346). The crystal misses 4 tick periods, or both rails fall below 1.8 V, and OSF sets. -/
  | rtcOscStop
  /-- RTC_SUPPLY_SWITCH (R348). The RTC domain switches between the standby rail and VBAT. -/
  | rtcSupplySwitch (vbat : Bool)
  /-- VBAT_LOW (R348). VBAT falls below 2.8 V. -/
  | vbatLow (mv : Nat)
  /-- LEASE_RENEW_SEND (R354). Every 1.0 ms of the lease clock the active partner sends RENEW if its heartbeats are current. -/
  | leaseRenewSend (lc : Nat) (hb : Bool) (tk : Bool)
  /-- LEASE_RENEW (R356). A RENEW arrives at the partner or witness, which acknowledges it. -/
  | leaseRenew (h : Hdr) (l : LeaseIn)
  /-- LEASE_ACK (R354). An ACK naming a renewal's sequence number acknowledges it. -/
  | leaseAck (h : Hdr) (l : LeaseIn)
  /-- LEASE_FENCE (R355). 4.0 ms after the last acknowledged renewal the pair block fences the partner. -/
  | leaseFence (lc : Nat)
  /-- LEASE_TAKE_REQ_TIMER (R357). From 5.0 ms after the last renewal seen, every 1.0 ms the standby sends TAKE_REQ. -/
  | leaseTakeReqTimer (lc : Nat)
  /-- LEASE_TAKE_REQ (R356). A TAKE_REQ at the witness is answered with GRANT if the lease lapsed, else REFUSE. -/
  | leaseTakeReq (h : Hdr) (l : LeaseIn)
  /-- LEASE_GRANT (R357). A GRANT from the witness reaches the standby. -/
  | leaseGrant (h : Hdr) (l : LeaseIn)
  /-- LEASE_REFUSE (R356). A REFUSE from the witness reaches the requester. -/
  | leaseRefuse (h : Hdr) (l : LeaseIn)
  /-- PAIR_TAKEOVER (R357). At the first boundary with lapse and grant, the standby increments the epoch and takes over. -/
  | pairTakeover (lc : Nat)
  /-- LEASE_TAKEOVER (R359). A TAKEOVER frame with a newer epoch makes a peer stage its domain-entry update. -/
  | leaseTakeover (h : Hdr) (l : LeaseIn)
  /-- LEASE_CLAIM (R366). A CLAIM at a joint start is granted or not by the witness or partner. -/
  | leaseClaim (h : Hdr) (l : LeaseIn)
  /-- JOINT_START_TIMEOUT (R366). No RENEW within 20 ms of start step 6 and the partner sends CLAIM. -/
  | jointStartTimeout (lc : Nat)
  /-- LEASE_PREPARE (R364). A swap PREPARE makes the standby validate the swap. -/
  | leasePrepare (h : Hdr) (l : LeaseIn)
  /-- LEASE_PREPARED (R364). A swap PREPARED from the other partner is recorded toward the swap commit. -/
  | leasePrepared (h : Hdr) (l : LeaseIn)
  /-- LEASE_PLACE (R371). A PLACE frame announces a placement change for commit at its hand-over tick. -/
  | leasePlace (h : Hdr) (epoch : Nat) (tick : Nat) (als : Fin 4096) (srcMod : Fin 256) (dstMod : Fin 256) (srcSlot : Fin 128) (dstSlot : Fin 128)
  /-- PAIR_SWAP_STAGE (R364). Staging PAIR_CTRL.SWAP requests a two-phase swap of the partners' roles. -/
  | pairSwapStage (r : Req)
  /-- SWAP_FENCE (R364). The old active partner fences at s + 8 or after 2.0 ms of its lease clock. -/
  | swapFence (lc : Nat)
  /-- PAIR_DRILL_STAGE (R367). Staging PAIR_CTRL.DRILL performs a swap with an output check. -/
  | pairDrillStage (r : Req) (back : Bool) (hold : Fin 65536)
  /-- DRILL_CHECK (R367). At s + 8 + HOLD the new active partner checks PHYS of every steadily-on output. -/
  | drillCheck
  /-- DRILL_DUE (R367). TEST_AGE reaches DRILL_DAYS and DRILL_DUE fires. -/
  | drillDue
  /-- FORCE_TAKE (R366). PAIR_CMD.FORCE_TAKE makes the partner active at the next boundary without lapse or grant. -/
  | forceTake (r : Req)
  /-- PAIR_RESYNC_CMD (R363). PAIR_CMD.RESYNC starts a resynchronisation of the standby. -/
  | pairResyncCmd (r : Req)
  /-- RESYNC_DONE (R363). The last slot is adopted and SYNCED sets. -/
  | resyncDone
  /-- XFER_IMAGE (R361). A STATE_XFER IMAGE delivers a mirrored capture to the standby. -/
  | xferImage (h : Hdr) (e : Fin 16) (j : Fin 8) (tick : Nat) (crcOk : Bool) (words : List Word) (late : List Nat) (fire : Bool) (ev : Nat)
  /-- XFER_ENTRIES (R361). A STATE_XFER ENTRIES delivers mirrored batch entries to the standby. -/
  | xferEntries (h : Hdr) (slot : Fin 256) (tick : Nat) (crcOk : Bool) (items : List (Nat × Nat × Word))
  /-- XFER_DIGEST (R362). A STATE_XFER DIGEST is compared with the standby's own CRC and may mark DESYNC. -/
  | xferDigest (h : Hdr) (slot : Fin 256) (tick : Nat) (crc : Word)
  /-- XFER_LINES (R371). STATE_XFER LINES deliver retained-state lines of a snapshot or checkpoint. -/
  | xferLines (h : Hdr) (slot : Fin 256) (tick : Nat) (crcOk : Bool) (lines : List (Nat × List Word))
  /-- XFER_END (R368). A STATE_XFER END closes a transfer of module or slot state. -/
  | xferEnd (h : Hdr) (slot : Fin 256) (tick : Nat) (us : Nat)
  /-- PARTNER_TIMEOUT (R374). No renewal or ACK from the partner for 6.0 ms clears PARTNER. -/
  | partnerTimeout (lc : Nat)
  /-- WITNESS_TIMEOUT (R374). No answer from the witness for 6.0 ms clears WITNESS_OK. -/
  | witnessTimeout (lc : Nat)
  /-- PEEL_GO (R371). Staging PEEL_DST.GO requests a peel of the selected slot. -/
  | peelGo (r : Req) (dm : Fin 256) (de : Fin 16) (dj : Fin 8)
  /-- PEEL_SNAPSHOT_DONE (R371). The destination holds the whole snapshot of the slot's retained state. -/
  | peelSnapshotDone (e : Fin 16) (j : Fin 8) (us : Nat)
  /-- PEEL_TAKE (R373). PEEL_CMD.TAKE makes the survival destination take over the slot from its checkpoint. -/
  | peelTake (r : Req)
  /-- SURVIVAL_AUTO (R373). With AUTO set, 40 ticks of silence from the source start a survival takeover. -/
  | survivalAuto (e : Fin 16) (j : Fin 8)
  /-- CKPT_MISSED (R375). A checkpoint does not arrive within its slot's period. -/
  | ckptMissed (e : Fin 16) (j : Fin 8)
  /-- KEY_LOAD (R397). KEY_CMD LOAD fills a user slot from KEY_DATA with KEY_NEWATTR. -/
  | keyLoad (r : Req) (slot : Fin 64)
  /-- KEY_GENERATE (R397). KEY_CMD GENERATE creates a key in a user slot. -/
  | keyGenerate (r : Req) (slot : Fin 64)
  /-- KEY_DERIVE (R385). KEY_CMD DERIVE derives a key into a user slot with the SP 800-108 KDF. -/
  | keyDerive (r : Req) (slot : Fin 64) (aux : Fin 64)
  /-- KEY_WRAP_EXPORT (R381). KEY_CMD WRAP_EXPORT wraps an exportable key into KEY_OUT. -/
  | keyWrapExport (r : Req) (slot : Fin 64) (aux : Fin 64)
  /-- KEY_UNWRAP (R381). KEY_CMD UNWRAP loads a wrapped blob into a user slot. -/
  | keyUnwrap (r : Req) (slot : Fin 64) (aux : Fin 64)
  /-- KEY_ERASE (R397). KEY_CMD ERASE erases a user slot and closes sessions that use it. -/
  | keyErase (r : Req) (slot : Fin 64)
  /-- KEY_PUBKEY (R381). KEY_CMD PUBKEY writes a slot's public key to KEY_OUT. -/
  | keyPubkey (r : Req) (slot : Fin 64)
  /-- SIGN_METER (R393). KEY_CMD SIGN_METER signs a latched meter page with slot 2. -/
  | signMeter (r : Req) (m : Fin 64)
  /-- DEBUG_ARM (R386). KEY_CMD DEBUG_ARM checks a debug authorisation and arms debug for the next start. -/
  | debugArm (r : Req)
  /-- DEBUG_DISARM (R386). KEY_CMD DEBUG_DISARM clears DBG_ARMED. -/
  | debugDisarm (r : Req)
  /-- KEY_LIFECYCLE (R377). KEY_CMD LIFECYCLE advances the fused lifecycle state on a signed authorisation. -/
  | keyLifecycle (r : Req)
  /-- KEY_DATA_WRITE (R397). A write of KEY_DATA appends an input word, up to 128. -/
  | keyDataWrite (r : Req) (w : Word)
  /-- KEY_OUT_POP (R397). A read of KEY_OUT pops the next output word. -/
  | keyOutPop (r : Req)
  /-- KEY_OP_DONE (R396). A vault operation completes and its outcome is reported. -/
  | keyOpDone (ok : Bool) (attr : Word)
  /-- KEY_INTEG_SWEEP (R382). Every 600 s the vault checks every slot's tag. -/
  | keyIntegSweep (bad : List (Fin 64))
  /-- SES_HELLO (R388). A HELLO opens a handshake entry and the module answers HELLO_ACK or REFUSE. -/
  | sesHello (src : SesSrc) (h : HelloIn)
  /-- SES_FINISH (R391). A FINISH authenticates the client and the module sends READY or REFUSE. -/
  | sesFinish (src : SesSrc) (n : Fin 64) (f : FinishIn)
  /-- SES_DATA (R393). A protected DATA frame's operations are performed in order and answered. -/
  | sesData (src : SesSrc) (n : Fin 64) (seq : Nat) (tagOk : Bool) (ops : List SesOp)
  /-- SES_CLOSE (R395). A CLOSE from the client ends the session. -/
  | sesClose (src : SesSrc) (n : Fin 64) (seq : Nat) (tagOk : Bool)
  /-- HANDSHAKE_TIMEOUT (R388). A handshake not at READY within 2.0 s of HELLO is dropped. -/
  | handshakeTimeout (n : Fin 64)
  /-- SESSION_IDLE_EXPIRE (R395). A session without an accepted frame for IDLE ends. -/
  | sessionIdleExpire (n : Fin 64)
  /-- SESSION_LIFE_EXPIRE (R395). A session reaches LIFE since READY and ends. -/
  | sessionLifeExpire (n : Fin 64)
  /-- LOCKOUT_EXPIRE (R394). A source's 60 s lockout ends. -/
  | lockoutExpire
  /-- SES_CLOSE_CMD (R395). SES_CMD.CLOSE closes the selected session. -/
  | sesCloseCmd (r : Req)
  /-- STORE_WRITE_DONE (R403). A store bank write completes its header, or fails read-back and is retried once. -/
  | storeWriteDone (id : Fin 256) (ok : Bool)
  /-- RECORDER_SPILL (R411). With 512 or more unspilled records, the recorder spills the oldest block to flash. -/
  | recorderSpill (ok : Bool)
  /-- REC_SEL_WRITE (R412). A write of REC_SEL selects a record, fetching a spilled copy or setting GONE. -/
  | recSelWrite (r : Req) (w : Word)
  /-- REC_FETCH_DONE (R412). A spilled record has been fetched and BUSY clears. -/
  | recFetchDone (r : Req)
  /-- UPD_BEGIN (R415). UPD_CMD BEGIN starts loading an image into a staging slot. -/
  | updBegin (r : Req) (k : Fin 2) (partner : Bool)
  /-- UPD_DATA_WRITE (R415). A write of UPD_DATA adds the next image word, starting the proof at word 128. -/
  | updDataWrite (r : Req) (w : Word)
  /-- UPD_PROOF_DONE (R414). The header proof ends and the slot becomes LOADING or BAD. -/
  | updProofDone (k : Fin 2) (sigOk : Bool)
  /-- UPD_END (R415). UPD_CMD END completes a load and makes the slot STAGED or BAD. -/
  | updEnd (r : Req) (k : Fin 2) (digestOk : Bool)
  /-- UPD_ABORT (R415). UPD_CMD ABORT returns a loading slot to EMPTY. -/
  | updAbort (r : Req) (k : Fin 2)
  /-- UPD_ACTIVATE_STAGE (R416). Staging UPD_ACT.GO activates a staged image by warm restart at commit. -/
  | updActivateStage (r : Req) (k : Fin 2) (partner : Bool)
  /-- UPD_CONFIRM (R417). UPD_CMD CONFIRM ends the trial and may raise the rollback minimum. -/
  | updConfirm (r : Req) (partner : Bool)
  /-- UPD_REVERT (R417). UPD_CMD REVERT restarts into PREVIOUS at the next boundary. -/
  | updRevert (r : Req) (partner : Bool)
  /-- TRIAL_WATCHDOG (R417). No release within 2.5 s of a trial image's start, and the starter restarts into PREVIOUS. -/
  | trialWatchdog
  /-- SUPPLY_POWER_UP (R433). An input exceeds 19.0 V and a start from OFF or DARK runs. -/
  | supplyPowerUp
  /-- INPUT_LOST (R425). With DUAL set, an input stays below 18.0 V for 1 ms while the other is above it. -/
  | inputLost (b : Bool)
  /-- INPUT_BACK (R425). A lost module input returns. -/
  | inputBack (b : Bool)
  /-- SUPPLY_WARN (R426). Both inputs stay below 18.0 V for 1 ms and the supply warning sets. -/
  | supplyWarn
  /-- SUPPLY_OK (R426). An input stays above 19.0 V for 10 ms within the hold-up time and the warning clears. -/
  | supplyOk (b : Bool)
  /-- HOLDUP_END (R426). The hold-up time ends and the module enters OFF. -/
  | holdupEnd
  /-- STANDBY_RAIL_LOSS (R427). The standby rail falls below the switch-over limit and the module enters DARK. -/
  | standbyRailLoss
  /-- HALT_ENTER (R438). The stage 4 stop sequence ends and the module enters HALT. -/
  | haltEnter
  /-- BOARD_TEMP_SAMPLE (R435). Every 250 ms the board sensors are sampled and board temperature updated. -/
  | boardTempSample (t0 : Int) (t1 : Int) (t2 : Int) (t3 : Int)
  /-- HALT_EXIT (R438). In HALT board temperature falls below 80 C and the module starts warm. -/
  | haltExit
  /-- OVER_POWER (R447). Module power exceeds 78.0 W for 1 s. -/
  | overPower (pw : Nat)
  /-- PWR_PEAK_CLR (R432). Writing PWR PEAK_CLR sets PEAK to the current power. -/
  | pwrPeakClr (r : Req)
  /-- PERF_RUN (R448). Staging PERF_CTRL.RUN starts or stops counting at commit. -/
  | perfRun (r : Req) (run : Bool)
  /-- PERF_CLEAR (R448). Staging PERF_CTRL.CLEAR sets every counter to 0 at commit. -/
  | perfClear (r : Req)
  /-- PERF_SNAP (R448). Staging PERF_CTRL.SNAP copies every counter to its snapshot at commit. -/
  | perfSnap (r : Req)
  /-- SMP_POP (R453). A read of SMP_W0 pops the oldest sample record. -/
  | smpPop (r : Req)
  /-- LIFE_SAVE (R455). LIFE_CMD.SAVE writes the life histograms to the LIFE store. -/
  | lifeSave (r : Req)
  /-- LIFE_HOURLY_WRITE (R455). Each whole hour of RUN or HALT the histograms are written to the LIFE store. -/
  | lifeHourlyWrite
  /-- LIFE_MINUTE (R454). Each minute the temperature and ladder histograms are counted. -/
  | lifeMinute
  /-- SUPPLY_DIP_END (R454). A supply dip ends and is counted by depth and duration. -/
  | supplyDipEnd (low : Nat) (us : Nat)
  /-- ISLAND_CLOCK_LOSS (R9). An island such as the supervisor or time island faults or loses its clock and stops, while the other islands run on. -/
  | islandClockLoss (k : Fin 36)
  /-- OPEN_LOAD_CLEAR (R233). An output's current stays above the open-load threshold for 10 ms and OL clears. -/
  | openLoadClear (c : Fin 96)
  /-- SUPPLY_DIP_BEGIN (R454). The higher module input falls below 19.2 V and a supply dip begins. -/
  | supplyDipBegin
  /-- COUNTER_OVERFLOW (R450). A performance counter passes 0xFFFF_FFFF_FFFF, wraps to 0, sets its OVF bit and fires OVERFLOW. -/
  | counterOverflow (c : Fin 64)
  /-- RESTART_READY (R433). A start or restart completes its firmware and configuration steps, so that the first release can take place at the next boundary. -/
  | restartReady (x : StartIn)
  /-- ANNOUNCE_RECEIPT_TIMEOUT (R337). A grandmaster-capable module hears no better Announce within the receipt timeout and becomes GRANDMASTER. -/
  | announceReceiptTimeout
  /-- CLAIM_WINDOW_END (R366). The 2 ms window after the first CLAIM closes and the witness or partner grants the winning claim. -/
  | claimWindowEnd (u : Fin 256) (lc : Nat)
  /-- UNKNOWN_FRAME_RX (R302). A frame that no consumer accepts arrives and is counted in RX_UNKNOWN or an error counter, and is forwarded or discarded. -/
  | unknownFrameRx (p : NetPort) (bad : BadFrame)
deriving DecidableEq, Repr

end Sys2Proof
end

