-- ==== Sys2Proof/Decode.lean ====
section
/-!
DEFINITION. The word decoder over the rows of spec/opcode_table.json that give bits. No row does: every row's
`fields` is empty and none has a pattern of bits, so no word spells a command (assumption 2). The encoding of the
Naltin instruction words, which the engines fetch from their own program banks, is in Machine/NaltinCode.lean.
-/
namespace Sys2Proof

/-- The command that a word of `nbits` bits spells by the table's bits: none, since no row gives bits. -/
def decodeTableWord (_nbits _w : Nat) : Option Instr := none

end Sys2Proof
end

