-- ==== Sys2Proof/Machine/Events.lean ====
section
/-!
DEFINITION. The event sources (R50): their numbers, named as the event tables of the spec name them, which of them
are fixed (R52), and the page and bit a source number stands for.
-/
namespace Sys2Proof.Machine

/-- MOD_FIRE is entered. -/
def EV.MOD.FIRE_ENTER : Nat := 0
/-- MOD_FIRE is left. -/
def EV.MOD.FIRE_EXIT : Nat := 1
/-- The first force becomes active. -/
def EV.MOD.FORCE_ON : Nat := 2
/-- The last force is removed. -/
def EV.MOD.FORCE_OFF : Nat := 3
/-- GRID_FREE becomes 1. -/
def EV.MOD.GRID_FREE_SET : Nat := 4
/-- GRID_FREE becomes 0. -/
def EV.MOD.GRID_FREE_CLR : Nat := 5
/-- The first release after any start. -/
def EV.MOD.RESTART_DONE : Nat := 6
/-- The FAULT lamp lights. -/
def EV.MOD.FAULT_ON : Nat := 7
/-- The FAULT lamp goes dark. -/
def EV.MOD.FAULT_OFF : Nat := 8
/-- A MOD_CMD write is refused. -/
def EV.MOD.CMD_REFUSED : Nat := 9
/-- Any page's PAGE_CTRL.LOCK becomes 1. -/
def EV.MOD.PAGE_LOCKED : Nat := 10
/-- A FIRE_RESET is refused. -/
def EV.MOD.FIRE_RESET_REFUSED : Nat := 11
/-- A merge counter saturates (R54). -/
def EV.EVR.MERGE_OVF : Nat := 12
/-- A class N ring alarm frame is discarded (R56). -/
def EV.EVR.RING_DROP : Nat := 13
/-- A commit changes a route (R62). -/
def EV.EVR.ROUTE_COMMIT : Nat := 14
/-- The supply warning is set (R426). -/
def EV.PWR.SUPPLY_WARN : Nat := 16
/-- The warning clears without a restart. -/
def EV.PWR.SUPPLY_OK : Nat := 17
/-- Input A is lost (R425). -/
def EV.PWR.INPUT_A_LOST : Nat := 18
/-- Input B is lost. -/
def EV.PWR.INPUT_B_LOST : Nat := 19
/-- A lost input returns. -/
def EV.PWR.INPUT_BACK : Nat := 20
/-- A field supply group falls below 16.0 V. -/
def EV.PWR.FS_LOW : Nat := 21
/-- The ladder rises a stage (R437). -/
def EV.PWR.STAGE_UP : Nat := 22
/-- The ladder falls a stage. -/
def EV.PWR.STAGE_DOWN : Nat := 23
/-- A board sensor becomes invalid (R435). -/
def EV.PWR.SENSOR_FAIL : Nat := 24
/-- POWER exceeds 780 for 1 s. -/
def EV.PWR.OVER_POWER : Nat := 25
/-- A start exceeds its limit (R434). -/
def EV.PWR.START_SLOW : Nat := 26
/-- The module entered HALT (R438). -/
def EV.PWR.THERMAL_STOP : Nat := 27
/-- A step's load exceeds its group's budget (R168). -/
def EV.RISE.BUDGET_EXCEEDED : Nat := 32
/-- A commit's switch-ons need more than one step. -/
def EV.RISE.SPREAD : Nat := 33
/-- An output with INRUSH above its budget becomes pending. -/
def EV.RISE.OVERSIZE : Nat := 34
/-- The last wake slot of a start has passed (R170). -/
def EV.RISE.WAKE_DONE : Nat := 35
/-- An opened or single-entry batch fails validation. -/
def EV.BAT.COMMIT_FAIL : Nat := 40
/-- A batch becomes DOOMED. -/
def EV.BAT.DOOMED : Nat := 41
/-- A batch aborts under the open limit. -/
def EV.BAT.TIMEOUT : Nat := 42
/-- A commit request misses its seal point. -/
def EV.BAT.LATE : Nat := 43
/-- FREE_ENTRIES passes from RESERVE + 256 or more to below it; it fires again at each such passage after a recovery. -/
def EV.BAT.POOL_LOW : Nat := 44
/-- FREE_IDS reaches 0. -/
def EV.BAT.IDS_OUT : Nat := 45
/-- A cross-module batch aborts. -/
def EV.BAT.XMOD_ABORT : Nat := 46
/-- Outcomes of a cross-module batch differ or are missing. -/
def EV.BAT.XMOD_SPLIT : Nat := 47
/-- A fixed-batch collision (R154). -/
def EV.BAT.COLLIDE : Nat := 48
/-- LOOP_Q_CREDIT.EMPTY becomes 1. -/
def EV.BAT.LOOP_Q_EMPTY : Nat := 49
/-- A peer's STAGE or PREPARE is refused with ERR_CODE 0x07. -/
def EV.BAT.REMOTE_STALE : Nat := 50
/-- Slot j is source TASK_ALERT + j (R145). -/
def EV.TSK.TASK_ALERT (i : Nat) : Nat := 64 + 16 * i
/-- A program fault ends a scan (R95). -/
def EV.ENG.PROG_FAULT (i : Nat) : Nat := 72 + 16 * i
/-- A scan makes its first direct read (R89). -/
def EV.ENG.PDIRECT (i : Nat) : Nat := 73 + 16 * i
/-- ENG_BQ_CREDIT.EMPTY becomes 1. -/
def EV.ENG.CREDIT_EMPTY (i : Nat) : Nat := 74 + 16 * i
/-- The last slot adopts the new bank. -/
def EV.ENG.SWAP_DONE (i : Nat) : Nat := 75 + 16 * i
/-- A bench error is corrected (R66). -/
def EV.ENG.ECC_CORR (i : Nat) : Nat := 76 + 16 * i
/-- An uncorrectable bench error is found (R66). -/
def EV.ENG.ECC_UNCORR (i : Nat) : Nat := 77 + 16 * i
/-- ENG_LOAD.LOAD rises above 900 ‰, the limit of R16. -/
def EV.ENG.LOAD_HIGH (i : Nat) : Nat := 78 + 16 * i
/-- ENG_PROG_CRC holds a new value. -/
def EV.ENG.CRC_DONE (i : Nat) : Nat := 79 + 16 * i
/-- Loop n is source LOOP_ALERT + n (R222). -/
def EV.LOOP.LOOP_ALERT : Nat := 320
/-- Channel k: CHANNEL + k (R229). -/
def EV.DIO.CHANNEL (i : Nat) : Nat := 576 + 24 * i
/-- The watchdog expires (R236). -/
def EV.DIO.WDOG_EXPIRED (i : Nat) : Nat := 592 + 24 * i
/-- The slice enters FAULT. -/
def EV.DIO.FAULT_ON (i : Nat) : Nat := 593 + 24 * i
/-- The slice leaves FAULT. -/
def EV.DIO.FAULT_OFF (i : Nat) : Nat := 594 + 24 * i
/-- The slice re-arms (R237). -/
def EV.DIO.REARMED (i : Nat) : Nat := 595 + 24 * i
/-- A shedding episode begins (R234). -/
def EV.DIO.OVERLOAD (i : Nat) : Nat := 596 + 24 * i
/-- FS_LOW sets. -/
def EV.DIO.FS_LOW (i : Nat) : Nat := 597 + 24 * i
/-- A capture channel of the slice sets STANDSTILL, REVERSED, QERR or OVF. -/
def EV.DIO.CAPTURE (i : Nat) : Nat := 598 + 24 * i
/-- Slice d: CAPTURE + d (R253). -/
def EV.CAP.CAPTURE : Nat := 720
/-- A FIFO reaches 32 entries (R253). -/
def EV.CAP.FIFO_HALF : Nat := 726
/-- Channel k: CHANNEL + k (R249). -/
def EV.AIO.CHANNEL (i : Nat) : Nat := 736 + 20 * i
/-- As on DIO (R252). -/
def EV.AIO.WDOG_EXPIRED (i : Nat) : Nat := 752 + 20 * i
/-- As on DIO. -/
def EV.AIO.FAULT_ON (i : Nat) : Nat := 753 + 20 * i
/-- As on DIO. -/
def EV.AIO.FAULT_OFF (i : Nat) : Nat := 754 + 20 * i
/-- As on DIO. -/
def EV.AIO.REARMED (i : Nat) : Nat := 755 + 20 * i
/-- The autonomous state is entered; delivered at exit. -/
def EV.AUD.AUTONOMOUS_ON : Nat := 800
/-- The autonomous state is left (R271). -/
def EV.AUD.AUTONOMOUS_OFF : Nat := 801
/-- A REQ0 was promoted (R270). -/
def EV.AUD.AUTO_PROMOTE : Nat := 802
/-- A message fails its check (R259). -/
def EV.AUD.MSG_FAIL : Nat := 803
/-- A receiver becomes LOST. -/
def EV.AUD.RING_RX_LOST : Nat := 804
/-- A block is not produced for lack of credit. -/
def EV.AUD.TX_SKIP : Nat := 805
/-- A talkback input becomes OPEN. -/
def EV.AUD.TB_OPEN : Nat := 806
/-- A player ends naturally. -/
def EV.AUD.PLAYER_END : Nat := 807
/-- Announcements were cut by the autonomous state. -/
def EV.AUD.ANNOUNCE_CUT : Nat := 808
/-- A transmitter's credits become 0. -/
def EV.AUD.RING_Q_EMPTY : Nat := 809
/-- Entry j: LINE_FAULT + 3j. -/
def EV.ZONE.LINE_FAULT (i : Nat) : Nat := 816 + 12 * i
/-- Entry j: DRIFT + 3j. -/
def EV.ZONE.DRIFT (i : Nat) : Nat := 817 + 12 * i
/-- Entry j: AMP_FAIL + 3j. -/
def EV.ZONE.AMP_FAIL (i : Nat) : Nat := 818 + 12 * i
/-- The seal state changes. -/
def EV.MET.SEAL_CHANGE : Nat := 864
/-- A COVER_OPEN record arrives. -/
def EV.MET.COVER_OPEN : Nat := 865
/-- A COVER_CLOSE record arrives. -/
def EV.MET.COVER_CLOSE : Nat := 866
/-- An LRF_INSTALLED record arrives. -/
def EV.MET.LRF_INSTALLED : Nat := 867
/-- An LRF_REFUSED or LRF_FALLBACK record arrives, or the state becomes LRF_FAIL. -/
def EV.MET.LRF_FAIL : Nat := 868
/-- A PARAM record arrives. -/
def EV.MET.PARAM_CHANGED : Nat := 869
/-- The log reaches 1,000 records, and again at 1,024. -/
def EV.MET.LOG_FULL : Nat := 870
/-- No correct frame arrives for 1 s. -/
def EV.MET.LINK_LOST : Nat := 871
/-- A frame is discarded. -/
def EV.MET.FRAME_CRC : Nat := 872
/-- A BAT_ON record arrives. -/
def EV.MET.BAT_ON : Nat := 873
/-- A BAT_OFF record arrives. -/
def EV.MET.BAT_OFF : Nat := 874
/-- A BUDGET_END record arrives. -/
def EV.MET.BUDGET_END : Nat := 875
/-- A DEBUG_ON or DEBUG_OFF record arrives. -/
def EV.MET.DEBUG : Nat := 876
/-- A command is refused (R293). -/
def EV.MET.CMD_REFUSED : Nat := 877
/-- Set 0 becomes absent. -/
def EV.MET.VS0_ABSENT : Nat := 878
/-- Set 1 becomes absent. -/
def EV.MET.VS1_ABSENT : Nat := 879
/-- The link goes down. -/
def EV.RING.LINK_DOWN (i : Nat) : Nat := 896 + 16 * i
/-- The link comes up. -/
def EV.RING.LINK_UP (i : Nat) : Nat := 897 + 16 * i
/-- A port with RATE = 2 comes up at 10.3125 GBd. -/
def EV.RING.RATE_FALLBACK (i : Nat) : Nat := 898 + 16 * i
/-- An RS-FEC codeword cannot be corrected. -/
def EV.RING.FEC_UNCORR (i : Nat) : Nat := 899 + 16 * i
/-- A counter's bit 31 sets. -/
def EV.RING.STAT_HALF (i : Nat) : Nat := 900 + 16 * i
/-- A wake exceeds Tw (R312). -/
def EV.RING.WAKE_LATE (i : Nat) : Nat := 901 + 16 * i
/-- Preemption verification fails (R311). -/
def EV.RING.PREEMPT_FAIL (i : Nat) : Nat := 902 + 16 * i
/-- A class LS frame is discarded (R318). -/
def EV.RING.RX_DISCARD_LS (i : Nat) : Nat := 903 + 16 * i
/-- The node enters STEERING (R313). -/
def EV.RCTL.BREAK : Nat := 928
/-- The node returns to RING (R314). -/
def EV.RCTL.HEAL : Nat := 929
/-- 4 cycles pass without a TOKEN. -/
def EV.RCTL.TOKEN_LOST : Nat := 930
/-- The acting master changes. -/
def EV.RCTL.MASTER_CHANGE : Nat := 931
/-- ISO_OVER sets. -/
def EV.RCTL.ISO_OVER : Nat := 932
/-- ROT exceeds 40 µs. -/
def EV.RCTL.ROT_HIGH : Nat := 933
/-- RX_Q_CREDIT.EMPTY becomes 1. -/
def EV.RCTL.RX_Q_EMPTY : Nat := 934
/-- The receive buffer discards a frame. -/
def EV.RCTL.RX_DISCARD : Nat := 935
/-- A stale-epoch frame arrives. -/
def EV.RCTL.STALE : Nat := 936
/-- A port of this node becomes degraded. -/
def EV.RCTL.DEGRADED : Nat := 937
/-- A remote request is refused. -/
def EV.RCTL.DENIED : Nat := 938
/-- A duplicate ID and position is seen (R317). -/
def EV.RCTL.DUP_ID : Nat := 939
/-- A FIRE frame listing this module arrives. -/
def EV.RCTL.FIRE_RX : Nat := 940
/-- A node becomes LOST. -/
def EV.SEG.NODE_LOST (i : Nat) : Nat := 944 + 5 * i
/-- A node returns to OK. -/
def EV.SEG.NODE_BACK (i : Nat) : Nat := 945 + 5 * i
/-- A node answers with the wrong type. -/
def EV.SEG.TYPE_ERR (i : Nat) : Nat := 946 + 5 * i
/-- A foreign beacon or a collision is seen. -/
def EV.SEG.PLCA_FAULT (i : Nat) : Nat := 947 + 5 * i
/-- A counter's bit 31 sets. -/
def EV.SEG.STAT_HALF (i : Nat) : Nat := 948 + 5 * i
/-- The link comes up. -/
def EV.SVC.LINK_UP : Nat := 984
/-- The link goes down. -/
def EV.SVC.LINK_DOWN : Nat := 985
/-- A wake pattern is recognised. -/
def EV.SVC.WAKE : Nat := 986
/-- A counter's bit 31 sets. -/
def EV.SVC.STAT_HALF : Nat := 987
/-- A frame is counted in RX_UNKNOWN. -/
def EV.SVC.RX_DISCARD : Nat := 988
/-- STATE becomes LOCKED or GRANDMASTER. -/
def EV.PTP.LOCKED : Nat := 992
/-- STATE leaves LOCKED. -/
def EV.PTP.LOCK_LOST : Nat := 993
/-- The grandmaster's clockIdentity changes. -/
def EV.PTP.GM_CHANGE : Nat := 994
/-- STATE becomes FAR. -/
def EV.PTP.FAR : Nat := 995
/-- ALM0 fires (R347, R349). -/
def EV.RTC.ALARM0 : Nat := 1008
/-- ALM1 fires. -/
def EV.RTC.ALARM1 : Nat := 1009
/-- OSF sets, or is found set at a start. -/
def EV.RTC.OSF : Nat := 1010
/-- The domain switches to VBAT. -/
def EV.RTC.VBAT_ON : Nat := 1011
/-- The domain switches back (R348). -/
def EV.RTC.VBAT_OFF : Nat := 1012
/-- VBAT falls below 2.8 V. -/
def EV.RTC.VBAT_LOW : Nat := 1013
/-- A seconds write lands (R344). -/
def EV.RTC.SEC_WRITE : Nat := 1014
/-- This partner takes over (R357). -/
def EV.PAIR.TAKEOVER : Nat := 1024
/-- This partner fences by lapse (R355); delivered when the router runs. -/
def EV.PAIR.FENCED : Nat := 1025
/-- A swap completes. -/
def EV.PAIR.SWAP_DONE : Nat := 1026
/-- A drill passes. -/
def EV.PAIR.DRILL_PASS : Nat := 1027
/-- A drill fails. -/
def EV.PAIR.DRILL_FAIL : Nat := 1028
/-- PARTNER becomes 0. -/
def EV.PAIR.PARTNER_LOST : Nat := 1029
/-- PARTNER becomes 1. -/
def EV.PAIR.PARTNER_BACK : Nat := 1030
/-- Any state becomes DESYNC. -/
def EV.PAIR.DESYNC : Nat := 1031
/-- SYNCED sets. -/
def EV.PAIR.SYNCED : Nat := 1032
/-- WITNESS_OK becomes 0. -/
def EV.PAIR.WITNESS_LOST : Nat := 1033
/-- TEST_AGE reaches DRILL_DAYS. -/
def EV.PAIR.DRILL_DUE : Nat := 1034
/-- A pair-link counter's bit 31 sets. -/
def EV.PAIR.STAT_HALF : Nat := 1035
/-- A hand-over commits (R371). -/
def EV.PEEL.PEEL_DONE : Nat := 1040
/-- A peel fails validation or its snapshot fails its CRC. -/
def EV.PEEL.PEEL_FAIL : Nat := 1041
/-- A publication is discarded under R372. -/
def EV.PEEL.PEEL_LATE : Nat := 1042
/-- A survival takeover commits (R373). -/
def EV.PEEL.SURVIVAL : Nat := 1043
/-- A checkpoint does not arrive within its slot's period. -/
def EV.PEEL.CKPT_MISSED : Nat := 1044
/-- A slot of this module is stopped by another module's PLACE. -/
def EV.PEEL.DISPLACED : Nat := 1045
/-- A slot fails its integrity check (R382). -/
def EV.KEY.INTEG_FAIL : Nat := 1056
/-- A vendor slot could not be derived at start. -/
def EV.KEY.SELFTEST_FAIL : Nat := 1057
/-- LOAD, GENERATE, DERIVE or UNWRAP fills a slot. -/
def EV.KEY.SLOT_LOADED : Nat := 1058
/-- A slot is erased. -/
def EV.KEY.SLOT_ERASED : Nat := 1059
/-- DBG_ARMED sets or clears. -/
def EV.KEY.DEBUG_ARMED : Nat := 1060
/-- A start runs under the test root. -/
def EV.KEY.DEBUG_ACTIVE : Nat := 1061
/-- The lifecycle state advances. -/
def EV.KEY.LIFECYCLE : Nat := 1062
/-- WRAP_EXPORT completes. -/
def EV.KEY.EXPORTED : Nat := 1063
/-- A KEY_CMD is refused. -/
def EV.KEY.CMD_REFUSED : Nat := 1064
/-- SIGN_METER completes. -/
def EV.KEY.METER_SIGNED : Nat := 1065
/-- A 600 s integrity sweep finds no failure. -/
def EV.KEY.SCRUB_DONE : Nat := 1066
/-- A session sends READY. -/
def EV.SES.OPENED : Nat := 1068
/-- A session ends (R395). -/
def EV.SES.CLOSED : Nat := 1069
/-- A handshake fails. -/
def EV.SES.AUTH_FAIL : Nat := 1070
/-- A source is locked out (R394). -/
def EV.SES.LOCKOUT : Nat := 1071
/-- A replayed frame is discarded (R392). -/
def EV.SES.REPLAY : Nat := 1072
/-- A HELLO finds no free entry (R396). -/
def EV.SES.FULL : Nat := 1073
/-- A session ends by IDLE, LIFE or a limit of R392. -/
def EV.SES.EXPIRED : Nat := 1074
/-- A refusal under R185, R193 or R194. -/
def EV.TIN.DENIED : Nat := 1076
/-- A batch's commit changes the active-tin table; once for each such batch (R12). -/
def EV.TIN.TIN_CHANGE : Nat := 1077
/-- TIN_GRANT is written. -/
def EV.TIN.GRANT_CHANGE : Nat := 1078
/-- A walk ends in WF_INVALID. -/
def EV.XLT.WF_INVALID : Nat := 1080
/-- A walk ends in WF_DEVICE. -/
def EV.XLT.WF_DEVICE : Nat := 1081
/-- A walk ends in WF_DEPTH. -/
def EV.XLT.WF_DEPTH : Nat := 1082
/-- A walk ends in WF_ECC. -/
def EV.XLT.WF_ECC : Nat := 1083
/-- The sweep after a swap ends (R189). -/
def EV.XLT.SWAP_DONE : Nat := 1084
/-- A prewarm ends (R191). -/
def EV.XLT.PREWARM_DONE : Nat := 1085
/-- A dual write commits (R190). -/
def EV.XLT.DUAL_WRITE : Nat := 1086
/-- IMG_Q_CREDIT.EMPTY becomes 1. -/
def EV.XLT.IMG_Q_EMPTY : Nat := 1087
/-- A bank write fails (R403). -/
def EV.STO.WRITE_FAIL : Nat := 1088
/-- A read finds a bank invalid. -/
def EV.STO.BANK_INVALID : Nat := 1089
/-- A store has no valid bank at a start (R405). -/
def EV.STO.NO_BANK : Nat := 1090
/-- HELD sets (R418). -/
def EV.STO.HOLD_SET : Nat := 1091
/-- HELD clears. -/
def EV.STO.HOLD_CLR : Nat := 1092
/-- A record is lost (R411). -/
def EV.REC.LOST : Nat := 1096
/-- A spill block fails its read-back. -/
def EV.REC.SPILL_FAIL : Nat := 1097
/-- A record's REPEAT reaches 65,535. -/
def EV.REC.REPEAT_SAT : Nat := 1098
/-- A header fails proof (R414). -/
def EV.UPD.PROOF_FAIL : Nat := 1104
/-- A slot becomes STAGED. -/
def EV.UPD.STAGED : Nat := 1105
/-- A load returns to EMPTY or ends BAD. -/
def EV.UPD.LOAD_ABORT : Nat := 1106
/-- The first release of a trial image takes place. -/
def EV.UPD.ACTIVATED : Nat := 1107
/-- The starter refuses a staged image at activation (R416). -/
def EV.UPD.ACT_FAIL : Nat := 1108
/-- A trial is confirmed. -/
def EV.UPD.CONFIRMED : Nat := 1109
/-- The module falls back to PREVIOUS. -/
def EV.UPD.REVERTED : Nat := 1110
/-- The start watchdog expires (R417). -/
def EV.UPD.TRIAL_FAIL : Nat := 1111
/-- UPD_ROLLBACK.MIN increases. -/
def EV.UPD.ROLLBACK_RAISED : Nat := 1112
/-- R450. -/
def EV.PERF.OVERFLOW : Nat := 1120
/-- Each committed SNAP. -/
def EV.PERF.SNAP_DONE : Nat := 1121
/-- FILL reaches 2,048. -/
def EV.PERF.SMP_HALF : Nat := 1122
/-- The buffer is full. -/
def EV.PERF.SMP_FULL : Nat := 1123
/-- R456. -/
def EV.LIFE.REPLACE_DUE : Nat := 1136
/-- R456. -/
def EV.LIFE.WEAR_HIGH : Nat := 1137
/-- A store write completes. -/
def EV.LIFE.SAVED : Nat := 1138

/-- Sources whose EV_ENABLE bit is fixed at 1 (R52): of the pages with one copy, by number; of the pages with several,
by the offset in the page; task alerts (R145) and loop alerts (R222) all. -/
def fixedSrc (n : Nat) : Bool :=
  if 64 ≤ n ∧ n < 320 then (n - 64) % 16 < 8 || [8, 11, 13].contains ((n - 64) % 16)
  else if 320 ≤ n ∧ n < 576 then true
  else if 576 ≤ n ∧ n < 720 then [16, 17, 20].contains ((n - 576) % 24)
  else if 736 ≤ n ∧ n < 796 then [16, 17].contains ((n - 736) % 20)
  else if 816 ≤ n ∧ n < 864 then (n - 816) % 3 ≠ 1
  else if 896 ≤ n ∧ n < 928 then [0, 7].contains ((n - 896) % 16)
  else if 944 ≤ n ∧ n < 984 then [0, 3].contains ((n - 944) % 5)
  else [0, 1, 2, 3, 6, 11, 16, 18, 19, 22, 24, 27, 47, 800, 802, 803, 806, 808, 864, 865, 867, 868, 869, 870, 871,
    873, 876, 928, 932, 939, 940, 993, 995, 1010, 1013, 1024, 1025, 1028, 1029, 1041, 1043, 1045, 1056, 1057, 1059,
    1060, 1061, 1062, 1071, 1077, 1078, 1081, 1083, 1086, 1088, 1090, 1096, 1097, 1107, 1108, 1109, 1110, 1111,
    1112, 1136, 1137].contains n

/-- The page index and the bit of its event registers that source `n` stands for (R35, R50). -/
def srcPage (n : Nat) : Nat × Nat :=
  if n < 12 then (0x000, n)
  else if n < 16 then (0x001, n - 12)
  else if n < 32 then (0x0F0, n - 16)
  else if n < 40 then (0x003, n - 32)
  else if n < 64 then (0x002, n - 40)
  else if n < 320 then
    (if (n - 64) % 16 < 8 then 0x020 + (n - 64) / 16 else 0x010 + (n - 64) / 16, (n - 64) % 8)
  else if n < 576 then (0x030 + (n - 320) / 16, (n - 320) % 16)
  else if n < 720 then (0x050 + (n - 576) / 24, (n - 576) % 24)
  else if n < 736 then (0x05C, n - 720)
  else if n < 796 then (0x058 + (n - 736) / 20, (n - 736) % 20)
  else if n < 800 then (0xFFF, 0)
  else if n < 816 then (0x060, n - 800)
  else if n < 864 then (0x061 + (n - 816) / 12, (n - 816) % 12)
  else if n < 896 then (0x070, n - 864)
  else if n < 912 then (0x080, n - 896)
  else if n < 928 then (0x081, n - 912)
  else if n < 944 then (0x082, n - 928)
  else if n < 984 then (0x088 + (n - 944) / 5, (n - 944) % 5)
  else if n < 992 then (0x090, n - 984)
  else if n < 1008 then (0x0A0, n - 992)
  else if n < 1024 then (0x0A1, n - 1008)
  else if n < 1040 then (0x0B0, n - 1024)
  else if n < 1056 then (0x0B1, n - 1040)
  else if n < 1068 then (0x0C0, n - 1056)
  else if n < 1076 then (0x0C1, n - 1068)
  else if n < 1080 then (0x041, n - 1076)
  else if n < 1088 then (0x040, n - 1080)
  else if n < 1096 then (0x0D0, n - 1088)
  else if n < 1104 then (0x0D1, n - 1096)
  else if n < 1120 then (0x0D2, n - 1104)
  else if n < 1136 then (0x0E0, n - 1120)
  else (0x0E1, n - 1136)

/-- The first event source of a page and how many it owns (R35): PAGE_CAP.EV_BASE and EV_COUNT. -/
def pageEvents (p : Nat) : Nat × Nat :=
  if p = 0x000 then (0, 12) else if p = 0x001 then (12, 4) else if p = 0x002 then (40, 24)
  else if p = 0x003 then (32, 8)
  else if 0x010 ≤ p ∧ p < 0x020 then (72 + 16 * (p - 0x010), 8)
  else if 0x020 ≤ p ∧ p < 0x030 then (64 + 16 * (p - 0x020), 8)
  else if 0x030 ≤ p ∧ p < 0x040 then (320 + 16 * (p - 0x030), 16)
  else if p = 0x040 then (1080, 8) else if p = 0x041 then (1076, 4)
  else if 0x050 ≤ p ∧ p < 0x056 then (576 + 24 * (p - 0x050), 24)
  else if 0x058 ≤ p ∧ p < 0x05B then (736 + 20 * (p - 0x058), 20)
  else if p = 0x05C then (720, 16) else if p = 0x060 then (800, 16)
  else if 0x061 ≤ p ∧ p < 0x065 then (816 + 12 * (p - 0x061), 12)
  else if p = 0x070 then (864, 32) else if p = 0x080 then (896, 16) else if p = 0x081 then (912, 16)
  else if p = 0x082 then (928, 16)
  else if 0x088 ≤ p ∧ p < 0x090 then (944 + 5 * (p - 0x088), 5)
  else if p = 0x090 then (984, 8) else if p = 0x0A0 then (992, 16) else if p = 0x0A1 then (1008, 16)
  else if p = 0x0B0 then (1024, 16) else if p = 0x0B1 then (1040, 16) else if p = 0x0C0 then (1056, 12)
  else if p = 0x0C1 then (1068, 8) else if p = 0x0D0 then (1088, 8) else if p = 0x0D1 then (1096, 8)
  else if p = 0x0D2 then (1104, 16) else if p = 0x0E0 then (1120, 16) else if p = 0x0E1 then (1136, 16)
  else if p = 0x0F0 then (16, 16) else (0, 0)

/-- PAGE_ID.BLOCK of each page, and its instance number (R35); 0 for a page index that the map does not assign. -/
def pageBlock (p : Nat) : Nat × Nat :=
  if p = 0x000 then (0x01, 0) else if p = 0x001 then (0x02, 0) else if p = 0x002 then (0x03, 0)
  else if p = 0x003 then (0x04, 0)
  else if 0x010 ≤ p ∧ p < 0x020 then (0x10, p - 0x010)
  else if 0x020 ≤ p ∧ p < 0x030 then (0x11, p - 0x020)
  else if 0x030 ≤ p ∧ p < 0x040 then (0x12, p - 0x030)
  else if p = 0x040 then (0x20, 0) else if p = 0x041 then (0x21, 0)
  else if 0x050 ≤ p ∧ p < 0x056 then (0x30, p - 0x050)
  else if 0x058 ≤ p ∧ p < 0x05B then (0x31, p - 0x058)
  else if p = 0x05C then (0x32, 0) else if p = 0x060 then (0x40, 0)
  else if 0x061 ≤ p ∧ p < 0x065 then (0x41, p - 0x061)
  else if p = 0x070 then (0x50, 0) else if p = 0x080 then (0x60, 0) else if p = 0x081 then (0x60, 1)
  else if p = 0x082 then (0x62, 0)
  else if 0x088 ≤ p ∧ p < 0x090 then (0x63, p - 0x088)
  else if p = 0x090 then (0x64, 0) else if p = 0x0A0 then (0x70, 0) else if p = 0x0A1 then (0x71, 0)
  else if p = 0x0B0 then (0x80, 0) else if p = 0x0B1 then (0x81, 0) else if p = 0x0C0 then (0x90, 0)
  else if p = 0x0C1 then (0x91, 0) else if p = 0x0D0 then (0xA0, 0) else if p = 0x0D1 then (0xA1, 0)
  else if p = 0x0D2 then (0xA2, 0) else if p = 0x0E0 then (0xB0, 0) else if p = 0x0E1 then (0xB1, 0)
  else if p = 0x0F0 then (0xC0, 0) else (0, 0)

end Sys2Proof.Machine
end

