-- ==== Sys2Proof/Machine/Cells.lean ====
section
/-!
DEFINITION. What a register field is (`Fld`), and the sparse store that holds every register field and every
numbered internal value of the module (`Cells`). A value lives under one key: the field, the page it belongs to
where several pages share one layout, and the index that a selector (or a requester) picks (R44, R39).
-/
namespace Sys2Proof.Machine

/-- Access codes of register fields (R1). -/
inductive Acc where
  | rw | ro | wo | w1c | w1s | rws | rwl
deriving DecidableEq, Repr

/-- What each reset does to a field (R5 and the reload remarks of the register tables).
`std`: PO and CR give the reset value, WR keeps. `keep`: CR keeps too. `zero`: PO, CR and WR give the reset value.
`cfg`: loaded from the configuration store at PO, CR and WR. `cfgCR`: at PO and CR, WR keeps. `cfgKeep`: at PO
only, CR and WR keep. `rtc`: lies in the RTC domain, no reset touches it. `hold`: fused, or held by a store. -/
inductive Cls where
  | std | keep | zero | cfg | cfgCR | cfgKeep | rtc | hold
deriving DecidableEq, Repr

/-- The selector a register is reached through (R44); `req` marks a register held once per requester (R39). -/
inductive Sel where
  | none | req | route | area | slot | force | bat | riseCh | dom | tin | loop | loopSet | grp | dioCh | aioCh
  | capCh | src | tx | zone | rslot | rfire | node | stat | peel | key | ses | sto | recSrc | perf | life
deriving DecidableEq, Repr

/-- One register field: the first page index of its page, the register's offset in the page, the lowest bit and
the width, the access code, the reset value, the reset behaviour, whether LOCK locks an RWS field of it, the
selector, and the least and greatest value that a write may carry (R460). -/
structure Fld where
  page : Nat
  off : Nat
  lo : Nat
  w : Nat
  acc : Acc
  rst : Nat
  cls : Cls
  lock : Bool
  sel : Sel
  mn : Nat
  mx : Nat
deriving DecidableEq, Repr

/-- A number that is different for different fields: page, offset and lowest bit. -/
def Fld.code (f : Fld) : Nat := (f.page * 4096 + f.off) * 32 + f.lo

/-- Where a value is held: field, which page of its kind, and selected index. -/
structure Key where
  f : Nat
  i : Nat
  k : Nat
deriving DecidableEq, Repr

/-- The order of keys: by field, then page, then index. -/
def Key.lt (a b : Key) : Bool :=
  decide (a.f < b.f) || (decide (a.f = b.f) && (decide (a.i < b.i) || (decide (a.i = b.i) && decide (a.k < b.k))))

/-- Values that differ from their reset value, by rising key. -/
abbrev Cells := List (Key × Nat)

/-- The value listed under a key. -/
def Cells.find : Cells → Key → Option Nat
  | [], _ => none
  | (k, v) :: t, q => if k = q then some v else Cells.find t q

/-- List a value under a key, keeping the order of keys. -/
def Cells.put : Cells → Key → Nat → Cells
  | [], q, v => [(q, v)]
  | (k, w) :: t, q, v =>
    if k = q then (q, v) :: t
    else if q.lt k then (q, v) :: (k, w) :: t
    else (k, w) :: Cells.put t q v

/-- Remove what is listed under a key. -/
def Cells.del : Cells → Key → Cells
  | [], _ => []
  | (k, w) :: t, q => if k = q then Cells.del t q else (k, w) :: Cells.del t q

/-- The canonical form: keys strictly rising. -/
def Cells.wf : Cells → Bool
  | [] => true
  | [_] => true
  | (a, _) :: (b, w) :: t => a.lt b && Cells.wf ((b, w) :: t)

end Sys2Proof.Machine
end

