-- ==== Sys2Proof/Machine/Fields.lean ====
section
/-!
DEFINITION. The register fields of the module, page by page, as the register tables of the spec give them
(spec/02 to spec/17): where each field lies, its access code (R1), its reset value and what each reset does to it
(R5), whether LOCK locks it (R45), the range its description states (R460), and the selector its register is
reached through (R44). One `Fld` per field, named PAGE.REGISTER.FIELD as the manual names it.  Reserved bits have
no field: they read as zero and ignore writes (R2).  HDR holds the fields of the common header (R38); its page
number is the page index itself.
A reset value that the tables call "configured", "fixed", "fused" or "per slot" is 0, or the lowest value of the
stated range where 0 lies outside it (DESIGN CHOICE, assumption 3).
-/
namespace Sys2Proof.Machine

/-! Page HDR -/
/-- 1 runs the block. -/
def HDR.PAGE_CTRL.ENABLE : Fld := ⟨0x0, 0x8, 0, 1, .rws, 1, .std, false, .none, 0, 1⟩
/-- 1 locks RWL fields and ENABLE (R45). -/
def HDR.PAGE_CTRL.LOCK : Fld := ⟨0x0, 0x8, 1, 1, .w1s, 0, .std, false, .none, 0, 1⟩
/-- Sources fired. -/
def HDR.EV_RAW.EV_RAW : Fld := ⟨0x0, 0x10, 0, 32, .ro, 0, .std, false, .none, 0, 4294967295⟩
/-- Sources enabled. -/
def HDR.EV_ENABLE.EV_ENABLE : Fld := ⟨0x0, 0x14, 0, 32, .rw, 0, .std, false, .none, 0, 4294967295⟩
/-- Sources fired while enabled. -/
def HDR.EV_PEND.EV_PEND : Fld := ⟨0x0, 0x18, 0, 32, .ro, 0, .std, false, .none, 0, 4294967295⟩
/-- Batch ID tagged (R39). -/
def HDR.BATCH_TAG.ID : Fld := ⟨0x0, 0x20, 0, 6, .rw, 0, .std, false, .req, 0, 63⟩
/-- The tag names an open batch. -/
def HDR.BATCH_TAG.VALID : Fld := ⟨0x0, 0x20, 8, 1, .rw, 0, .std, false, .req, 0, 1⟩
/-- The tagged batch has ended. -/
def HDR.BATCH_TAG.ENDED : Fld := ⟨0x0, 0x20, 9, 1, .ro, 0, .std, false, .req, 0, 1⟩
/-- Last error. -/
def HDR.ERR_CODE.CODE : Fld := ⟨0x0, 0x24, 0, 8, .ro, 0, .std, false, .none, 0, 255⟩
/-- Requester kind. -/
def HDR.ERR_CODE.REQ : Fld := ⟨0x0, 0x24, 8, 4, .ro, 0, .std, false, .none, 0, 15⟩
/-- Tin. -/
def HDR.ERR_CODE.TIN : Fld := ⟨0x0, 0x24, 16, 8, .ro, 0, .std, false, .none, 0, 255⟩
/-- Errors since the clear. -/
def HDR.ERR_CODE.COUNT : Fld := ⟨0x0, 0x24, 24, 7, .ro, 0, .std, false, .none, 0, 127⟩
/-- Register concerned. -/
def HDR.ERR_ADDR.OFFSET : Fld := ⟨0x0, 0x28, 0, 24, .ro, 0, .std, false, .none, 0, 16777215⟩
/-- Batch involved. -/
def HDR.ERR_ADDR.BATCH : Fld := ⟨0x0, 0x28, 24, 6, .ro, 0, .std, false, .none, 0, 63⟩
/-- BATCH is meaningful. -/
def HDR.ERR_ADDR.BATCH_VALID : Fld := ⟨0x0, 0x28, 31, 1, .ro, 0, .std, false, .none, 0, 1⟩

/-- The fields of page HDR. -/
def hdrFields : List Fld :=
  [HDR.PAGE_CTRL.ENABLE, HDR.PAGE_CTRL.LOCK, HDR.EV_RAW.EV_RAW, HDR.EV_ENABLE.EV_ENABLE, HDR.EV_PEND.EV_PEND, HDR.BATCH_TAG.ID, HDR.BATCH_TAG.VALID, HDR.BATCH_TAG.ENDED] ++
  [HDR.ERR_CODE.CODE, HDR.ERR_CODE.REQ, HDR.ERR_CODE.TIN, HDR.ERR_CODE.COUNT, HDR.ERR_ADDR.OFFSET, HDR.ERR_ADDR.BATCH, HDR.ERR_ADDR.BATCH_VALID]

/-! Page MOD -/
/-- Module ID, 1–254; 0 while unconfigured. -/
def MOD.MOD_ID.MODULE_ID : Fld := ⟨0x0, 0x40, 0, 8, .ro, 0, .cfg, false, .none, 0, 255⟩
/-- 1 when the module sits on a redundancy carrier. -/
def MOD.MOD_ID.PAIRED : Fld := ⟨0x0, 0x40, 8, 1, .ro, 0, .cfg, false, .none, 0, 1⟩
/-- Carrier position of this partner: 0 or 1. -/
def MOD.MOD_ID.POSITION : Fld := ⟨0x0, 0x40, 9, 1, .ro, 0, .hold, false, .none, 0, 1⟩
/-- 1 while tasks are being released. -/
def MOD.MOD_STATUS.RUN : Fld := ⟨0x0, 0x44, 0, 1, .ro, 0, .std, false, .none, 0, 1⟩
/-- 1 while any force is active on any engine. -/
def MOD.MOD_STATUS.FORCED : Fld := ⟨0x0, 0x44, 1, 1, .ro, 0, .std, false, .none, 0, 1⟩
/-- 1 while MOD_FIRE holds. -/
def MOD.MOD_STATUS.FIRE : Fld := ⟨0x0, 0x44, 2, 1, .ro, 0, .std, false, .none, 0, 1⟩
/-- 1 while the grid runs free under R21. -/
def MOD.MOD_STATUS.GRID_FREE : Fld := ⟨0x0, 0x44, 3, 1, .ro, 0, .std, false, .none, 0, 1⟩
/-- Current fire-endurance ladder stage, 0–4. -/
def MOD.MOD_STATUS.LADDER : Fld := ⟨0x0, 0x44, 4, 3, .ro, 0, .std, false, .none, 0, 7⟩
/-- 1 while the substitute test root is in use. -/
def MOD.MOD_STATUS.DEBUG : Fld := ⟨0x0, 0x44, 7, 1, .ro, 0, .std, false, .none, 0, 1⟩
/-- 0 single, 1 active, 2 standby, 3 fenced. SW: per swap. -/
def MOD.MOD_STATUS.PAIR_ROLE : Fld := ⟨0x0, 0x44, 8, 2, .ro, 0, .std, false, .none, 0, 3⟩
/-- 1 while the FAULT lamp is lit. -/
def MOD.MOD_STATUS.FAULT : Fld := ⟨0x0, 0x44, 10, 1, .ro, 0, .std, false, .none, 0, 1⟩
/-- Kind of the last start: 0 cold, 1 warm. -/
def MOD.MOD_STATUS.WARM : Fld := ⟨0x0, 0x44, 11, 1, .ro, 0, .std, false, .none, 0, 1⟩
/-- Command code from the table under R59. -/
def MOD.MOD_CMD.CMD : Fld := ⟨0x0, 0x48, 0, 8, .wo, 0, .std, false, .none, 0, 255⟩
/-- Tick number [31:0]. -/
def MOD.MOD_TICK_L.TICK_L : Fld := ⟨0x0, 0x4c, 0, 32, .ro, 0, .std, false, .none, 0, 4294967295⟩
/-- Tick number [63:32]. -/
def MOD.MOD_TICK_H.TICK_H : Fld := ⟨0x0, 0x50, 0, 32, .ro, 0, .std, false, .none, 0, 4294967295⟩
/-- Bit i is 1 if fire input entry i has asserted. -/
def MOD.MOD_FIRE_SRC.LOCAL : Fld := ⟨0x0, 0x54, 0, 8, .ro, 0, .std, false, .none, 0, 255⟩
/-- 1 if a ring fire-event frame has asserted. -/
def MOD.MOD_FIRE_SRC.RING : Fld := ⟨0x0, 0x54, 8, 1, .ro, 0, .std, false, .none, 0, 1⟩
/-- 1 if FIRE_ENTER has asserted. -/
def MOD.MOD_FIRE_SRC.CMD : Fld := ⟨0x0, 0x54, 9, 1, .ro, 0, .std, false, .none, 0, 1⟩
/-- Digital channel 0–95, numbered slice × 16 + channel. A value of 96–127 is refused with … -/
def MOD.MOD_FIRE_IN0.CHANNEL : Fld := ⟨0x0, 0x58, 0, 7, .rwl, 0, .cfgKeep, false, .none, 0, 95⟩
/-- Digital channel 0–95, numbered slice × 16 + channel. A value of 96–127 is refused with … -/
def MOD.MOD_FIRE_IN1.CHANNEL : Fld := ⟨0x0, 0x5c, 0, 7, .rwl, 0, .cfgKeep, false, .none, 0, 95⟩
/-- 1 makes the channel a fire source. -/
def MOD.MOD_FIRE_IN0.EN : Fld := ⟨0x0, 0x58, 7, 1, .rwl, 0, .cfgKeep, false, .none, 0, 1⟩
/-- 1 makes the channel a fire source. -/
def MOD.MOD_FIRE_IN1.EN : Fld := ⟨0x0, 0x5c, 7, 1, .rwl, 0, .cfgKeep, false, .none, 0, 1⟩
/-- Hardware type code checked at proof. -/
def MOD.MOD_HWTYPE.TYPE : Fld := ⟨0x0, 0x64, 0, 16, .ro, 38464, .std, false, .none, 0, 65535⟩
/-- Board revision. -/
def MOD.MOD_HWTYPE.BOARD : Fld := ⟨0x0, 0x64, 16, 8, .ro, 0, .hold, false, .none, 0, 255⟩
/-- Unit serial [31:0]. -/
def MOD.MOD_SERIAL_L.SERIAL_L : Fld := ⟨0x0, 0x68, 0, 32, .ro, 0, .hold, false, .none, 0, 4294967295⟩
/-- Unit serial [63:32]. -/
def MOD.MOD_SERIAL_H.SERIAL_H : Fld := ⟨0x0, 0x6c, 0, 32, .ro, 0, .hold, false, .none, 0, 4294967295⟩
/-- Lamp lit. -/
def MOD.MOD_LAMP.RUN : Fld := ⟨0x0, 0x60, 0, 1, .ro, 0, .std, false, .none, 0, 1⟩
/-- Lamp lit. -/
def MOD.MOD_LAMP.FORCE : Fld := ⟨0x0, 0x60, 1, 1, .ro, 0, .std, false, .none, 0, 1⟩
/-- Lamp lit. -/
def MOD.MOD_LAMP.PAIR : Fld := ⟨0x0, 0x60, 2, 1, .ro, 0, .std, false, .none, 0, 1⟩
/-- Lamp lit. -/
def MOD.MOD_LAMP.FIRE : Fld := ⟨0x0, 0x60, 3, 1, .ro, 0, .std, false, .none, 0, 1⟩
/-- Lamp lit. -/
def MOD.MOD_LAMP.FAULT : Fld := ⟨0x0, 0x60, 4, 1, .ro, 0, .std, false, .none, 0, 1⟩
/-- Lamp lit. -/
def MOD.MOD_LAMP.SEAL : Fld := ⟨0x0, 0x60, 5, 1, .ro, 0, .std, false, .none, 0, 1⟩
/-- Lamp lit. -/
def MOD.MOD_LAMP.DEBUG : Fld := ⟨0x0, 0x60, 6, 1, .ro, 0, .std, false, .none, 0, 1⟩

/-- The fields of page MOD. -/
def modFields : List Fld :=
  [ MOD.MOD_ID.MODULE_ID, MOD.MOD_ID.PAIRED, MOD.MOD_ID.POSITION, MOD.MOD_STATUS.RUN, MOD.MOD_STATUS.FORCED, MOD.MOD_STATUS.FIRE, MOD.MOD_STATUS.GRID_FREE, MOD.MOD_STATUS.LADDER] ++
  [ MOD.MOD_STATUS.DEBUG, MOD.MOD_STATUS.PAIR_ROLE, MOD.MOD_STATUS.FAULT, MOD.MOD_STATUS.WARM, MOD.MOD_CMD.CMD, MOD.MOD_TICK_L.TICK_L, MOD.MOD_TICK_H.TICK_H, MOD.MOD_FIRE_SRC.LOCAL] ++
  [ MOD.MOD_FIRE_SRC.RING, MOD.MOD_FIRE_SRC.CMD, MOD.MOD_FIRE_IN0.CHANNEL, MOD.MOD_FIRE_IN1.CHANNEL, MOD.MOD_FIRE_IN0.EN, MOD.MOD_FIRE_IN1.EN, MOD.MOD_HWTYPE.TYPE, MOD.MOD_HWTYPE.BOARD] ++
  [ MOD.MOD_SERIAL_L.SERIAL_L, MOD.MOD_SERIAL_H.SERIAL_H, MOD.MOD_LAMP.RUN, MOD.MOD_LAMP.FORCE, MOD.MOD_LAMP.PAIR, MOD.MOD_LAMP.FIRE, MOD.MOD_LAMP.FAULT, MOD.MOD_LAMP.SEAL] ++
  [ MOD.MOD_LAMP.DEBUG]

/-! Page EVR -/
/-- Set when a merge counter saturates. -/
def EVR.EVR_STAT.MERGE_OVF : Fld := ⟨0x1, 0x40, 0, 1, .w1c, 0, .std, false, .none, 0, 1⟩
/-- 1 while the ring alarm queue is full. -/
def EVR.EVR_STAT.RING_FULL : Fld := ⟨0x1, 0x40, 1, 1, .ro, 0, .std, false, .none, 0, 1⟩
/-- Sources served in the last completed round, 0–1,152. -/
def EVR.EVR_STAT.LAST_ROUND : Fld := ⟨0x1, 0x40, 16, 11, .ro, 0, .std, false, .none, 0, 2047⟩
/-- Number of the last source whose merge counter saturated. -/
def EVR.EVR_OVF_SRC.OVF_SRC : Fld := ⟨0x1, 0x44, 0, 11, .ro, 0, .std, false, .none, 0, 2047⟩
/-- Source addressed by ROUTE_DATA and SRC_COUNT. A value of 1,152 or more, or of 796–799, … -/
def EVR.ROUTE_SEL.SOURCE : Fld := ⟨0x1, 0x48, 0, 11, .rw, 0, .std, false, .req, 0, 1151⟩
/-- Service priority, 0 highest. -/
def EVR.ROUTE_DATA.PRIO : Fld := ⟨0x1, 0x4c, 0, 3, .rws, 7, .cfgKeep, true, .route, 0, 7⟩
/-- Supervisor line 0–15. -/
def EVR.ROUTE_DATA.LINE : Fld := ⟨0x1, 0x4c, 4, 4, .rws, 0, .cfgKeep, true, .route, 0, 15⟩
/-- 1 delivers to the supervisor line. -/
def EVR.ROUTE_DATA.SUP : Fld := ⟨0x1, 0x4c, 8, 1, .rws, 0, .cfgKeep, true, .route, 0, 1⟩
/-- 1 delivers to the event recorder. -/
def EVR.ROUTE_DATA.REC : Fld := ⟨0x1, 0x4c, 9, 1, .rws, 0, .cfgKeep, true, .route, 0, 1⟩
/-- 1 sends a ring alarm frame. -/
def EVR.ROUTE_DATA.RING : Fld := ⟨0x1, 0x4c, 10, 1, .rws, 0, .cfgKeep, true, .route, 0, 1⟩
/-- Class of the route: 1 LS, 0 N. -/
def EVR.ROUTE_DATA.LS : Fld := ⟨0x1, 0x4c, 11, 1, .rws, 0, .cfgKeep, true, .route, 0, 1⟩
/-- Tin that owns the source's deliveries. Only sessions of tin 0 may stage a change; … -/
def EVR.ROUTE_DATA.OWNER_TIN : Fld := ⟨0x1, 0x4c, 16, 8, .rws, 0, .cfgKeep, true, .route, 0, 255⟩
/-- Merge counter of the selected source. Bits [31:8] are reserved. -/
def EVR.SRC_COUNT.COUNT : Fld := ⟨0x1, 0x50, 0, 8, .ro, 0, .std, false, .route, 0, 255⟩
/-- Bit i is 1 while supervisor line i is asserted and not yet served. Bits [31:16] are … -/
def EVR.LINE_PEND.LINE_PEND : Fld := ⟨0x1, 0x54, 0, 16, .ro, 0, .std, false, .none, 0, 65535⟩
/-- Class N ring alarm frames discarded. Wraps from 0xFFFF_FFFF to 0. -/
def EVR.RING_DROP.RING_DROP : Fld := ⟨0x1, 0x58, 0, 32, .ro, 0, .std, false, .none, 0, 4294967295⟩

/-- The fields of page EVR. -/
def evrFields : List Fld :=
  [EVR.EVR_STAT.MERGE_OVF, EVR.EVR_STAT.RING_FULL, EVR.EVR_STAT.LAST_ROUND, EVR.EVR_OVF_SRC.OVF_SRC, EVR.ROUTE_SEL.SOURCE, EVR.ROUTE_DATA.PRIO, EVR.ROUTE_DATA.LINE, EVR.ROUTE_DATA.SUP] ++
  [EVR.ROUTE_DATA.REC, EVR.ROUTE_DATA.RING, EVR.ROUTE_DATA.LS, EVR.ROUTE_DATA.OWNER_TIN, EVR.SRC_COUNT.COUNT, EVR.LINE_PEND.LINE_PEND, EVR.RING_DROP.RING_DROP]

/-! Page ENG -/
/-- Staging 1 requests that every slot adopt the bank no slot has adopted. Each slot adopts … -/
def ENG.ENG_CTRL.SWAP : Fld := ⟨0x10, 0x40, 0, 1, .rws, 0, .std, false, .none, 0, 1⟩
/-- 1 opens the bank that no slot has adopted to program loads and to AREA_WIN writes. A … -/
def ENG.ENG_CTRL.PROG_OPEN : Fld := ⟨0x10, 0x40, 1, 1, .rw, 0, .std, false, .none, 0, 1⟩
/-- 1 turns every direct read into a program fault (R89). Locked by LOCK. CR: kept. -/
def ENG.ENG_CTRL.DET_STRICT : Fld := ⟨0x10, 0x40, 2, 1, .rws, 0, .keep, true, .none, 0, 1⟩
/-- Slot of the scan in execution. -/
def ENG.ENG_STATE.CUR_SLOT : Fld := ⟨0x10, 0x44, 0, 3, .ro, 0, .std, false, .none, 0, 7⟩
/-- 1 while a scan is in execution or preempted. -/
def ENG.ENG_STATE.BUSY : Fld := ⟨0x10, 0x44, 3, 1, .ro, 0, .std, false, .none, 0, 1⟩
/-- Stall cause from R96. -/
def ENG.ENG_STATE.STALL : Fld := ⟨0x10, 0x44, 4, 3, .ro, 0, .std, false, .none, 0, 7⟩
/-- Bit j is the bank adopted by slot j: 0 bank A, 1 bank B. SW: kept. -/
def ENG.ENG_STATE.SLOT_BANK : Fld := ⟨0x10, 0x44, 8, 8, .ro, 0, .std, false, .none, 0, 255⟩
/-- 1 from the commit of SWAP until the last slot has adopted. -/
def ENG.ENG_STATE.SWAP_PEND : Fld := ⟨0x10, 0x44, 16, 1, .ro, 0, .std, false, .none, 0, 1⟩
/-- Free credits, 0–64. -/
def ENG.ENG_BQ_CREDIT.CREDITS : Fld := ⟨0x10, 0x48, 0, 16, .ro, 64, .std, false, .none, 0, 65535⟩
/-- 1 while CREDITS is 0. -/
def ENG.ENG_BQ_CREDIT.EMPTY : Fld := ⟨0x10, 0x48, 31, 1, .ro, 0, .std, false, .none, 0, 1⟩
/-- Direct reads made by the engine. Wraps from 0xFFFF_FFFF to 0. CR: 0; WR: kept. -/
def ENG.ENG_PDIRECT.COUNT : Fld := ⟨0x10, 0x4c, 0, 32, .ro, 0, .std, false, .none, 0, 4294967295⟩
/-- Program fault code from R95. -/
def ENG.ENG_FAULT.CODE : Fld := ⟨0x10, 0x50, 0, 4, .ro, 0, .std, false, .none, 0, 15⟩
/-- Slot of the faulting scan. -/
def ENG.ENG_FAULT.SLOT : Fld := ⟨0x10, 0x50, 4, 3, .ro, 0, .std, false, .none, 0, 7⟩
/-- Bank of the faulting scan. -/
def ENG.ENG_FAULT.BANK : Fld := ⟨0x10, 0x50, 7, 1, .ro, 0, .std, false, .none, 0, 1⟩
/-- Index of the faulting instruction. -/
def ENG.ENG_FAULT.PC : Fld := ⟨0x10, 0x50, 8, 14, .ro, 0, .std, false, .none, 0, 16383⟩
/-- 1 when the record holds a fault. -/
def ENG.ENG_FAULT.VALID : Fld := ⟨0x10, 0x50, 31, 1, .w1c, 0, .std, false, .none, 0, 1⟩
/-- The faulting instruction word; 0 for a CODE fault. -/
def ENG.ENG_FAULT_INSN.INSN : Fld := ⟨0x10, 0x54, 0, 32, .ro, 0, .std, false, .none, 0, 4294967295⟩
/-- Effective address of the faulting access, in the area's unit. -/
def ENG.ENG_FAULT_EA.EA : Fld := ⟨0x10, 0x58, 0, 21, .ro, 0, .std, false, .none, 0, 2097151⟩
/-- Area code of that access. -/
def ENG.ENG_FAULT_EA.EA_AREA : Fld := ⟨0x10, 0x58, 21, 3, .ro, 0, .std, false, .none, 0, 7⟩
/-- Load, 0–1,000 ‰. -/
def ENG.ENG_LOAD.LOAD : Fld := ⟨0x10, 0x5c, 0, 10, .ro, 0, .std, false, .none, 0, 1023⟩
/-- Highest LOAD since the last PEAK_CLR, 0–1,000 ‰. -/
def ENG.ENG_LOAD.PEAK : Fld := ⟨0x10, 0x5c, 16, 10, .ro, 0, .std, false, .none, 0, 1023⟩
/-- Writing 1 sets PEAK to the current LOAD. -/
def ENG.ENG_LOAD.PEAK_CLR : Fld := ⟨0x10, 0x5c, 31, 1, .wo, 0, .std, false, .none, 0, 1⟩
/-- Slot whose window AREA_WIN shows. -/
def ENG.AREA_SEL.SLOT : Fld := ⟨0x10, 0x60, 0, 3, .rw, 0, .std, false, .req, 0, 7⟩
/-- Area code from R71. -/
def ENG.AREA_SEL.AREA : Fld := ⟨0x10, 0x60, 4, 3, .rw, 0, .std, false, .req, 0, 7⟩
/-- Bank whose window map is selected. -/
def ENG.AREA_SEL.BANK : Fld := ⟨0x10, 0x60, 8, 1, .rw, 0, .std, false, .req, 0, 1⟩
/-- First line of the window. CR: kept. -/
def ENG.AREA_WIN.BASE : Fld := ⟨0x10, 0x64, 0, 11, .rw, 0, .keep, false, .area, 0, 2047⟩
/-- Length in lines, 0–2,048. A value above 2,048 is refused with ERR_CODE 0x08. CR: kept. -/
def ENG.AREA_WIN.LINES : Fld := ⟨0x10, 0x64, 12, 12, .rw, 0, .keep, false, .area, 0, 2048⟩
/-- Wait limit for a direct read of another module's point, 10–2,000 µs. A staging outside … -/
def ENG.ENG_PTIMEOUT.TIMEOUT : Fld := ⟨0x10, 0x68, 0, 11, .rws, 200, .keep, false, .none, 10, 2000⟩
/-- CRC-32C over the 64 KiB of the bank that no slot has adopted. Instruction words are … -/
def ENG.ENG_PROG_CRC.CRC : Fld := ⟨0x10, 0x6c, 0, 32, .ro, 0, .std, false, .none, 0, 4294967295⟩
/-- Corrected bench errors, saturating at 65,535. CR: 0. -/
def ENG.ENG_ECC.CORR : Fld := ⟨0x10, 0x70, 0, 16, .ro, 0, .std, false, .none, 0, 65535⟩
/-- Uncorrectable bench errors, saturating at 65,535. CR: 0. -/
def ENG.ENG_ECC.UNCORR : Fld := ⟨0x10, 0x70, 16, 16, .ro, 0, .std, false, .none, 0, 65535⟩

/-- The fields of page ENG. -/
def engFields : List Fld :=
  [ENG.ENG_CTRL.SWAP, ENG.ENG_CTRL.PROG_OPEN, ENG.ENG_CTRL.DET_STRICT, ENG.ENG_STATE.CUR_SLOT, ENG.ENG_STATE.BUSY, ENG.ENG_STATE.STALL, ENG.ENG_STATE.SLOT_BANK, ENG.ENG_STATE.SWAP_PEND] ++
  [ENG.ENG_BQ_CREDIT.CREDITS, ENG.ENG_BQ_CREDIT.EMPTY, ENG.ENG_PDIRECT.COUNT, ENG.ENG_FAULT.CODE, ENG.ENG_FAULT.SLOT, ENG.ENG_FAULT.BANK, ENG.ENG_FAULT.PC, ENG.ENG_FAULT.VALID] ++
  [ENG.ENG_FAULT_INSN.INSN, ENG.ENG_FAULT_EA.EA, ENG.ENG_FAULT_EA.EA_AREA, ENG.ENG_LOAD.LOAD, ENG.ENG_LOAD.PEAK, ENG.ENG_LOAD.PEAK_CLR, ENG.AREA_SEL.SLOT, ENG.AREA_SEL.AREA] ++
  [ENG.AREA_SEL.BANK, ENG.AREA_WIN.BASE, ENG.AREA_WIN.LINES, ENG.ENG_PTIMEOUT.TIMEOUT, ENG.ENG_PROG_CRC.CRC, ENG.ENG_ECC.CORR, ENG.ENG_ECC.UNCORR]

/-! Page TSK -/
/-- Selected slot. Bits [31:3] are reserved. -/
def TSK.SLOT_SEL.SLOT : Fld := ⟨0x20, 0x40, 0, 3, .rw, 0, .std, false, .req, 0, 7⟩
/-- 0 none, 1 cyclic, 2 event. A staging of 3 fails with ERR_CODE 0x08. -/
def TSK.TSK_CFG.KIND : Fld := ⟨0x20, 0x44, 0, 2, .rws, 0, .cfg, false, .slot, 0, 2⟩
/-- Priority 0–7 (R102). -/
def TSK.TSK_CFG.PRIO : Fld := ⟨0x20, 0x44, 4, 3, .rws, 0, .cfg, false, .slot, 0, 7⟩
/-- Class: 1 LS, 0 N. -/
def TSK.TSK_CFG.LS : Fld := ⟨0x20, 0x44, 7, 1, .rws, 0, .cfg, false, .slot, 0, 1⟩
/-- Tin of the slot. A staging of a tin not active on the module fails with ERR_CODE 0x08. -/
def TSK.TSK_CFG.TIN : Fld := ⟨0x20, 0x44, 8, 8, .rws, 0, .cfg, false, .slot, 0, 255⟩
/-- 1 allows releases. -/
def TSK.TSK_CFG.RUN : Fld := ⟨0x20, 0x44, 16, 1, .rws, 0, .cfg, false, .slot, 0, 1⟩
/-- 1–40,000 ticks. A staging outside this range fails with ERR_CODE 0x08. Bits [31:16] are … -/
def TSK.TSK_PERIOD.PERIOD : Fld := ⟨0x20, 0x48, 0, 16, .rws, 1, .cfg, false, .slot, 1, 40000⟩
/-- 0 to PERIOD − 1. A commit with PHASE ≥ PERIOD fails validation with ERR_CODE 0x08. Bits … -/
def TSK.TSK_PHASE.PHASE : Fld := ⟨0x20, 0x4c, 0, 16, .rws, 0, .cfg, false, .slot, 0, 65535⟩
/-- Overrun watchdog, 0–40,000 ticks after the deadline (R118). A staging above 40,000 … -/
def TSK.TSK_LIMITS.WDOG : Fld := ⟨0x20, 0x50, 0, 16, .rws, 0, .cfg, false, .slot, 0, 40000⟩
/-- Consecutive faults that stop the slot; 0 never stops it. -/
def TSK.TSK_LIMITS.FAULT_STOP : Fld := ⟨0x20, 0x50, 16, 4, .rws, 0, .cfg, false, .slot, 0, 15⟩
/-- Consecutive overruns and missed releases that stop the slot; 0 never stops it. -/
def TSK.TSK_LIMITS.OVR_STOP : Fld := ⟨0x20, 0x50, 20, 4, .rws, 0, .cfg, false, .slot, 0, 15⟩
/-- Leaves STOPPED (R120). Refused with ERR_CODE 0x0A when the slot is not STOPPED. -/
def TSK.TSK_CMD.RESUME : Fld := ⟨0x20, 0x54, 0, 1, .wo, 0, .std, false, .slot, 0, 1⟩
/-- Sets TSK_EXEC_MAX to 0. -/
def TSK.TSK_CMD.EXEC_CLR : Fld := ⟨0x20, 0x54, 1, 1, .wo, 0, .std, false, .slot, 0, 1⟩
/-- State from R110. -/
def TSK.TSK_STAT.STATE : Fld := ⟨0x20, 0x58, 0, 3, .ro, 0, .std, false, .slot, 0, 7⟩
/-- Bank adopted by the slot. SW: kept. -/
def TSK.TSK_STAT.BANK : Fld := ⟨0x20, 0x58, 3, 1, .ro, 0, .zero, false, .slot, 0, 1⟩
/-- 1 while the scan with FIRST = 1 is pending or running. -/
def TSK.TSK_STAT.FIRST : Fld := ⟨0x20, 0x58, 4, 1, .ro, 0, .zero, false, .slot, 0, 1⟩
/-- Consecutive faulted, overrun or missed releases, saturating at 255. -/
def TSK.TSK_STAT.CONSEC : Fld := ⟨0x20, 0x58, 16, 8, .ro, 0, .zero, false, .slot, 0, 255⟩
/-- An overrun (R118). -/
def TSK.TSK_ALERT.OVERRUN : Fld := ⟨0x20, 0x5c, 0, 1, .w1c, 0, .std, false, .slot, 0, 1⟩
/-- A program fault ended a scan. -/
def TSK.TSK_ALERT.FAULT : Fld := ⟨0x20, 0x5c, 1, 1, .w1c, 0, .std, false, .slot, 0, 1⟩
/-- A missed release (R108). -/
def TSK.TSK_ALERT.MISSED : Fld := ⟨0x20, 0x5c, 2, 1, .w1c, 0, .std, false, .slot, 0, 1⟩
/-- The slot entered STOPPED. -/
def TSK.TSK_ALERT.STOPPED : Fld := ⟨0x20, 0x5c, 3, 1, .w1c, 0, .std, false, .slot, 0, 1⟩
/-- A publication aborted (R117). -/
def TSK.TSK_ALERT.PUB_ABORT : Fld := ⟨0x20, 0x5c, 4, 1, .w1c, 0, .std, false, .slot, 0, 1⟩
/-- A capture ended after step 5 (R115). -/
def TSK.TSK_ALERT.CAP_SLOW : Fld := ⟨0x20, 0x5c, 5, 1, .w1c, 0, .std, false, .slot, 0, 1⟩
/-- A warm restart fell back to cold (R130). -/
def TSK.TSK_ALERT.COLD_FALLBACK : Fld := ⟨0x20, 0x5c, 6, 1, .w1c, 0, .std, false, .slot, 0, 1⟩
/-- Downtime was taken as 0 (R135). -/
def TSK.TSK_ALERT.RTC_LOST : Fld := ⟨0x20, 0x5c, 7, 1, .w1c, 0, .std, false, .slot, 0, 1⟩
/-- A latched event word had OVF = 1. -/
def TSK.TSK_ALERT.EV_OVF : Fld := ⟨0x20, 0x5c, 8, 1, .w1c, 0, .std, false, .slot, 0, 1⟩
/-- Tick of the last release [31:0]. -/
def TSK.TSK_REL_L.REL_L : Fld := ⟨0x20, 0x60, 0, 32, .ro, 0, .std, false, .slot, 0, 4294967295⟩
/-- Tick of the last release [63:32]. -/
def TSK.TSK_REL_H.REL_H : Fld := ⟨0x20, 0x64, 0, 32, .ro, 0, .std, false, .slot, 0, 4294967295⟩
/-- Overruns. -/
def TSK.TSK_COUNT0.OVERRUNS : Fld := ⟨0x20, 0x68, 0, 16, .ro, 0, .zero, false, .slot, 0, 65535⟩
/-- Missed releases. -/
def TSK.TSK_COUNT0.MISSED : Fld := ⟨0x20, 0x68, 16, 16, .ro, 0, .zero, false, .slot, 0, 65535⟩
/-- Scans ended by program fault. -/
def TSK.TSK_COUNT1.FAULTS : Fld := ⟨0x20, 0x6c, 0, 16, .ro, 0, .zero, false, .slot, 0, 65535⟩
/-- Aborted publications. -/
def TSK.TSK_COUNT1.PUB_ABORTS : Fld := ⟨0x20, 0x6c, 16, 16, .ro, 0, .zero, false, .slot, 0, 65535⟩
/-- Cycles of the last scan that ended in any way, saturating at 0xFFFF_FFFF. -/
def TSK.TSK_EXEC_LAST.EXEC_LAST : Fld := ⟨0x20, 0x70, 0, 32, .ro, 0, .std, false, .slot, 0, 4294967295⟩
/-- Highest EXEC_LAST since EXEC_CLR or the last restart. -/
def TSK.TSK_EXEC_MAX.EXEC_MAX : Fld := ⟨0x20, 0x74, 0, 32, .ro, 0, .zero, false, .slot, 0, 4294967295⟩
/-- Bound source number (R123). -/
def TSK.EV_BIND0.SRC : Fld := ⟨0x20, 0x78, 0, 11, .rws, 0, .cfg, false, .slot, 0, 2047⟩
/-- Bound source number (R123). -/
def TSK.EV_BIND1.SRC : Fld := ⟨0x20, 0x7c, 0, 11, .rws, 0, .cfg, false, .slot, 0, 2047⟩
/-- Bound source number (R123). -/
def TSK.EV_BIND2.SRC : Fld := ⟨0x20, 0x80, 0, 11, .rws, 0, .cfg, false, .slot, 0, 2047⟩
/-- Bound source number (R123). -/
def TSK.EV_BIND3.SRC : Fld := ⟨0x20, 0x84, 0, 11, .rws, 0, .cfg, false, .slot, 0, 2047⟩
/-- 1 when position i is bound. Bits [31:16] are reserved. -/
def TSK.EV_BIND0.VALID : Fld := ⟨0x20, 0x78, 15, 1, .rws, 0, .cfg, false, .slot, 0, 1⟩
/-- 1 when position i is bound. Bits [31:16] are reserved. -/
def TSK.EV_BIND1.VALID : Fld := ⟨0x20, 0x7c, 15, 1, .rws, 0, .cfg, false, .slot, 0, 1⟩
/-- 1 when position i is bound. Bits [31:16] are reserved. -/
def TSK.EV_BIND2.VALID : Fld := ⟨0x20, 0x80, 15, 1, .rws, 0, .cfg, false, .slot, 0, 1⟩
/-- 1 when position i is bound. Bits [31:16] are reserved. -/
def TSK.EV_BIND3.VALID : Fld := ⟨0x20, 0x84, 15, 1, .rws, 0, .cfg, false, .slot, 0, 1⟩
/-- Pending count (R121). -/
def TSK.EV_STATE.COUNT : Fld := ⟨0x20, 0x88, 0, 8, .ro, 0, .zero, false, .slot, 0, 255⟩
/-- Binding positions that delivered. -/
def TSK.EV_STATE.MASK : Fld := ⟨0x20, 0x88, 8, 4, .ro, 0, .zero, false, .slot, 0, 15⟩
/-- COUNT saturated. -/
def TSK.EV_STATE.OVF : Fld := ⟨0x20, 0x88, 12, 1, .ro, 0, .zero, false, .slot, 0, 1⟩
/-- The input is pending. Bits [31:17] are reserved. -/
def TSK.EV_STATE.PEND : Fld := ⟨0x20, 0x88, 16, 1, .ro, 0, .zero, false, .slot, 0, 1⟩
/-- Retentive timer entries 0 to T_RET − 1, where T_RET is 0–1,024. A commit with T_RET … -/
def TSK.RET_CFG.T_RET : Fld := ⟨0x20, 0x8c, 0, 11, .rws, 0, .cfg, true, .slot, 0, 1024⟩
/-- Retentive counter entries, 0–1,024, checked as T_RET is. -/
def TSK.RET_CFG.C_RET : Fld := ⟨0x20, 0x8c, 16, 11, .rws, 0, .cfg, true, .slot, 0, 1024⟩
/-- 1: the slot restarts warm after power-on (R129). -/
def TSK.RET_CFG.PO_WARM : Fld := ⟨0x20, 0x8c, 31, 1, .rws, 0, .cfg, true, .slot, 0, 1⟩
/-- Selected force entry, 0–255. Bits [31:8] are reserved. -/
def TSK.FORCE_SEL.ENTRY : Fld := ⟨0x20, 0x90, 0, 8, .rw, 0, .std, false, .req, 0, 255⟩
/-- Word address in the slot's I or Q window. A commit with a word outside the window fails … -/
def TSK.FORCE_TGT.WORD : Fld := ⟨0x20, 0x94, 0, 15, .rws, 0, .zero, false, .force, 0, 32767⟩
/-- 0: I, 1: Q. -/
def TSK.FORCE_TGT.AREA : Fld := ⟨0x20, 0x94, 16, 1, .rws, 0, .zero, false, .force, 0, 1⟩
/-- Target slot. -/
def TSK.FORCE_TGT.SLOT : Fld := ⟨0x20, 0x94, 17, 3, .rws, 0, .zero, false, .force, 0, 7⟩
/-- 1 keeps the entry applied under MOD_FIRE. -/
def TSK.FORCE_TGT.FIRE_KEEP : Fld := ⟨0x20, 0x94, 30, 1, .rws, 0, .zero, false, .force, 0, 1⟩
/-- 1 makes the entry valid. -/
def TSK.FORCE_TGT.VALID : Fld := ⟨0x20, 0x94, 31, 1, .rws, 0, .zero, false, .force, 0, 1⟩
/-- Bits overridden. -/
def TSK.FORCE_MASK.MASK : Fld := ⟨0x20, 0x98, 0, 32, .rws, 0, .zero, false, .force, 0, 4294967295⟩
/-- Forced values. -/
def TSK.FORCE_VAL.VALUE : Fld := ⟨0x20, 0x9c, 0, 32, .rws, 0, .zero, false, .force, 0, 4294967295⟩
/-- Active entries, 0–256. -/
def TSK.FORCE_STAT.ACTIVE : Fld := ⟨0x20, 0xa0, 0, 9, .ro, 0, .std, false, .none, 0, 511⟩
/-- Force-table generation (R127), incremented once at each tick boundary with a commit … -/
def TSK.FORCE_STAT.GEN : Fld := ⟨0x20, 0xa0, 16, 16, .ro, 0, .std, false, .none, 0, 65535⟩

/-- The fields of page TSK. -/
def tskFields : List Fld :=
  [TSK.SLOT_SEL.SLOT, TSK.TSK_CFG.KIND, TSK.TSK_CFG.PRIO, TSK.TSK_CFG.LS, TSK.TSK_CFG.TIN, TSK.TSK_CFG.RUN, TSK.TSK_PERIOD.PERIOD, TSK.TSK_PHASE.PHASE] ++
  [TSK.TSK_LIMITS.WDOG, TSK.TSK_LIMITS.FAULT_STOP, TSK.TSK_LIMITS.OVR_STOP, TSK.TSK_CMD.RESUME, TSK.TSK_CMD.EXEC_CLR, TSK.TSK_STAT.STATE, TSK.TSK_STAT.BANK, TSK.TSK_STAT.FIRST] ++
  [TSK.TSK_STAT.CONSEC, TSK.TSK_ALERT.OVERRUN, TSK.TSK_ALERT.FAULT, TSK.TSK_ALERT.MISSED, TSK.TSK_ALERT.STOPPED, TSK.TSK_ALERT.PUB_ABORT, TSK.TSK_ALERT.CAP_SLOW, TSK.TSK_ALERT.COLD_FALLBACK] ++
  [TSK.TSK_ALERT.RTC_LOST, TSK.TSK_ALERT.EV_OVF, TSK.TSK_REL_L.REL_L, TSK.TSK_REL_H.REL_H, TSK.TSK_COUNT0.OVERRUNS, TSK.TSK_COUNT0.MISSED, TSK.TSK_COUNT1.FAULTS, TSK.TSK_COUNT1.PUB_ABORTS] ++
  [TSK.TSK_EXEC_LAST.EXEC_LAST, TSK.TSK_EXEC_MAX.EXEC_MAX, TSK.EV_BIND0.SRC, TSK.EV_BIND1.SRC, TSK.EV_BIND2.SRC, TSK.EV_BIND3.SRC, TSK.EV_BIND0.VALID, TSK.EV_BIND1.VALID] ++
  [TSK.EV_BIND2.VALID, TSK.EV_BIND3.VALID, TSK.EV_STATE.COUNT, TSK.EV_STATE.MASK, TSK.EV_STATE.OVF, TSK.EV_STATE.PEND, TSK.RET_CFG.T_RET, TSK.RET_CFG.C_RET] ++
  [TSK.RET_CFG.PO_WARM, TSK.FORCE_SEL.ENTRY, TSK.FORCE_TGT.WORD, TSK.FORCE_TGT.AREA, TSK.FORCE_TGT.SLOT, TSK.FORCE_TGT.FIRE_KEEP, TSK.FORCE_TGT.VALID, TSK.FORCE_MASK.MASK] ++
  [TSK.FORCE_VAL.VALUE, TSK.FORCE_STAT.ACTIVE, TSK.FORCE_STAT.GEN]

/-! Page BAT -/
/-- Writing 1 opens a batch (R149). -/
def BAT.BAT_OPEN.OPEN : Fld := ⟨0x2, 0x40, 0, 1, .wo, 0, .std, false, .none, 0, 1⟩
/-- 1: the batch may span modules (R160). -/
def BAT.BAT_OPEN.XMOD : Fld := ⟨0x2, 0x40, 1, 1, .wo, 0, .std, false, .none, 0, 1⟩
/-- 1 COMMIT_AT, 2 COMMIT_NOW, 3 ABORT, 4 ABORT_SEL (R150, R156). Other values are refused … -/
def BAT.BAT_CMD.OP : Fld := ⟨0x2, 0x44, 0, 3, .wo, 0, .std, false, .none, 0, 7⟩
/-- Commit tick for COMMIT_AT [31:0]. -/
def BAT.BAT_CTICK_L.CTICK_L : Fld := ⟨0x2, 0x48, 0, 32, .rw, 0, .std, false, .req, 0, 4294967295⟩
/-- Commit tick [63:32]. -/
def BAT.BAT_CTICK_H.CTICK_H : Fld := ⟨0x2, 0x4c, 0, 32, .rw, 0, .std, false, .req, 0, 4294967295⟩
/-- Selected batch ID. Bits [31:6] are reserved. -/
def BAT.BAT_SEL.ID : Fld := ⟨0x2, 0x50, 0, 6, .rw, 0, .std, false, .req, 0, 63⟩
/-- State from R148. -/
def BAT.BAT_STATE.STATE : Fld := ⟨0x2, 0x54, 0, 3, .ro, 0, .std, false, .bat, 0, 7⟩
/-- Batch may span modules. -/
def BAT.BAT_STATE.XMOD : Fld := ⟨0x2, 0x54, 3, 1, .ro, 0, .std, false, .bat, 0, 1⟩
/-- Class: 1 LS, 0 N. -/
def BAT.BAT_STATE.LS : Fld := ⟨0x2, 0x54, 4, 1, .ro, 0, .std, false, .bat, 0, 1⟩
/-- Part of a cross-module batch coordinated by a peer. -/
def BAT.BAT_STATE.REMOTE : Fld := ⟨0x2, 0x54, 5, 1, .ro, 0, .std, false, .bat, 0, 1⟩
/-- Tin of the opener. -/
def BAT.BAT_STATE.TIN : Fld := ⟨0x2, 0x54, 8, 8, .ro, 0, .std, false, .bat, 0, 255⟩
/-- Staged entries, 0–4,096. -/
def BAT.BAT_STATE.ENTRIES : Fld := ⟨0x2, 0x54, 16, 13, .ro, 0, .std, false, .bat, 0, 8191⟩
/-- Commit tick [31:0]. -/
def BAT.BAT_STICK_L.STICK_L : Fld := ⟨0x2, 0x58, 0, 32, .ro, 0, .std, false, .bat, 0, 4294967295⟩
/-- Commit tick [63:32]. -/
def BAT.BAT_STICK_H.STICK_H : Fld := ⟨0x2, 0x5c, 0, 32, .ro, 0, .std, false, .bat, 0, 4294967295⟩
/-- Batch ID. -/
def BAT.BAT_RESULT.ID : Fld := ⟨0x2, 0x60, 0, 6, .ro, 0, .std, false, .req, 0, 63⟩
/-- 1 committed, 0 aborted. -/
def BAT.BAT_RESULT.COMMITTED : Fld := ⟨0x2, 0x60, 7, 1, .ro, 0, .std, false, .req, 0, 1⟩
/-- Abort code, as R151 and R158 state; 0x00 when committed. -/
def BAT.BAT_RESULT.CODE : Fld := ⟨0x2, 0x60, 8, 8, .ro, 0, .std, false, .req, 0, 255⟩
/-- Module ID of the participant whose refusal or missing confirmation aborted the batch; 0 … -/
def BAT.BAT_RESULT.PEER : Fld := ⟨0x2, 0x60, 16, 8, .ro, 0, .std, false, .req, 0, 255⟩
/-- Free staged entries, 0–4,096. -/
def BAT.BAT_POOL.FREE_ENTRIES : Fld := ⟨0x2, 0x64, 0, 13, .ro, 4096, .std, false, .none, 0, 8191⟩
/-- Free batch IDs, 0–64. -/
def BAT.BAT_POOL.FREE_IDS : Fld := ⟨0x2, 0x64, 16, 7, .ro, 64, .std, false, .none, 0, 127⟩
/-- Entries kept for fixed batches, 0–2,048. A larger value is refused with ERR_CODE 0x08. -/
def BAT.BAT_CFG.RESERVE : Fld := ⟨0x2, 0x68, 0, 12, .rwl, 1024, .cfgKeep, false, .none, 0, 2048⟩
/-- Ticks from opening to commit request (R151), 1–65,535. A write of 0 is refused with … -/
def BAT.BAT_CFG.OPEN_LIMIT : Fld := ⟨0x2, 0x68, 16, 16, .rwl, 40000, .cfgKeep, false, .none, 1, 65535⟩
/-- Free credits, 0–128. -/
def BAT.LOOP_Q_CREDIT.CREDITS : Fld := ⟨0x2, 0x6c, 0, 16, .ro, 128, .std, false, .none, 0, 65535⟩
/-- 1 while CREDITS is 0. -/
def BAT.LOOP_Q_CREDIT.EMPTY : Fld := ⟨0x2, 0x6c, 31, 1, .ro, 0, .std, false, .none, 0, 1⟩
/-- Opened and single-entry batches committed. -/
def BAT.BAT_COUNT0.COMMITS : Fld := ⟨0x2, 0x70, 0, 16, .ro, 0, .zero, false, .none, 0, 65535⟩
/-- Opened and single-entry batches aborted. -/
def BAT.BAT_COUNT0.ABORTS : Fld := ⟨0x2, 0x70, 16, 16, .ro, 0, .zero, false, .none, 0, 65535⟩
/-- Cross-module batches aborted. -/
def BAT.BAT_COUNT1.XMOD_ABORTS : Fld := ⟨0x2, 0x74, 0, 16, .ro, 0, .zero, false, .none, 0, 65535⟩
/-- Split outcomes (R164, R165). -/
def BAT.BAT_COUNT1.SPLITS : Fld := ⟨0x2, 0x74, 16, 8, .ro, 0, .zero, false, .none, 0, 255⟩
/-- Fixed-batch collisions (R154). -/
def BAT.BAT_COUNT1.COLLIDE : Fld := ⟨0x2, 0x74, 24, 8, .ro, 0, .zero, false, .none, 0, 255⟩

/-- The fields of page BAT. -/
def batFields : List Fld :=
  [BAT.BAT_OPEN.OPEN, BAT.BAT_OPEN.XMOD, BAT.BAT_CMD.OP, BAT.BAT_CTICK_L.CTICK_L, BAT.BAT_CTICK_H.CTICK_H, BAT.BAT_SEL.ID, BAT.BAT_STATE.STATE, BAT.BAT_STATE.XMOD] ++
  [BAT.BAT_STATE.LS, BAT.BAT_STATE.REMOTE, BAT.BAT_STATE.TIN, BAT.BAT_STATE.ENTRIES, BAT.BAT_STICK_L.STICK_L, BAT.BAT_STICK_H.STICK_H, BAT.BAT_RESULT.ID, BAT.BAT_RESULT.COMMITTED] ++
  [BAT.BAT_RESULT.CODE, BAT.BAT_RESULT.PEER, BAT.BAT_POOL.FREE_ENTRIES, BAT.BAT_POOL.FREE_IDS, BAT.BAT_CFG.RESERVE, BAT.BAT_CFG.OPEN_LIMIT, BAT.LOOP_Q_CREDIT.CREDITS, BAT.LOOP_Q_CREDIT.EMPTY] ++
  [BAT.BAT_COUNT0.COMMITS, BAT.BAT_COUNT0.ABORTS, BAT.BAT_COUNT1.XMOD_ABORTS, BAT.BAT_COUNT1.SPLITS, BAT.BAT_COUNT1.COLLIDE]

/-! Page RISE -/
/-- Maximum spread, 1–32 steps. A staging outside that range fails with ERR_CODE 0x08. … -/
def RISE.RISE_CFG.SPREAD : Fld := ⟨0x3, 0x40, 0, 6, .rws, 1, .cfgKeep, true, .none, 1, 32⟩
/-- Bits [2d + 17:2d + 16] give the supply group of DIO slice d: 0 FS1, 1 FS2, 2 FS3. A … -/
def RISE.RISE_CFG.FS_MAP : Fld := ⟨0x3, 0x40, 16, 12, .rws, 0, .cfgKeep, true, .none, 0, 4095⟩
/-- Budget, 0–10,000 mA per step; 0 disables spreading for the group. A larger value fails … -/
def RISE.RISE_FS1.BUDGET : Fld := ⟨0x3, 0x44, 0, 14, .rws, 0, .cfgKeep, true, .none, 0, 10000⟩
/-- Budget, 0–10,000 mA per step; 0 disables spreading for the group. A larger value fails … -/
def RISE.RISE_FS2.BUDGET : Fld := ⟨0x3, 0x48, 0, 14, .rws, 0, .cfgKeep, true, .none, 0, 10000⟩
/-- Budget, 0–10,000 mA per step; 0 disables spreading for the group. A larger value fails … -/
def RISE.RISE_FS3.BUDGET : Fld := ⟨0x3, 0x4c, 0, 14, .rws, 0, .cfgKeep, true, .none, 0, 10000⟩
/-- Load of the group's last step that switched anything on, in mA, saturating at 16,383. -/
def RISE.RISE_FS1.LAST : Fld := ⟨0x3, 0x44, 16, 14, .ro, 0, .std, false, .none, 0, 16383⟩
/-- Load of the group's last step that switched anything on, in mA, saturating at 16,383. -/
def RISE.RISE_FS2.LAST : Fld := ⟨0x3, 0x48, 16, 14, .ro, 0, .std, false, .none, 0, 16383⟩
/-- Load of the group's last step that switched anything on, in mA, saturating at 16,383. -/
def RISE.RISE_FS3.LAST : Fld := ⟨0x3, 0x4c, 16, 14, .ro, 0, .std, false, .none, 0, 16383⟩
/-- Channel 0–95, numbered slice × 16 + channel. A value of 96–127 is refused with ERR_CODE … -/
def RISE.RISE_CH_SEL.CH : Fld := ⟨0x3, 0x50, 0, 7, .rw, 0, .std, false, .req, 0, 95⟩
/-- Expected inrush, 0–4,095 mA. -/
def RISE.RISE_CH.INRUSH : Fld := ⟨0x3, 0x54, 0, 12, .rws, 0, .cfgKeep, false, .riseCh, 0, 4095⟩
/-- 1 while the channel is pending. -/
def RISE.RISE_CH.PENDING : Fld := ⟨0x3, 0x54, 16, 1, .ro, 0, .std, false, .riseCh, 0, 1⟩
/-- Outputs now pending, 0–96. -/
def RISE.RISE_STAT.PENDING : Fld := ⟨0x3, 0x58, 0, 7, .ro, 0, .std, false, .none, 0, 127⟩
/-- Steps after its commit at which the last output of the most recent spread commit … -/
def RISE.RISE_STAT.LAST_SPREAD : Fld := ⟨0x3, 0x58, 8, 5, .ro, 0, .std, false, .none, 0, 31⟩
/-- Steps over budget, saturating at 65,535. CR: 0. -/
def RISE.RISE_STAT.OVER : Fld := ⟨0x3, 0x58, 16, 16, .ro, 0, .std, false, .none, 0, 65535⟩
/-- Islands woken at the last start, 0–31. -/
def RISE.RISE_WAKE.WOKEN : Fld := ⟨0x3, 0x5c, 0, 5, .ro, 0, .std, false, .none, 0, 31⟩
/-- Wake slots used, 0–8. -/
def RISE.RISE_WAKE.SLOTS : Fld := ⟨0x3, 0x5c, 8, 4, .ro, 0, .std, false, .none, 0, 15⟩

/-- The fields of page RISE. -/
def riseFields : List Fld :=
  [RISE.RISE_CFG.SPREAD, RISE.RISE_CFG.FS_MAP, RISE.RISE_FS1.BUDGET, RISE.RISE_FS2.BUDGET, RISE.RISE_FS3.BUDGET, RISE.RISE_FS1.LAST, RISE.RISE_FS2.LAST, RISE.RISE_FS3.LAST] ++
  [RISE.RISE_CH_SEL.CH, RISE.RISE_CH.INRUSH, RISE.RISE_CH.PENDING, RISE.RISE_STAT.PENDING, RISE.RISE_STAT.LAST_SPREAD, RISE.RISE_STAT.OVER, RISE.RISE_WAKE.WOKEN, RISE.RISE_WAKE.SLOTS]

/-! Page XLT -/
/-- Staging 1 requests a swap at the batch's commit tick (R188). Reads 0 after the swap. -/
def XLT.XLT_CTRL.SWAP : Fld := ⟨0x40, 0x40, 0, 1, .rws, 0, .std, false, .none, 0, 1⟩
/-- 1 opens SHADOW to the rebuild (R187). Writable only by the supervisor firmware; other … -/
def XLT.XLT_CTRL.SHADOW_OPEN : Fld := ⟨0x40, 0x40, 1, 1, .rw, 0, .std, false, .none, 0, 1⟩
/-- Writing 1 starts a prewarm (R191). -/
def XLT.XLT_CTRL.PW_START : Fld := ⟨0x40, 0x40, 2, 1, .wo, 0, .std, false, .none, 0, 1⟩
/-- Active root: 0 ROOT0, 1 ROOT1. SW: kept. -/
def XLT.XLT_STAT.ACTIVE : Fld := ⟨0x40, 0x44, 0, 1, .ro, 0, .std, false, .none, 0, 1⟩
/-- Current generation, 0–15. -/
def XLT.XLT_STAT.GEN : Fld := ⟨0x40, 0x44, 4, 4, .ro, 0, .std, false, .none, 0, 15⟩
/-- 1 while the old generation is in use (R189). -/
def XLT.XLT_STAT.HOLD_OLD : Fld := ⟨0x40, 0x44, 8, 1, .ro, 0, .std, false, .none, 0, 1⟩
/-- 1 while a sweep runs. -/
def XLT.XLT_STAT.SWEEP : Fld := ⟨0x40, 0x44, 9, 1, .ro, 0, .std, false, .none, 0, 1⟩
/-- 1 while a prewarm runs. -/
def XLT.XLT_STAT.PW_BUSY : Fld := ⟨0x40, 0x44, 10, 1, .ro, 0, .std, false, .none, 0, 1⟩
/-- Dual writes held in the overlay, 0–64. -/
def XLT.XLT_STAT.OVERLAY : Fld := ⟨0x40, 0x44, 12, 7, .ro, 0, .std, false, .none, 0, 127⟩
/-- First page of table memory (R176). -/
def XLT.XLT_TBL_BASE.BASE : Fld := ⟨0x40, 0x48, 0, 28, .rwl, 0, .cfgKeep, false, .none, 0, 268435455⟩
/-- Page following the last page of table memory. -/
def XLT.XLT_TBL_LIMIT.LIMIT : Fld := ⟨0x40, 0x4c, 0, 28, .rwl, 0, .cfgKeep, false, .none, 0, 268435455⟩
/-- Root table page of root 0. Writable only while it is SHADOW and SHADOW_OPEN is 1; … -/
def XLT.XLT_ROOT0.ROOT0 : Fld := ⟨0x40, 0x50, 0, 28, .rw, 0, .cfgKeep, false, .none, 0, 268435455⟩
/-- Root table page of root 1, under the same rule. -/
def XLT.XLT_ROOT1.ROOT1 : Fld := ⟨0x40, 0x54, 0, 28, .rw, 0, .cfgKeep, false, .none, 0, 268435455⟩
/-- Physical address [39:12] of the prewarm list, which must lie in table memory; otherwise … -/
def XLT.XLT_PW_BASE.PW_BASE : Fld := ⟨0x40, 0x58, 0, 28, .rw, 0, .std, false, .none, 0, 268435455⟩
/-- Addresses in the list, 0–1,024. -/
def XLT.XLT_PW_COUNT.COUNT : Fld := ⟨0x40, 0x5c, 0, 11, .rw, 0, .std, false, .none, 0, 1024⟩
/-- Prewarm walks that faulted in the last prewarm. -/
def XLT.XLT_PW_COUNT.FAILED : Fld := ⟨0x40, 0x5c, 16, 11, .ro, 0, .std, false, .none, 0, 2047⟩
/-- Largest COUNT accepted, 0–1,024. A larger value is refused with ERR_CODE 0x08. -/
def XLT.XLT_CFG.PW_MAX : Fld := ⟨0x40, 0x60, 0, 11, .rwl, 1024, .cfgKeep, false, .none, 0, 1024⟩
/-- Tower address [31:12] of the leaf to replace. Bits [11:0] are reserved. -/
def XLT.XLT_DW_ADDR_L.ADDR_L : Fld := ⟨0x40, 0x64, 12, 20, .rw, 0, .std, false, .req, 0, 1048575⟩
/-- Tower address [47:32]. Bits [31:16] are reserved. -/
def XLT.XLT_DW_ADDR_H.ADDR_H : Fld := ⟨0x40, 0x68, 0, 16, .rw, 0, .std, false, .req, 0, 65535⟩
/-- Leaf bits [31:0]. Writing it stages one dual write carrying both halves (R37, R190). … -/
def XLT.XLT_DW_LEAF_L.LEAF_L : Fld := ⟨0x40, 0x6c, 0, 32, .rws, 0, .std, false, .none, 0, 4294967295⟩
/-- Leaf bits [63:32]. -/
def XLT.XLT_DW_LEAF_H.LEAF_H : Fld := ⟨0x40, 0x70, 0, 32, .rws, 0, .std, false, .none, 0, 4294967295⟩
/-- Selected unit ID. Bits [31:12] are reserved. -/
def XLT.XLT_DOM_SEL.UNIT : Fld := ⟨0x40, 0x74, 0, 12, .rw, 0, .std, false, .req, 0, 4095⟩
/-- 0 NONE, 1 MODULE, 2 PAIR, 3 ALIAS (R179). -/
def XLT.XLT_DOM_DATA.KIND : Fld := ⟨0x40, 0x78, 0, 2, .rws, 0, .cfgCR, false, .dom, 0, 3⟩
/-- Member unit ID for ALIAS. -/
def XLT.XLT_DOM_DATA.MEMBER : Fld := ⟨0x40, 0x78, 4, 12, .rws, 0, .cfgCR, false, .dom, 0, 4095⟩
/-- Pair or placement epoch. -/
def XLT.XLT_DOM_EPOCH.EPOCH : Fld := ⟨0x40, 0x7c, 0, 32, .rws, 0, .cfgCR, false, .dom, 0, 4294967295⟩
/-- Fault code from R181. -/
def XLT.XLT_WF_INFO.CODE : Fld := ⟨0x40, 0x80, 0, 3, .ro, 0, .std, false, .none, 0, 7⟩
/-- Level recorded under R181. -/
def XLT.XLT_WF_INFO.LEVEL : Fld := ⟨0x40, 0x80, 4, 2, .ro, 0, .std, false, .none, 0, 3⟩
/-- Domain hops made, 0–9. -/
def XLT.XLT_WF_INFO.HOPS : Fld := ⟨0x40, 0x80, 8, 4, .ro, 0, .std, false, .none, 0, 15⟩
/-- Requester kind, as under R49. -/
def XLT.XLT_WF_INFO.REQ : Fld := ⟨0x40, 0x80, 12, 4, .ro, 0, .std, false, .none, 0, 15⟩
/-- Requester's tin. -/
def XLT.XLT_WF_INFO.TIN : Fld := ⟨0x40, 0x80, 16, 8, .ro, 0, .std, false, .none, 0, 255⟩
/-- Right needed: [24] read, [25] write, [26] force, [27] configure. -/
def XLT.XLT_WF_INFO.RIGHT : Fld := ⟨0x40, 0x80, 24, 4, .ro, 0, .std, false, .none, 0, 15⟩
/-- 1 when the record holds a fault. -/
def XLT.XLT_WF_INFO.VALID : Fld := ⟨0x40, 0x80, 31, 1, .w1c, 0, .std, false, .none, 0, 1⟩
/-- Faulting tower address [31:0]. -/
def XLT.XLT_WF_ADDR_L.ADDR_L : Fld := ⟨0x40, 0x84, 0, 32, .ro, 0, .std, false, .none, 0, 4294967295⟩
/-- Faulting tower address [47:32]. Bits [31:16] are reserved. -/
def XLT.XLT_WF_ADDR_H.ADDR_H : Fld := ⟨0x40, 0x88, 0, 16, .ro, 0, .std, false, .none, 0, 65535⟩
/-- Physical address [39:12] of the table page last used or refused; 0 for WF_PERM and … -/
def XLT.XLT_WF_PTR.PTR : Fld := ⟨0x40, 0x8c, 0, 28, .ro, 0, .std, false, .none, 0, 268435455⟩
/-- WF_INVALID faults. -/
def XLT.XLT_WF_COUNT.INVALID : Fld := ⟨0x40, 0x90, 0, 8, .ro, 0, .std, false, .none, 0, 255⟩
/-- WF_PERM faults. -/
def XLT.XLT_WF_COUNT.PERM : Fld := ⟨0x40, 0x90, 8, 8, .ro, 0, .std, false, .none, 0, 255⟩
/-- WF_DEVICE faults. -/
def XLT.XLT_WF_COUNT.DEVICE : Fld := ⟨0x40, 0x90, 16, 8, .ro, 0, .std, false, .none, 0, 255⟩
/-- WF_DEPTH and WF_ECC faults. -/
def XLT.XLT_WF_COUNT.DEPTH_ECC : Fld := ⟨0x40, 0x90, 24, 8, .ro, 0, .std, false, .none, 0, 255⟩
/-- Corrected table memory errors. -/
def XLT.XLT_ECC.CORR : Fld := ⟨0x40, 0x94, 0, 16, .ro, 0, .std, false, .none, 0, 65535⟩
/-- Share of time the walker serves foreground walks, 0–1,000 ‰. -/
def XLT.XLT_LOAD.LOAD : Fld := ⟨0x40, 0x98, 0, 10, .ro, 0, .std, false, .none, 0, 1023⟩
/-- Fixed part F of the last capture, in units of 10 ns. -/
def XLT.XLT_CAP.FIXED : Fld := ⟨0x40, 0x9c, 0, 16, .ro, 0, .std, false, .none, 0, 65535⟩
/-- Duration of the last capture, in units of 10 ns. -/
def XLT.XLT_CAP.LAST : Fld := ⟨0x40, 0x9c, 16, 16, .ro, 0, .std, false, .none, 0, 65535⟩
/-- Free credits of the translation-to-image-builder queue (R11). -/
def XLT.IMG_Q_CREDIT.CREDITS : Fld := ⟨0x40, 0xa0, 0, 16, .ro, 1024, .std, false, .none, 0, 65535⟩
/-- 1 while CREDITS is 0. -/
def XLT.IMG_Q_CREDIT.EMPTY : Fld := ⟨0x40, 0xa0, 31, 1, .ro, 0, .std, false, .none, 0, 1⟩

/-- The fields of page XLT. -/
def xltFields : List Fld :=
  [XLT.XLT_CTRL.SWAP, XLT.XLT_CTRL.SHADOW_OPEN, XLT.XLT_CTRL.PW_START, XLT.XLT_STAT.ACTIVE, XLT.XLT_STAT.GEN, XLT.XLT_STAT.HOLD_OLD, XLT.XLT_STAT.SWEEP, XLT.XLT_STAT.PW_BUSY] ++
  [XLT.XLT_STAT.OVERLAY, XLT.XLT_TBL_BASE.BASE, XLT.XLT_TBL_LIMIT.LIMIT, XLT.XLT_ROOT0.ROOT0, XLT.XLT_ROOT1.ROOT1, XLT.XLT_PW_BASE.PW_BASE, XLT.XLT_PW_COUNT.COUNT, XLT.XLT_PW_COUNT.FAILED] ++
  [XLT.XLT_CFG.PW_MAX, XLT.XLT_DW_ADDR_L.ADDR_L, XLT.XLT_DW_ADDR_H.ADDR_H, XLT.XLT_DW_LEAF_L.LEAF_L, XLT.XLT_DW_LEAF_H.LEAF_H, XLT.XLT_DOM_SEL.UNIT, XLT.XLT_DOM_DATA.KIND, XLT.XLT_DOM_DATA.MEMBER] ++
  [XLT.XLT_DOM_EPOCH.EPOCH, XLT.XLT_WF_INFO.CODE, XLT.XLT_WF_INFO.LEVEL, XLT.XLT_WF_INFO.HOPS, XLT.XLT_WF_INFO.REQ, XLT.XLT_WF_INFO.TIN, XLT.XLT_WF_INFO.RIGHT, XLT.XLT_WF_INFO.VALID] ++
  [XLT.XLT_WF_ADDR_L.ADDR_L, XLT.XLT_WF_ADDR_H.ADDR_H, XLT.XLT_WF_PTR.PTR, XLT.XLT_WF_COUNT.INVALID, XLT.XLT_WF_COUNT.PERM, XLT.XLT_WF_COUNT.DEVICE, XLT.XLT_WF_COUNT.DEPTH_ECC, XLT.XLT_ECC.CORR] ++
  [XLT.XLT_LOAD.LOAD, XLT.XLT_CAP.FIXED, XLT.XLT_CAP.LAST, XLT.IMG_Q_CREDIT.CREDITS, XLT.IMG_Q_CREDIT.EMPTY]

/-! Page TIN -/
/-- Selected active-tin entry, 0–63. Bits [31:6] are reserved. -/
def TIN.TIN_SEL.ENTRY : Fld := ⟨0x41, 0x40, 0, 6, .rw, 0, .std, false, .req, 0, 63⟩
/-- Tin held by the entry. Fixed at 0 for entry 0 and at 1 for entry 1. Stagings that would … -/
def TIN.TIN_ENTRY.TIN : Fld := ⟨0x41, 0x44, 0, 8, .rws, 0, .cfgCR, false, .tin, 0, 255⟩
/-- 1 when the entry is in use. Fixed at 1 for entries 0 and 1. -/
def TIN.TIN_ENTRY.VALID : Fld := ⟨0x41, 0x44, 8, 1, .rws, 0, .cfgCR, false, .tin, 0, 1⟩
/-- Rights of tin 0 over other tins' leaves: [0] read, [1] write, [2] force, [3] configure. -/
def TIN.TIN_GRANT.OPER : Fld := ⟨0x41, 0x48, 0, 4, .rwl, 9, .cfgCR, false, .none, 0, 15⟩
/-- Rights of tin 1 over other tins' class LS leaves, in the same order. -/
def TIN.TIN_GRANT.LS : Fld := ⟨0x41, 0x48, 4, 4, .rwl, 7, .cfgCR, false, .none, 0, 15⟩
/-- Refusals under R185, R193 and R194 of requesters of the selected entry's tin, … -/
def TIN.TIN_DENY.DENY : Fld := ⟨0x41, 0x4c, 0, 16, .ro, 0, .std, false, .tin, 0, 65535⟩

/-- The fields of page TIN. -/
def tinFields : List Fld :=
  [TIN.TIN_SEL.ENTRY, TIN.TIN_ENTRY.TIN, TIN.TIN_ENTRY.VALID, TIN.TIN_GRANT.OPER, TIN.TIN_GRANT.LS, TIN.TIN_DENY.DENY]

/-! Page LOOP -/
/-- Selected entry; loop 16p + LOOP. -/
def LOOP.LOOP_SEL.LOOP : Fld := ⟨0x30, 0x40, 0, 4, .rw, 0, .std, false, .req, 0, 15⟩
/-- Parameter set: 0 NORMAL, 1 LIFE-SAFETY. Bits [31:9] are reserved. -/
def LOOP.LOOP_SEL.SET : Fld := ⟨0x30, 0x40, 8, 1, .rw, 0, .std, false, .req, 0, 1⟩
/-- 0 unused, 1 two-position, 2 three-position; 3 fails with ERR_CODE 0x08. Coefficient. -/
def LOOP.LOOP_CFG.KIND : Fld := ⟨0x30, 0x44, 0, 2, .rws, 0, .cfg, false, .loop, 0, 2⟩
/-- 0: on/open raises PV; 1: lowers it. Coefficient. -/
def LOOP.LOOP_CFG.DIR : Fld := ⟨0x30, 0x44, 2, 1, .rws, 0, .cfg, false, .loop, 0, 1⟩
/-- Class: 1 LS, 0 N. Coefficient. -/
def LOOP.LOOP_CFG.LS : Fld := ⟨0x30, 0x44, 3, 1, .rws, 0, .cfg, false, .loop, 0, 1⟩
/-- 1: MOD_FIRE requests LIFE-SAFETY (R217). -/
def LOOP.LOOP_CFG.FIRE_LS : Fld := ⟨0x30, 0x44, 4, 1, .rws, 0, .cfg, false, .loop, 0, 1⟩
/-- 1: MOD_FIRE entry makes the loop CLOSED. -/
def LOOP.LOOP_CFG.FIRE_CLOSE : Fld := ⟨0x30, 0x44, 5, 1, .rws, 0, .cfg, false, .loop, 0, 1⟩
/-- 1 enables the plausibility test. -/
def LOOP.LOOP_CFG.PLAUS_EN : Fld := ⟨0x30, 0x44, 6, 1, .rws, 0, .cfg, false, .loop, 0, 1⟩
/-- 1: member of GROUP. Coefficient. -/
def LOOP.LOOP_CFG.GRP_EN : Fld := ⟨0x30, 0x44, 7, 1, .rws, 0, .cfg, false, .loop, 0, 1⟩
/-- Group 0–31. Coefficient. -/
def LOOP.LOOP_CFG.GROUP : Fld := ⟨0x30, 0x44, 8, 5, .rws, 0, .cfg, false, .loop, 0, 31⟩
/-- Owner tin. Coefficient. -/
def LOOP.LOOP_CFG.TIN : Fld := ⟨0x30, 0x44, 16, 8, .rws, 0, .cfg, false, .loop, 0, 255⟩
/-- 1–4,000 ticks; a staging outside fails with ERR_CODE 0x08. -/
def LOOP.LOOP_PERIOD.PERIOD : Fld := ⟨0x30, 0x48, 0, 12, .rws, 1, .cfg, false, .loop, 1, 4000⟩
/-- 0 to PERIOD − 1 (R200). Bits [31:28] are reserved. -/
def LOOP.LOOP_PERIOD.PHASE : Fld := ⟨0x30, 0x48, 16, 12, .rws, 0, .cfg, false, .loop, 0, 4095⟩
/-- PV tower address [31:0]. -/
def LOOP.LOOP_PV_L.PV_L : Fld := ⟨0x30, 0x4c, 0, 32, .rws, 0, .cfg, false, .loop, 0, 4294967295⟩
/-- PV tower address [47:32]. -/
def LOOP.LOOP_PV_H.PV_H : Fld := ⟨0x30, 0x50, 0, 16, .rws, 0, .cfg, false, .loop, 0, 65535⟩
/-- Remote bound b, 1–16 ticks; a staging of 0 or of 17–31 fails with ERR_CODE 0x08. Bits … -/
def LOOP.LOOP_PV_H.BOUND : Fld := ⟨0x30, 0x50, 16, 5, .rws, 2, .cfg, false, .loop, 1, 16⟩
/-- Address [31:0] of point A, point B. -/
def LOOP.LOOP_OUTA_L.OUTA_L : Fld := ⟨0x30, 0x54, 0, 32, .rws, 0, .cfg, false, .loop, 0, 4294967295⟩
/-- Address [31:0] of point A, point B. -/
def LOOP.LOOP_OUTB_L.OUTB_L : Fld := ⟨0x30, 0x5c, 0, 32, .rws, 0, .cfg, false, .loop, 0, 4294967295⟩
/-- Address [47:32]. Bits [31:16] are reserved. -/
def LOOP.LOOP_OUTA_H.OUTA_H : Fld := ⟨0x30, 0x58, 0, 16, .rws, 0, .cfg, false, .loop, 0, 65535⟩
/-- Address [47:32]. Bits [31:16] are reserved. -/
def LOOP.LOOP_OUTB_H.OUTB_H : Fld := ⟨0x30, 0x60, 0, 16, .rws, 0, .cfg, false, .loop, 0, 65535⟩
/-- 1 CLOSED, 0 OPEN (R209). -/
def LOOP.LOOP_CTRL.CLOSED : Fld := ⟨0x30, 0x64, 0, 1, .rws, 0, .cfg, false, .loop, 0, 1⟩
/-- 1 requests LIFE-SAFETY (R217). -/
def LOOP.LOOP_CTRL.MODE_REQ : Fld := ⟨0x30, 0x64, 1, 1, .rws, 0, .cfg, false, .loop, 0, 1⟩
/-- Output code 0–2 published while OPEN. A staging of 3 fails with ERR_CODE 0x08, and so … -/
def LOOP.LOOP_CTRL.MAN_OUT : Fld := ⟨0x30, 0x64, 4, 2, .rws, 0, .std, false, .loop, 0, 2⟩
/-- Writing 1 clears FAULT and CNT (R214). Bits [31:1] are reserved. -/
def LOOP.LOOP_CMD.FAULT_CLR : Fld := ⟨0x30, 0x68, 0, 1, .wo, 0, .std, false, .loop, 0, 1⟩
/-- Setpoint, signed PV units (R211). -/
def LOOP.LOOP_SP.SP : Fld := ⟨0x30, 0x6c, 0, 32, .rws, 0, .cfg, false, .loopSet, 0, 4294967295⟩
/-- Lower setpoint limit, signed. -/
def LOOP.LOOP_SP_MIN.SP_MIN : Fld := ⟨0x30, 0x70, 0, 32, .rws, 0, .cfg, false, .loopSet, 0, 4294967295⟩
/-- Upper setpoint limit, signed. -/
def LOOP.LOOP_SP_MAX.SP_MAX : Fld := ⟨0x30, 0x74, 0, 32, .rws, 0, .cfg, false, .loopSet, 0, 4294967295⟩
/-- Band below SP, 0–65,535. -/
def LOOP.LOOP_BAND.BAND_LO : Fld := ⟨0x30, 0x78, 0, 16, .rws, 0, .cfg, false, .loopSet, 0, 65535⟩
/-- Band above SP, 0–65,535. -/
def LOOP.LOOP_BAND.BAND_HI : Fld := ⟨0x30, 0x78, 16, 16, .rws, 0, .cfg, false, .loopSet, 0, 65535⟩
/-- Minimum on, open or close time. -/
def LOOP.LOOP_TIMES.MIN_ON : Fld := ⟨0x30, 0x7c, 0, 16, .rws, 0, .cfg, false, .loopSet, 0, 65535⟩
/-- Minimum off or stop time. -/
def LOOP.LOOP_TIMES.MIN_OFF : Fld := ⟨0x30, 0x7c, 16, 16, .rws, 0, .cfg, false, .loopSet, 0, 65535⟩
/-- Full travel (R207); 0 disables. -/
def LOOP.LOOP_TRAVEL.TRAVEL : Fld := ⟨0x30, 0x80, 0, 16, .rws, 0, .cfg, false, .loopSet, 0, 65535⟩
/-- Hand-over timeout, 0–600 s; a larger value fails with ERR_CODE 0x08. Fixed at 0 in the … -/
def LOOP.LOOP_TRAVEL.HO_TIMEOUT : Fld := ⟨0x30, 0x80, 16, 10, .rws, 0, .cfg, false, .loopSet, 0, 600⟩
/-- Signed rate for output code 0, 1, 2, in PV units per second. -/
def LOOP.LOOP_GAIN0.GAIN0 : Fld := ⟨0x30, 0x84, 0, 32, .rws, 0, .cfg, false, .loopSet, 0, 4294967295⟩
/-- Signed rate for output code 0, 1, 2, in PV units per second. -/
def LOOP.LOOP_GAIN1.GAIN1 : Fld := ⟨0x30, 0x88, 0, 32, .rws, 0, .cfg, false, .loopSet, 0, 4294967295⟩
/-- Signed rate for output code 0, 1, 2, in PV units per second. -/
def LOOP.LOOP_GAIN2.GAIN2 : Fld := ⟨0x30, 0x8c, 0, 32, .rws, 0, .cfg, false, .loopSet, 0, 4294967295⟩
/-- Time constant; 0 means none. -/
def LOOP.LOOP_DYN.TAU : Fld := ⟨0x30, 0x90, 0, 16, .rws, 0, .cfg, false, .loopSet, 0, 65535⟩
/-- Dead time. -/
def LOOP.LOOP_DYN.DEAD : Fld := ⟨0x30, 0x90, 16, 16, .rws, 0, .cfg, false, .loopSet, 0, 65535⟩
/-- Residual threshold, PV units. -/
def LOOP.LOOP_PLAUS.THR : Fld := ⟨0x30, 0x94, 0, 16, .rws, 0, .cfg, false, .loopSet, 0, 65535⟩
/-- 1–255; 0 fails with ERR_CODE 0x08. -/
def LOOP.LOOP_PLAUS.PERSIST : Fld := ⟨0x30, 0x94, 16, 8, .rws, 1, .cfg, false, .loopSet, 1, 255⟩
/-- 0 HOLD, 1 SAFE, 2 OPEN_LOOP; 3 fails with ERR_CODE 0x08. -/
def LOOP.LOOP_PLAUS.FACT : Fld := ⟨0x30, 0x94, 24, 2, .rws, 0, .cfg, false, .loopSet, 0, 2⟩
/-- Output code for SAFE (R214). A staging of 3 fails with ERR_CODE 0x08. Bits [31:30] are … -/
def LOOP.LOOP_PLAUS.SAFE_OUT : Fld := ⟨0x30, 0x94, 28, 2, .rws, 0, .cfg, false, .loopSet, 0, 2⟩
/-- Return distance (R206). Bits [31:16] are reserved. -/
def LOOP.LOOP_RET.RET : Fld := ⟨0x30, 0x98, 0, 16, .rws, 0, .cfg, false, .loopSet, 0, 65535⟩
/-- Current output, or contribution for a member. -/
def LOOP.LOOP_STAT.OUT : Fld := ⟨0x30, 0x9c, 0, 2, .ro, 0, .std, false, .loop, 0, 3⟩
/-- Loop state. -/
def LOOP.LOOP_STAT.CLOSED : Fld := ⟨0x30, 0x9c, 2, 1, .ro, 0, .std, false, .loop, 0, 1⟩
/-- Mode in force: 0 NORMAL, 1 LIFE-SAFETY. -/
def LOOP.LOOP_STAT.MODE : Fld := ⟨0x30, 0x9c, 3, 1, .ro, 0, .std, false, .loop, 0, 1⟩
/-- Hand-over into NORMAL pending. -/
def LOOP.LOOP_STAT.HANDOVER_PENDING : Fld := ⟨0x30, 0x9c, 4, 1, .ro, 0, .zero, false, .loop, 0, 1⟩
/-- Plausibility fault. -/
def LOOP.LOOP_STAT.FAULT : Fld := ⟨0x30, 0x9c, 5, 1, .ro, 0, .std, false, .loop, 0, 1⟩
/-- Travel limit reached (R207). -/
def LOOP.LOOP_STAT.AT_END : Fld := ⟨0x30, 0x9c, 6, 1, .ro, 0, .std, false, .loop, 0, 1⟩
/-- Setpoint clamped (R211). -/
def LOOP.LOOP_STAT.SP_CLAMPED : Fld := ⟨0x30, 0x9c, 7, 1, .ro, 0, .std, false, .loop, 0, 1⟩
/-- Last PV late (R201). -/
def LOOP.LOOP_STAT.PV_LATE : Fld := ⟨0x30, 0x9c, 8, 1, .ro, 0, .std, false, .loop, 0, 1⟩
/-- Persistence count (R213). Bits [31:24] are reserved. -/
def LOOP.LOOP_STAT.CNT : Fld := ⟨0x30, 0x9c, 16, 8, .ro, 0, .zero, false, .loop, 0, 255⟩
/-- PV of the last on-time sample. -/
def LOOP.LOOP_PV.PV : Fld := ⟨0x30, 0xa0, 0, 32, .ro, 0, .std, false, .loop, 0, 4294967295⟩
/-- Last residual, signed. -/
def LOOP.LOOP_RES.RES : Fld := ⟨0x30, 0xa4, 0, 32, .ro, 0, .std, false, .loop, 0, 4294967295⟩
/-- A plausibility fault was raised. -/
def LOOP.LOOP_ALERT.PLAUS_FAULT : Fld := ⟨0x30, 0xa8, 0, 1, .w1c, 0, .std, false, .loop, 0, 1⟩
/-- A hand-over ended or was cancelled. -/
def LOOP.LOOP_ALERT.HANDOVER_END : Fld := ⟨0x30, 0xa8, 1, 1, .w1c, 0, .std, false, .loop, 0, 1⟩
/-- A hand-over ended by timeout. -/
def LOOP.LOOP_ALERT.HO_TIMEOUT : Fld := ⟨0x30, 0xa8, 2, 1, .w1c, 0, .std, false, .loop, 0, 1⟩
/-- A sample had a late PV. -/
def LOOP.LOOP_ALERT.PV_LATE : Fld := ⟨0x30, 0xa8, 3, 1, .w1c, 0, .std, false, .loop, 0, 1⟩
/-- An output was not published for a slice fault (R203). -/
def LOOP.LOOP_ALERT.OUT_FAULT : Fld := ⟨0x30, 0xa8, 4, 1, .w1c, 0, .std, false, .loop, 0, 1⟩
/-- An entry missed its commit (R203). -/
def LOOP.LOOP_ALERT.OUT_LATE : Fld := ⟨0x30, 0xa8, 5, 1, .w1c, 0, .std, false, .loop, 0, 1⟩
/-- The travel limit was reached. -/
def LOOP.LOOP_ALERT.AT_END : Fld := ⟨0x30, 0xa8, 6, 1, .w1c, 0, .std, false, .loop, 0, 1⟩
/-- Clamping began. Bits [31:8] are reserved. -/
def LOOP.LOOP_ALERT.SP_CLAMPED : Fld := ⟨0x30, 0xa8, 7, 1, .w1c, 0, .std, false, .loop, 0, 1⟩
/-- Commit tick of the last output change [31:0]. -/
def LOOP.LOOP_CHG_L.CHG_L : Fld := ⟨0x30, 0xac, 0, 32, .ro, 0, .zero, false, .loop, 0, 4294967295⟩
/-- Commit tick [63:32]. -/
def LOOP.LOOP_CHG_H.CHG_H : Fld := ⟨0x30, 0xb0, 0, 32, .ro, 0, .zero, false, .loop, 0, 4294967295⟩
/-- Selected group. Bits [31:5] are reserved. -/
def LOOP.GRP_SEL.GROUP : Fld := ⟨0x30, 0xb4, 0, 5, .rw, 0, .std, false, .req, 0, 31⟩
/-- Group output. -/
def LOOP.GRP_STAT.OUT : Fld := ⟨0x30, 0xb8, 0, 2, .ro, 0, .std, false, .grp, 0, 3⟩
/-- Loop number of the lead. -/
def LOOP.GRP_STAT.LEAD : Fld := ⟨0x30, 0xb8, 8, 8, .ro, 0, .std, false, .grp, 0, 255⟩
/-- Lowest-numbered member whose contribution is the group output. -/
def LOOP.GRP_STAT.WINNER : Fld := ⟨0x30, 0xb8, 16, 8, .ro, 0, .std, false, .grp, 0, 255⟩
/-- Members, 0–16. Bits [31:29] are reserved. -/
def LOOP.GRP_STAT.MEMBERS : Fld := ⟨0x30, 0xb8, 24, 5, .ro, 0, .std, false, .grp, 0, 31⟩

/-- The fields of page LOOP. -/
def loopFields : List Fld :=
  [LOOP.LOOP_SEL.LOOP, LOOP.LOOP_SEL.SET, LOOP.LOOP_CFG.KIND, LOOP.LOOP_CFG.DIR, LOOP.LOOP_CFG.LS, LOOP.LOOP_CFG.FIRE_LS, LOOP.LOOP_CFG.FIRE_CLOSE, LOOP.LOOP_CFG.PLAUS_EN] ++
  [LOOP.LOOP_CFG.GRP_EN, LOOP.LOOP_CFG.GROUP, LOOP.LOOP_CFG.TIN, LOOP.LOOP_PERIOD.PERIOD, LOOP.LOOP_PERIOD.PHASE, LOOP.LOOP_PV_L.PV_L, LOOP.LOOP_PV_H.PV_H, LOOP.LOOP_PV_H.BOUND] ++
  [LOOP.LOOP_OUTA_L.OUTA_L, LOOP.LOOP_OUTB_L.OUTB_L, LOOP.LOOP_OUTA_H.OUTA_H, LOOP.LOOP_OUTB_H.OUTB_H, LOOP.LOOP_CTRL.CLOSED, LOOP.LOOP_CTRL.MODE_REQ, LOOP.LOOP_CTRL.MAN_OUT, LOOP.LOOP_CMD.FAULT_CLR] ++
  [LOOP.LOOP_SP.SP, LOOP.LOOP_SP_MIN.SP_MIN, LOOP.LOOP_SP_MAX.SP_MAX, LOOP.LOOP_BAND.BAND_LO, LOOP.LOOP_BAND.BAND_HI, LOOP.LOOP_TIMES.MIN_ON, LOOP.LOOP_TIMES.MIN_OFF, LOOP.LOOP_TRAVEL.TRAVEL] ++
  [LOOP.LOOP_TRAVEL.HO_TIMEOUT, LOOP.LOOP_GAIN0.GAIN0, LOOP.LOOP_GAIN1.GAIN1, LOOP.LOOP_GAIN2.GAIN2, LOOP.LOOP_DYN.TAU, LOOP.LOOP_DYN.DEAD, LOOP.LOOP_PLAUS.THR, LOOP.LOOP_PLAUS.PERSIST] ++
  [LOOP.LOOP_PLAUS.FACT, LOOP.LOOP_PLAUS.SAFE_OUT, LOOP.LOOP_RET.RET, LOOP.LOOP_STAT.OUT, LOOP.LOOP_STAT.CLOSED, LOOP.LOOP_STAT.MODE, LOOP.LOOP_STAT.HANDOVER_PENDING, LOOP.LOOP_STAT.FAULT] ++
  [LOOP.LOOP_STAT.AT_END, LOOP.LOOP_STAT.SP_CLAMPED, LOOP.LOOP_STAT.PV_LATE, LOOP.LOOP_STAT.CNT, LOOP.LOOP_PV.PV, LOOP.LOOP_RES.RES, LOOP.LOOP_ALERT.PLAUS_FAULT, LOOP.LOOP_ALERT.HANDOVER_END] ++
  [LOOP.LOOP_ALERT.HO_TIMEOUT, LOOP.LOOP_ALERT.PV_LATE, LOOP.LOOP_ALERT.OUT_FAULT, LOOP.LOOP_ALERT.OUT_LATE, LOOP.LOOP_ALERT.AT_END, LOOP.LOOP_ALERT.SP_CLAMPED, LOOP.LOOP_CHG_L.CHG_L, LOOP.LOOP_CHG_H.CHG_H] ++
  [LOOP.GRP_SEL.GROUP, LOOP.GRP_STAT.OUT, LOOP.GRP_STAT.LEAD, LOOP.GRP_STAT.WINNER, LOOP.GRP_STAT.MEMBERS]

/-! Page DIO -/
/-- Selected channel. Bits [31:4] are reserved. -/
def DIO.DIO_CH_SEL.CH : Fld := ⟨0x50, 0x40, 0, 4, .rw, 0, .std, false, .req, 0, 15⟩
/-- 0 unused, 1 Type 1, 2 Type 3, 3 wire-break, 4 output (R225). -/
def DIO.DIO_CH_CFG.MODE : Fld := ⟨0x50, 0x44, 0, 3, .rws, 0, .cfg, false, .dioCh, 0, 4⟩
/-- Output class: 1 LS, 0 N. -/
def DIO.DIO_CH_CFG.LS : Fld := ⟨0x50, 0x44, 3, 1, .rws, 0, .cfg, false, .dioCh, 0, 1⟩
/-- Input filter, 0–1,000 × 10 µs; larger fails with ERR_CODE 0x08. -/
def DIO.DIO_CH_CFG.FILTER : Fld := ⟨0x50, 0x44, 4, 10, .rws, 0, .cfg, false, .dioCh, 0, 1000⟩
/-- R229. -/
def DIO.DIO_CH_CFG.EV_RISE : Fld := ⟨0x50, 0x44, 14, 1, .rws, 0, .cfg, false, .dioCh, 0, 1⟩
/-- R229. -/
def DIO.DIO_CH_CFG.EV_FALL : Fld := ⟨0x50, 0x44, 15, 1, .rws, 0, .cfg, false, .dioCh, 0, 1⟩
/-- R229. -/
def DIO.DIO_CH_CFG.EV_FAULT : Fld := ⟨0x50, 0x44, 16, 1, .rws, 0, .cfg, false, .dioCh, 0, 1⟩
/-- 0 off, 1 on, 2 hold; 3 fails with ERR_CODE 0x08. -/
def DIO.DIO_CH_CFG.SAFE : Fld := ⟨0x50, 0x44, 17, 2, .rws, 0, .cfg, false, .dioCh, 0, 2⟩
/-- R233. -/
def DIO.DIO_CH_CFG.OL_EN : Fld := ⟨0x50, 0x44, 19, 1, .rws, 0, .cfg, false, .dioCh, 0, 1⟩
/-- Live STATUS bits [8:0] of R224; bit 0 shows the live filtered value instead of QUAL. -/
def DIO.DIO_CH_STAT.LIVE : Fld := ⟨0x50, 0x48, 0, 9, .ro, 0, .std, false, .dioCh, 0, 511⟩
/-- Output current, 0–2,047 mA. Bits [31:27] are reserved. -/
def DIO.DIO_CH_STAT.CURRENT : Fld := ⟨0x50, 0x48, 16, 11, .ro, 0, .std, false, .dioCh, 0, 2047⟩
/-- Clears a latched fault (R232). Bits [31:1] are reserved. -/
def DIO.DIO_CH_CMD.CLR_FAULT : Fld := ⟨0x50, 0x4c, 0, 1, .wo, 0, .std, false, .dioCh, 0, 1⟩
/-- [0] RISE, [1] FALL, [2] WB, [3] SC, [4] OT, [5] OL, [6] OVL. Bits [31:7] are reserved. -/
def DIO.DIO_CH_ALERT.ALERT : Fld := ⟨0x50, 0x50, 0, 7, .w1c, 0, .std, false, .dioCh, 0, 127⟩
/-- Watchdog, 0–10,000 ms (R235); a staging above 10,000 fails with ERR_CODE 0x08. Locked … -/
def DIO.SLICE_CFG.TIMEOUT : Fld := ⟨0x50, 0x54, 0, 14, .rws, 0, .cfg, true, .none, 0, 10000⟩
/-- 0 automatic, 1 on command (R237). Locked by LOCK. -/
def DIO.SLICE_CFG.REARM : Fld := ⟨0x50, 0x54, 14, 1, .rws, 0, .cfg, true, .none, 0, 1⟩
/-- Supply group from RISE_CFG.FS_MAP. Bits [31:18] are reserved. -/
def DIO.SLICE_CFG.FS : Fld := ⟨0x50, 0x54, 15, 3, .ro, 0, .std, false, .none, 0, 7⟩
/-- Any staged value refreshes at commit (R235). Reads 0. -/
def DIO.SLICE_KICK.KICK : Fld := ⟨0x50, 0x58, 0, 32, .rws, 0, .std, false, .none, 0, 4294967295⟩
/-- Re-arm command (R237). Bits [31:1] are reserved. -/
def DIO.SLICE_CMD.REARM : Fld := ⟨0x50, 0x5c, 0, 1, .wo, 0, .std, false, .none, 0, 1⟩
/-- 0 RUN, 1 SAFE, 2 FAULT. -/
def DIO.DIO_STAT.STATE : Fld := ⟨0x50, 0x60, 0, 2, .ro, 1, .std, false, .none, 0, 3⟩
/-- [2] FS_LOW, [3] CONN, [4] ISL, [5] CFG, [6] DIS (R238). -/
def DIO.DIO_STAT.CAUSE : Fld := ⟨0x50, 0x60, 2, 5, .ro, 0, .std, false, .none, 0, 31⟩
/-- Slice output current, 0–16,383 mA. Bits [31:30] are reserved. -/
def DIO.DIO_STAT.LOAD : Fld := ⟨0x50, 0x60, 16, 14, .ro, 0, .std, false, .none, 0, 16383⟩
/-- Live filtered input values, bit k for channel k. Bits [31:16] are reserved. -/
def DIO.DIO_IN.IN : Fld := ⟨0x50, 0x64, 0, 16, .ro, 0, .std, false, .none, 0, 65535⟩
/-- Outputs' logical state. -/
def DIO.DIO_OUT.LOGICAL : Fld := ⟨0x50, 0x68, 0, 16, .ro, 0, .std, false, .none, 0, 65535⟩
/-- Terminal readback, bit 16 + k for channel k. -/
def DIO.DIO_OUT.PHYS : Fld := ⟨0x50, 0x68, 16, 16, .ro, 0, .std, false, .none, 0, 65535⟩

/-- The fields of page DIO. -/
def dioFields : List Fld :=
  [DIO.DIO_CH_SEL.CH, DIO.DIO_CH_CFG.MODE, DIO.DIO_CH_CFG.LS, DIO.DIO_CH_CFG.FILTER, DIO.DIO_CH_CFG.EV_RISE, DIO.DIO_CH_CFG.EV_FALL, DIO.DIO_CH_CFG.EV_FAULT, DIO.DIO_CH_CFG.SAFE] ++
  [DIO.DIO_CH_CFG.OL_EN, DIO.DIO_CH_STAT.LIVE, DIO.DIO_CH_STAT.CURRENT, DIO.DIO_CH_CMD.CLR_FAULT, DIO.DIO_CH_ALERT.ALERT, DIO.SLICE_CFG.TIMEOUT, DIO.SLICE_CFG.REARM, DIO.SLICE_CFG.FS] ++
  [DIO.SLICE_KICK.KICK, DIO.SLICE_CMD.REARM, DIO.DIO_STAT.STATE, DIO.DIO_STAT.CAUSE, DIO.DIO_STAT.LOAD, DIO.DIO_IN.IN, DIO.DIO_OUT.LOGICAL, DIO.DIO_OUT.PHYS]

/-! Page AIO -/
/-- Selected channel. Bits [31:4] are reserved. -/
def AIO.AIO_CH_SEL.CH : Fld := ⟨0x58, 0x40, 0, 4, .rw, 0, .std, false, .req, 0, 15⟩
/-- R247. -/
def AIO.AIO_CH_CFG.MODE : Fld := ⟨0x58, 0x44, 0, 4, .rws, 0, .cfg, false, .aioCh, 0, 6⟩
/-- 0: 1,000, 1: 500, 2: 100, 3: 50, 4: 10 S/s; 5–7 fail with ERR_CODE 0x08. -/
def AIO.AIO_CH_CFG.RATE : Fld := ⟨0x58, 0x44, 4, 3, .rws, 0, .cfg, false, .aioCh, 0, 4⟩
/-- Output class. -/
def AIO.AIO_CH_CFG.LS : Fld := ⟨0x58, 0x44, 7, 1, .rws, 0, .cfg, false, .aioCh, 0, 1⟩
/-- 0 zero, 1 hold, 2 SAFE_VAL; 3 fails with ERR_CODE 0x08. -/
def AIO.AIO_CH_CFG.SAFE : Fld := ⟨0x58, 0x44, 8, 2, .rws, 0, .cfg, false, .aioCh, 0, 2⟩
/-- R249. -/
def AIO.AIO_CH_CFG.EV_LIM : Fld := ⟨0x58, 0x44, 10, 1, .rws, 0, .cfg, false, .aioCh, 0, 1⟩
/-- R249. Bits [31:12] are reserved. -/
def AIO.AIO_CH_CFG.EV_FAULT : Fld := ⟨0x58, 0x44, 11, 1, .rws, 0, .cfg, false, .aioCh, 0, 1⟩
/-- Safe output value, clamped under R250. -/
def AIO.AIO_SAFE_VAL.SAFE_VAL : Fld := ⟨0x58, 0x48, 0, 32, .rws, 0, .cfg, false, .aioCh, 0, 4294967295⟩
/-- Lower limit, signed. -/
def AIO.AIO_LIM_LO.LIM_LO : Fld := ⟨0x58, 0x4c, 0, 32, .rws, 0, .cfg, false, .aioCh, 0, 4294967295⟩
/-- Upper limit, signed. A commit with LIM_LO > LIM_HI fails with ERR_CODE 0x08. -/
def AIO.AIO_LIM_HI.LIM_HI : Fld := ⟨0x58, 0x50, 0, 32, .rws, 0, .cfg, false, .aioCh, 0, 4294967295⟩
/-- Last conversion, or physical output value. -/
def AIO.AIO_CH_VAL.VAL : Fld := ⟨0x58, 0x54, 0, 32, .ro, 0, .std, false, .aioCh, 0, 4294967295⟩
/-- Live STATUS bits [9:0]. Bits [31:10] are reserved. -/
def AIO.AIO_CH_STAT.LIVE : Fld := ⟨0x58, 0x58, 0, 10, .ro, 0, .std, false, .aioCh, 0, 1023⟩
/-- [0] LIMIT, [1] WB, [2] SC, [3] RANGE. Bits [31:4] are reserved. -/
def AIO.AIO_CH_ALERT.ALERT : Fld := ⟨0x58, 0x5c, 0, 4, .w1c, 0, .std, false, .aioCh, 0, 15⟩
/-- 0 RUN, 1 SAFE, 2 FAULT. -/
def AIO.AIO_STAT.STATE : Fld := ⟨0x58, 0x60, 0, 2, .ro, 1, .std, false, .none, 0, 3⟩
/-- Fault causes (R238). -/
def AIO.AIO_STAT.CAUSE : Fld := ⟨0x58, 0x60, 2, 5, .ro, 0, .std, false, .none, 0, 31⟩
/-- Watchdog, 0–10,000 ms (R235). Locked by LOCK. -/
def AIO.SLICE_CFG.TIMEOUT : Fld := ⟨0x58, 0x64, 0, 14, .rws, 0, .cfg, true, .none, 0, 10000⟩
/-- 0 automatic, 1 on command (R237). Locked by LOCK. -/
def AIO.SLICE_CFG.REARM : Fld := ⟨0x58, 0x64, 14, 1, .rws, 0, .cfg, true, .none, 0, 1⟩
/-- Supply group, 0 FS1, 1 FS2, 2 FS3; 3 fails with ERR_CODE 0x08, and 4 to 7, which name no group, with it (DESIGN CHOICE,
assumption 138). Locked by LOCK. -/
def AIO.SLICE_CFG.FS : Fld := ⟨0x58, 0x64, 15, 3, .rws, 0, .cfg, true, .none, 0, 2⟩
/-- Any staged value refreshes at commit (R235). Reads 0. -/
def AIO.SLICE_KICK.KICK : Fld := ⟨0x58, 0x68, 0, 32, .rws, 0, .cfg, false, .none, 0, 4294967295⟩
/-- Re-arm command (R237). -/
def AIO.SLICE_CMD.REARM : Fld := ⟨0x58, 0x6c, 0, 1, .wo, 0, .std, false, .none, 0, 1⟩

/-- The fields of page AIO. -/
def aioFields : List Fld :=
  [AIO.AIO_CH_SEL.CH, AIO.AIO_CH_CFG.MODE, AIO.AIO_CH_CFG.RATE, AIO.AIO_CH_CFG.LS, AIO.AIO_CH_CFG.SAFE, AIO.AIO_CH_CFG.EV_LIM, AIO.AIO_CH_CFG.EV_FAULT, AIO.AIO_SAFE_VAL.SAFE_VAL] ++
  [AIO.AIO_LIM_LO.LIM_LO, AIO.AIO_LIM_HI.LIM_HI, AIO.AIO_CH_VAL.VAL, AIO.AIO_CH_STAT.LIVE, AIO.AIO_CH_ALERT.ALERT, AIO.AIO_STAT.STATE, AIO.AIO_STAT.CAUSE, AIO.SLICE_CFG.TIMEOUT] ++
  [AIO.SLICE_CFG.REARM, AIO.SLICE_CFG.FS, AIO.SLICE_KICK.KICK, AIO.SLICE_CMD.REARM]

/-! Page CAP -/
/-- Capture channel 0–47; 48–63 is refused with ERR_CODE 0x08. Bits [31:6] are reserved. -/
def CAP.CAP_SEL.CH : Fld := ⟨0x5c, 0x40, 0, 6, .rw, 0, .std, false, .req, 0, 47⟩
/-- 0 off, 1 timestamp, 2 tachometer, 3 quadrature (R241). -/
def CAP.CAP_CFG.MODE : Fld := ⟨0x5c, 0x44, 0, 2, .rws, 0, .cfg, false, .capCh, 0, 3⟩
/-- 0 rising, 1 falling, 2 both; 3 fails with ERR_CODE 0x08. Ignored in quadrature. -/
def CAP.CAP_CFG.EDGE : Fld := ⟨0x5c, 0x44, 2, 2, .rws, 0, .cfg, false, .capCh, 0, 2⟩
/-- Glitch filter, 0–255 × 10 ns. -/
def CAP.CAP_CFG.GFILT : Fld := ⟨0x5c, 0x44, 4, 8, .rws, 0, .cfg, false, .capCh, 0, 255⟩
/-- Counted edges per revolution, 1–65,535; 0 fails with ERR_CODE 0x08. Bits [31:28] are … -/
def CAP.CAP_CFG.EPR : Fld := ⟨0x5c, 0x44, 12, 16, .rws, 1, .cfg, false, .capCh, 1, 65535⟩
/-- Standstill time, 1–10,000 ms. Bits [31:14] are reserved. -/
def CAP.CAP_STILL.STILL : Fld := ⟨0x5c, 0x48, 0, 14, .rws, 1, .cfg, false, .capCh, 1, 10000⟩
/-- Live CFLAGS [3:0]. -/
def CAP.CAP_STAT.FLAGS : Fld := ⟨0x5c, 0x4c, 0, 4, .ro, 1, .std, false, .capCh, 0, 15⟩
/-- FIFO overflow (R242). -/
def CAP.CAP_STAT.OVF : Fld := ⟨0x5c, 0x4c, 4, 1, .w1c, 0, .std, false, .capCh, 0, 1⟩
/-- FIFO entries, 0–64. Bits [31:15] are reserved. -/
def CAP.CAP_STAT.FILL : Fld := ⟨0x5c, 0x4c, 8, 7, .ro, 0, .std, false, .capCh, 0, 127⟩
/-- Live speed (R243). -/
def CAP.CAP_SPEED.SPEED : Fld := ⟨0x5c, 0x50, 0, 32, .ro, 0, .std, false, .capCh, 0, 4294967295⟩
/-- Live position (R246). -/
def CAP.CAP_POS.POS : Fld := ⟨0x5c, 0x54, 0, 32, .ro, 0, .std, false, .capCh, 0, 4294967295⟩
/-- Reading pops the oldest entry: timestamp [31:0]. -/
def CAP.CAP_FIFO_L.TS_L : Fld := ⟨0x5c, 0x58, 0, 32, .ro, 0, .std, false, .capCh, 0, 4294967295⟩
/-- Timestamp [61:32]. -/
def CAP.CAP_FIFO_H.TS_H : Fld := ⟨0x5c, 0x5c, 0, 30, .ro, 0, .std, false, .capCh, 0, 1073741823⟩
/-- 1 for a rising edge. -/
def CAP.CAP_FIFO_H.RISING : Fld := ⟨0x5c, 0x5c, 30, 1, .ro, 0, .std, false, .capCh, 0, 1⟩
/-- 0 when the FIFO was empty at the pop. -/
def CAP.CAP_FIFO_H.VALID : Fld := ⟨0x5c, 0x5c, 31, 1, .ro, 0, .std, false, .capCh, 0, 1⟩

/-- The fields of page CAP. -/
def capFields : List Fld :=
  [CAP.CAP_SEL.CH, CAP.CAP_CFG.MODE, CAP.CAP_CFG.EDGE, CAP.CAP_CFG.GFILT, CAP.CAP_CFG.EPR, CAP.CAP_STILL.STILL, CAP.CAP_STAT.FLAGS, CAP.CAP_STAT.OVF] ++
  [CAP.CAP_STAT.FILL, CAP.CAP_SPEED.SPEED, CAP.CAP_POS.POS, CAP.CAP_FIFO_L.TS_L, CAP.CAP_FIFO_H.TS_H, CAP.CAP_FIFO_H.RISING, CAP.CAP_FIFO_H.VALID]

/-! Page AUD -/
/-- 1 enables the fire presets (R268, R270). Locked by LOCK. -/
def AUD.AUD_FIRE.EN : Fld := ⟨0x60, 0x40, 0, 1, .rws, 0, .cfg, true, .none, 0, 1⟩
/-- Alert message. A commit naming an unusable message fails validation with ERR_CODE 0x08. … -/
def AUD.AUD_FIRE.MSG : Fld := ⟨0x60, 0x40, 8, 8, .rws, 0, .cfg, false, .none, 0, 255⟩
/-- 1 in the autonomous state. -/
def AUD.AUD_STAT.AUTONOMOUS : Fld := ⟨0x60, 0x44, 0, 1, .ro, 0, .std, false, .none, 0, 1⟩
/-- Bit i is 1 while MPi plays. -/
def AUD.AUD_STAT.PLAYING : Fld := ⟨0x60, 0x44, 4, 4, .ro, 0, .std, false, .none, 0, 15⟩
/-- Usable messages loaded, 0–256. Bits [31:25] are reserved. -/
def AUD.AUD_STAT.MSG_OK : Fld := ⟨0x60, 0x44, 16, 9, .ro, 0, .std, false, .none, 0, 511⟩
/-- Selected source, 0–31. Bits [31:5] are reserved. -/
def AUD.SRC_SEL.SRC : Fld := ⟨0x60, 0x48, 0, 5, .rw, 0, .std, false, .req, 0, 31⟩
/-- Talkback gain, 0–25 × 2 dB; 26–31 fail with ERR_CODE 0x08. -/
def AUD.SRC_CFG.GAIN : Fld := ⟨0x60, 0x4c, 0, 5, .rws, 0, .cfg, false, .src, 0, 25⟩
/-- Talkback phantom supply (R263). -/
def AUD.SRC_CFG.PHANTOM : Fld := ⟨0x60, 0x4c, 5, 1, .rws, 0, .cfg, false, .src, 0, 1⟩
/-- Ring receivers: ring audio channel 0–63. -/
def AUD.SRC_CFG.CHANNEL : Fld := ⟨0x60, 0x4c, 8, 6, .rws, 0, .cfg, false, .src, 0, 63⟩
/-- Ring receivers: 1 enables. -/
def AUD.SRC_CFG.RX_EN : Fld := ⟨0x60, 0x4c, 14, 1, .rws, 0, .cfg, false, .src, 0, 1⟩
/-- Tone generators: pattern (R261). Bits [31:20] are reserved. -/
def AUD.SRC_CFG.TG_PATTERN : Fld := ⟨0x60, 0x4c, 16, 4, .rws, 0, .std, false, .src, 0, 5⟩
/-- Active under R257. -/
def AUD.SRC_STAT.ACTIVE : Fld := ⟨0x60, 0x50, 0, 1, .ro, 0, .std, false, .src, 0, 1⟩
/-- Ring receiver LOST (R264). -/
def AUD.SRC_STAT.LOST : Fld := ⟨0x60, 0x50, 1, 1, .ro, 0, .std, false, .src, 0, 1⟩
/-- Talkback OPEN (R263). -/
def AUD.SRC_STAT.OPEN : Fld := ⟨0x60, 0x50, 2, 1, .ro, 0, .std, false, .src, 0, 1⟩
/-- Peak level of the last block, in dB below full scale, 0–255. Bits [31:16] are reserved. -/
def AUD.SRC_STAT.PEAK : Fld := ⟨0x60, 0x50, 8, 8, .ro, 0, .std, false, .src, 0, 255⟩
/-- Message to start. -/
def AUD.MP_CTRL.MSG : Fld := ⟨0x60, 0x54, 0, 8, .rws, 0, .std, false, .src, 0, 255⟩
/-- Repeats; 0 without end. -/
def AUD.MP_CTRL.REPEAT : Fld := ⟨0x60, 0x54, 8, 8, .rws, 1, .std, false, .src, 0, 255⟩
/-- Silence between repeats, × 10 ms. -/
def AUD.MP_CTRL.GAP : Fld := ⟨0x60, 0x54, 16, 8, .rws, 0, .std, false, .src, 0, 255⟩
/-- Staging 1 starts the message (R260). Reads 0. -/
def AUD.MP_CTRL.START : Fld := ⟨0x60, 0x54, 24, 1, .rws, 0, .std, false, .src, 0, 1⟩
/-- Staging 1 stops the player. Reads 0. Bits [31:26] are reserved. -/
def AUD.MP_CTRL.STOP : Fld := ⟨0x60, 0x54, 25, 1, .rws, 0, .std, false, .src, 0, 1⟩
/-- Sample position within the playing message. -/
def AUD.MP_POS.SAMPLE : Fld := ⟨0x60, 0x58, 0, 27, .ro, 0, .std, false, .src, 0, 134217727⟩
/-- Selected transmitter, 0–7. Bits [31:3] are reserved. -/
def AUD.TX_SEL.TX : Fld := ⟨0x60, 0x5c, 0, 3, .rw, 0, .std, false, .req, 0, 7⟩
/-- Source sent. -/
def AUD.TX_CFG.SRC : Fld := ⟨0x60, 0x60, 0, 5, .rws, 0, .cfg, false, .tx, 0, 31⟩
/-- Ring audio channel (R264). -/
def AUD.TX_CFG.CHANNEL : Fld := ⟨0x60, 0x60, 8, 6, .rws, 0, .cfg, false, .tx, 0, 63⟩
/-- 1 enables. Bits [31:15] are reserved. -/
def AUD.TX_CFG.EN : Fld := ⟨0x60, 0x60, 14, 1, .rws, 0, .cfg, false, .tx, 0, 1⟩
/-- Free credits, 0–4. -/
def AUD.RING_Q_CREDIT.CREDITS : Fld := ⟨0x60, 0x64, 0, 16, .ro, 4, .std, false, .tx, 0, 65535⟩
/-- 1 while CREDITS is 0. -/
def AUD.RING_Q_CREDIT.EMPTY : Fld := ⟨0x60, 0x64, 31, 1, .ro, 0, .std, false, .tx, 0, 1⟩
/-- Late ring blocks, all receivers, saturating. CR: 0. -/
def AUD.AUD_COUNT.RX_LATE : Fld := ⟨0x60, 0x68, 0, 16, .ro, 0, .std, false, .none, 0, 65535⟩
/-- Blocks not produced for lack of credit, saturating. CR: 0. -/
def AUD.AUD_COUNT.TX_SKIP : Fld := ⟨0x60, 0x68, 16, 16, .ro, 0, .std, false, .none, 0, 65535⟩
/-- Reloads the message set (R259). Bits [31:1] are reserved. -/
def AUD.MSG_CMD.RELOAD : Fld := ⟨0x60, 0x6c, 0, 1, .wo, 0, .std, false, .none, 0, 1⟩

/-- The fields of page AUD. -/
def audFields : List Fld :=
  [AUD.AUD_FIRE.EN, AUD.AUD_FIRE.MSG, AUD.AUD_STAT.AUTONOMOUS, AUD.AUD_STAT.PLAYING, AUD.AUD_STAT.MSG_OK, AUD.SRC_SEL.SRC, AUD.SRC_CFG.GAIN, AUD.SRC_CFG.PHANTOM] ++
  [AUD.SRC_CFG.CHANNEL, AUD.SRC_CFG.RX_EN, AUD.SRC_CFG.TG_PATTERN, AUD.SRC_STAT.ACTIVE, AUD.SRC_STAT.LOST, AUD.SRC_STAT.OPEN, AUD.SRC_STAT.PEAK, AUD.MP_CTRL.MSG] ++
  [AUD.MP_CTRL.REPEAT, AUD.MP_CTRL.GAP, AUD.MP_CTRL.START, AUD.MP_CTRL.STOP, AUD.MP_POS.SAMPLE, AUD.TX_SEL.TX, AUD.TX_CFG.SRC, AUD.TX_CFG.CHANNEL] ++
  [AUD.TX_CFG.EN, AUD.RING_Q_CREDIT.CREDITS, AUD.RING_Q_CREDIT.EMPTY, AUD.AUD_COUNT.RX_LATE, AUD.AUD_COUNT.TX_SKIP, AUD.MSG_CMD.RELOAD]

/-! Page ZONE -/
/-- Selected entry; zone 4z + ENTRY. Bits [31:2] are reserved. -/
def ZONE.ZONE_SEL.ENTRY : Fld := ⟨0x61, 0x40, 0, 2, .rw, 0, .std, false, .req, 0, 3⟩
/-- Pilot and supervision (R265). -/
def ZONE.ZONE_CFG.PILOT_EN : Fld := ⟨0x61, 0x44, 0, 1, .rws, 1, .cfg, false, .zone, 0, 1⟩
/-- Earth supervision (R266). -/
def ZONE.ZONE_CFG.EARTH_EN : Fld := ⟨0x61, 0x44, 1, 1, .rws, 0, .cfg, false, .zone, 0, 1⟩
/-- Fire presets (R268). -/
def ZONE.ZONE_CFG.FIRE_EN : Fld := ⟨0x61, 0x44, 2, 1, .rws, 0, .cfg, false, .zone, 0, 1⟩
/-- Drift limit, 5–50 %; other values fail with ERR_CODE 0x08. -/
def ZONE.ZONE_CFG.DRIFT : Fld := ⟨0x61, 0x44, 3, 6, .rws, 20, .cfg, false, .zone, 5, 50⟩
/-- Divider ratio, 10–2,047; less than 10 fails with ERR_CODE 0x08. -/
def ZONE.ZONE_CFG.VDIV : Fld := ⟨0x61, 0x44, 9, 11, .rws, 100, .cfg, false, .zone, 10, 2047⟩
/-- Shunt, 1–4,095 mΩ; 0 fails with ERR_CODE 0x08. -/
def ZONE.ZONE_CFG.RSH : Fld := ⟨0x61, 0x44, 20, 12, .rws, 100, .cfg, false, .zone, 1, 4095⟩
/-- Source (R254). -/
def ZONE.REQ0.SRC : Fld := ⟨0x61, 0x48, 0, 5, .rws, 0, .cfg, false, .zone, 0, 31⟩
/-- Source (R254). -/
def ZONE.REQ1.SRC : Fld := ⟨0x61, 0x4c, 0, 5, .rws, 0, .cfg, false, .zone, 0, 31⟩
/-- Source (R254). -/
def ZONE.REQ2.SRC : Fld := ⟨0x61, 0x50, 0, 5, .rws, 0, .cfg, false, .zone, 0, 31⟩
/-- Source (R254). -/
def ZONE.REQ3.SRC : Fld := ⟨0x61, 0x54, 0, 5, .rws, 0, .cfg, false, .zone, 0, 31⟩
/-- Source (R254). -/
def ZONE.REQ4.SRC : Fld := ⟨0x61, 0x58, 0, 5, .rws, 0, .cfg, false, .zone, 0, 31⟩
/-- Source (R254). -/
def ZONE.REQ5.SRC : Fld := ⟨0x61, 0x5c, 0, 5, .rws, 0, .cfg, false, .zone, 0, 31⟩
/-- Source (R254). -/
def ZONE.REQ6.SRC : Fld := ⟨0x61, 0x60, 0, 5, .rws, 0, .cfg, false, .zone, 0, 31⟩
/-- Source (R254). -/
def ZONE.REQ7.SRC : Fld := ⟨0x61, 0x64, 0, 5, .rws, 0, .cfg, false, .zone, 0, 31⟩
/-- 1 when the slot holds a request. -/
def ZONE.REQ0.VALID : Fld := ⟨0x61, 0x48, 5, 1, .rws, 0, .cfg, false, .zone, 0, 1⟩
/-- 1 when the slot holds a request. -/
def ZONE.REQ1.VALID : Fld := ⟨0x61, 0x4c, 5, 1, .rws, 0, .cfg, false, .zone, 0, 1⟩
/-- 1 when the slot holds a request. -/
def ZONE.REQ2.VALID : Fld := ⟨0x61, 0x50, 5, 1, .rws, 0, .cfg, false, .zone, 0, 1⟩
/-- 1 when the slot holds a request. -/
def ZONE.REQ3.VALID : Fld := ⟨0x61, 0x54, 5, 1, .rws, 0, .cfg, false, .zone, 0, 1⟩
/-- 1 when the slot holds a request. -/
def ZONE.REQ4.VALID : Fld := ⟨0x61, 0x58, 5, 1, .rws, 0, .cfg, false, .zone, 0, 1⟩
/-- 1 when the slot holds a request. -/
def ZONE.REQ5.VALID : Fld := ⟨0x61, 0x5c, 5, 1, .rws, 0, .cfg, false, .zone, 0, 1⟩
/-- 1 when the slot holds a request. -/
def ZONE.REQ6.VALID : Fld := ⟨0x61, 0x60, 5, 1, .rws, 0, .cfg, false, .zone, 0, 1⟩
/-- 1 when the slot holds a request. -/
def ZONE.REQ7.VALID : Fld := ⟨0x61, 0x64, 5, 1, .rws, 0, .cfg, false, .zone, 0, 1⟩
/-- Attenuation, 0–126 × 0.5 dB; 127 mutes (R258). Bits [31:15] are reserved. -/
def ZONE.REQ0.ATTEN : Fld := ⟨0x61, 0x48, 8, 7, .rws, 0, .cfg, false, .zone, 0, 127⟩
/-- Attenuation, 0–126 × 0.5 dB; 127 mutes (R258). Bits [31:15] are reserved. -/
def ZONE.REQ1.ATTEN : Fld := ⟨0x61, 0x4c, 8, 7, .rws, 0, .cfg, false, .zone, 0, 127⟩
/-- Attenuation, 0–126 × 0.5 dB; 127 mutes (R258). Bits [31:15] are reserved. -/
def ZONE.REQ2.ATTEN : Fld := ⟨0x61, 0x50, 8, 7, .rws, 0, .cfg, false, .zone, 0, 127⟩
/-- Attenuation, 0–126 × 0.5 dB; 127 mutes (R258). Bits [31:15] are reserved. -/
def ZONE.REQ3.ATTEN : Fld := ⟨0x61, 0x54, 8, 7, .rws, 0, .cfg, false, .zone, 0, 127⟩
/-- Attenuation, 0–126 × 0.5 dB; 127 mutes (R258). Bits [31:15] are reserved. -/
def ZONE.REQ4.ATTEN : Fld := ⟨0x61, 0x58, 8, 7, .rws, 0, .cfg, false, .zone, 0, 127⟩
/-- Attenuation, 0–126 × 0.5 dB; 127 mutes (R258). Bits [31:15] are reserved. -/
def ZONE.REQ5.ATTEN : Fld := ⟨0x61, 0x5c, 8, 7, .rws, 0, .cfg, false, .zone, 0, 127⟩
/-- Attenuation, 0–126 × 0.5 dB; 127 mutes (R258). Bits [31:15] are reserved. -/
def ZONE.REQ6.ATTEN : Fld := ⟨0x61, 0x60, 8, 7, .rws, 0, .cfg, false, .zone, 0, 127⟩
/-- Attenuation, 0–126 × 0.5 dB; 127 mutes (R258). Bits [31:15] are reserved. -/
def ZONE.REQ7.ATTEN : Fld := ⟨0x61, 0x64, 8, 7, .rws, 0, .cfg, false, .zone, 0, 127⟩
/-- Slot playing. -/
def ZONE.ZONE_STAT.PRIO : Fld := ⟨0x61, 0x68, 0, 3, .ro, 0, .std, false, .zone, 0, 7⟩
/-- Source playing. -/
def ZONE.ZONE_STAT.SRC : Fld := ⟨0x61, 0x68, 3, 5, .ro, 0, .std, false, .zone, 0, 31⟩
/-- 1 when no slot plays. -/
def ZONE.ZONE_STAT.SILENT : Fld := ⟨0x61, 0x68, 8, 1, .ro, 1, .std, false, .zone, 0, 1⟩
/-- 0 OK, 1 AMP_FAIL, 2 SHORT, 3 OPEN, 4 DRIFT, 5 UNSUPERVISED, 6 OFF. -/
def ZONE.ZONE_STAT.LINE : Fld := ⟨0x61, 0x68, 9, 3, .ro, 0, .std, false, .zone, 0, 7⟩
/-- Earth fault declared. Bits [31:13] are reserved. -/
def ZONE.ZONE_STAT.EARTH : Fld := ⟨0x61, 0x68, 12, 1, .ro, 0, .std, false, .zone, 0, 1⟩
/-- z in 0.1 Ω, saturating. -/
def ZONE.Z_MAG.MAG : Fld := ⟨0x61, 0x6c, 0, 20, .ro, 0, .std, false, .zone, 0, 1048575⟩
/-- arg z, signed, in 0.1°. -/
def ZONE.Z_MAG.PHASE : Fld := ⟨0x61, 0x6c, 20, 12, .ro, 0, .std, false, .zone, 0, 4095⟩
/-- Commissioned z in 0.1 Ω (R267). -/
def ZONE.ZREF.ZREF : Fld := ⟨0x61, 0x70, 0, 20, .ro, 0, .cfg, false, .zone, 0, 1048575⟩
/-- Commissioned phase, signed, in 0.1°. -/
def ZONE.ZREF.ZREF_PH : Fld := ⟨0x61, 0x70, 20, 12, .ro, 0, .cfg, false, .zone, 0, 4095⟩
/-- Pilot voltage on the line, in mV rms. -/
def ZONE.ZONE_PILOT.V_PILOT : Fld := ⟨0x61, 0x74, 0, 16, .ro, 0, .std, false, .zone, 0, 65535⟩
/-- Pilot current, in 10 µA rms. -/
def ZONE.ZONE_PILOT.I_PILOT : Fld := ⟨0x61, 0x74, 16, 16, .ro, 0, .std, false, .zone, 0, 65535⟩
/-- Insulation resistance, in kΩ, saturating. Bits [31:16] are reserved. -/
def ZONE.ZONE_INSUL.INSUL : Fld := ⟨0x61, 0x78, 0, 16, .ro, 65535, .std, false, .zone, 0, 65535⟩
/-- Starts commissioning (R267). Bits [31:1] are reserved. -/
def ZONE.ZONE_CMD.COMMISSION : Fld := ⟨0x61, 0x7c, 0, 1, .wo, 0, .std, false, .zone, 0, 1⟩
/-- OPEN was declared. -/
def ZONE.ZONE_ALERT.OPEN : Fld := ⟨0x61, 0x80, 0, 1, .w1c, 0, .std, false, .zone, 0, 1⟩
/-- SHORT was declared. -/
def ZONE.ZONE_ALERT.SHORT : Fld := ⟨0x61, 0x80, 1, 1, .w1c, 0, .std, false, .zone, 0, 1⟩
/-- EARTH was declared. -/
def ZONE.ZONE_ALERT.EARTH : Fld := ⟨0x61, 0x80, 2, 1, .w1c, 0, .std, false, .zone, 0, 1⟩
/-- DRIFT was declared. -/
def ZONE.ZONE_ALERT.DRIFT : Fld := ⟨0x61, 0x80, 3, 1, .w1c, 0, .std, false, .zone, 0, 1⟩
/-- AMP_FAIL was declared. -/
def ZONE.ZONE_ALERT.AMP_FAIL : Fld := ⟨0x61, 0x80, 4, 1, .w1c, 0, .std, false, .zone, 0, 1⟩
/-- An announcement was cut (R268, R271). -/
def ZONE.ZONE_ALERT.CUT : Fld := ⟨0x61, 0x80, 5, 1, .w1c, 0, .std, false, .zone, 0, 1⟩
/-- Commissioning ended. Bits [31:7] are reserved. -/
def ZONE.ZONE_ALERT.COMM_DONE : Fld := ⟨0x61, 0x80, 6, 1, .w1c, 0, .std, false, .zone, 0, 1⟩

/-- The fields of page ZONE. -/
def zoneFields : List Fld :=
  [ZONE.ZONE_SEL.ENTRY, ZONE.ZONE_CFG.PILOT_EN, ZONE.ZONE_CFG.EARTH_EN, ZONE.ZONE_CFG.FIRE_EN, ZONE.ZONE_CFG.DRIFT, ZONE.ZONE_CFG.VDIV, ZONE.ZONE_CFG.RSH, ZONE.REQ0.SRC] ++
  [ZONE.REQ1.SRC, ZONE.REQ2.SRC, ZONE.REQ3.SRC, ZONE.REQ4.SRC, ZONE.REQ5.SRC, ZONE.REQ6.SRC, ZONE.REQ7.SRC, ZONE.REQ0.VALID] ++
  [ZONE.REQ1.VALID, ZONE.REQ2.VALID, ZONE.REQ3.VALID, ZONE.REQ4.VALID, ZONE.REQ5.VALID, ZONE.REQ6.VALID, ZONE.REQ7.VALID, ZONE.REQ0.ATTEN] ++
  [ZONE.REQ1.ATTEN, ZONE.REQ2.ATTEN, ZONE.REQ3.ATTEN, ZONE.REQ4.ATTEN, ZONE.REQ5.ATTEN, ZONE.REQ6.ATTEN, ZONE.REQ7.ATTEN, ZONE.ZONE_STAT.PRIO] ++
  [ZONE.ZONE_STAT.SRC, ZONE.ZONE_STAT.SILENT, ZONE.ZONE_STAT.LINE, ZONE.ZONE_STAT.EARTH, ZONE.Z_MAG.MAG, ZONE.Z_MAG.PHASE, ZONE.ZREF.ZREF, ZONE.ZREF.ZREF_PH] ++
  [ZONE.ZONE_PILOT.V_PILOT, ZONE.ZONE_PILOT.I_PILOT, ZONE.ZONE_INSUL.INSUL, ZONE.ZONE_CMD.COMMISSION, ZONE.ZONE_ALERT.OPEN, ZONE.ZONE_ALERT.SHORT, ZONE.ZONE_ALERT.EARTH, ZONE.ZONE_ALERT.DRIFT] ++
  [ZONE.ZONE_ALERT.AMP_FAIL, ZONE.ZONE_ALERT.CUT, ZONE.ZONE_ALERT.COMM_DONE]

/-! Page MET -/
/-- Seal state (R289). -/
def MET.MET_SEAL.STATE : Fld := ⟨0x70, 0x40, 0, 3, .ro, 4, .std, false, .none, 0, 7⟩
/-- 1 while the cover reads open. -/
def MET.MET_SEAL.COVER : Fld := ⟨0x70, 0x40, 3, 1, .ro, 0, .std, false, .none, 0, 1⟩
/-- Debug line as the island reports it. -/
def MET.MET_SEAL.DEBUG : Fld := ⟨0x70, 0x40, 4, 1, .ro, 0, .std, false, .none, 0, 1⟩
/-- The island was in battery mode at its last report. -/
def MET.MET_SEAL.BAT : Fld := ⟨0x70, 0x40, 5, 1, .ro, 0, .std, false, .none, 0, 1⟩
/-- 1 while correct frames arrive. Bits [31:7] are reserved. -/
def MET.MET_SEAL.LINK : Fld := ⟨0x70, 0x40, 6, 1, .ro, 0, .std, false, .none, 0, 1⟩
/-- LRF version: [31:24] major, [23:16] minor, [15:0] build. -/
def MET.MET_LRF_VER.VERSION : Fld := ⟨0x70, 0x44, 0, 32, .ro, 0, .std, false, .none, 0, 4294967295⟩
/-- CRC-32C of the running LRF image. -/
def MET.MET_LRF_CRC.CRC : Fld := ⟨0x70, 0x48, 0, 32, .ro, 0, .std, false, .none, 0, 4294967295⟩
/-- LRF installs. -/
def MET.MET_COUNT.SEAL_COUNT : Fld := ⟨0x70, 0x4c, 0, 16, .ro, 0, .std, false, .none, 0, 65535⟩
/-- Accepted parameter changes. -/
def MET.MET_COUNT.PARAM_COUNT : Fld := ⟨0x70, 0x4c, 16, 16, .ro, 0, .std, false, .none, 0, 65535⟩
/-- Sequence number of the last correct frame. -/
def MET.MET_LINK.SEQ : Fld := ⟨0x70, 0x50, 0, 16, .ro, 0, .std, false, .none, 0, 65535⟩
/-- Frames discarded, saturating. CR: 0. -/
def MET.MET_LINK.CRC_ERR : Fld := ⟨0x70, 0x50, 16, 8, .ro, 0, .std, false, .none, 0, 255⟩
/-- Sequence gaps, saturating. CR: 0. -/
def MET.MET_LINK.GAPS : Fld := ⟨0x70, 0x50, 24, 8, .ro, 0, .std, false, .none, 0, 255⟩
/-- Island seconds of the last frame. -/
def MET.MET_ISL_SEC.ISL_SEC : Fld := ⟨0x70, 0x54, 0, 32, .ro, 0, .std, false, .none, 0, 4294967295⟩
/-- Command (R293). Bits [31:8] are reserved. -/
def MET.MET_CMD.CODE : Fld := ⟨0x70, 0x58, 0, 8, .wo, 0, .std, false, .none, 0, 255⟩
/-- First argument. -/
def MET.MET_ARG0.ARG0 : Fld := ⟨0x70, 0x5c, 0, 32, .rw, 0, .std, false, .req, 0, 4294967295⟩
/-- Second argument. -/
def MET.MET_ARG1.ARG1 : Fld := ⟨0x70, 0x60, 0, 32, .rw, 0, .std, false, .req, 0, 4294967295⟩
/-- 1 from a command until the island reports its outcome. -/
def MET.MET_CMD_STAT.BUSY : Fld := ⟨0x70, 0x64, 0, 1, .ro, 0, .std, false, .none, 0, 1⟩
/-- Outcome of the last command: 0x00, or the refusal code. -/
def MET.MET_CMD_STAT.RESULT : Fld := ⟨0x70, 0x64, 8, 8, .ro, 0, .std, false, .none, 0, 255⟩
/-- Code of the last command. Bits [31:24] are reserved. -/
def MET.MET_CMD_STAT.LAST : Fld := ⟨0x70, 0x64, 16, 8, .ro, 0, .std, false, .none, 0, 255⟩
/-- Next LRF image word. It is refused with ERR_CODE 0x0A unless a load runs. -/
def MET.MET_LRF_DATA.DATA : Fld := ⟨0x70, 0x68, 0, 32, .wo, 0, .std, false, .none, 0, 4294967295⟩
/-- Selected log record. Bits [31:10] are reserved. -/
def MET.MET_LOG_SEL.RECORD : Fld := ⟨0x70, 0x6c, 0, 10, .rw, 0, .std, false, .req, 0, 1023⟩
/-- Log records, 0–1,024. Bits [31:11] are reserved. -/
def MET.MET_LOG_STAT.COUNT : Fld := ⟨0x70, 0x70, 0, 11, .ro, 0, .std, false, .none, 0, 2047⟩
/-- Words of the selected record (R290). -/
def MET.MET_LOG_W0.W : Fld := ⟨0x70, 0x74, 0, 32, .ro, 0, .std, false, .none, 0, 4294967295⟩
/-- Words of the selected record (R290). -/
def MET.MET_LOG_W1.W : Fld := ⟨0x70, 0x78, 0, 32, .ro, 0, .std, false, .none, 0, 4294967295⟩
/-- Words of the selected record (R290). -/
def MET.MET_LOG_W2.W : Fld := ⟨0x70, 0x7c, 0, 32, .ro, 0, .std, false, .none, 0, 4294967295⟩
/-- Words of the selected record (R290). -/
def MET.MET_LOG_W3.W : Fld := ⟨0x70, 0x80, 0, 32, .ro, 0, .std, false, .none, 0, 4294967295⟩
/-- Selected tamper record, 0 newest. Bits [31:8] are reserved. -/
def MET.MET_TAMP_SEL.TAMPER : Fld := ⟨0x70, 0x84, 0, 8, .rw, 0, .std, false, .req, 0, 255⟩
/-- Current input. -/
def MET.MET_TAMP_W0.INPUT : Fld := ⟨0x70, 0x88, 0, 6, .ro, 0, .std, false, .none, 0, 63⟩
/-- 1: current became present; 0: it ceased. -/
def MET.MET_TAMP_W0.PRESENT : Fld := ⟨0x70, 0x88, 6, 1, .ro, 0, .std, false, .none, 0, 1⟩
/-- Written in battery mode. -/
def MET.MET_TAMP_W0.BAT : Fld := ⟨0x70, 0x88, 7, 1, .ro, 0, .std, false, .none, 0, 1⟩
/-- NOVOLT change (R282). Bits [31:9] are reserved. -/
def MET.MET_TAMP_W0.NOVOLT : Fld := ⟨0x70, 0x88, 8, 1, .ro, 0, .std, false, .none, 0, 1⟩
/-- Island seconds of the tamper record. -/
def MET.MET_TAMP_W1.ISL_SEC : Fld := ⟨0x70, 0x8c, 0, 32, .ro, 0, .std, false, .none, 0, 4294967295⟩
/-- Identifier and index, as ARG0 of PARAM_WRITE. Bits [31:16] are reserved. -/
def MET.MET_PAR_SEL.PARAM : Fld := ⟨0x70, 0x90, 0, 16, .rw, 0, .std, false, .req, 0, 65535⟩
/-- Value of the selected parameter. -/
def MET.MET_PAR_VAL.VALUE : Fld := ⟨0x70, 0x94, 0, 32, .ro, 0, .std, false, .none, 0, 4294967295⟩
/-- Battery budget in days (R288). -/
def MET.MET_BAT_CFG.DAYS : Fld := ⟨0x70, 0x98, 0, 5, .ro, 30, .std, false, .none, 0, 31⟩
/-- Presence threshold, in ‰ of I_N. -/
def MET.MET_BAT_CFG.PRES : Fld := ⟨0x70, 0x98, 8, 8, .ro, 10, .std, false, .none, 0, 255⟩
/-- Burst interval, in s. Bits [7:5] and [31:24] are reserved. -/
def MET.MET_BAT_CFG.BURST : Fld := ⟨0x70, 0x98, 16, 8, .ro, 10, .std, false, .none, 0, 255⟩
/-- Phases of set 0 present. -/
def MET.MET_VSET.SET0 : Fld := ⟨0x70, 0x9c, 0, 3, .ro, 0, .std, false, .none, 0, 7⟩
/-- Set 0 absent. -/
def MET.MET_VSET.ABS0 : Fld := ⟨0x70, 0x9c, 3, 1, .ro, 1, .std, false, .none, 0, 1⟩
/-- Phases of set 1 present. -/
def MET.MET_VSET.SET1 : Fld := ⟨0x70, 0x9c, 4, 3, .ro, 0, .std, false, .none, 0, 7⟩
/-- Set 1 absent. -/
def MET.MET_VSET.ABS1 : Fld := ⟨0x70, 0x9c, 7, 1, .ro, 1, .std, false, .none, 0, 1⟩
/-- Frequency of set 0, in 0.01 Hz. Bits [15:8] are reserved. -/
def MET.MET_VSET.FREQ0 : Fld := ⟨0x70, 0x9c, 16, 16, .ro, 0, .std, false, .none, 0, 65535⟩

/-- The fields of page MET. -/
def metFields : List Fld :=
  [MET.MET_SEAL.STATE, MET.MET_SEAL.COVER, MET.MET_SEAL.DEBUG, MET.MET_SEAL.BAT, MET.MET_SEAL.LINK, MET.MET_LRF_VER.VERSION, MET.MET_LRF_CRC.CRC, MET.MET_COUNT.SEAL_COUNT] ++
  [MET.MET_COUNT.PARAM_COUNT, MET.MET_LINK.SEQ, MET.MET_LINK.CRC_ERR, MET.MET_LINK.GAPS, MET.MET_ISL_SEC.ISL_SEC, MET.MET_CMD.CODE, MET.MET_ARG0.ARG0, MET.MET_ARG1.ARG1] ++
  [MET.MET_CMD_STAT.BUSY, MET.MET_CMD_STAT.RESULT, MET.MET_CMD_STAT.LAST, MET.MET_LRF_DATA.DATA, MET.MET_LOG_SEL.RECORD, MET.MET_LOG_STAT.COUNT, MET.MET_LOG_W0.W, MET.MET_LOG_W1.W] ++
  [MET.MET_LOG_W2.W, MET.MET_LOG_W3.W, MET.MET_TAMP_SEL.TAMPER, MET.MET_TAMP_W0.INPUT, MET.MET_TAMP_W0.PRESENT, MET.MET_TAMP_W0.BAT, MET.MET_TAMP_W0.NOVOLT, MET.MET_TAMP_W1.ISL_SEC] ++
  [MET.MET_PAR_SEL.PARAM, MET.MET_PAR_VAL.VALUE, MET.MET_BAT_CFG.DAYS, MET.MET_BAT_CFG.PRES, MET.MET_BAT_CFG.BURST, MET.MET_VSET.SET0, MET.MET_VSET.ABS0, MET.MET_VSET.SET1] ++
  [MET.MET_VSET.ABS1, MET.MET_VSET.FREQ0]

/-! Page RING -/
/-- 0: 25.78125 GBd, 1: 10.3125 GBd, 2: alternate (R315). A staging of 3 fails with … -/
def RING.PORT_CFG.RATE : Fld := ⟨0x80, 0x40, 0, 2, .rws, 0, .cfgKeep, true, .none, 0, 2⟩
/-- RS-FEC at 25.78125 GBd. Both ends must agree. -/
def RING.PORT_CFG.FEC_EN : Fld := ⟨0x80, 0x40, 2, 1, .rws, 0, .cfgKeep, true, .none, 0, 1⟩
/-- 0 keeps the port out of LPI. -/
def RING.PORT_CFG.EEE_EN : Fld := ⟨0x80, 0x40, 3, 1, .rws, 1, .cfgKeep, true, .none, 0, 1⟩
/-- Offered wake time, 2–20 µs. Other values fail with ERR_CODE 0x08. -/
def RING.PORT_CFG.TW_MAX : Fld := ⟨0x80, 0x40, 8, 5, .rws, 5, .cfgKeep, true, .none, 2, 20⟩
/-- Frame preemption. Bits [31:17] are reserved. -/
def RING.PORT_CFG.PREEMPT_EN : Fld := ⟨0x80, 0x40, 16, 1, .rws, 1, .cfgKeep, true, .none, 0, 1⟩
/-- Link up. -/
def RING.PORT_STAT.LINK : Fld := ⟨0x80, 0x44, 0, 1, .ro, 0, .std, false, .none, 0, 1⟩
/-- 0: 25.78125 GBd, 1: 10.3125 GBd, 3: no link. -/
def RING.PORT_STAT.RATE : Fld := ⟨0x80, 0x44, 1, 2, .ro, 3, .std, false, .none, 0, 3⟩
/-- RS-FEC active. -/
def RING.PORT_STAT.FEC : Fld := ⟨0x80, 0x44, 3, 1, .ro, 0, .std, false, .none, 0, 1⟩
/-- Transmit direction in LPI. -/
def RING.PORT_STAT.LPI_TX : Fld := ⟨0x80, 0x44, 4, 1, .ro, 0, .std, false, .none, 0, 1⟩
/-- Receive direction in LPI. -/
def RING.PORT_STAT.LPI_RX : Fld := ⟨0x80, 0x44, 5, 1, .ro, 0, .std, false, .none, 0, 1⟩
/-- Preemption verified. -/
def RING.PORT_STAT.PREEMPT : Fld := ⟨0x80, 0x44, 6, 1, .ro, 0, .std, false, .none, 0, 1⟩
/-- Degraded link (R315). -/
def RING.PORT_STAT.DEGRADED : Fld := ⟨0x80, 0x44, 7, 1, .ro, 0, .std, false, .none, 0, 1⟩
/-- Negotiated wake time, in µs. -/
def RING.PORT_STAT.TW : Fld := ⟨0x80, 0x44, 8, 5, .ro, 0, .std, false, .none, 0, 31⟩
/-- Neighbour's module ID. -/
def RING.PORT_STAT.PEER_ID : Fld := ⟨0x80, 0x44, 16, 8, .ro, 0, .std, false, .none, 0, 255⟩
/-- Neighbour's carrier position. -/
def RING.PORT_STAT.PEER_POS : Fld := ⟨0x80, 0x44, 24, 1, .ro, 0, .std, false, .none, 0, 1⟩
/-- Transceiver present. -/
def RING.PORT_STAT.CAGE : Fld := ⟨0x80, 0x44, 25, 1, .ro, 0, .std, false, .none, 0, 1⟩
/-- Transmit fault or loss of signal. -/
def RING.PORT_STAT.CAGE_FAULT : Fld := ⟨0x80, 0x44, 26, 1, .ro, 0, .std, false, .none, 0, 1⟩
/-- 0: this port sends primary traffic; 1: it sends protection traffic. Bits [31:28] are … -/
def RING.PORT_STAT.ROLE : Fld := ⟨0x80, 0x44, 27, 1, .ro, 0, .std, false, .none, 0, 1⟩
/-- One-way delay to the neighbour, in ns, from the PTP peer-delay measurement. Bits … -/
def RING.PORT_DELAY.LINK_DELAY : Fld := ⟨0x80, 0x48, 0, 16, .ro, 0, .std, false, .none, 0, 65535⟩
/-- Counter index (R300). Bits [31:5] are reserved. -/
def RING.STAT_SEL.INDEX : Fld := ⟨0x80, 0x4c, 0, 5, .rw, 0, .std, false, .req, 0, 31⟩
/-- Selected counter. -/
def RING.STAT_VAL.VALUE : Fld := ⟨0x80, 0x50, 0, 32, .ro, 0, .std, false, .stat, 0, 4294967295⟩
/-- Bit i is set when counter i's bit 31 sets (R299). -/
def RING.STAT_HALF.HALF : Fld := ⟨0x80, 0x54, 0, 32, .w1c, 0, .std, false, .none, 0, 4294967295⟩

/-- The fields of page RING. -/
def ringFields : List Fld :=
  [RING.PORT_CFG.RATE, RING.PORT_CFG.FEC_EN, RING.PORT_CFG.EEE_EN, RING.PORT_CFG.TW_MAX, RING.PORT_CFG.PREEMPT_EN, RING.PORT_STAT.LINK, RING.PORT_STAT.RATE, RING.PORT_STAT.FEC] ++
  [RING.PORT_STAT.LPI_TX, RING.PORT_STAT.LPI_RX, RING.PORT_STAT.PREEMPT, RING.PORT_STAT.DEGRADED, RING.PORT_STAT.TW, RING.PORT_STAT.PEER_ID, RING.PORT_STAT.PEER_POS, RING.PORT_STAT.CAGE] ++
  [RING.PORT_STAT.CAGE_FAULT, RING.PORT_STAT.ROLE, RING.PORT_DELAY.LINK_DELAY, RING.STAT_SEL.INDEX, RING.STAT_VAL.VALUE, RING.STAT_HALF.HALF]

/-! Page RCTL -/
/-- May act as timing master (R307). -/
def RCTL.RCTL_CFG.MASTER_EN : Fld := ⟨0x82, 0x40, 0, 1, .rwl, 0, .cfgKeep, false, .none, 0, 1⟩
/-- Master rank, 0–7. -/
def RCTL.RCTL_CFG.RANK : Fld := ⟨0x82, 0x40, 1, 3, .rwl, 0, .cfgKeep, false, .none, 0, 7⟩
/-- Port kept at stage 3: 0 east, 1 west (R315). -/
def RCTL.RCTL_CFG.STAGE3_PORT : Fld := ⟨0x82, 0x40, 4, 1, .rwl, 0, .cfgKeep, false, .none, 0, 1⟩
/-- Target token rotation time, 5–100 µs. Other values are refused with ERR_CODE 0x08. -/
def RCTL.RCTL_CFG.TTRT : Fld := ⟨0x82, 0x40, 8, 8, .rwl, 20, .cfgKeep, false, .none, 5, 100⟩
/-- Unzan EtherType (R302). -/
def RCTL.RCTL_CFG.ETYPE : Fld := ⟨0x82, 0x40, 16, 16, .rwl, 34997, .cfgKeep, false, .none, 0, 65535⟩
/-- First-visit asynchronous allowance, 0–59 µs. Other values fail with ERR_CODE 0x08. -/
def RCTL.RCTL_QUOTA.ASYNC_QUOTA : Fld := ⟨0x82, 0x44, 0, 8, .rws, 10, .cfgKeep, false, .none, 0, 59⟩
/-- Express quota, 0–16,000 octets. Other values fail with ERR_CODE 0x08. -/
def RCTL.RCTL_QUOTA.EXP_QUOTA : Fld := ⟨0x82, 0x44, 16, 16, .rws, 2000, .cfgKeep, false, .none, 0, 16000⟩
/-- 0 DOWN, 1 RING, 2 STEERING. -/
def RCTL.RCTL_STAT.STATE : Fld := ⟨0x82, 0x48, 0, 2, .ro, 0, .std, false, .none, 0, 3⟩
/-- This node sends tokens. -/
def RCTL.RCTL_STAT.MASTER : Fld := ⟨0x82, 0x48, 2, 1, .ro, 0, .std, false, .none, 0, 1⟩
/-- R308. -/
def RCTL.RCTL_STAT.ISO_OVER : Fld := ⟨0x82, 0x48, 3, 1, .ro, 0, .std, false, .none, 0, 1⟩
/-- A port of this node is degraded. -/
def RCTL.RCTL_STAT.DEGRADED : Fld := ⟨0x82, 0x48, 4, 1, .ro, 0, .std, false, .none, 0, 1⟩
/-- Module ID of the acting master. -/
def RCTL.RCTL_STAT.MASTER_ID : Fld := ⟨0x82, 0x48, 8, 8, .ro, 0, .std, false, .none, 0, 255⟩
/-- Nodes counted by the last TOKEN, 0–320. Bits [31:25] are reserved. -/
def RCTL.RCTL_STAT.NODES : Fld := ⟨0x82, 0x48, 16, 9, .ro, 0, .std, false, .none, 0, 511⟩
/-- Last rotation time, in 10 ns units. -/
def RCTL.RCTL_ROT.ROT : Fld := ⟨0x82, 0x4c, 0, 16, .ro, 0, .std, false, .none, 0, 65535⟩
/-- Highest ROT since CR. -/
def RCTL.RCTL_ROT.ROT_MAX : Fld := ⟨0x82, 0x4c, 16, 16, .ro, 0, .std, false, .none, 0, 65535⟩
/-- Octets reserved on the ring. Bits [31:20] are reserved. -/
def RCTL.RCTL_ISO.RES_ALL : Fld := ⟨0x82, 0x50, 0, 20, .ro, 0, .std, false, .none, 0, 1048575⟩
/-- Class LS octets reserved on the ring. Bits [31:20] are reserved. -/
def RCTL.RCTL_ISO_LS.RES_LS : Fld := ⟨0x82, 0x54, 0, 20, .ro, 0, .std, false, .none, 0, 1048575⟩
/-- Selected slot entry. Bits [31:4] are reserved. -/
def RCTL.SLOT_SEL.SLOT : Fld := ⟨0x82, 0x58, 0, 4, .rw, 0, .std, false, .req, 0, 15⟩
/-- 0 none, 1 commit, 2 image, 3 audio. Locked by LOCK. -/
def RCTL.SLOT_CFG.KIND : Fld := ⟨0x82, 0x5c, 0, 2, .rws, 0, .cfgKeep, true, .rslot, 0, 3⟩
/-- Class of the slot. Locked by LOCK. -/
def RCTL.SLOT_CFG.LS : Fld := ⟨0x82, 0x5c, 2, 1, .rws, 0, .cfgKeep, true, .rslot, 0, 1⟩
/-- Send offset, 1–150 µs. Locked by LOCK. -/
def RCTL.SLOT_CFG.OFFSET : Fld := ⟨0x82, 0x5c, 4, 8, .rws, 1, .cfgKeep, true, .rslot, 1, 150⟩
/-- Reserved octets. Locked by LOCK. -/
def RCTL.SLOT_CFG.OCTETS : Fld := ⟨0x82, 0x5c, 16, 16, .rws, 0, .cfgKeep, true, .rslot, 0, 65535⟩
/-- Ring-receive queue credits (R11). -/
def RCTL.RX_Q_CREDIT.CREDITS : Fld := ⟨0x82, 0x60, 0, 16, .ro, 512, .std, false, .none, 0, 65535⟩
/-- 1 while CREDITS is 0. -/
def RCTL.RX_Q_CREDIT.EMPTY : Fld := ⟨0x82, 0x60, 31, 1, .ro, 0, .std, false, .none, 0, 1⟩
/-- Receive buffer in use, in KiB. -/
def RCTL.RX_BUF.FILL : Fld := ⟨0x82, 0x64, 0, 13, .ro, 0, .std, false, .none, 0, 8191⟩
/-- Of which class LS, in KiB. Bits [31:29] are reserved. -/
def RCTL.RX_BUF.LS_FILL : Fld := ⟨0x82, 0x64, 16, 13, .ro, 0, .std, false, .none, 0, 8191⟩
/-- Class N frames discarded. -/
def RCTL.RCTL_COUNT0.DISC_N : Fld := ⟨0x82, 0x68, 0, 16, .ro, 0, .std, false, .none, 0, 65535⟩
/-- Class LS frames discarded. -/
def RCTL.RCTL_COUNT0.DISC_LS : Fld := ⟨0x82, 0x68, 16, 16, .ro, 0, .std, false, .none, 0, 65535⟩
/-- Stale-epoch frames (R305). -/
def RCTL.RCTL_COUNT1.STALE : Fld := ⟨0x82, 0x6c, 0, 16, .ro, 0, .std, false, .none, 0, 65535⟩
/-- Remote requests refused (R319). -/
def RCTL.RCTL_COUNT1.DENIED : Fld := ⟨0x82, 0x6c, 16, 16, .ro, 0, .std, false, .none, 0, 65535⟩
/-- Cycles without a TOKEN. -/
def RCTL.RCTL_COUNT2.TOKEN_MISS : Fld := ⟨0x82, 0x70, 0, 16, .ro, 0, .std, false, .none, 0, 65535⟩
/-- Entries into STEERING. -/
def RCTL.RCTL_COUNT2.BREAKS : Fld := ⟨0x82, 0x70, 16, 16, .ro, 0, .std, false, .none, 0, 65535⟩
/-- Selected fire-list entry, 0–31. Bits [31:5] are reserved. -/
def RCTL.FIRE_SEL.FIRE_SEL : Fld := ⟨0x82, 0x74, 0, 5, .rw, 0, .std, false, .req, 0, 31⟩
/-- Module listed in FIRE frames (R316). Locked by LOCK. -/
def RCTL.FIRE_ENTRY.MODULE_ID : Fld := ⟨0x82, 0x78, 0, 8, .rws, 0, .cfgKeep, true, .rfire, 0, 255⟩
/-- 1 when the entry is in use. Bits [31:9] are reserved. -/
def RCTL.FIRE_ENTRY.VALID : Fld := ⟨0x82, 0x78, 8, 1, .rws, 0, .cfgKeep, false, .rfire, 0, 1⟩

/-- The fields of page RCTL. -/
def rctlFields : List Fld :=
  [RCTL.RCTL_CFG.MASTER_EN, RCTL.RCTL_CFG.RANK, RCTL.RCTL_CFG.STAGE3_PORT, RCTL.RCTL_CFG.TTRT, RCTL.RCTL_CFG.ETYPE, RCTL.RCTL_QUOTA.ASYNC_QUOTA, RCTL.RCTL_QUOTA.EXP_QUOTA, RCTL.RCTL_STAT.STATE] ++
  [RCTL.RCTL_STAT.MASTER, RCTL.RCTL_STAT.ISO_OVER, RCTL.RCTL_STAT.DEGRADED, RCTL.RCTL_STAT.MASTER_ID, RCTL.RCTL_STAT.NODES, RCTL.RCTL_ROT.ROT, RCTL.RCTL_ROT.ROT_MAX, RCTL.RCTL_ISO.RES_ALL] ++
  [RCTL.RCTL_ISO_LS.RES_LS, RCTL.SLOT_SEL.SLOT, RCTL.SLOT_CFG.KIND, RCTL.SLOT_CFG.LS, RCTL.SLOT_CFG.OFFSET, RCTL.SLOT_CFG.OCTETS, RCTL.RX_Q_CREDIT.CREDITS, RCTL.RX_Q_CREDIT.EMPTY] ++
  [RCTL.RX_BUF.FILL, RCTL.RX_BUF.LS_FILL, RCTL.RCTL_COUNT0.DISC_N, RCTL.RCTL_COUNT0.DISC_LS, RCTL.RCTL_COUNT1.STALE, RCTL.RCTL_COUNT1.DENIED, RCTL.RCTL_COUNT2.TOKEN_MISS, RCTL.RCTL_COUNT2.BREAKS] ++
  [RCTL.FIRE_SEL.FIRE_SEL, RCTL.FIRE_ENTRY.MODULE_ID, RCTL.FIRE_ENTRY.VALID]

/-! Page SEG -/
/-- Poll period, 1–400 ticks. -/
def SEG.SEG_CFG.PERIOD : Fld := ⟨0x88, 0x40, 0, 9, .rws, 1, .cfg, false, .none, 1, 400⟩
/-- Poll phase (R330). -/
def SEG.SEG_CFG.PHASE : Fld := ⟨0x88, 0x40, 16, 9, .rws, 0, .cfg, false, .none, 0, 511⟩
/-- 100 Ω termination at the module. -/
def SEG.SEG_CFG.TERM : Fld := ⟨0x88, 0x40, 31, 1, .rws, 0, .cfg, false, .none, 0, 1⟩
/-- PLCA node count, 2–32. -/
def SEG.SEG_PLCA.NODE_COUNT : Fld := ⟨0x88, 0x44, 0, 6, .rws, 2, .cfg, false, .none, 2, 32⟩
/-- Bit times, 20–255. Bits [31:16] are reserved. -/
def SEG.SEG_PLCA.TO_TIMER : Fld := ⟨0x88, 0x44, 8, 8, .rws, 32, .cfg, false, .none, 20, 255⟩
/-- Selected node, 1–31. Bits [31:5] are reserved. -/
def SEG.NODE_SEL.NODE : Fld := ⟨0x88, 0x48, 0, 5, .rw, 0, .std, false, .req, 1, 31⟩
/-- Node in use. -/
def SEG.NODE_CFG.VALID : Fld := ⟨0x88, 0x4c, 0, 1, .rws, 0, .cfg, false, .node, 0, 1⟩
/-- 0–16. -/
def SEG.NODE_CFG.IN_WORDS : Fld := ⟨0x88, 0x4c, 1, 5, .rws, 0, .cfg, false, .node, 0, 16⟩
/-- 0–16. -/
def SEG.NODE_CFG.OUT_WORDS : Fld := ⟨0x88, 0x4c, 6, 5, .rws, 0, .cfg, false, .node, 0, 16⟩
/-- 1–15 (R327). -/
def SEG.NODE_CFG.MISS_LIMIT : Fld := ⟨0x88, 0x4c, 12, 4, .rws, 3, .cfg, false, .node, 1, 15⟩
/-- Expected node type. -/
def SEG.NODE_CFG.TYPE : Fld := ⟨0x88, 0x4c, 16, 16, .rws, 0, .cfg, false, .node, 0, 65535⟩
/-- 0 unused, 1 OK, 2 LOST, 3 TYPE_ERR. -/
def SEG.NODE_STAT.STATE : Fld := ⟨0x88, 0x50, 0, 2, .ro, 0, .std, false, .node, 0, 3⟩
/-- Consecutive missed polls, saturating. -/
def SEG.NODE_STAT.MISSES : Fld := ⟨0x88, 0x50, 8, 8, .ro, 0, .std, false, .node, 0, 255⟩
/-- Node type last answered. -/
def SEG.NODE_STAT.TYPE_SEEN : Fld := ⟨0x88, 0x50, 16, 16, .ro, 0, .std, false, .node, 0, 65535⟩
/-- The module is beaconing. -/
def SEG.SEG_STAT.BEACON : Fld := ⟨0x88, 0x54, 0, 1, .ro, 0, .std, false, .none, 0, 1⟩
/-- Another beacon was seen in the last period. -/
def SEG.SEG_STAT.FOREIGN : Fld := ⟨0x88, 0x54, 1, 1, .ro, 0, .std, false, .none, 0, 1⟩
/-- End of the last accepted answer, in µs after the poll boundary. -/
def SEG.SEG_STAT.LAST_ANS : Fld := ⟨0x88, 0x54, 16, 16, .ro, 0, .std, false, .none, 0, 65535⟩
/-- Counter index (R300). -/
def SEG.STAT_SEL.INDEX : Fld := ⟨0x88, 0x58, 0, 5, .rw, 0, .std, false, .req, 0, 31⟩
/-- Selected counter. -/
def SEG.STAT_VAL.VALUE : Fld := ⟨0x88, 0x5c, 0, 32, .ro, 0, .std, false, .stat, 0, 4294967295⟩
/-- Bit i: counter i's bit 31 set (R299). -/
def SEG.STAT_HALF.HALF : Fld := ⟨0x88, 0x60, 0, 32, .w1c, 0, .std, false, .none, 0, 4294967295⟩

/-- The fields of page SEG. -/
def segFields : List Fld :=
  [SEG.SEG_CFG.PERIOD, SEG.SEG_CFG.PHASE, SEG.SEG_CFG.TERM, SEG.SEG_PLCA.NODE_COUNT, SEG.SEG_PLCA.TO_TIMER, SEG.NODE_SEL.NODE, SEG.NODE_CFG.VALID, SEG.NODE_CFG.IN_WORDS] ++
  [SEG.NODE_CFG.OUT_WORDS, SEG.NODE_CFG.MISS_LIMIT, SEG.NODE_CFG.TYPE, SEG.NODE_STAT.STATE, SEG.NODE_STAT.MISSES, SEG.NODE_STAT.TYPE_SEEN, SEG.SEG_STAT.BEACON, SEG.SEG_STAT.FOREIGN] ++
  [SEG.SEG_STAT.LAST_ANS, SEG.STAT_SEL.INDEX, SEG.STAT_VAL.VALUE, SEG.STAT_HALF.HALF]

/-! Page SVC -/
/-- R332. A staging of 3 fails with ERR_CODE 0x08. -/
def SVC.SVC_CFG.MODE : Fld := ⟨0x90, 0x40, 0, 2, .rws, 0, .cfgKeep, false, .none, 0, 2⟩
/-- 0: 1000BASE-T, 1: 100BASE-TX. -/
def SVC.SVC_CFG.SPEED_MAX : Fld := ⟨0x90, 0x40, 2, 1, .rws, 0, .cfgKeep, false, .none, 0, 1⟩
/-- LPI on the port. Bits [31:4] are reserved. -/
def SVC.SVC_CFG.EEE_EN : Fld := ⟨0x90, 0x40, 3, 1, .rws, 1, .cfgKeep, false, .none, 0, 1⟩
/-- Link up. -/
def SVC.SVC_STAT.LINK : Fld := ⟨0x90, 0x44, 0, 1, .ro, 0, .std, false, .none, 0, 1⟩
/-- 0: 1000 Mb/s, 1: 100 Mb/s, 3: no link. -/
def SVC.SVC_STAT.SPEED : Fld := ⟨0x90, 0x44, 1, 2, .ro, 3, .std, false, .none, 0, 3⟩
/-- LPI negotiated. -/
def SVC.SVC_STAT.LPI : Fld := ⟨0x90, 0x44, 3, 1, .ro, 0, .std, false, .none, 0, 1⟩
/-- 1 after a wake pattern in MODE 2 (R333). Bits [31:5] are reserved. -/
def SVC.SVC_STAT.WOKEN : Fld := ⟨0x90, 0x44, 4, 1, .ro, 0, .std, false, .none, 0, 1⟩
/-- Wake key word. -/
def SVC.SVC_WAKE.KEY : Fld := ⟨0x90, 0x48, 0, 32, .rwl, 0, .cfgKeep, false, .none, 0, 4294967295⟩
/-- Counter index (R300). -/
def SVC.STAT_SEL.INDEX : Fld := ⟨0x90, 0x4c, 0, 5, .rw, 0, .std, false, .req, 0, 31⟩
/-- Selected counter. -/
def SVC.STAT_VAL.VALUE : Fld := ⟨0x90, 0x50, 0, 32, .ro, 0, .std, false, .stat, 0, 4294967295⟩
/-- Bit i: counter i's bit 31 set (R299). -/
def SVC.STAT_HALF.HALF : Fld := ⟨0x90, 0x54, 0, 32, .w1c, 0, .std, false, .none, 0, 4294967295⟩

/-- The fields of page SVC. -/
def svcFields : List Fld :=
  [SVC.SVC_CFG.MODE, SVC.SVC_CFG.SPEED_MAX, SVC.SVC_CFG.EEE_EN, SVC.SVC_STAT.LINK, SVC.SVC_STAT.SPEED, SVC.SVC_STAT.LPI, SVC.SVC_STAT.WOKEN, SVC.SVC_WAKE.KEY] ++
  [SVC.STAT_SEL.INDEX, SVC.STAT_VAL.VALUE, SVC.STAT_HALF.HALF]

/-! Page PTP -/
/-- domainNumber, 0–127. -/
def PTP.PTP_CFG.DOMAIN : Fld := ⟨0xa0, 0x40, 0, 7, .rwl, 0, .cfgKeep, false, .none, 0, 127⟩
/-- Grandmaster-capable (R337). -/
def PTP.PTP_CFG.GM_EN : Fld := ⟨0xa0, 0x40, 8, 1, .rwl, 0, .cfgKeep, false, .none, 0, 1⟩
/-- priority1. -/
def PTP.PTP_CFG.PRIO1 : Fld := ⟨0xa0, 0x40, 16, 8, .rwl, 128, .cfgKeep, false, .none, 0, 255⟩
/-- priority2. -/
def PTP.PTP_CFG.PRIO2 : Fld := ⟨0xa0, 0x40, 24, 8, .rwl, 128, .cfgKeep, false, .none, 0, 255⟩
/-- Largest rate change, 10–1,000 ppm. Other values are refused with ERR_CODE 0x08. -/
def PTP.PTP_LIMITS.SLEW : Fld := ⟨0xa0, 0x44, 0, 10, .rwl, 500, .cfgKeep, false, .none, 10, 1000⟩
/-- Largest offset that is slewed, 1–1,000 ms (R340). -/
def PTP.PTP_LIMITS.STEP_MAX : Fld := ⟨0xa0, 0x44, 16, 10, .rwl, 100, .cfgKeep, false, .none, 1, 1000⟩
/-- Wait for lock at start, 0–20 × 100 ms. -/
def PTP.PTP_LIMITS.START_WAIT : Fld := ⟨0xa0, 0x44, 26, 6, .rwl, 0, .cfgKeep, false, .none, 0, 20⟩
/-- State from R338. -/
def PTP.PTP_STAT.STATE : Fld := ⟨0xa0, 0x48, 0, 3, .ro, 0, .std, false, .none, 0, 7⟩
/-- R337. -/
def PTP.PTP_STAT.TIME_VALID : Fld := ⟨0xa0, 0x48, 3, 1, .ro, 0, .std, false, .none, 0, 1⟩
/-- Port of the Sync in use: 0 east, 1 west. -/
def PTP.PTP_STAT.PORT : Fld := ⟨0xa0, 0x48, 4, 1, .ro, 0, .std, false, .none, 0, 1⟩
/-- stepsRemoved from the grandmaster. Bits [31:16] are reserved. -/
def PTP.PTP_STAT.STEPS : Fld := ⟨0xa0, 0x48, 8, 8, .ro, 0, .std, false, .none, 0, 255⟩
/-- Last offset from the master, signed ns, saturating. -/
def PTP.PTP_OFFSET.OFFSET : Fld := ⟨0xa0, 0x4c, 0, 32, .ro, 0, .std, false, .none, 0, 4294967295⟩
/-- Applied rate correction, signed, in 0.001 ppm. -/
def PTP.PTP_FREQ.FREQ : Fld := ⟨0xa0, 0x50, 0, 32, .ro, 0, .std, false, .none, 0, 4294967295⟩
/-- Nanoseconds. Reading it snapshots the other fields (R342). Bits [31:30] are reserved. -/
def PTP.PTP_NS.NS : Fld := ⟨0xa0, 0x54, 0, 30, .ro, 0, .std, false, .none, 0, 1073741823⟩
/-- Seconds [31:0]. -/
def PTP.PTP_SEC_L.SEC_L : Fld := ⟨0xa0, 0x58, 0, 32, .ro, 0, .std, false, .none, 0, 4294967295⟩
/-- Seconds [47:32]. Bits [31:16] are reserved. -/
def PTP.PTP_SEC_H.SEC_H : Fld := ⟨0xa0, 0x5c, 0, 16, .ro, 0, .std, false, .none, 0, 65535⟩
/-- Fractional nanoseconds. Bits [31:16] are reserved. -/
def PTP.PTP_FRAC.FRAC : Fld := ⟨0xa0, 0x60, 0, 16, .ro, 0, .std, false, .none, 0, 65535⟩
/-- Grandmaster clockIdentity [31:0]. -/
def PTP.PTP_GM_L.GM_L : Fld := ⟨0xa0, 0x64, 0, 32, .ro, 0, .std, false, .none, 0, 4294967295⟩
/-- Grandmaster clockIdentity [63:32]. -/
def PTP.PTP_GM_H.GM_H : Fld := ⟨0xa0, 0x68, 0, 32, .ro, 0, .std, false, .none, 0, 4294967295⟩
/-- Signed slew in ns (R341). -/
def PTP.PTP_ADJ.ADJ : Fld := ⟨0xa0, 0x6c, 0, 32, .wo, 0, .std, false, .none, 0, 4294967295⟩
/-- currentUtcOffset received, in s. -/
def PTP.PTP_UTC.UTC_RX : Fld := ⟨0xa0, 0x70, 0, 16, .ro, 0, .std, false, .none, 0, 65535⟩
/-- currentUtcOffset announced as grandmaster, in s. -/
def PTP.PTP_UTC.UTC_GM : Fld := ⟨0xa0, 0x70, 16, 16, .rwl, 0, .cfgKeep, false, .none, 0, 65535⟩
/-- Exits from LOCKED, saturating. CR: 0. -/
def PTP.PTP_COUNT.LOCK_LOSS : Fld := ⟨0xa0, 0x74, 0, 16, .ro, 0, .std, false, .none, 0, 65535⟩
/-- Grandmaster changes, saturating. CR: 0. -/
def PTP.PTP_COUNT.GM_CHANGE : Fld := ⟨0xa0, 0x74, 16, 16, .ro, 0, .std, false, .none, 0, 65535⟩

/-- The fields of page PTP. -/
def ptpFields : List Fld :=
  [PTP.PTP_CFG.DOMAIN, PTP.PTP_CFG.GM_EN, PTP.PTP_CFG.PRIO1, PTP.PTP_CFG.PRIO2, PTP.PTP_LIMITS.SLEW, PTP.PTP_LIMITS.STEP_MAX, PTP.PTP_LIMITS.START_WAIT, PTP.PTP_STAT.STATE] ++
  [PTP.PTP_STAT.TIME_VALID, PTP.PTP_STAT.PORT, PTP.PTP_STAT.STEPS, PTP.PTP_OFFSET.OFFSET, PTP.PTP_FREQ.FREQ, PTP.PTP_NS.NS, PTP.PTP_SEC_L.SEC_L, PTP.PTP_SEC_H.SEC_H] ++
  [PTP.PTP_FRAC.FRAC, PTP.PTP_GM_L.GM_L, PTP.PTP_GM_H.GM_H, PTP.PTP_ADJ.ADJ, PTP.PTP_UTC.UTC_RX, PTP.PTP_UTC.UTC_GM, PTP.PTP_COUNT.LOCK_LOSS, PTP.PTP_COUNT.GM_CHANGE]

/-! Page RTC -/
/-- Count [31:0] (R343). -/
def RTC.RTC_TICK_L.TICK_L : Fld := ⟨0xa1, 0x40, 0, 32, .ro, 0, .rtc, false, .none, 0, 4294967295⟩
/-- Count [47:32]. Bits [31:16] are reserved. -/
def RTC.RTC_TICK_H.TICK_H : Fld := ⟨0xa1, 0x44, 0, 16, .ro, 0, .rtc, false, .none, 0, 65535⟩
/-- Seconds [31:0]. Writing it stages the seconds write (R344). -/
def RTC.RTC_SEC_L.SEC_L : Fld := ⟨0xa1, 0x48, 0, 32, .rws, 0, .rtc, false, .none, 0, 4294967295⟩
/-- Seconds [32]. Bits [31:1] are reserved. -/
def RTC.RTC_SEC_H.SEC_H : Fld := ⟨0xa1, 0x4c, 0, 1, .rws, 0, .rtc, false, .none, 0, 1⟩
/-- R346. -/
def RTC.RTC_STAT.OSF : Fld := ⟨0xa1, 0x50, 0, 1, .ro, 1, .rtc, false, .none, 0, 1⟩
/-- 1 while running from VBAT. -/
def RTC.RTC_STAT.ON_VBAT : Fld := ⟨0xa1, 0x50, 1, 1, .ro, 0, .rtc, false, .none, 0, 1⟩
/-- ALM0 has fired. -/
def RTC.RTC_STAT.ALM0 : Fld := ⟨0xa1, 0x50, 2, 1, .w1c, 0, .rtc, false, .none, 0, 1⟩
/-- ALM1 has fired. -/
def RTC.RTC_STAT.ALM1 : Fld := ⟨0xa1, 0x50, 3, 1, .w1c, 0, .rtc, false, .none, 0, 1⟩
/-- R344. -/
def RTC.RTC_STAT.WRITE_PEND : Fld := ⟨0xa1, 0x50, 4, 1, .ro, 0, .std, false, .none, 0, 1⟩
/-- Cell voltage, in mV. Bits [31:28] are reserved. -/
def RTC.RTC_STAT.VBAT : Fld := ⟨0xa1, 0x50, 16, 12, .ro, 0, .std, false, .none, 0, 4095⟩
/-- R345. Bits [31:1] are reserved. CR: kept. -/
def RTC.RTC_CFG.AUTOSET : Fld := ⟨0xa1, 0x54, 0, 1, .rwl, 0, .cfgKeep, false, .none, 0, 1⟩
/-- ALM0, ALM1 match [31:0]. -/
def RTC.ALM0_L.MATCH_L : Fld := ⟨0xa1, 0x58, 0, 32, .rws, 0, .rtc, false, .none, 0, 4294967295⟩
/-- ALM0, ALM1 match [31:0]. -/
def RTC.ALM1_L.MATCH_L : Fld := ⟨0xa1, 0x60, 0, 32, .rws, 0, .rtc, false, .none, 0, 4294967295⟩
/-- ALM0, ALM1 match [47:32]. -/
def RTC.ALM0_H.MATCH_H : Fld := ⟨0xa1, 0x5c, 0, 16, .rws, 0, .rtc, false, .none, 0, 65535⟩
/-- ALM0, ALM1 match [47:32]. -/
def RTC.ALM1_H.MATCH_H : Fld := ⟨0xa1, 0x64, 0, 16, .rws, 0, .rtc, false, .none, 0, 65535⟩
/-- Compare the prescaler (R347). -/
def RTC.ALM0_H.CMP_SUB : Fld := ⟨0xa1, 0x5c, 16, 1, .rws, 0, .rtc, false, .none, 0, 1⟩
/-- Compare the prescaler (R347). -/
def RTC.ALM1_H.CMP_SUB : Fld := ⟨0xa1, 0x64, 16, 1, .rws, 0, .rtc, false, .none, 0, 1⟩
/-- Compare seconds [15:0]. -/
def RTC.ALM0_H.CMP_SLO : Fld := ⟨0xa1, 0x5c, 17, 1, .rws, 0, .rtc, false, .none, 0, 1⟩
/-- Compare seconds [15:0]. -/
def RTC.ALM1_H.CMP_SLO : Fld := ⟨0xa1, 0x64, 17, 1, .rws, 0, .rtc, false, .none, 0, 1⟩
/-- Compare seconds [32:16]. -/
def RTC.ALM0_H.CMP_SHI : Fld := ⟨0xa1, 0x5c, 18, 1, .rws, 0, .rtc, false, .none, 0, 1⟩
/-- Compare seconds [32:16]. -/
def RTC.ALM1_H.CMP_SHI : Fld := ⟨0xa1, 0x64, 18, 1, .rws, 0, .rtc, false, .none, 0, 1⟩
/-- Alarm enabled. Bits [31:20] are reserved. -/
def RTC.ALM0_H.EN : Fld := ⟨0xa1, 0x5c, 19, 1, .rws, 0, .rtc, false, .none, 0, 1⟩
/-- Alarm enabled. Bits [31:20] are reserved. -/
def RTC.ALM1_H.EN : Fld := ⟨0xa1, 0x64, 19, 1, .rws, 0, .rtc, false, .none, 0, 1⟩
/-- Switches to VBAT, saturating. -/
def RTC.RTC_COUNT.VBAT_SWITCH : Fld := ⟨0xa1, 0x68, 0, 16, .ro, 0, .rtc, false, .none, 0, 65535⟩
/-- Settings of OSF, saturating. -/
def RTC.RTC_COUNT.OSF_SETS : Fld := ⟨0xa1, 0x68, 16, 16, .ro, 0, .rtc, false, .none, 0, 65535⟩

/-- The fields of page RTC. -/
def rtcFields : List Fld :=
  [RTC.RTC_TICK_L.TICK_L, RTC.RTC_TICK_H.TICK_H, RTC.RTC_SEC_L.SEC_L, RTC.RTC_SEC_H.SEC_H, RTC.RTC_STAT.OSF, RTC.RTC_STAT.ON_VBAT, RTC.RTC_STAT.ALM0, RTC.RTC_STAT.ALM1] ++
  [RTC.RTC_STAT.WRITE_PEND, RTC.RTC_STAT.VBAT, RTC.RTC_CFG.AUTOSET, RTC.ALM0_L.MATCH_L, RTC.ALM1_L.MATCH_L, RTC.ALM0_H.MATCH_H, RTC.ALM1_H.MATCH_H, RTC.ALM0_H.CMP_SUB] ++
  [RTC.ALM1_H.CMP_SUB, RTC.ALM0_H.CMP_SLO, RTC.ALM1_H.CMP_SLO, RTC.ALM0_H.CMP_SHI, RTC.ALM1_H.CMP_SHI, RTC.ALM0_H.EN, RTC.ALM1_H.EN, RTC.RTC_COUNT.VBAT_SWITCH] ++
  [RTC.RTC_COUNT.OSF_SETS]

/-! Page PAIR -/
/-- Witness module ID (R356); 0 for none. A write naming the pair's own ID is refused with … -/
def PAIR.PAIR_CFG.WITNESS : Fld := ⟨0xb0, 0x40, 0, 8, .rwl, 0, .cfgKeep, false, .none, 0, 255⟩
/-- Position preferred at a joint start (R366). -/
def PAIR.PAIR_CFG.PREFER : Fld := ⟨0xb0, 0x40, 8, 1, .rwl, 0, .cfgKeep, false, .none, 0, 1⟩
/-- Days before DRILL_DUE fires; 0 disables it. Bits [31:24] are reserved. -/
def PAIR.PAIR_CFG.DRILL_DAYS : Fld := ⟨0xb0, 0x40, 16, 8, .rwl, 30, .cfgKeep, false, .none, 0, 255⟩
/-- Staging 1 requests a swap (R364). A staging on a partner that is not active fails with … -/
def PAIR.PAIR_CTRL.SWAP : Fld := ⟨0xb0, 0x44, 0, 1, .rws, 0, .std, false, .none, 0, 1⟩
/-- Staging 1 requests a drill (R367). Reads 0. -/
def PAIR.PAIR_CTRL.DRILL : Fld := ⟨0xb0, 0x44, 1, 1, .rws, 0, .std, false, .none, 0, 1⟩
/-- Swap back after the drill. -/
def PAIR.PAIR_CTRL.BACK : Fld := ⟨0xb0, 0x44, 2, 1, .rws, 1, .std, false, .none, 0, 1⟩
/-- Drill hold, 40–40,000 ticks. Other values fail with ERR_CODE 0x08. -/
def PAIR.PAIR_CTRL.HOLD : Fld := ⟨0xb0, 0x44, 16, 16, .rws, 400, .std, false, .none, 40, 40000⟩
/-- R366. Refused with ERR_CODE 0x01 without tin 0 or tin 1 and the configure right. -/
def PAIR.PAIR_CMD.FORCE_TAKE : Fld := ⟨0xb0, 0x48, 0, 1, .wo, 0, .std, false, .none, 0, 1⟩
/-- R363. Refused with ERR_CODE 0x0A on the active partner. Bits [31:2] are reserved. -/
def PAIR.PAIR_CMD.RESYNC : Fld := ⟨0xb0, 0x48, 1, 1, .wo, 0, .std, false, .none, 0, 1⟩
/-- As MOD.MOD_STATUS.PAIR_ROLE. SW: per swap. -/
def PAIR.PAIR_STAT.ROLE : Fld := ⟨0xb0, 0x4c, 0, 2, .ro, 0, .std, false, .none, 0, 3⟩
/-- Outputs not fenced. -/
def PAIR.PAIR_STAT.DRIVING : Fld := ⟨0xb0, 0x4c, 2, 1, .ro, 0, .std, false, .none, 0, 1⟩
/-- Pair link up. -/
def PAIR.PAIR_STAT.LINK : Fld := ⟨0xb0, 0x4c, 3, 1, .ro, 0, .std, false, .none, 0, 1⟩
/-- Renewals or ACKs from the partner within the last 6.0 ms. -/
def PAIR.PAIR_STAT.PARTNER : Fld := ⟨0xb0, 0x4c, 4, 1, .ro, 0, .std, false, .none, 0, 1⟩
/-- ACKs or answers from the witness within the last 6.0 ms. -/
def PAIR.PAIR_STAT.WITNESS_OK : Fld := ⟨0xb0, 0x4c, 5, 1, .ro, 0, .std, false, .none, 0, 1⟩
/-- R362. -/
def PAIR.PAIR_STAT.SYNCED : Fld := ⟨0xb0, 0x4c, 6, 1, .ro, 0, .std, false, .none, 0, 1⟩
/-- Pairs this module serves as witness, 0–8. -/
def PAIR.PAIR_STAT.WITNESSING : Fld := ⟨0xb0, 0x4c, 8, 4, .ro, 0, .std, false, .none, 0, 15⟩
/-- Slots DESYNC, 0–128. Bits [31:24] are reserved. -/
def PAIR.PAIR_STAT.DESYNC : Fld := ⟨0xb0, 0x4c, 16, 8, .ro, 0, .std, false, .none, 0, 255⟩
/-- Pair epoch (R358). SW: new value. -/
def PAIR.PAIR_EPOCH.EPOCH : Fld := ⟨0xb0, 0x50, 0, 32, .ro, 0, .cfgKeep, false, .none, 0, 4294967295⟩
/-- Lease-clock µs since the last acknowledged renewal was sent. -/
def PAIR.PAIR_LEASE.AGE : Fld := ⟨0xb0, 0x54, 0, 16, .ro, 0, .std, false, .none, 0, 65535⟩
/-- Lease-clock µs since the last renewal was seen from the partner. -/
def PAIR.PAIR_LEASE.SEEN : Fld := ⟨0xb0, 0x54, 16, 16, .ro, 0, .std, false, .none, 0, 65535⟩
/-- A drill has ended. -/
def PAIR.DRILL_RES.DONE : Fld := ⟨0xb0, 0x58, 0, 1, .w1c, 0, .std, false, .none, 0, 1⟩
/-- The last drill passed. -/
def PAIR.DRILL_RES.PASS : Fld := ⟨0xb0, 0x58, 1, 1, .ro, 0, .std, false, .none, 0, 1⟩
/-- Outputs tested. -/
def PAIR.DRILL_RES.TESTED : Fld := ⟨0xb0, 0x58, 8, 8, .ro, 0, .std, false, .none, 0, 255⟩
/-- Outputs failed. -/
def PAIR.DRILL_RES.FAILED : Fld := ⟨0xb0, 0x58, 16, 8, .ro, 0, .std, false, .none, 0, 255⟩
/-- First failed channel, 0–95. Bit [31] is reserved. -/
def PAIR.DRILL_RES.FIRST : Fld := ⟨0xb0, 0x58, 24, 7, .ro, 0, .std, false, .none, 0, 127⟩
/-- Days since this module's partner last drove outputs. CR: kept. Bits [31:16] are reserved. -/
def PAIR.PAIR_AGE.TEST_AGE : Fld := ⟨0xb0, 0x5c, 0, 16, .ro, 0, .keep, false, .none, 0, 65535⟩
/-- Takeovers by this partner. CR: 0. -/
def PAIR.PAIR_COUNT0.TAKEOVERS : Fld := ⟨0xb0, 0x60, 0, 16, .ro, 0, .std, false, .none, 0, 65535⟩
/-- Swaps committed. CR: 0. -/
def PAIR.PAIR_COUNT0.SWAPS : Fld := ⟨0xb0, 0x60, 16, 16, .ro, 0, .std, false, .none, 0, 65535⟩
/-- Entries into DESYNC. CR: 0. -/
def PAIR.PAIR_COUNT1.DESYNCS : Fld := ⟨0xb0, 0x64, 0, 16, .ro, 0, .std, false, .none, 0, 65535⟩
/-- Fences by lapse. CR: 0. -/
def PAIR.PAIR_COUNT1.FENCES : Fld := ⟨0xb0, 0x64, 16, 16, .ro, 0, .std, false, .none, 0, 65535⟩
/-- Counter index (R300). -/
def PAIR.STAT_SEL.INDEX : Fld := ⟨0xb0, 0x68, 0, 5, .rw, 0, .std, false, .req, 0, 31⟩
/-- Selected counter. -/
def PAIR.STAT_VAL.VALUE : Fld := ⟨0xb0, 0x6c, 0, 32, .ro, 0, .std, false, .stat, 0, 4294967295⟩
/-- Bit i: counter i's bit 31 set (R299). -/
def PAIR.STAT_HALF.HALF : Fld := ⟨0xb0, 0x70, 0, 32, .w1c, 0, .std, false, .none, 0, 4294967295⟩

/-- The fields of page PAIR. -/
def pairFields : List Fld :=
  [PAIR.PAIR_CFG.WITNESS, PAIR.PAIR_CFG.PREFER, PAIR.PAIR_CFG.DRILL_DAYS, PAIR.PAIR_CTRL.SWAP, PAIR.PAIR_CTRL.DRILL, PAIR.PAIR_CTRL.BACK, PAIR.PAIR_CTRL.HOLD, PAIR.PAIR_CMD.FORCE_TAKE] ++
  [PAIR.PAIR_CMD.RESYNC, PAIR.PAIR_STAT.ROLE, PAIR.PAIR_STAT.DRIVING, PAIR.PAIR_STAT.LINK, PAIR.PAIR_STAT.PARTNER, PAIR.PAIR_STAT.WITNESS_OK, PAIR.PAIR_STAT.SYNCED, PAIR.PAIR_STAT.WITNESSING] ++
  [PAIR.PAIR_STAT.DESYNC, PAIR.PAIR_EPOCH.EPOCH, PAIR.PAIR_LEASE.AGE, PAIR.PAIR_LEASE.SEEN, PAIR.DRILL_RES.DONE, PAIR.DRILL_RES.PASS, PAIR.DRILL_RES.TESTED, PAIR.DRILL_RES.FAILED] ++
  [PAIR.DRILL_RES.FIRST, PAIR.PAIR_AGE.TEST_AGE, PAIR.PAIR_COUNT0.TAKEOVERS, PAIR.PAIR_COUNT0.SWAPS, PAIR.PAIR_COUNT1.DESYNCS, PAIR.PAIR_COUNT1.FENCES, PAIR.STAT_SEL.INDEX, PAIR.STAT_VAL.VALUE] ++
  [PAIR.STAT_HALF.HALF]

/-! Page PEEL -/
/-- Selected engine. -/
def PEEL.PEEL_SEL.ENGINE : Fld := ⟨0xb1, 0x40, 0, 4, .rw, 0, .std, false, .req, 0, 15⟩
/-- Selected slot. Bits [31:7] are reserved. -/
def PEEL.PEEL_SEL.SLOT : Fld := ⟨0xb1, 0x40, 4, 3, .rw, 0, .std, false, .req, 0, 7⟩
/-- Placement alias; 0 when the slot is not placed. A commit that changes GROUP while RUN … -/
def PEEL.PEEL_CFG.GROUP : Fld := ⟨0xb1, 0x44, 0, 12, .rws, 0, .cfg, false, .peel, 0, 4095⟩
/-- Automatic survival takeover (R373). -/
def PEEL.PEEL_CFG.AUTO : Fld := ⟨0xb1, 0x44, 12, 1, .rws, 0, .cfg, false, .peel, 0, 1⟩
/-- Survival destination module. -/
def PEEL.PEEL_CFG.SURV_MOD : Fld := ⟨0xb1, 0x44, 16, 8, .rws, 0, .cfg, false, .peel, 0, 255⟩
/-- Survival destination engine. -/
def PEEL.PEEL_CFG.SURV_ENG : Fld := ⟨0xb1, 0x44, 24, 4, .rws, 0, .cfg, false, .peel, 0, 15⟩
/-- Survival destination slot. Bit [31] is reserved. -/
def PEEL.PEEL_CFG.SURV_SLOT : Fld := ⟨0xb1, 0x44, 28, 3, .rws, 0, .cfg, false, .peel, 0, 7⟩
/-- Checkpoint every CKPT releases; 0 for none. Bits [31:16] are reserved. -/
def PEEL.PEEL_CKPT.CKPT : Fld := ⟨0xb1, 0x48, 0, 16, .rws, 0, .cfg, false, .peel, 0, 65535⟩
/-- Peel destination module. -/
def PEEL.PEEL_DST.MODULE : Fld := ⟨0xb1, 0x4c, 0, 8, .rws, 0, .std, false, .peel, 0, 255⟩
/-- Destination engine. -/
def PEEL.PEEL_DST.ENGINE : Fld := ⟨0xb1, 0x4c, 8, 4, .rws, 0, .std, false, .peel, 0, 15⟩
/-- Destination slot. -/
def PEEL.PEEL_DST.SLOT : Fld := ⟨0xb1, 0x4c, 12, 3, .rws, 0, .std, false, .peel, 0, 7⟩
/-- Staging 1 requests the peel (R371). Reads 0. Bits [31:16] are reserved. -/
def PEEL.PEEL_DST.GO : Fld := ⟨0xb1, 0x4c, 15, 1, .rws, 0, .std, false, .peel, 0, 1⟩
/-- 0 IDLE, 1 ARMED, 2 MOVING, 3 DONE, 4 FAILED, 5 PARKED, 6 SURVIVED. -/
def PEEL.PEEL_STAT.STATE : Fld := ⟨0xb1, 0x50, 0, 3, .ro, 0, .std, false, .peel, 0, 7⟩
/-- Code of the last failure. Bits [31:16] are reserved. -/
def PEEL.PEEL_STAT.CODE : Fld := ⟨0xb1, 0x50, 8, 8, .ro, 0, .std, false, .peel, 0, 255⟩
/-- Hand-over tick h [31:0], read under R37. -/
def PEEL.PEEL_HTICK_L.HTICK_L : Fld := ⟨0xb1, 0x54, 0, 32, .ro, 0, .std, false, .peel, 0, 4294967295⟩
/-- Hand-over tick [63:32]. -/
def PEEL.PEEL_HTICK_H.HTICK_H : Fld := ⟨0xb1, 0x58, 0, 32, .ro, 0, .std, false, .peel, 0, 4294967295⟩
/-- Publications discarded under R372. Wraps from 0xFFFF_FFFF to 0. -/
def PEEL.PEEL_LATE.PEEL_LATE : Fld := ⟨0xb1, 0x5c, 0, 32, .ro, 0, .std, false, .none, 0, 4294967295⟩
/-- Lines in the last snapshot. -/
def PEEL.PEEL_XFER.LINES : Fld := ⟨0xb1, 0x60, 0, 12, .ro, 0, .std, false, .peel, 0, 4095⟩
/-- Transfer time of the last snapshot, in µs, saturating. -/
def PEEL.PEEL_XFER.TIME : Fld := ⟨0xb1, 0x60, 16, 16, .ro, 0, .std, false, .peel, 0, 65535⟩
/-- Peels away from this module. CR: 0. -/
def PEEL.PEEL_COUNT.OUT : Fld := ⟨0xb1, 0x64, 0, 16, .ro, 0, .std, false, .none, 0, 65535⟩
/-- Peels and survival takeovers into this module. CR: 0. -/
def PEEL.PEEL_COUNT.IN : Fld := ⟨0xb1, 0x64, 16, 16, .ro, 0, .std, false, .none, 0, 65535⟩
/-- Survival takeover of the selected parked slot (R373). Refused with ERR_CODE 0x01 … -/
def PEEL.PEEL_CMD.TAKE : Fld := ⟨0xb1, 0x68, 0, 1, .wo, 0, .std, false, .none, 0, 1⟩
/-- Remote publications discarded as late (R369). CR: 0. Bits [31:16] are reserved. -/
def PEEL.PEEL_PUB.REMOTE_LATE : Fld := ⟨0xb1, 0x6c, 0, 16, .ro, 0, .std, false, .none, 0, 65535⟩

/-- The fields of page PEEL. -/
def peelFields : List Fld :=
  [PEEL.PEEL_SEL.ENGINE, PEEL.PEEL_SEL.SLOT, PEEL.PEEL_CFG.GROUP, PEEL.PEEL_CFG.AUTO, PEEL.PEEL_CFG.SURV_MOD, PEEL.PEEL_CFG.SURV_ENG, PEEL.PEEL_CFG.SURV_SLOT, PEEL.PEEL_CKPT.CKPT] ++
  [PEEL.PEEL_DST.MODULE, PEEL.PEEL_DST.ENGINE, PEEL.PEEL_DST.SLOT, PEEL.PEEL_DST.GO, PEEL.PEEL_STAT.STATE, PEEL.PEEL_STAT.CODE, PEEL.PEEL_HTICK_L.HTICK_L, PEEL.PEEL_HTICK_H.HTICK_H] ++
  [PEEL.PEEL_LATE.PEEL_LATE, PEEL.PEEL_XFER.LINES, PEEL.PEEL_XFER.TIME, PEEL.PEEL_COUNT.OUT, PEEL.PEEL_COUNT.IN, PEEL.PEEL_CMD.TAKE, PEEL.PEEL_PUB.REMOTE_LATE]

/-! Page KEY -/
/-- Lifecycle state (R377). -/
def KEY.KEY_STAT.LIFECYCLE : Fld := ⟨0xc0, 0x40, 0, 2, .ro, 0, .hold, false, .none, 0, 3⟩
/-- Debug active. -/
def KEY.KEY_STAT.DEBUG : Fld := ⟨0xc0, 0x40, 2, 1, .ro, 0, .std, false, .none, 0, 1⟩
/-- R386. -/
def KEY.KEY_STAT.DBG_ARMED : Fld := ⟨0xc0, 0x40, 3, 1, .ro, 0, .hold, false, .none, 0, 1⟩
/-- 0 production, 1 test. -/
def KEY.KEY_STAT.ROOT : Fld := ⟨0xc0, 0x40, 4, 1, .ro, 0, .std, false, .none, 0, 1⟩
/-- 1 when the self-check of the start passed. -/
def KEY.KEY_STAT.SELFTEST : Fld := ⟨0xc0, 0x40, 5, 1, .ro, 0, .std, false, .none, 0, 1⟩
/-- Slots with INTEG_FAIL, 0–64. -/
def KEY.KEY_STAT.FAILED : Fld := ⟨0xc0, 0x40, 8, 7, .ro, 0, .std, false, .none, 0, 127⟩
/-- Debug authorisations accepted. -/
def KEY.KEY_STAT.DBG_COUNT : Fld := ⟨0xc0, 0x40, 16, 16, .ro, 0, .hold, false, .none, 0, 65535⟩
/-- Selected slot. Bits [31:6] are reserved. -/
def KEY.KEY_SEL.SLOT : Fld := ⟨0xc0, 0x44, 0, 6, .rw, 0, .std, false, .req, 0, 63⟩
/-- Attribute word of the selected slot (R379). -/
def KEY.KEY_ATTR.ATTR : Fld := ⟨0xc0, 0x48, 0, 32, .ro, 0, .hold, false, .key, 0, 4294967295⟩
/-- Attributes for LOAD and GENERATE. VALID, VENDOR and INTEG_FAIL are ignored. -/
def KEY.KEY_NEWATTR.NEWATTR : Fld := ⟨0xc0, 0x4c, 0, 32, .rw, 0, .std, false, .req, 0, 4294967295⟩
/-- Next input word; at most 128 words before a command, beyond which a write is refused … -/
def KEY.KEY_DATA.DATA : Fld := ⟨0xc0, 0x50, 0, 32, .wo, 0, .std, false, .none, 0, 4294967295⟩
/-- Operation (R397). -/
def KEY.KEY_CMD.OP : Fld := ⟨0xc0, 0x54, 0, 4, .wo, 0, .std, false, .none, 0, 15⟩
/-- SLOT column. -/
def KEY.KEY_CMD.SRC : Fld := ⟨0xc0, 0x54, 8, 6, .wo, 0, .std, false, .none, 0, 63⟩
/-- AUX column. Bits [31:22] are reserved. -/
def KEY.KEY_CMD.AUX : Fld := ⟨0xc0, 0x54, 16, 6, .wo, 0, .std, false, .none, 0, 63⟩
/-- Reading pops the next output word; 0 when empty. -/
def KEY.KEY_OUT.OUT : Fld := ⟨0xc0, 0x58, 0, 32, .ro, 0, .std, false, .none, 0, 4294967295⟩
/-- Output words waiting, 0–128. Bits [31:8] are reserved. -/
def KEY.KEY_OUT_STAT.OUT_COUNT : Fld := ⟨0xc0, 0x5c, 0, 8, .ro, 0, .std, false, .none, 0, 255⟩
/-- 1 from a command until its outcome. -/
def KEY.KEY_RESULT.BUSY : Fld := ⟨0xc0, 0x60, 0, 1, .ro, 0, .std, false, .none, 0, 1⟩
/-- Outcome of the last command. -/
def KEY.KEY_RESULT.CODE : Fld := ⟨0xc0, 0x60, 8, 8, .ro, 0, .std, false, .none, 0, 255⟩
/-- OP of the last command. Bits [31:20] are reserved. -/
def KEY.KEY_RESULT.LAST : Fld := ⟨0xc0, 0x60, 16, 4, .ro, 0, .std, false, .none, 0, 15⟩

/-- The fields of page KEY. -/
def keyFields : List Fld :=
  [KEY.KEY_STAT.LIFECYCLE, KEY.KEY_STAT.DEBUG, KEY.KEY_STAT.DBG_ARMED, KEY.KEY_STAT.ROOT, KEY.KEY_STAT.SELFTEST, KEY.KEY_STAT.FAILED, KEY.KEY_STAT.DBG_COUNT, KEY.KEY_SEL.SLOT] ++
  [KEY.KEY_ATTR.ATTR, KEY.KEY_NEWATTR.NEWATTR, KEY.KEY_DATA.DATA, KEY.KEY_CMD.OP, KEY.KEY_CMD.SRC, KEY.KEY_CMD.AUX, KEY.KEY_OUT.OUT, KEY.KEY_OUT_STAT.OUT_COUNT] ++
  [KEY.KEY_RESULT.BUSY, KEY.KEY_RESULT.CODE, KEY.KEY_RESULT.LAST]

/-! Page SES -/
/-- Idle limit, 10–65,535 s; other values are refused with ERR_CODE 0x08. -/
def SES.SES_CFG.IDLE : Fld := ⟨0xc1, 0x40, 0, 16, .rwl, 900, .cfgKeep, false, .none, 10, 65535⟩
/-- Session life, 1–168 h. -/
def SES.SES_CFG.LIFE : Fld := ⟨0xc1, 0x40, 16, 8, .rwl, 24, .cfgKeep, false, .none, 1, 168⟩
/-- Certificate mode allowed; otherwise HELLO is refused with ERR_CODE 0x0D. -/
def SES.SES_CFG.CERT_EN : Fld := ⟨0xc1, 0x40, 24, 1, .rwl, 1, .cfgKeep, false, .none, 0, 1⟩
/-- PSK mode allowed, under the same rule. Bits [31:26] are reserved. -/
def SES.SES_CFG.PSK_EN : Fld := ⟨0xc1, 0x40, 25, 1, .rwl, 1, .cfgKeep, false, .none, 0, 1⟩
/-- Selected session entry. Bits [31:6] are reserved. -/
def SES.SES_SEL.SESSION : Fld := ⟨0xc1, 0x44, 0, 6, .rw, 0, .std, false, .req, 0, 63⟩
/-- 0 FREE, 1 HANDSHAKE, 2 OPEN. -/
def SES.SES_STATE.STATE : Fld := ⟨0xc1, 0x48, 0, 2, .ro, 0, .std, false, .ses, 0, 3⟩
/-- 0 certificate, 1 PSK. -/
def SES.SES_STATE.MODE : Fld := ⟨0xc1, 0x48, 2, 1, .ro, 0, .std, false, .ses, 0, 1⟩
/-- 1 on the service port, 0 on the ring. -/
def SES.SES_STATE.SERVICE : Fld := ⟨0xc1, 0x48, 3, 1, .ro, 0, .std, false, .ses, 0, 1⟩
/-- Ring client's module ID. -/
def SES.SES_STATE.PEER_ID : Fld := ⟨0xc1, 0x48, 4, 8, .ro, 0, .std, false, .ses, 0, 255⟩
/-- Ring client's carrier position. -/
def SES.SES_STATE.PEER_POS : Fld := ⟨0xc1, 0x48, 12, 1, .ro, 0, .std, false, .ses, 0, 1⟩
/-- Certificate dates were not checked (R391). -/
def SES.SES_STATE.NO_DATES : Fld := ⟨0xc1, 0x48, 13, 1, .ro, 0, .std, false, .ses, 0, 1⟩
/-- Session tin. -/
def SES.SES_STATE.TIN : Fld := ⟨0xc1, 0x48, 16, 8, .ro, 0, .std, false, .ses, 0, 255⟩
/-- Session rights, as in R379. Bits [31:28] are reserved. -/
def SES.SES_STATE.RIGHTS : Fld := ⟨0xc1, 0x48, 24, 4, .ro, 0, .std, false, .ses, 0, 15⟩
/-- Session ID. -/
def SES.SES_ID.SID : Fld := ⟨0xc1, 0x4c, 0, 16, .ro, 0, .std, false, .ses, 0, 65535⟩
/-- PSK slot or anchor slot. Bits [31:22] are reserved. -/
def SES.SES_ID.CRED : Fld := ⟨0xc1, 0x4c, 16, 6, .ro, 0, .std, false, .ses, 0, 63⟩
/-- Seconds since the last accepted frame. -/
def SES.SES_AGE.IDLE_S : Fld := ⟨0xc1, 0x50, 0, 16, .ro, 0, .std, false, .ses, 0, 65535⟩
/-- Minutes since READY. -/
def SES.SES_AGE.AGE_MIN : Fld := ⟨0xc1, 0x50, 16, 16, .ro, 0, .std, false, .ses, 0, 65535⟩
/-- The requester's own session entry. -/
def SES.SES_SELF.SELF : Fld := ⟨0xc1, 0x54, 0, 6, .ro, 0, .std, false, .none, 0, 63⟩
/-- 1 when the requester is a session. Bits [31:7] are reserved. -/
def SES.SES_SELF.SELF_VALID : Fld := ⟨0xc1, 0x54, 6, 1, .ro, 0, .std, false, .none, 0, 1⟩
/-- Closes the selected session; needs tin 0 with the configure right, or the session … -/
def SES.SES_CMD.CLOSE : Fld := ⟨0xc1, 0x58, 0, 1, .wo, 0, .std, false, .none, 0, 1⟩
/-- Failed handshakes, saturating. CR: 0. -/
def SES.SES_COUNT.AUTH_FAIL : Fld := ⟨0xc1, 0x5c, 0, 16, .ro, 0, .std, false, .none, 0, 65535⟩
/-- Replayed frames, saturating. CR: 0. -/
def SES.SES_COUNT.REPLAY : Fld := ⟨0xc1, 0x5c, 16, 8, .ro, 0, .std, false, .none, 0, 255⟩
/-- Frames whose tag failed, saturating. CR: 0. -/
def SES.SES_COUNT.TAG_FAIL : Fld := ⟨0xc1, 0x5c, 24, 8, .ro, 0, .std, false, .none, 0, 255⟩
/-- Sources locked out, 0–16 (R394). Bits [31:5] are reserved. -/
def SES.SES_LOCK.LOCKED : Fld := ⟨0xc1, 0x60, 0, 5, .ro, 0, .std, false, .none, 0, 31⟩

/-- The fields of page SES. -/
def sesFields : List Fld :=
  [SES.SES_CFG.IDLE, SES.SES_CFG.LIFE, SES.SES_CFG.CERT_EN, SES.SES_CFG.PSK_EN, SES.SES_SEL.SESSION, SES.SES_STATE.STATE, SES.SES_STATE.MODE, SES.SES_STATE.SERVICE] ++
  [SES.SES_STATE.PEER_ID, SES.SES_STATE.PEER_POS, SES.SES_STATE.NO_DATES, SES.SES_STATE.TIN, SES.SES_STATE.RIGHTS, SES.SES_ID.SID, SES.SES_ID.CRED, SES.SES_AGE.IDLE_S] ++
  [SES.SES_AGE.AGE_MIN, SES.SES_SELF.SELF, SES.SES_SELF.SELF_VALID, SES.SES_CMD.CLOSE, SES.SES_COUNT.AUTH_FAIL, SES.SES_COUNT.REPLAY, SES.SES_COUNT.TAG_FAIL, SES.SES_LOCK.LOCKED]

/-! Page STO -/
/-- Selected store ID (R400). An ID that is not in R400 is refused with ERR_CODE 0x08. Bits … -/
def STO.STO_SEL.STORE : Fld := ⟨0xd0, 0x40, 0, 8, .rw, 0, .std, false, .req, 0, 255⟩
/-- Bank 0 valid. -/
def STO.STO_STAT.VALID0 : Fld := ⟨0xd0, 0x44, 0, 1, .ro, 0, .std, false, .sto, 0, 1⟩
/-- Bank 1 valid. -/
def STO.STO_STAT.VALID1 : Fld := ⟨0xd0, 0x44, 1, 1, .ro, 0, .std, false, .sto, 0, 1⟩
/-- Bank in force. -/
def STO.STO_STAT.CUR : Fld := ⟨0xd0, 0x44, 2, 1, .ro, 0, .std, false, .sto, 0, 1⟩
/-- The store is held (R404). -/
def STO.STO_STAT.HELD : Fld := ⟨0xd0, 0x44, 3, 1, .ro, 0, .std, false, .sto, 0, 1⟩
/-- A write is in progress. -/
def STO.STO_STAT.WRITING : Fld := ⟨0xd0, 0x44, 4, 1, .ro, 0, .std, false, .sto, 0, 1⟩
/-- A write is waiting (R403). -/
def STO.STO_STAT.PENDING : Fld := ⟨0xd0, 0x44, 5, 1, .ro, 0, .std, false, .sto, 0, 1⟩
/-- FORMAT of the bank in force. -/
def STO.STO_STAT.FORMAT : Fld := ⟨0xd0, 0x44, 16, 16, .ro, 0, .std, false, .sto, 0, 65535⟩
/-- SEQ of the bank in force. -/
def STO.STO_SEQ.SEQ : Fld := ⟨0xd0, 0x48, 0, 32, .ro, 0, .std, false, .sto, 0, 4294967295⟩
/-- Writes completed, wrapping. -/
def STO.STO_COUNT.WRITES : Fld := ⟨0xd0, 0x4c, 0, 16, .ro, 0, .keep, false, .sto, 0, 65535⟩
/-- Writes failed, saturating. -/
def STO.STO_COUNT.FAILS : Fld := ⟨0xd0, 0x4c, 16, 16, .ro, 0, .keep, false, .sto, 0, 65535⟩

/-- The fields of page STO. -/
def stoFields : List Fld :=
  [STO.STO_SEL.STORE, STO.STO_STAT.VALID0, STO.STO_STAT.VALID1, STO.STO_STAT.CUR, STO.STO_STAT.HELD, STO.STO_STAT.WRITING, STO.STO_STAT.PENDING, STO.STO_STAT.FORMAT] ++
  [STO.STO_SEQ.SEQ, STO.STO_COUNT.WRITES, STO.STO_COUNT.FAILS]

/-! Page REC -/
/-- Selected record (R412). Bits [31:24] are reserved. -/
def REC.REC_SEL.SEQ : Fld := ⟨0xd1, 0x40, 0, 24, .rw, 0, .std, false, .req, 0, 16777215⟩
/-- A spilled record is being fetched. -/
def REC.REC_STAT.BUSY : Fld := ⟨0xd1, 0x44, 0, 1, .ro, 0, .std, false, .none, 0, 1⟩
/-- The selected SEQ is not held. -/
def REC.REC_STAT.GONE : Fld := ⟨0xd1, 0x44, 1, 1, .ro, 0, .std, false, .none, 0, 1⟩
/-- The selected record is a spilled copy. Bits [31:3] are reserved. -/
def REC.REC_STAT.SPILLED : Fld := ⟨0xd1, 0x44, 2, 1, .ro, 0, .std, false, .none, 0, 1⟩
/-- SEQ of the newest record. Bits [31:24] are reserved. -/
def REC.REC_NEWEST.NEWEST : Fld := ⟨0xd1, 0x48, 0, 24, .ro, 0, .std, false, .none, 0, 16777215⟩
/-- SEQ of the oldest record held. Bits [31:24] are reserved. -/
def REC.REC_OLDEST.OLDEST : Fld := ⟨0xd1, 0x4c, 0, 24, .ro, 0, .std, false, .none, 0, 16777215⟩
/-- Records lost (R411), saturating. -/
def REC.REC_COUNT.LOST : Fld := ⟨0xd1, 0x50, 0, 16, .ro, 0, .std, false, .none, 0, 65535⟩
/-- Records not yet spilled, saturating at 65,535. -/
def REC.REC_COUNT.UNSPILLED : Fld := ⟨0xd1, 0x50, 16, 16, .ro, 0, .std, false, .none, 0, 65535⟩
/-- Source selected for REC_SNAPi. A value of 1,152 or more is refused with ERR_CODE 0x08. … -/
def REC.REC_SRC_SEL.SOURCE : Fld := ⟨0xd1, 0x54, 0, 11, .rw, 0, .std, false, .req, 0, 1151⟩
/-- REC_SNAPi, for i of 0–7: window offset of snapshot i. -/
def REC.REC_SNAP0.OFFSET : Fld := ⟨0xd1, 0x58, 0, 24, .rws, 0, .cfg, false, .recSrc, 0, 16777215⟩
/-- REC_SNAPi, for i of 0–7: window offset of snapshot i. -/
def REC.REC_SNAP1.OFFSET : Fld := ⟨0xd1, 0x5c, 0, 24, .rws, 0, .cfg, false, .recSrc, 0, 16777215⟩
/-- REC_SNAPi, for i of 0–7: window offset of snapshot i. -/
def REC.REC_SNAP2.OFFSET : Fld := ⟨0xd1, 0x60, 0, 24, .rws, 0, .cfg, false, .recSrc, 0, 16777215⟩
/-- REC_SNAPi, for i of 0–7: window offset of snapshot i. -/
def REC.REC_SNAP3.OFFSET : Fld := ⟨0xd1, 0x64, 0, 24, .rws, 0, .cfg, false, .recSrc, 0, 16777215⟩
/-- REC_SNAPi, for i of 0–7: window offset of snapshot i. -/
def REC.REC_SNAP4.OFFSET : Fld := ⟨0xd1, 0x68, 0, 24, .rws, 0, .cfg, false, .recSrc, 0, 16777215⟩
/-- REC_SNAPi, for i of 0–7: window offset of snapshot i. -/
def REC.REC_SNAP5.OFFSET : Fld := ⟨0xd1, 0x6c, 0, 24, .rws, 0, .cfg, false, .recSrc, 0, 16777215⟩
/-- REC_SNAPi, for i of 0–7: window offset of snapshot i. -/
def REC.REC_SNAP6.OFFSET : Fld := ⟨0xd1, 0x70, 0, 24, .rws, 0, .cfg, false, .recSrc, 0, 16777215⟩
/-- REC_SNAPi, for i of 0–7: window offset of snapshot i. -/
def REC.REC_SNAP7.OFFSET : Fld := ⟨0xd1, 0x74, 0, 24, .rws, 0, .cfg, false, .recSrc, 0, 16777215⟩
/-- Snapshot i taken. -/
def REC.REC_SNAP0.EN : Fld := ⟨0xd1, 0x58, 31, 1, .rws, 0, .cfg, false, .recSrc, 0, 1⟩
/-- Snapshot i taken. -/
def REC.REC_SNAP1.EN : Fld := ⟨0xd1, 0x5c, 31, 1, .rws, 0, .cfg, false, .recSrc, 0, 1⟩
/-- Snapshot i taken. -/
def REC.REC_SNAP2.EN : Fld := ⟨0xd1, 0x60, 31, 1, .rws, 0, .cfg, false, .recSrc, 0, 1⟩
/-- Snapshot i taken. -/
def REC.REC_SNAP3.EN : Fld := ⟨0xd1, 0x64, 31, 1, .rws, 0, .cfg, false, .recSrc, 0, 1⟩
/-- Snapshot i taken. -/
def REC.REC_SNAP4.EN : Fld := ⟨0xd1, 0x68, 31, 1, .rws, 0, .cfg, false, .recSrc, 0, 1⟩
/-- Snapshot i taken. -/
def REC.REC_SNAP5.EN : Fld := ⟨0xd1, 0x6c, 31, 1, .rws, 0, .cfg, false, .recSrc, 0, 1⟩
/-- Snapshot i taken. -/
def REC.REC_SNAP6.EN : Fld := ⟨0xd1, 0x70, 31, 1, .rws, 0, .cfg, false, .recSrc, 0, 1⟩
/-- Snapshot i taken. -/
def REC.REC_SNAP7.EN : Fld := ⟨0xd1, 0x74, 31, 1, .rws, 0, .cfg, false, .recSrc, 0, 1⟩
/-- REC_Ww, for w of 0–15: word w of the selected record. -/
def REC.REC_W0.W : Fld := ⟨0xd1, 0x80, 0, 32, .ro, 0, .std, false, .none, 0, 4294967295⟩
/-- REC_Ww, for w of 0–15: word w of the selected record. -/
def REC.REC_W1.W : Fld := ⟨0xd1, 0x84, 0, 32, .ro, 0, .std, false, .none, 0, 4294967295⟩
/-- REC_Ww, for w of 0–15: word w of the selected record. -/
def REC.REC_W2.W : Fld := ⟨0xd1, 0x88, 0, 32, .ro, 0, .std, false, .none, 0, 4294967295⟩
/-- REC_Ww, for w of 0–15: word w of the selected record. -/
def REC.REC_W3.W : Fld := ⟨0xd1, 0x8c, 0, 32, .ro, 0, .std, false, .none, 0, 4294967295⟩
/-- REC_Ww, for w of 0–15: word w of the selected record. -/
def REC.REC_W4.W : Fld := ⟨0xd1, 0x90, 0, 32, .ro, 0, .std, false, .none, 0, 4294967295⟩
/-- REC_Ww, for w of 0–15: word w of the selected record. -/
def REC.REC_W5.W : Fld := ⟨0xd1, 0x94, 0, 32, .ro, 0, .std, false, .none, 0, 4294967295⟩
/-- REC_Ww, for w of 0–15: word w of the selected record. -/
def REC.REC_W6.W : Fld := ⟨0xd1, 0x98, 0, 32, .ro, 0, .std, false, .none, 0, 4294967295⟩
/-- REC_Ww, for w of 0–15: word w of the selected record. -/
def REC.REC_W7.W : Fld := ⟨0xd1, 0x9c, 0, 32, .ro, 0, .std, false, .none, 0, 4294967295⟩
/-- REC_Ww, for w of 0–15: word w of the selected record. -/
def REC.REC_W8.W : Fld := ⟨0xd1, 0xa0, 0, 32, .ro, 0, .std, false, .none, 0, 4294967295⟩
/-- REC_Ww, for w of 0–15: word w of the selected record. -/
def REC.REC_W9.W : Fld := ⟨0xd1, 0xa4, 0, 32, .ro, 0, .std, false, .none, 0, 4294967295⟩
/-- REC_Ww, for w of 0–15: word w of the selected record. -/
def REC.REC_W10.W : Fld := ⟨0xd1, 0xa8, 0, 32, .ro, 0, .std, false, .none, 0, 4294967295⟩
/-- REC_Ww, for w of 0–15: word w of the selected record. -/
def REC.REC_W11.W : Fld := ⟨0xd1, 0xac, 0, 32, .ro, 0, .std, false, .none, 0, 4294967295⟩
/-- REC_Ww, for w of 0–15: word w of the selected record. -/
def REC.REC_W12.W : Fld := ⟨0xd1, 0xb0, 0, 32, .ro, 0, .std, false, .none, 0, 4294967295⟩
/-- REC_Ww, for w of 0–15: word w of the selected record. -/
def REC.REC_W13.W : Fld := ⟨0xd1, 0xb4, 0, 32, .ro, 0, .std, false, .none, 0, 4294967295⟩
/-- REC_Ww, for w of 0–15: word w of the selected record. -/
def REC.REC_W14.W : Fld := ⟨0xd1, 0xb8, 0, 32, .ro, 0, .std, false, .none, 0, 4294967295⟩
/-- REC_Ww, for w of 0–15: word w of the selected record. -/
def REC.REC_W15.W : Fld := ⟨0xd1, 0xbc, 0, 32, .ro, 0, .std, false, .none, 0, 4294967295⟩

/-- The fields of page REC. -/
def recFields : List Fld :=
  [REC.REC_SEL.SEQ, REC.REC_STAT.BUSY, REC.REC_STAT.GONE, REC.REC_STAT.SPILLED, REC.REC_NEWEST.NEWEST, REC.REC_OLDEST.OLDEST, REC.REC_COUNT.LOST, REC.REC_COUNT.UNSPILLED] ++
  [REC.REC_SRC_SEL.SOURCE, REC.REC_SNAP0.OFFSET, REC.REC_SNAP1.OFFSET, REC.REC_SNAP2.OFFSET, REC.REC_SNAP3.OFFSET, REC.REC_SNAP4.OFFSET, REC.REC_SNAP5.OFFSET, REC.REC_SNAP6.OFFSET] ++
  [REC.REC_SNAP7.OFFSET, REC.REC_SNAP0.EN, REC.REC_SNAP1.EN, REC.REC_SNAP2.EN, REC.REC_SNAP3.EN, REC.REC_SNAP4.EN, REC.REC_SNAP5.EN, REC.REC_SNAP6.EN] ++
  [REC.REC_SNAP7.EN, REC.REC_W0.W, REC.REC_W1.W, REC.REC_W2.W, REC.REC_W3.W, REC.REC_W4.W, REC.REC_W5.W, REC.REC_W6.W] ++
  [REC.REC_W7.W, REC.REC_W8.W, REC.REC_W9.W, REC.REC_W10.W, REC.REC_W11.W, REC.REC_W12.W, REC.REC_W13.W, REC.REC_W14.W] ++
  [REC.REC_W15.W]

/-! Page UPD -/
/-- Staging 1 requests activation (R416). Reads 0. -/
def UPD.UPD_ACT.GO : Fld := ⟨0xd2, 0x40, 0, 1, .rws, 0, .std, false, .none, 0, 1⟩
/-- Staging slot to activate. -/
def UPD.UPD_ACT.SLOT : Fld := ⟨0xd2, 0x40, 1, 1, .rws, 0, .std, false, .none, 0, 1⟩
/-- Acts on the standby (R419). Bits [31:3] are reserved. -/
def UPD.UPD_ACT.PARTNER : Fld := ⟨0xd2, 0x40, 2, 1, .rws, 0, .std, false, .none, 0, 1⟩
/-- 1 BEGIN, 2 END, 3 ABORT, 4 CONFIRM, 5 REVERT. Other values are refused with ERR_CODE 0x0D. -/
def UPD.UPD_CMD.OP : Fld := ⟨0xd2, 0x44, 0, 4, .wo, 0, .std, false, .none, 0, 15⟩
/-- Slot for BEGIN, END and ABORT. -/
def UPD.UPD_CMD.SLOT : Fld := ⟨0xd2, 0x44, 4, 1, .wo, 0, .std, false, .none, 0, 1⟩
/-- R419. Bits [31:6] are reserved. -/
def UPD.UPD_CMD.PARTNER : Fld := ⟨0xd2, 0x44, 5, 1, .wo, 0, .std, false, .none, 0, 1⟩
/-- Next image word. -/
def UPD.UPD_DATA.DATA : Fld := ⟨0xd2, 0x48, 0, 32, .wo, 0, .std, false, .none, 0, 4294967295⟩
/-- UPD_SLOT0, UPD_SLOT1: 0 EMPTY, 1 HEADER, 2 LOADING, 3 STAGED, 4 BAD. -/
def UPD.UPD_SLOT0.STATE : Fld := ⟨0xd2, 0x4c, 0, 3, .ro, 0, .std, false, .none, 0, 7⟩
/-- UPD_SLOT0, UPD_SLOT1: 0 EMPTY, 1 HEADER, 2 LOADING, 3 STAGED, 4 BAD. -/
def UPD.UPD_SLOT1.STATE : Fld := ⟨0xd2, 0x50, 0, 3, .ro, 0, .std, false, .none, 0, 7⟩
/-- Code of the last refusal or failure. -/
def UPD.UPD_SLOT0.CODE : Fld := ⟨0xd2, 0x4c, 8, 8, .ro, 0, .std, false, .none, 0, 255⟩
/-- Code of the last refusal or failure. -/
def UPD.UPD_SLOT1.CODE : Fld := ⟨0xd2, 0x50, 8, 8, .ro, 0, .std, false, .none, 0, 255⟩
/-- Session entry loading the slot. Bits [31:22] are reserved. -/
def UPD.UPD_SLOT0.SESSION : Fld := ⟨0xd2, 0x4c, 16, 6, .ro, 0, .std, false, .none, 0, 63⟩
/-- Session entry loading the slot. Bits [31:22] are reserved. -/
def UPD.UPD_SLOT1.SESSION : Fld := ⟨0xd2, 0x50, 16, 6, .ro, 0, .std, false, .none, 0, 63⟩
/-- UPD_VER0, UPD_VER1: VERSION of the slot's header once the proof has passed. -/
def UPD.UPD_VER0.VERSION : Fld := ⟨0xd2, 0x54, 0, 32, .ro, 0, .std, false, .none, 0, 4294967295⟩
/-- UPD_VER0, UPD_VER1: VERSION of the slot's header once the proof has passed. -/
def UPD.UPD_VER1.VERSION : Fld := ⟨0xd2, 0x58, 0, 32, .ro, 0, .std, false, .none, 0, 4294967295⟩
/-- Boot bank CURRENT. -/
def UPD.UPD_STAT.BANK : Fld := ⟨0xd2, 0x5c, 0, 1, .ro, 0, .std, false, .none, 0, 1⟩
/-- The running image is on trial. -/
def UPD.UPD_STAT.TRIAL : Fld := ⟨0xd2, 0x5c, 1, 1, .ro, 0, .std, false, .none, 0, 1⟩
/-- PREVIOUS holds an image. Bits [31:3] are reserved. -/
def UPD.UPD_STAT.PREV_VALID : Fld := ⟨0xd2, 0x5c, 2, 1, .ro, 0, .std, false, .none, 0, 1⟩
/-- VERSION of the running image. -/
def UPD.UPD_RUN.RUN_VER : Fld := ⟨0xd2, 0x60, 0, 32, .ro, 0, .std, false, .none, 0, 4294967295⟩
/-- VERSION of PREVIOUS. -/
def UPD.UPD_PREV.PREV_VER : Fld := ⟨0xd2, 0x64, 0, 32, .ro, 0, .std, false, .none, 0, 4294967295⟩
/-- Fused rollback minimum, 0–64. -/
def UPD.UPD_ROLLBACK.MIN : Fld := ⟨0xd2, 0x68, 0, 7, .ro, 0, .hold, false, .none, 0, 127⟩
/-- ROLLBACK of the running image. Bits [31:15] are reserved. -/
def UPD.UPD_ROLLBACK.RUN : Fld := ⟨0xd2, 0x68, 8, 7, .ro, 0, .std, false, .none, 0, 127⟩
/-- CFG_FORMAT of the running image. -/
def UPD.UPD_FMT.FORMAT : Fld := ⟨0xd2, 0x6c, 0, 16, .ro, 0, .std, false, .none, 0, 65535⟩
/-- FORMAT of the held banks; 0 when none is held. -/
def UPD.UPD_FMT.HELD_FORMAT : Fld := ⟨0xd2, 0x6c, 16, 16, .ro, 0, .std, false, .none, 0, 65535⟩
/-- Activations, saturating. CR: kept. -/
def UPD.UPD_COUNT.ACTIVATIONS : Fld := ⟨0xd2, 0x70, 0, 16, .ro, 0, .keep, false, .none, 0, 65535⟩
/-- Falls back to PREVIOUS, saturating. CR: kept. -/
def UPD.UPD_COUNT.REVERTS : Fld := ⟨0xd2, 0x70, 16, 16, .ro, 0, .keep, false, .none, 0, 65535⟩

/-- The fields of page UPD. -/
def updFields : List Fld :=
  [UPD.UPD_ACT.GO, UPD.UPD_ACT.SLOT, UPD.UPD_ACT.PARTNER, UPD.UPD_CMD.OP, UPD.UPD_CMD.SLOT, UPD.UPD_CMD.PARTNER, UPD.UPD_DATA.DATA, UPD.UPD_SLOT0.STATE] ++
  [UPD.UPD_SLOT1.STATE, UPD.UPD_SLOT0.CODE, UPD.UPD_SLOT1.CODE, UPD.UPD_SLOT0.SESSION, UPD.UPD_SLOT1.SESSION, UPD.UPD_VER0.VERSION, UPD.UPD_VER1.VERSION, UPD.UPD_STAT.BANK] ++
  [UPD.UPD_STAT.TRIAL, UPD.UPD_STAT.PREV_VALID, UPD.UPD_RUN.RUN_VER, UPD.UPD_PREV.PREV_VER, UPD.UPD_ROLLBACK.MIN, UPD.UPD_ROLLBACK.RUN, UPD.UPD_FMT.FORMAT, UPD.UPD_FMT.HELD_FORMAT] ++
  [UPD.UPD_COUNT.ACTIVATIONS, UPD.UPD_COUNT.REVERTS]

/-! Page PWR -/
/-- Input A above 18.0 V. -/
def PWR.PWR_STAT.A_OK : Fld := ⟨0xf0, 0x40, 0, 1, .ro, 0, .std, false, .none, 0, 1⟩
/-- Input B above 18.0 V. -/
def PWR.PWR_STAT.B_OK : Fld := ⟨0xf0, 0x40, 1, 1, .ro, 0, .std, false, .none, 0, 1⟩
/-- Supply warning holds (R426). -/
def PWR.PWR_STAT.WARN : Fld := ⟨0xf0, 0x40, 2, 1, .ro, 0, .std, false, .none, 0, 1⟩
/-- DUAL is 1 and an input is lost. -/
def PWR.PWR_STAT.LOST : Fld := ⟨0xf0, 0x40, 3, 1, .ro, 0, .std, false, .none, 0, 1⟩
/-- Ladder stage, 0–4. -/
def PWR.PWR_STAT.LADDER : Fld := ⟨0xf0, 0x40, 8, 3, .ro, 0, .std, false, .none, 0, 7⟩
/-- Bit i is 1 while TSi is valid (R435). -/
def PWR.PWR_STAT.SENS_VALID : Fld := ⟨0xf0, 0x40, 12, 4, .ro, 0, .std, false, .none, 0, 15⟩
/-- Bit g − 1 is 1 while FSg is above 16.0 V. Bits [31:19] are reserved. -/
def PWR.PWR_STAT.FS_OK : Fld := ⟨0xf0, 0x40, 16, 3, .ro, 0, .std, false, .none, 0, 7⟩
/-- Input A, in mV. -/
def PWR.PWR_VIN.VIN_A : Fld := ⟨0xf0, 0x44, 0, 16, .ro, 0, .std, false, .none, 0, 65535⟩
/-- Input B, in mV. -/
def PWR.PWR_VIN.VIN_B : Fld := ⟨0xf0, 0x44, 16, 16, .ro, 0, .std, false, .none, 0, 65535⟩
/-- FS1, in mV. -/
def PWR.PWR_VFS12.VFS1 : Fld := ⟨0xf0, 0x48, 0, 16, .ro, 0, .std, false, .none, 0, 65535⟩
/-- FS2, in mV. -/
def PWR.PWR_VFS12.VFS2 : Fld := ⟨0xf0, 0x48, 16, 16, .ro, 0, .std, false, .none, 0, 65535⟩
/-- FS3, in mV. Bits [31:16] are reserved. -/
def PWR.PWR_VFS3.VFS3 : Fld := ⟨0xf0, 0x4c, 0, 16, .ro, 0, .std, false, .none, 0, 65535⟩
/-- Module power, in 0.1 W, averaged over 1 s. -/
def PWR.PWR_POWER.POWER : Fld := ⟨0xf0, 0x50, 0, 12, .ro, 0, .std, false, .none, 0, 4095⟩
/-- Highest POWER since PEAK_CLR, in 0.1 W. -/
def PWR.PWR_POWER.PEAK : Fld := ⟨0xf0, 0x50, 16, 12, .ro, 0, .std, false, .none, 0, 4095⟩
/-- Writing 1 sets PEAK to POWER. -/
def PWR.PWR_POWER.PEAK_CLR : Fld := ⟨0xf0, 0x50, 31, 1, .wo, 0, .std, false, .none, 0, 1⟩
/-- Sensor reading, signed, in 0.1 °C. -/
def PWR.PWR_TS01.TS0 : Fld := ⟨0xf0, 0x54, 0, 16, .ro, 0, .std, false, .none, 0, 65535⟩
/-- As TS0. -/
def PWR.PWR_TS01.TS1 : Fld := ⟨0xf0, 0x54, 16, 16, .ro, 0, .std, false, .none, 0, 65535⟩
/-- As TS0. -/
def PWR.PWR_TS23.TS2 : Fld := ⟨0xf0, 0x58, 0, 16, .ro, 0, .std, false, .none, 0, 65535⟩
/-- As TS0. -/
def PWR.PWR_TS23.TS3 : Fld := ⟨0xf0, 0x58, 16, 16, .ro, 0, .std, false, .none, 0, 65535⟩
/-- Board temperature (R435), signed, in 0.1 °C. Bits [31:16] are reserved. -/
def PWR.PWR_BOARD.BOARD : Fld := ⟨0xf0, 0x5c, 0, 16, .ro, 0, .std, false, .none, 0, 65535⟩
/-- 1: both inputs are expected (R425). Bits [31:1] are reserved. -/
def PWR.PWR_CFG.DUAL : Fld := ⟨0xf0, 0x60, 0, 1, .rwl, 0, .cfgKeep, false, .none, 0, 1⟩
/-- Last start: 0 power-on, 1 brown-out, 2 COLD_RESTART, 3 WARM_RESTART, 4 activation, 5 … -/
def PWR.PWR_START.CAUSE : Fld := ⟨0xf0, 0x64, 0, 3, .ro, 0, .std, false, .none, 0, 7⟩
/-- Time from the start's reference to its first release, in ms, saturating at 4,095. Bits … -/
def PWR.PWR_START.START_MS : Fld := ⟨0xf0, 0x64, 4, 12, .ro, 0, .std, false, .none, 0, 4095⟩
/-- Supply warnings, saturating. CR: kept. -/
def PWR.PWR_COUNT.WARNINGS : Fld := ⟨0xf0, 0x68, 0, 16, .ro, 0, .keep, false, .none, 0, 65535⟩
/-- Starts from OFF, saturating. CR: kept. -/
def PWR.PWR_COUNT.BROWNOUTS : Fld := ⟨0xf0, 0x68, 16, 16, .ro, 0, .keep, false, .none, 0, 65535⟩

/-- The fields of page PWR. -/
def pwrFields : List Fld :=
  [PWR.PWR_STAT.A_OK, PWR.PWR_STAT.B_OK, PWR.PWR_STAT.WARN, PWR.PWR_STAT.LOST, PWR.PWR_STAT.LADDER, PWR.PWR_STAT.SENS_VALID, PWR.PWR_STAT.FS_OK, PWR.PWR_VIN.VIN_A] ++
  [PWR.PWR_VIN.VIN_B, PWR.PWR_VFS12.VFS1, PWR.PWR_VFS12.VFS2, PWR.PWR_VFS3.VFS3, PWR.PWR_POWER.POWER, PWR.PWR_POWER.PEAK, PWR.PWR_POWER.PEAK_CLR, PWR.PWR_TS01.TS0] ++
  [PWR.PWR_TS01.TS1, PWR.PWR_TS23.TS2, PWR.PWR_TS23.TS3, PWR.PWR_BOARD.BOARD, PWR.PWR_CFG.DUAL, PWR.PWR_START.CAUSE, PWR.PWR_START.START_MS, PWR.PWR_COUNT.WARNINGS] ++
  [PWR.PWR_COUNT.BROWNOUTS]

/-! Page PERF -/
/-- 1 counts (R448). -/
def PERF.PERF_CTRL.RUN : Fld := ⟨0xe0, 0x40, 0, 1, .rws, 0, .zero, false, .none, 0, 1⟩
/-- Staging 1 clears every counter at commit. Reads 0. -/
def PERF.PERF_CTRL.CLEAR : Fld := ⟨0xe0, 0x40, 1, 1, .rws, 0, .zero, false, .none, 0, 1⟩
/-- Staging 1 copies every counter at commit. Reads 0. Bits [31:3] are reserved. -/
def PERF.PERF_CTRL.SNAP : Fld := ⟨0xe0, 0x40, 2, 1, .rws, 0, .zero, false, .none, 0, 1⟩
/-- Selected counter. Bits [31:6] are reserved. -/
def PERF.PERF_SEL.COUNTER : Fld := ⟨0xe0, 0x44, 0, 6, .rw, 0, .zero, false, .req, 0, 63⟩
/-- Event of the selected counter (R451). -/
def PERF.PERF_CFG.EVENT : Fld := ⟨0xe0, 0x48, 0, 10, .rws, 0, .zero, false, .perf, 0, 1023⟩
/-- Engine 0–15, or 31 for all. -/
def PERF.PERF_CFG.UNIT : Fld := ⟨0xe0, 0x48, 10, 5, .rws, 0, .zero, false, .perf, 0, 31⟩
/-- Counter enabled. -/
def PERF.PERF_CFG.EN : Fld := ⟨0xe0, 0x48, 15, 1, .rws, 0, .zero, false, .perf, 0, 1⟩
/-- R450. Bits [31:17] are reserved. -/
def PERF.PERF_CFG.CHAIN : Fld := ⟨0xe0, 0x48, 16, 1, .rws, 0, .zero, false, .perf, 0, 1⟩
/-- Selected counter [31:0], read under R37. -/
def PERF.PERF_CNT_L.CNT_L : Fld := ⟨0xe0, 0x4c, 0, 32, .ro, 0, .zero, false, .perf, 0, 4294967295⟩
/-- Counter [47:32]. Bits [31:16] are reserved. -/
def PERF.PERF_CNT_H.CNT_H : Fld := ⟨0xe0, 0x50, 0, 16, .ro, 0, .zero, false, .perf, 0, 65535⟩
/-- Snapshot [31:0], read under R37. -/
def PERF.PERF_SNAP_L.SNAP_L : Fld := ⟨0xe0, 0x54, 0, 32, .ro, 0, .zero, false, .perf, 0, 4294967295⟩
/-- Snapshot [47:32]. Bits [31:16] are reserved. -/
def PERF.PERF_SNAP_H.SNAP_H : Fld := ⟨0xe0, 0x58, 0, 16, .ro, 0, .zero, false, .perf, 0, 65535⟩
/-- Bit i: counter i wrapped. -/
def PERF.PERF_OVF_L.OVF_L : Fld := ⟨0xe0, 0x5c, 0, 32, .w1c, 0, .zero, false, .none, 0, 4294967295⟩
/-- Bit i: counter 32 + i wrapped. -/
def PERF.PERF_OVF_H.OVF_H : Fld := ⟨0xe0, 0x60, 0, 32, .w1c, 0, .zero, false, .none, 0, 4294967295⟩
/-- Sampled engine (R452). -/
def PERF.SMP_CFG.ENGINE : Fld := ⟨0xe0, 0x64, 0, 4, .rws, 0, .zero, false, .none, 0, 15⟩
/-- Sampling enabled. -/
def PERF.SMP_CFG.EN : Fld := ⟨0xe0, 0x64, 4, 1, .rws, 0, .zero, false, .none, 0, 1⟩
/-- R453. -/
def PERF.SMP_CFG.STOP_FULL : Fld := ⟨0xe0, 0x64, 5, 1, .rws, 0, .zero, false, .none, 0, 1⟩
/-- Sample one slot only. -/
def PERF.SMP_CFG.SLOT_EN : Fld := ⟨0xe0, 0x64, 6, 1, .rws, 0, .zero, false, .none, 0, 1⟩
/-- Sampled slot. -/
def PERF.SMP_CFG.SLOT : Fld := ⟨0xe0, 0x64, 7, 3, .rws, 0, .zero, false, .none, 0, 7⟩
/-- Sampling interval, 16–65,535; a smaller value fails with ERR_CODE 0x08. -/
def PERF.SMP_CFG.N : Fld := ⟨0xe0, 0x64, 16, 16, .rws, 1024, .zero, false, .none, 16, 65535⟩
/-- Records held, 0–4,096. -/
def PERF.SMP_STAT.FILL : Fld := ⟨0xe0, 0x68, 0, 13, .ro, 0, .zero, false, .none, 0, 8191⟩
/-- Samples lost, saturating. -/
def PERF.SMP_STAT.LOST : Fld := ⟨0xe0, 0x68, 16, 16, .ro, 0, .zero, false, .none, 0, 65535⟩
/-- SMP_W0–SMP_W3 (R453). -/
def PERF.SMP_W0.W : Fld := ⟨0xe0, 0x6c, 0, 32, .ro, 0, .zero, false, .none, 0, 4294967295⟩
/-- SMP_W0–SMP_W3 (R453). -/
def PERF.SMP_W1.W : Fld := ⟨0xe0, 0x70, 0, 32, .ro, 0, .zero, false, .none, 0, 4294967295⟩
/-- SMP_W0–SMP_W3 (R453). -/
def PERF.SMP_W2.W : Fld := ⟨0xe0, 0x74, 0, 32, .ro, 0, .zero, false, .none, 0, 4294967295⟩
/-- SMP_W0–SMP_W3 (R453). -/
def PERF.SMP_W3.W : Fld := ⟨0xe0, 0x78, 0, 32, .ro, 0, .zero, false, .none, 0, 4294967295⟩

/-- The fields of page PERF. -/
def perfFields : List Fld :=
  [PERF.PERF_CTRL.RUN, PERF.PERF_CTRL.CLEAR, PERF.PERF_CTRL.SNAP, PERF.PERF_SEL.COUNTER, PERF.PERF_CFG.EVENT, PERF.PERF_CFG.UNIT, PERF.PERF_CFG.EN, PERF.PERF_CFG.CHAIN] ++
  [PERF.PERF_CNT_L.CNT_L, PERF.PERF_CNT_H.CNT_H, PERF.PERF_SNAP_L.SNAP_L, PERF.PERF_SNAP_H.SNAP_H, PERF.PERF_OVF_L.OVF_L, PERF.PERF_OVF_H.OVF_H, PERF.SMP_CFG.ENGINE, PERF.SMP_CFG.EN] ++
  [PERF.SMP_CFG.STOP_FULL, PERF.SMP_CFG.SLOT_EN, PERF.SMP_CFG.SLOT, PERF.SMP_CFG.N, PERF.SMP_STAT.FILL, PERF.SMP_STAT.LOST, PERF.SMP_W0.W, PERF.SMP_W1.W] ++
  [PERF.SMP_W2.W, PERF.SMP_W3.W]

/-! Page LIFE -/
/-- Selected bin. -/
def LIFE.LIFE_SEL.BIN : Fld := ⟨0xe1, 0x40, 0, 5, .rw, 0, .std, false, .req, 0, 31⟩
/-- Selected histogram (R454). A HIST of 12–15, or a bin that the histogram lacks, is … -/
def LIFE.LIFE_SEL.HIST : Fld := ⟨0xe1, 0x40, 8, 4, .rw, 0, .std, false, .req, 0, 15⟩
/-- Selected count. -/
def LIFE.LIFE_VAL.VALUE : Fld := ⟨0xe1, 0x44, 0, 32, .ro, 0, .hold, false, .life, 0, 4294967295⟩
/-- R456. -/
def LIFE.LIFE_STAT.REPLACE : Fld := ⟨0xe1, 0x48, 0, 1, .ro, 0, .hold, false, .none, 0, 1⟩
/-- R456. -/
def LIFE.LIFE_STAT.WEAR_HIGH : Fld := ⟨0xe1, 0x48, 1, 1, .ro, 0, .hold, false, .none, 0, 1⟩
/-- Minutes since the last store write, saturating. -/
def LIFE.LIFE_STAT.AGE : Fld := ⟨0xe1, 0x48, 16, 16, .ro, 0, .std, false, .none, 0, 65535⟩
/-- Writes the store (R455). Refused with ERR_CODE 0x01 without tin 0 and the configure … -/
def LIFE.LIFE_CMD.SAVE : Fld := ⟨0xe1, 0x4c, 0, 1, .wo, 0, .std, false, .none, 0, 1⟩

/-- The fields of page LIFE. -/
def lifeFields : List Fld :=
  [LIFE.LIFE_SEL.BIN, LIFE.LIFE_SEL.HIST, LIFE.LIFE_VAL.VALUE, LIFE.LIFE_STAT.REPLACE, LIFE.LIFE_STAT.WEAR_HIGH, LIFE.LIFE_STAT.AGE, LIFE.LIFE_CMD.SAVE]

end Sys2Proof.Machine
end

