-- ==== Sys2Proof/Machine/Hidden.lean ====
section
/-!
DEFINITION. The internal values of the module that no register shows, as numbered cells beside the register fields.
`hid` makes one: its number, width, reset value and what a reset does to it.
-/
namespace Sys2Proof.Machine

/-- An internal cell. -/
def hid (n w rst : Nat) (cls : Cls) : Fld := ⟨0x1000 + n, 0, 0, w, .ro, rst, cls, false, .none, 0, 2 ^ w - 1⟩

/-- Engine i: 1 while it executes a scan (its slot is ENG_STATE.CUR_SLOT). -/
def HID.EXECUTING : Fld := hid 0 1 0 .zero
/-- Engine i, line k of a journalled window (copy 0): the current bit (R92). -/
def HID.LINE_CUR : Fld := hid 1 1 0 .std
/-- Engine i, line k: the dirty bit (R92). -/
def HID.LINE_DIRTY : Fld := hid 2 1 0 .zero
/-- Engine i, slot k: deadline tick of the current release (R105, R106). -/
def HID.DEADLINE : Fld := hid 3 64 0 .zero
/-- Engine i, slot k: 1 once the slot has been released since the restart. -/
def HID.RELEASED : Fld := hid 4 1 0 .zero
/-- Engine i, slot k: 1 when the slot restarts warm, until its first release (R132, R136). -/
def HID.WARMSTART : Fld := hid 5 1 0 .hold
/-- Engine i, slot k: 1 until the first release after a restart or an adoption (R64). -/
def HID.FIRSTPEND : Fld := hid 6 1 1 .zero
/-- Engine i, slot k: releases missed since its last release record (R142). -/
def HID.MISSEDREC : Fld := hid 7 16 0 .zero
/-- Engine i, slot k: RESUME waits for the next boundary (R110). -/
def HID.RESUMEPEND : Fld := hid 8 1 0 .zero
/-- Engine i: the copy of the unadopted bank to the configuration store is complete (R137). -/
def HID.PROGCOPIED : Fld := hid 9 1 0 .zero
/-- Sum of the samples that board temperature is the mean of, signed, in 0.1 degrees C (R435). -/
def HID.BOARDSUM : Fld := hid 10 32 0 .hold
/-- Commit tick of the last table swap (R189). -/
def HID.SWAPTICK : Fld := hid 11 64 0 .std
/-- Unit k: 1 when the configuration names its domain entry (R179). -/
def HID.DOMNAMED : Fld := hid 12 1 0 .cfgCR
/-- Addresses of the running prewarm. -/
def HID.PWLEFT : Fld := hid 15 11 0 .zero
/-- Number of free values taken so far (the model's own counter). -/
def HID.SERIALNO : Fld := hid 16 64 0 .hold
/-- MOD_CMD code waiting for the next boundary; 0 for none (R59). -/
def HID.CMDPEND : Fld := hid 17 8 0 .zero
/-- A fire source has asserted since the last boundary (R30). -/
def HID.FIREASK : Fld := hid 18 1 0 .zero
/-- Requester of the pending MOD_CMD. -/
def HID.FIRECMDREQ : Fld := hid 19 16 0 .zero
/-- 1 during a lamp test (R59). -/
def HID.LAMPTEST : Fld := hid 20 1 0 .zero
/-- Island k (the row of the island table): 1 while it has no clock (R9). -/
def HID.ISLANDDOWN : Fld := hid 21 1 0 .zero
/-- The ring fire source is asserted (R316). -/
def HID.RINGFIRE : Fld := hid 22 1 0 .zero
/-- Number of those samples. -/
def HID.BOARDCNT : Fld := hid 23 3 0 .hold
/-- Source k: the count kept for its ring alarm frame (R56). -/
def HID.KEPTRING : Fld := hid 24 16 0 .zero
/-- Source k: a count is kept for its ring alarm frame (R56). -/
def HID.KEPTFLAG : Fld := hid 25 1 0 .zero
/-- Source k is in the router round in progress (R53). -/
def HID.INROUND : Fld := hid 26 1 0 .zero
/-- Sources served in the round in progress. -/
def HID.ROUNDSERVED : Fld := hid 27 11 0 .zero
/-- Slot i = 8e + j, Q word k: the word the slot last published, before forces (R125). -/
def HID.PUBQ : Fld := hid 28 32 0 .zero
/-- Slot i = 8e + j, Q word k: 1 once the slot has published the word since the start (R125). -/
def HID.PUBBY : Fld := hid 29 1 0 .zero
/-- The boundary from which a K-retention snapshot is due; 0 for none (R133, R141). -/
def HID.KRETDUE : Fld := hid 30 64 0 .zero
/-- Engine i, slot k: the slot enters STOPPED when its scan is gone (R120). -/
def HID.STOPPEND : Fld := hid 31 1 0 .zero
/-- Engine i, slot k: tick at which an overrunning scan is aborted (R118). -/
def HID.WDOGAT : Fld := hid 32 64 0 .zero
/-- Engine i: the bank the slots go to while SWAP_PEND is 1. -/
def HID.SWAPTO : Fld := hid 33 1 0 .std
/-- Engine i: the CRC of the unadopted bank is being computed (R99). -/
def HID.CRCRUN : Fld := hid 34 1 0 .zero
/-- Engine i: the force table has changed since the last boundary (R127). -/
def HID.FORCEBUMP : Fld := hid 35 1 0 .zero
/-- Register offset i, requester k: the _H half held for the next write of _L (R37). -/
def HID.HELDH : Fld := hid 36 32 0 .zero
/-- Register offset i, requester k: an _H half is held (R37). -/
def HID.HELDHV : Fld := hid 37 1 0 .zero
/-- Register offset i, requester k: the _H snapshot of the last _L read (R37). -/
def HID.SNAPH : Fld := hid 38 32 0 .zero
/-- Register offset i, requester k: a snapshot is held (R37). -/
def HID.SNAPHV : Fld := hid 39 1 0 .zero
/-- Loop page i, entry k: rhat, signed (R212). -/
def HID.LOOPRHAT : Fld := hid 40 64 0 .zero
/-- Loop page i, entry k: PV of the previous sample (R212). -/
def HID.LOOPPREV : Fld := hid 41 32 0 .zero
/-- Loop page i, entry k: the previous sample recorded an on-time PV (R212). -/
def HID.LOOPPREVV : Fld := hid 42 1 0 .zero
/-- Loop page i, entry k: boundary at which the pending hand-over began (R218). -/
def HID.LOOPHO : Fld := hid 43 64 0 .zero
/-- Loop page i, entry k: the next sample is the first after entry into LIFE-SAFETY (R218). -/
def HID.LOOPEXEMPT : Fld := hid 44 1 0 .zero
/-- Loop page i, entry k: the fault action taken (R214). -/
def HID.LOOPFACT : Fld := hid 45 2 0 .std
/-- Loop page i, entry k: the SAFE_OUT taken (R214). -/
def HID.LOOPSAFE : Fld := hid 46 2 0 .std
/-- Loop page i, entry k: the direction whose travel end is reached (R207). -/
def HID.LOOPENDDIR : Fld := hid 47 2 0 .std
/-- Loop page i, entry k: tick since which the output drives in one direction (R207). -/
def HID.LOOPDRIVE : Fld := hid 48 64 0 .zero
/-- Loop page i, entry k: the loop has sampled since the restart. -/
def HID.LOOPSEEN : Fld := hid 49 1 0 .zero
/-- No tick boundary has passed since the restart (R217). -/
def HID.LOOPINIT : Fld := hid 50 1 1 .zero
/-- MOD_FIRE at the last boundary, as the loops saw it (R217). -/
def HID.LOOPFIRE : Fld := hid 51 1 0 .zero
/-- Group k: its output in logical state (R212). -/
def HID.GRPLOG : Fld := hid 52 2 0 .zero
/-- Digital slice i, channel k: the terminal level, classified at the input's own thresholds (R226, R228). -/
def HID.DTERM : Fld := hid 53 1 0 .std
/-- Digital slice i, channel k: the filtered value (R226). -/
def HID.DFILT : Fld := hid 54 1 0 .std
/-- Digital slice i, channel k: a wire break holds (R228). -/
def HID.DWB : Fld := hid 55 1 0 .std
/-- Digital slice i, channel k: short circuit latched (R232). -/
def HID.DSC : Fld := hid 56 1 0 .keep
/-- Digital slice i, channel k: over-temperature latched (R232). -/
def HID.DOT : Fld := hid 57 1 0 .keep
/-- Digital slice i, channel k: open load (R233). -/
def HID.DOL : Fld := hid 58 1 0 .keep
/-- Digital slice i, channel k: shed by overload, latched (R234). -/
def HID.DOVL : Fld := hid 59 1 0 .keep
/-- Digital slice i, channel k: the driver conducts. -/
def HID.DDRIVE : Fld := hid 60 1 0 .keep
/-- Digital slice i, channel k: the partner drives the terminal (R230). -/
def HID.DEXT : Fld := hid 61 1 0 .keep
/-- Digital slice i, channel k: pending under the rise governor (R167). -/
def HID.DPEND : Fld := hid 62 1 0 .zero
/-- Digital slice i, channel k: last step of a pending output (R167). -/
def HID.DLAST : Fld := hid 63 64 0 .zero
/-- Digital slice i, channel k: number of the commit that made the output pending. -/
def HID.DCOMMIT : Fld := hid 64 64 0 .zero
/-- Digital slice i, channel k: tick of that commit. -/
def HID.DCTICK : Fld := hid 65 64 0 .zero
/-- Digital slice i, channel k: pending when the restart came (R132). -/
def HID.DREPEND : Fld := hid 66 1 0 .hold
/-- Digital slice i, channel k: CLR_FAULT waits for the next boundary (R232). -/
def HID.DCLR : Fld := hid 67 1 0 .zero
/-- Digital slice i: an overload episode runs (R234). -/
def HID.OVEPISODE : Fld := hid 68 1 0 .keep
/-- Digital slice i: an output has been shed in this episode (R234). -/
def HID.OVFIRED : Fld := hid 69 1 0 .keep
/-- Slice k: no refresh has come since the restart (R237). -/
def HID.SLRESTART : Fld := hid 70 1 1 .zero
/-- Slice k: a REARM command stands (R237). -/
def HID.SLREARM : Fld := hid 71 1 0 .zero
/-- Slice k: the tick from which the REARM command counts (R237). -/
def HID.SLREARMAT : Fld := hid 72 64 0 .zero
/-- Slice k: the tick in which its last cause cleared (R239). -/
def HID.SLCLEAR : Fld := hid 73 64 0 .keep
/-- Number of commits made (R12). -/
def HID.COMMITNO : Fld := hid 74 64 0 .zero
/-- The commit for which OVERSIZE last fired, plus 1 (R168). -/
def HID.OVERCOMMIT : Fld := hid 75 64 0 .zero
/-- Tick of the most recent spread commit (LAST_SPREAD). -/
def HID.SPREADTICK : Fld := hid 76 64 0 .zero
/-- Analog slice i, channel k: WB (R249, R250). -/
def HID.AWB : Fld := hid 77 1 0 .std
/-- Analog slice i, channel k: SC. -/
def HID.ASC : Fld := hid 78 1 0 .std
/-- Analog slice i, channel k: RANGE. -/
def HID.ARANGE : Fld := hid 79 1 0 .std
/-- Analog slice i, channel k: a conversion has completed. -/
def HID.ACONV : Fld := hid 80 1 0 .std
/-- Capture channel k: 0 standstill, 1 one edge since, 2 a period holds, 3 reversed, 4 one period discarded (R244, R245). -/
def HID.CAPST : Fld := hid 81 3 0 .zero
/-- Capture channel k: timestamp of the last counted edge. -/
def HID.CAPTE : Fld := hid 82 62 0 .zero
/-- Capture channel k: the last valid period (R243). -/
def HID.CAPPER : Fld := hid 83 62 0 .zero
/-- Capture channel k: direction of the last counted edge. -/
def HID.CAPDIR : Fld := hid 84 1 0 .zero
/-- Capture channel k: levels of lines A (bit 0) and B (bit 1). -/
def HID.CAPLINE : Fld := hid 85 2 0 .zero
/-- Capture channel k: sequence error since the last latch (R246). -/
def HID.CAPQERR : Fld := hid 86 1 0 .zero
/-- Capture channel k: position (R246). -/
def HID.CAPPOS : Fld := hid 87 32 0 .zero
/-- Zone i, slot k: the request in force at the block now playing (R256, R257). -/
def HID.REQF : Fld := hid 88 15 0 .keep
/-- REQ3 to REQ7 are ignored at the block now playing (R268, R269). -/
def HID.AUDIGN : Fld := hid 89 1 0 .keep
/-- REQ3 to REQ7 are to be ignored from a coming block. -/
def HID.AUDIGNW : Fld := hid 90 1 0 .keep
/-- The zone outputs are muted for temperature (R269). -/
def HID.AUDMUTE : Fld := hid 91 1 0 .keep
/-- Zone k played something other than REQ0 when the autonomous state was entered (R271). -/
def HID.AUDCUT : Fld := hid 92 1 0 .keep
/-- Zone k: its REQ0 was promoted (R270). -/
def HID.AUDPROMO : Fld := hid 93 1 0 .keep
/-- A REQ0 was promoted in this autonomous state (R270). -/
def HID.AUDPROMOF : Fld := hid 94 1 0 .keep
/-- Zone k: REQ1 is the one MOD_FIRE entry wrote (R268). -/
def HID.FIREREQ1 : Fld := hid 95 1 0 .zero
/-- MP0 plays the message that MOD_FIRE entry started (R268). -/
def HID.FIREMP0 : Fld := hid 96 1 0 .keep
/-- Player k: 0 idle, 1 in a message, 2 in a gap (R260). -/
def HID.MPST : Fld := hid 97 2 0 .keep
/-- Player k: the message playing. -/
def HID.MPMSG : Fld := hid 98 8 0 .keep
/-- Player k: repeats left, the current one included; 0 without end. -/
def HID.MPREP : Fld := hid 99 8 0 .keep
/-- Player k: gap between repeats, x 10 ms. -/
def HID.MPGAP : Fld := hid 100 8 0 .keep
/-- Player k: samples of the gap left. -/
def HID.MPLEFT : Fld := hid 101 17 0 .keep
/-- Player k: sample position (MP_POS). -/
def HID.MPPOS : Fld := hid 102 27 0 .keep
/-- Tone generator k: the pattern in force (R261). -/
def HID.TGPAT : Fld := hid 103 4 0 .keep
/-- Tone generator k: blocks since its pattern began (R261). -/
def HID.TGBLOCK : Fld := hid 104 64 0 .keep
/-- Receiver k: consecutive late blocks (R264). -/
def HID.RXLATE : Fld := hid 105 3 0 .keep
/-- Receiver k: consecutive on-time blocks while LOST (R264). -/
def HID.RXOK : Fld := hid 106 3 0 .keep
/-- Zone k: the class of the last window (R266). -/
def HID.ZCLASS : Fld := hid 107 3 0 .keep
/-- Zone k: consecutive windows of that class (R266). -/
def HID.ZCOUNT : Fld := hid 108 3 0 .keep
/-- Zone k: consecutive measurements below 50 kohm (R266). -/
def HID.ZEARTHLO : Fld := hid 109 2 0 .keep
/-- Zone k: consecutive measurements at or above 100 kohm (R266). -/
def HID.ZEARTHHI : Fld := hid 110 3 0 .keep
/-- Zone k: windows left of a commissioning (R267). -/
def HID.COMMLEFT : Fld := hid 111 4 0 .zero
/-- Zone k: sum of |z| of a commissioning (R267). -/
def HID.COMMSUM : Fld := hid 112 24 0 .zero
/-- Zone k: sum of the phases of a commissioning, signed (R267). -/
def HID.COMMPH : Fld := hid 113 32 0 .zero
/-- Tick in which the last correct frame of the metrology island arrived (R283). -/
def HID.METRX : Fld := hid 114 64 0 .zero
/-- Number of log records of the island that have arrived (R296). -/
def HID.METSEEN : Fld := hid 115 11 0 .hold
/-- Number of tamper records of the island that have arrived (R296). -/
def HID.METTSEEN : Fld := hid 116 64 0 .hold
/-- Counter page i, index k: octets not yet counted in a 64-octet counter (R300). -/
def HID.STATREM : Fld := hid 117 6 0 .std
/-- The node enters STEERING at the next boundary (R313). -/
def HID.STEERPEND : Fld := hid 118 1 0 .zero
/-- Ring port k: broken (R313). -/
def HID.PBROKEN : Fld := hid 119 1 0 .zero
/-- Ring port k: tick of the last LINK frame (R313). -/
def HID.LINKAT : Fld := hid 120 64 0 .zero
/-- Ring port k: tick since which LINK frames have come every cycle (R314). -/
def HID.LINKSINCE : Fld := hid 121 64 0 .zero
/-- Boundary at which the node returns to RING, plus 1; 0 for none (R314). -/
def HID.HEALAT : Fld := hid 122 64 0 .zero
/-- Ring port k: stopped at ladder stage 3 (R315). -/
def HID.RSTOP : Fld := hid 123 1 0 .zero
/-- Ring port k: kept at 10.3125 GBd at ladder stage 3 (R315). -/
def HID.RSLOW : Fld := hid 124 1 0 .zero
/-- Ring port k with RATE 2: it now tries 10.3125 GBd (R315). -/
def HID.RTRYSLOW : Fld := hid 125 1 0 .zero
/-- Tick in which the last TOKEN arrived, plus 1 (R307). -/
def HID.TOKENAT : Fld := hid 126 64 0 .zero
/-- Consecutive cycles without a TOKEN (R307). -/
def HID.TMISS : Fld := hid 127 16 0 .zero
/-- The acting master stops at the next cycle (R307). -/
def HID.MSTOP : Fld := hid 128 1 0 .zero
/-- Time at which this node last passed ASYNC_TOKEN on, in us, plus 1 (R310). -/
def HID.ASYNCAT : Fld := hid 129 64 0 .zero
/-- Tick of the last receipt of ASYNC_TOKEN, plus 1 (R310). -/
def HID.ASYNCCYC : Fld := hid 130 64 0 .zero
/-- A node with this ID and position was seen; the node sends only LINK (R317). -/
def HID.DUPSEEN : Fld := hid 131 1 0 .zero
/-- Tick of the last FIRE frame that listed this module (R316). -/
def HID.FIRERXAT : Fld := hid 132 64 0 .zero
/-- Tick in which MOD_FIRE was entered (R316). -/
def HID.FIREENT : Fld := hid 134 64 0 .zero
/-- Frame type k: the last sequence number sent (R302). -/
def HID.TXSEQ : Fld := hid 135 16 0 .zero
/-- Unit k: the newest epoch seen, plus 1; 0 for none (R359). -/
def HID.EPSEEN : Fld := hid 136 33 0 .zero
/-- Segment i: tick of its last poll, plus 1 (R325). -/
def HID.SEGPOLL : Fld := hid 137 64 0 .zero
/-- Segment i, node k: addressed by the last poll and not yet accounted for. -/
def HID.SEGASKED : Fld := hid 138 1 0 .zero
/-- Segment i, node k: it answered the last poll with the wrong type (R327). -/
def HID.SEGWRONG : Fld := hid 139 1 0 .zero
/-- Segment i, node k: consecutive accepted answers (R327). -/
def HID.SEGOK : Fld := hid 140 2 0 .zero
/-- Segment i, node k: its status octet (R329). -/
def HID.NODESTAT : Fld := hid 141 8 0 .std
/-- Segment i: a foreign beacon since the last poll. -/
def HID.SEGFOR : Fld := hid 142 1 0 .zero
/-- Consecutive usable Syncs (R338). -/
def HID.SYNCN : Fld := hid 143 8 0 .zero
/-- Tick of the last usable Sync (R338). -/
def HID.SYNCAT : Fld := hid 144 64 0 .zero
/-- sequenceId of the last Sync used (R336). -/
def HID.SYNCSEQ : Fld := hid 145 16 0 .zero
/-- Time of that Sync, in us, plus 1; 0 for none. -/
def HID.SYNCSEQAT : Fld := hid 146 64 0 .zero
/-- Consecutive offsets beyond 2 us while LOCKED (R338). -/
def HID.SYNCBAD : Fld := hid 147 3 0 .zero
/-- Offset still to be slewed, signed, in units of 0.25 ns (R340). -/
def HID.PTPOFF : Fld := hid 148 64 0 .zero
/-- The clock has stepped since the start (R340). -/
def HID.PTPSTEP : Fld := hid 149 1 0 .zero
/-- Tick of the last Announce of the grandmaster (R338). -/
def HID.ANNAT : Fld := hid 150 64 0 .zero
/-- Data set of the grandmaster, as one number to compare (R337). -/
def HID.GMKEY : Fld := hid 151 112 0 .zero
/-- A grandmaster has been found. -/
def HID.GMKNOWN : Fld := hid 152 1 0 .zero
/-- The module has been LOCKED since the start (R338). -/
def HID.WASLOCKED : Fld := hid 153 1 0 .zero
/-- OSF was 0 at the seed (R337, R340). -/
def HID.SEEDOK : Fld := hid 154 1 0 .keep
/-- Ring port k: no peer delay measured since its rate changed (R336). -/
def HID.NEEDPD : Fld := hid 155 1 0 .zero
/-- PTP_ADJ still to be slewed, signed, in units of 0.25 ns (R341). -/
def HID.ADJLEFT : Fld := hid 156 40 0 .zero
/-- Seconds of the write that is to land (R344). -/
def HID.RTCWRITE : Fld := hid 157 33 0 .zero
/-- Alarm k: its match holds (R347). -/
def HID.ALMMATCH : Fld := hid 158 1 0 .rtc
/-- The module entered LOCKED while OSF was 1 and has not yet set the RTC (R345). -/
def HID.AUTOLOCK : Fld := hid 159 1 0 .zero
/-- A release has taken place since the start (R340). -/
def HID.FIRSTREL : Fld := hid 160 1 0 .zero
/-- Power state: 0 RUN, 1 HALT, 2 OFF, 3 DARK (R427). -/
def HID.PWRST : Fld := hid 161 2 0 .hold
/-- Source k fired while the supervisor had no power (R349, R447). -/
def HID.HELDEV : Fld := hid 162 1 0 .hold
/-- Requester k: what its last read returned (the model's own). -/
def HID.RDATA : Fld := hid 163 32 0 .zero
/-- Session k: tick of its HELLO (R388). -/
def HID.SESHELLO : Fld := hid 164 64 0 .zero
/-- Session k: tick of its last accepted frame (R395). -/
def HID.SESLAST : Fld := hid 165 64 0 .zero
/-- Session k: tick of READY (R395). -/
def HID.SESREADY : Fld := hid 166 64 0 .zero
/-- Session k: highest SEQ accepted (R392). -/
def HID.SESHI : Fld := hid 167 40 0 .zero
/-- Session k: bit i is set when SEQ highest - i has been accepted (R392). -/
def HID.SESWIN : Fld := hid 168 65 0 .zero
/-- Session k: last SEQ the module sent (R392). -/
def HID.SESTX : Fld := hid 169 40 0 .zero
/-- Session k: consecutive tag failures (R392). -/
def HID.SESTAGF : Fld := hid 170 5 0 .zero
/-- The vault self-check of the start failed (R434, R446). -/
def HID.SELFFAIL : Fld := hid 171 1 0 .zero
/-- The module has no valid configuration (R405, R434). -/
def HID.UNCFG : Fld := hid 172 1 0 .zero
/-- The configuration store holds the device certificate (R384). -/
def HID.DEVCERT : Fld := hid 173 1 1 .cfg
/-- Store k: the write in progress is the repeat of a failed one (R403). -/
def HID.STORETRY : Fld := hid 174 1 0 .zero
/-- Requester k: a spilled record is being fetched for it (R412). -/
def HID.RECBUSY : Fld := hid 175 1 0 .zero
/-- The recorder spills short blocks as well: a supply warning or stage 4 (R411). -/
def HID.SPILLING : Fld := hid 176 1 0 .zero
/-- Staging slot k: words received (R415). -/
def HID.UPDLEN : Fld := hid 177 25 0 .zero
/-- Staging slot k: the proof of its header runs (R414). -/
def HID.UPDPROOF : Fld := hid 178 1 0 .zero
/-- Staging slot k: the load is for the partner as well (R419). -/
def HID.UPDPART : Fld := hid 179 1 0 .zero
/-- Session k: the slot it last wrote BEGIN for, plus 1 (R415). -/
def HID.UPDSES : Fld := hid 180 2 0 .zero
/-- A REVERT waits for the next boundary (R417). -/
def HID.UPDREVERT : Fld := hid 181 1 0 .zero
/-- ROLLBACK of the image in PREVIOUS. -/
def HID.PREVROLL : Fld := hid 182 7 0 .keep
/-- CFG_FORMAT of the image in PREVIOUS. -/
def HID.PREVFMT : Fld := hid 183 16 0 .keep
/-- Staging slot of the activation in progress, plus 1 (R416). -/
def HID.ACTSLOT : Fld := hid 184 2 0 .zero
/-- Cause of the restart in progress, plus 1; 0 for none (R433). -/
def HID.RESTART : Fld := hid 185 4 0 .zero
/-- Tick at which the restart in progress began. -/
def HID.RESTARTAT : Fld := hid 186 64 0 .zero
/-- The lease clock, in us (R354). -/
def HID.LEASENOW : Fld := hid 188 64 0 .zero
/-- Lease time at which the last acknowledged renewal was sent (R355). -/
def HID.ACKEDAT : Fld := hid 189 64 0 .zero
/-- Lease time of the last renewal seen from the partner (R357). -/
def HID.SEENAT : Fld := hid 190 64 0 .zero
/-- Lease time of the last renewal or ACK from the partner. -/
def HID.PARTNERAT : Fld := hid 191 64 0 .zero
/-- Lease time of the last answer from the witness. -/
def HID.WITNESSAT : Fld := hid 192 64 0 .zero
/-- Sequence number of the last renewal sent (R354). -/
def HID.RENSEQ : Fld := hid 193 32 0 .zero
/-- Lease time at which renewal k (mod 64) was sent. -/
def HID.RENAT : Fld := hid 194 64 0 .zero
/-- A GRANT of the witness is held (R357). -/
def HID.GRANT : Fld := hid 195 1 0 .zero
/-- The partner has left the active role in a swap (R364). -/
def HID.LEAVING : Fld := hid 196 1 0 .zero
/-- A paired start waits for a RENEW of its partner (R366). -/
def HID.JOINTWAIT : Fld := hid 197 1 0 .zero
/-- Tick of step 6 of the start (R366). -/
def HID.JOINTAT : Fld := hid 198 64 0 .zero
/-- The partner has sent CLAIM and awaits the outcome (R366). -/
def HID.JOINT : Fld := hid 199 1 0 .zero
/-- The partner becomes active at the next boundary (R366). -/
def HID.TAKEPEND : Fld := hid 200 1 0 .zero
/-- Epoch with which it does so. -/
def HID.TAKEEP : Fld := hid 201 32 0 .zero
/-- Witness: epoch of pair k, plus 1; 0 when the pair is not served (R356). -/
def HID.WITEPOCH : Fld := hid 202 33 0 .zero
/-- Witness: active position of pair k. -/
def HID.WITPOS : Fld := hid 203 1 0 .zero
/-- Witness: lease time of the last renewal of pair k. -/
def HID.WITSEEN : Fld := hid 204 64 0 .zero
/-- A claim window is open for pair k (R366). -/
def HID.CLAIMON : Fld := hid 205 1 0 .zero
/-- Epoch of the best claim of pair k. -/
def HID.CLAIMEP : Fld := hid 206 32 0 .zero
/-- Position of the best claim of pair k. -/
def HID.CLAIMPOS : Fld := hid 207 1 0 .zero
/-- Lease time of the first claim of pair k. -/
def HID.CLAIMAT : Fld := hid 208 64 0 .zero
/-- Commit tick of the swap in preparation, plus 1 (R364). -/
def HID.SWAPAT : Fld := hid 209 64 0 .zero
/-- This partner has sent PREPARED. -/
def HID.SWAPMINE : Fld := hid 210 1 0 .zero
/-- The PREPARED of the other partner is held. -/
def HID.SWAPGOT : Fld := hid 211 1 0 .zero
/-- The swap is a drill (R367). -/
def HID.SWAPDRILL : Fld := hid 212 1 0 .zero
/-- Boundary at which the old active partner fences, plus 1 (R364). -/
def HID.FENCEAT : Fld := hid 213 64 0 .zero
/-- Lease time at which it fences at the latest. -/
def HID.FENCELC : Fld := hid 214 64 0 .zero
/-- Boundary at which SWAP_DONE fires, plus 1. -/
def HID.SWAPDONE : Fld := hid 215 64 0 .zero
/-- Boundary of the drill check, plus 1 (R367). -/
def HID.DRILLAT : Fld := hid 216 64 0 .zero
/-- Output k has been 1 since s + 8 (R367). -/
def HID.DRILLON : Fld := hid 217 1 0 .zero
/-- Boundary at which PREPARE of the swap back is sent, plus 1. -/
def HID.BACKAT : Fld := hid 218 64 0 .zero
/-- Slot k is DESYNC (R362). -/
def HID.DSLOT : Fld := hid 219 1 0 .zero
/-- The loops are DESYNC (R362). -/
def HID.DLOOPS : Fld := hid 220 1 0 .zero
/-- A resynchronisation runs on the standby (R363). -/
def HID.RESYNC : Fld := hid 221 1 0 .zero
/-- Resynchronisation on the active partner: 1 the module state goes out at the next boundary, 2 it has gone out (R363). -/
def HID.RESYNCTX : Fld := hid 222 2 0 .zero
/-- Slot k: its retained state is to be sent at its first release (R363). -/
def HID.RESYNCSL : Fld := hid 223 1 0 .zero
/-- The module state of a resynchronisation has been received. -/
def HID.MODSTATE : Fld := hid 224 1 0 .zero
/-- Slot k (128: the loops): tick of the digest received, plus 1 (R362). -/
def HID.DIGAT : Fld := hid 225 64 0 .zero
/-- Slot k: that digest. -/
def HID.DIGCRC : Fld := hid 226 32 0 .zero
/-- Slot k: tick of its own digest, plus 1 (R362). -/
def HID.OWNAT : Fld := hid 227 64 0 .zero
/-- Slot k: its own digest. -/
def HID.OWNCRC : Fld := hid 228 32 0 .zero
/-- Slot k: commit tick of its peel (R371). -/
def HID.PEELC : Fld := hid 229 64 0 .zero
/-- Slot k, as a destination: 1 its first release awaits the snapshot, 2 its capture is complete (R371). -/
def HID.PEELWAIT : Fld := hid 230 2 0 .zero
/-- Slot k, as a destination: the whole snapshot is held (R371). -/
def HID.SNAPHELD : Fld := hid 231 1 0 .zero
/-- Slot k, as a source: its snapshot has been sent (R371). -/
def HID.PEELSENT : Fld := hid 232 1 0 .zero
/-- Slot k: a survival takeover starts at the next boundary (R373). -/
def HID.SURVREQ : Fld := hid 233 1 0 .zero
/-- Slot k: boundary at which its survival takeover commits, plus 1 (R373). -/
def HID.SURVAT : Fld := hid 234 64 0 .zero
/-- Slot k: releases since its last checkpoint (R373). -/
def HID.CKPTCNT : Fld := hid 235 16 0 .zero
/-- A store had no valid bank at the last start (R405, R446). -/
def HID.NOBANK : Fld := hid 236 1 0 .zero
/-- Sensor i, k-th newest of its last 4 samples, signed, in 0.1 degrees C (R435). -/
def HID.TSHIST : Fld := hid 237 16 0 .hold
/-- Number of those samples. -/
def HID.TSNUM : Fld := hid 238 3 0 .std
/-- A supply dip runs (R454). -/
def HID.DIPON : Fld := hid 239 1 0 .hold
/-- A dip ended in OFF and is counted at the next start (R454). -/
def HID.DIPOFF : Fld := hid 240 1 0 .hold
/-- The lowest voltage of that dip, in mV. -/
def HID.DIPLOW : Fld := hid 241 16 0 .hold
/-- Its duration, in us. -/
def HID.DIPUS : Fld := hid 242 32 0 .hold
/-- Minutes in RUN or HALT since the last whole hour (R454). -/
def HID.LIFEMIN : Fld := hid 243 8 0 .hold
/-- Minutes in HALT since the last whole hour in HALT (R454). -/
def HID.HALTMIN : Fld := hid 244 8 0 .hold
/-- The restart in progress is warm (R129). -/
def HID.RESTARTKIND : Fld := hid 245 1 0 .zero
/-- Milliseconds from the start's reference to readiness (PWR_START.START_MS). -/
def HID.STARTMS : Fld := hid 246 32 0 .zero
/-- The first release after the start has not taken place. -/
def HID.STARTPEND : Fld := hid 247 1 1 .zero
/-- Instructions counted since the last sample (R452). -/
def HID.SMPCNT : Fld := hid 248 16 0 .zero
/-- Samples since EN was last set (R452). -/
def HID.SMPSEQ : Fld := hid 249 24 0 .zero
/-- Word i of the sample record a requester k popped (R453). -/
def HID.SMPW : Fld := hid 251 32 0 .zero
/-- The start watchdog of a trial image has expired (R417). -/
def HID.TRIALFAIL : Fld := hid 252 1 0 .zero
/-- The start is the first of a trial image (R416, R422). -/
def HID.JUSTACT : Fld := hid 253 1 0 .zero
/-- The start has stopped at step 2: the root fuses cannot be read (R434). -/
def HID.VAULTSTOP : Fld := hid 254 1 0 .zero
/-- Engine i, line k: 1 when the END whose publication is due made the line current (R93, R94). -/
def HID.LINE_END : Fld := hid 255 1 0 .zero
/-- 1 plus the slot whose ACTIVATE has committed at this boundary; 0 for none (R416). -/
def HID.ACTGO : Fld := hid 256 2 0 .zero
/-- 1 plus the batch that the STAGE frame being served stages in; 0 for none (R160). -/
def HID.PEERTAG : Fld := hid 257 7 0 .zero
/-- The selector index that the STAGE frame being served carries (R303). -/
def HID.PEERSEL : Fld := hid 258 16 0 .zero
/-- Level of the leaf through which the access being made reached its register (R194). -/
def HID.SELLEVEL : Fld := hid 259 2 0 .zero
/-- Hops of the walk through which the access being made reached its register (R194). -/
def HID.SELHOPS : Fld := hid 260 4 0 .zero
/-- TAG of the next REQUEST or STAGE frame (R303). -/
def HID.TAGNO : Fld := hid 261 16 0 .zero
/-- DATA frames of sessions whose answers were begun (R393). -/
def HID.ANSNO : Fld := hid 262 32 0 .zero
/-- A group member has sampled at this tick (R215). -/
def HID.LOOPSAMPLED : Fld := hid 263 1 0 .zero
/-- Standby: tick of the module state that is being taken, plus 1 (R363). -/
def HID.MODAT : Fld := hid 264 64 0 .zero
/-- Edges of the RTC clock until a committed seconds write lands (R344). -/
def HID.LANDLEFT : Fld := hid 265 2 0 .rtc
/-- Edges of the RTC clock in this tick that have been worked already (R344, R347). -/
def HID.RTCDONE : Fld := hid 266 8 0 .rtc
/-- Kind i (0 routes, 1 the active-tin table), fixed batch k of the boundary: its commit has changed the table (R62, R198). -/
def HID.EVMARK : Fld := hid 267 1 0 .zero
/-- 1 while a write of another module's task acts at its deadline (R43, R90). -/
def HID.ATDEADLINE : Fld := hid 268 1 0 .zero
/-- Engine i, slot k: remote inputs declared late since the restart (R22). -/
def HID.LATEIN : Fld := hid 269 32 0 .zero
/-- 1 while the lines that the newest snapshot copies are being read (R134). -/
def HID.SNAPREAD : Fld := hid 270 1 0 .zero
/-- Engine i, line k (copy 0): the snapshot being read has read it, before a scan wrote to it (R134). -/
def HID.SNAPGOT : Fld := hid 271 1 0 .zero
/-- Engine i: how often its PROG_OPEN has been set or closed (R137). -/
def HID.PROGNO : Fld := hid 272 32 0 .zero
/-- Engine i: that number when the store write in progress began (R137). -/
def HID.COPYNO : Fld := hid 273 32 0 .zero
/-- Boundaries for which the first release is still withheld while the clock waits for LOCKED (R340). -/
def HID.WAITLEFT : Fld := hid 274 16 0 .zero
/-- Boundaries at which the first release has been withheld (R340, R434). -/
def HID.WAITED : Fld := hid 275 16 0 .zero
/-- Walks that engines have queued (R178). -/
def HID.WALKSEQ : Fld := hid 276 64 0 .std
/-- The number of the walk for which an engine waits. -/
def HID.WALKNO : Fld := hid 277 64 0 .std
/-- The number of the walk that the walker serves for an engine, 0 for none. -/
def HID.WALKER : Fld := hid 278 64 0 .std
/-- Slice k: 250 µs intervals of its own clock since the last refresh of its watchdog (R235), at most 65,535. -/
def HID.SLAGE : Fld := hid 279 16 0 .keep
/-- Analog slice i, channel k: a safe state that ladder stage 2 or 3 has held back (R240). -/
def HID.AHELD : Fld := hid 280 1 0 .keep
/-- The number of the block that the zones play (R256): the tick, or in the autonomous state a count of the island's own clock. -/
def HID.AUDBLK : Fld := hid 281 64 0 .keep
/-- Blocks of its own clock for which the audio island has had no heartbeat or no tick announcement (R270). -/
def HID.AUDMISS : Fld := hid 282 8 0 .keep
/-- Source k: firings that the autonomous state holds for the router (R270). -/
def HID.AUDEV : Fld := hid 283 8 0 .keep
/-- Player k fed a request that the autonomous state has cut (R271). -/
def HID.AUDCUTMP : Fld := hid 284 1 0 .keep
/-- Zone k: the fade of the block now playing (R257): 0 none, 1 to 32 from source 0 to 31, 33 from silence. -/
def HID.ZFADE : Fld := hid 285 6 0 .keep
/-- Tone generator k: the frequency it sounds in the block now playing, in Hz; 0 for silence (R261). -/
def HID.TGHZ : Fld := hid 286 11 0 .keep
/-- Zone k: the block at which its last supervision window ended, plus 1 (R265). -/
def HID.ZWIN : Fld := hid 287 64 0 .keep
/-- The cycle of the last miss of a TOKEN, plus 1 (R307). -/
def HID.TMISSAT : Fld := hid 288 64 0 .zero
/-- The tick of the last change of the rate that a RATE 2 port tries, by port (R315). -/
def HID.RTRYAT : Fld := hid 289 64 0 .zero
/-- VBAT was below 2.8 V when it was last measured (R348). -/
def HID.VBATLO : Fld := hid 290 1 0 .rtc
/-- R357: lease-clock µs of the last TAKE_REQ sent. -/
def HID.TREQAT : Fld := hid 291 64 0 .zero
/-- R354: lease-clock µs of the last RENEW sent, plus 1; 0 when this partner has sent none since it became active. -/
def HID.RENLAST : Fld := hid 292 64 0 .zero
/-- R357: the takeover that waits for its boundary is one by lapse. -/
def HID.TAKELAPSE : Fld := hid 293 1 0 .zero
/-- R367: tick s + 8 of a drill, plus 1; 0 for none. -/
def HID.DRILLFROM : Fld := hid 294 64 0 .zero
/-- R367: the tick from which the next day of PAIR_AGE.TEST_AGE counts. -/
def HID.DAYAT : Fld := hid 295 64 0 .keep
/-- R373: by module ID, the tick of the last ring frame heard from it, plus 1. -/
def HID.HEARD : Fld := hid 296 64 0 .zero
/-- R426: the tick at which the supply warning set. -/
def HID.WARNAT : Fld := hid 297 64 0 .hold
/-- R427: the count of the RTC domain when OFF was entered. -/
def HID.OFFRTC : Fld := hid 298 64 0 .hold
/-- R455: a whole hour of RUN or HALT has ended, and the LIFE store is to be written. -/
def HID.LIFEDUE : Fld := hid 299 1 0 .hold

/-- Every internal cell. -/
def hidFields : List Fld :=
  [HID.EXECUTING, HID.LINE_CUR, HID.LINE_DIRTY, HID.DEADLINE, HID.RELEASED, HID.WARMSTART, HID.FIRSTPEND, HID.MISSEDREC] ++
  [HID.RESUMEPEND, HID.PROGCOPIED, HID.BOARDSUM, HID.SWAPTICK, HID.DOMNAMED, HID.PWLEFT] ++
  [HID.SERIALNO, HID.CMDPEND, HID.FIREASK, HID.FIRECMDREQ, HID.LAMPTEST, HID.ISLANDDOWN, HID.RINGFIRE, HID.BOARDCNT] ++
  [HID.KEPTRING, HID.KEPTFLAG, HID.INROUND, HID.ROUNDSERVED, HID.PUBQ, HID.PUBBY, HID.KRETDUE, HID.STOPPEND] ++
  [HID.WDOGAT, HID.SWAPTO, HID.CRCRUN, HID.FORCEBUMP, HID.HELDH, HID.HELDHV, HID.SNAPH, HID.SNAPHV] ++
  [HID.LOOPRHAT, HID.LOOPPREV, HID.LOOPPREVV, HID.LOOPHO, HID.LOOPEXEMPT, HID.LOOPFACT, HID.LOOPSAFE, HID.LOOPENDDIR] ++
  [HID.LOOPDRIVE, HID.LOOPSEEN, HID.LOOPINIT, HID.LOOPFIRE, HID.GRPLOG, HID.DTERM, HID.DFILT, HID.DWB] ++
  [HID.DSC, HID.DOT, HID.DOL, HID.DOVL, HID.DDRIVE, HID.DEXT, HID.DPEND, HID.DLAST] ++
  [HID.DCOMMIT, HID.DCTICK, HID.DREPEND, HID.DCLR, HID.OVEPISODE, HID.OVFIRED, HID.SLRESTART, HID.SLREARM] ++
  [HID.SLREARMAT, HID.SLCLEAR, HID.COMMITNO, HID.OVERCOMMIT, HID.SPREADTICK, HID.AWB, HID.ASC, HID.ARANGE] ++
  [HID.ACONV, HID.CAPST, HID.CAPTE, HID.CAPPER, HID.CAPDIR, HID.CAPLINE, HID.CAPQERR, HID.CAPPOS] ++
  [HID.REQF, HID.AUDIGN, HID.AUDIGNW, HID.AUDMUTE, HID.AUDCUT, HID.AUDPROMO, HID.AUDPROMOF, HID.FIREREQ1] ++
  [HID.FIREMP0, HID.MPST, HID.MPMSG, HID.MPREP, HID.MPGAP, HID.MPLEFT, HID.MPPOS, HID.TGPAT] ++
  [HID.TGBLOCK, HID.RXLATE, HID.RXOK, HID.ZCLASS, HID.ZCOUNT, HID.ZEARTHLO, HID.ZEARTHHI, HID.COMMLEFT] ++
  [HID.COMMSUM, HID.COMMPH, HID.METRX, HID.METSEEN, HID.METTSEEN, HID.STATREM, HID.STEERPEND, HID.PBROKEN] ++
  [HID.LINKAT, HID.LINKSINCE, HID.HEALAT, HID.RSTOP, HID.RSLOW, HID.RTRYSLOW, HID.TOKENAT, HID.TMISS] ++
  [HID.MSTOP, HID.ASYNCAT, HID.ASYNCCYC, HID.DUPSEEN, HID.FIRERXAT, HID.FIREENT, HID.TXSEQ] ++
  [HID.EPSEEN, HID.SEGPOLL, HID.SEGASKED, HID.SEGWRONG, HID.SEGOK, HID.NODESTAT, HID.SEGFOR, HID.SYNCN] ++
  [HID.SYNCAT, HID.SYNCSEQ, HID.SYNCSEQAT, HID.SYNCBAD, HID.PTPOFF, HID.PTPSTEP, HID.ANNAT, HID.GMKEY] ++
  [HID.GMKNOWN, HID.WASLOCKED, HID.SEEDOK, HID.NEEDPD, HID.ADJLEFT, HID.RTCWRITE, HID.ALMMATCH, HID.AUTOLOCK] ++
  [HID.FIRSTREL, HID.PWRST, HID.HELDEV, HID.RDATA, HID.SESHELLO, HID.SESLAST, HID.SESREADY, HID.SESHI] ++
  [HID.SESWIN, HID.SESTX, HID.SESTAGF, HID.SELFFAIL, HID.UNCFG, HID.DEVCERT, HID.STORETRY, HID.RECBUSY] ++
  [HID.SPILLING, HID.UPDLEN, HID.UPDPROOF, HID.UPDPART, HID.UPDSES, HID.UPDREVERT, HID.PREVROLL, HID.PREVFMT] ++
  [HID.ACTSLOT, HID.RESTART, HID.RESTARTAT, HID.LEASENOW, HID.ACKEDAT, HID.SEENAT, HID.PARTNERAT] ++
  [HID.WITNESSAT, HID.RENSEQ, HID.RENAT, HID.GRANT, HID.LEAVING, HID.JOINTWAIT, HID.JOINTAT, HID.JOINT] ++
  [HID.TAKEPEND, HID.TAKEEP, HID.WITEPOCH, HID.WITPOS, HID.WITSEEN, HID.CLAIMON, HID.CLAIMEP, HID.CLAIMPOS] ++
  [HID.CLAIMAT, HID.SWAPAT, HID.SWAPMINE, HID.SWAPGOT, HID.SWAPDRILL, HID.FENCEAT, HID.FENCELC, HID.SWAPDONE] ++
  [HID.DRILLAT, HID.DRILLON, HID.BACKAT, HID.DSLOT, HID.DLOOPS, HID.RESYNC, HID.RESYNCTX, HID.RESYNCSL] ++
  [HID.MODSTATE, HID.DIGAT, HID.DIGCRC, HID.OWNAT, HID.OWNCRC, HID.PEELC, HID.PEELWAIT, HID.SNAPHELD] ++
  [HID.PEELSENT, HID.SURVREQ, HID.SURVAT, HID.CKPTCNT, HID.NOBANK, HID.TSHIST, HID.TSNUM, HID.DIPON] ++
  [HID.DIPOFF, HID.DIPLOW, HID.DIPUS, HID.LIFEMIN, HID.HALTMIN, HID.RESTARTKIND, HID.STARTMS, HID.STARTPEND] ++
  [HID.SMPCNT, HID.SMPSEQ, HID.SMPW, HID.TRIALFAIL, HID.JUSTACT, HID.VAULTSTOP, HID.LINE_END] ++
  [HID.ACTGO, HID.PEERTAG, HID.PEERSEL, HID.SELLEVEL, HID.SELHOPS, HID.TAGNO, HID.ANSNO, HID.LOOPSAMPLED] ++
  [HID.MODAT] ++
  [HID.LANDLEFT, HID.RTCDONE] ++
  [HID.EVMARK, HID.ATDEADLINE, HID.LATEIN, HID.SNAPREAD, HID.SNAPGOT] ++
  [HID.PROGNO, HID.COPYNO, HID.WAITLEFT, HID.WAITED] ++
  [HID.WALKSEQ, HID.WALKNO, HID.WALKER] ++
  [HID.SLAGE, HID.AHELD] ++
  [HID.AUDBLK, HID.AUDMISS, HID.AUDEV, HID.AUDCUTMP, HID.ZFADE, HID.TGHZ, HID.ZWIN] ++
  [HID.TMISSAT, HID.RTRYAT] ++
  [HID.VBATLO] ++
  [HID.TREQAT, HID.RENLAST, HID.TAKELAPSE, HID.DRILLFROM, HID.DAYAT, HID.HEARD] ++
  [HID.WARNAT, HID.OFFRTC, HID.LIFEDUE]

end Sys2Proof.Machine
end

