-- ==== Sys2Proof/Machine/Maps.lean ====
section
/-!
DEFINITION. Sparse maps from numbers to data, and byte memories. Both are lists of pairs with strictly rising keys.
A memory lists no byte equal to 0, which is what an unlisted address reads as: the benches are cleared to zero
(R15), and memory nothing has written reads as 0 (DESIGN CHOICE, assumption 4).
-/
namespace Sys2Proof.Machine

/-- A sparse map: keys strictly rising. -/
abbrev AMap (α : Type) := List (Nat × α)

/-- The datum under a key. -/
def AMap.find {α : Type} : AMap α → Nat → Option α
  | [], _ => none
  | (k, v) :: t, q => if k = q then some v else AMap.find t q

/-- Put a datum under a key, keeping the order of keys. -/
def AMap.put {α : Type} : AMap α → Nat → α → AMap α
  | [], q, v => [(q, v)]
  | (k, w) :: t, q, v =>
    if k = q then (q, v) :: t
    else if q < k then (q, v) :: (k, w) :: t
    else (k, w) :: AMap.put t q v

/-- Remove a key. -/
def AMap.del {α : Type} : AMap α → Nat → AMap α
  | [], _ => []
  | (k, w) :: t, q => if k = q then AMap.del t q else (k, w) :: AMap.del t q

/-- The keys in use. -/
def AMap.keys {α : Type} (m : AMap α) : List Nat := m.map (·.1)

/-- A memory: bytes by address. -/
abbrev Memory := List Host.Cell

/-- What an address that is not listed reads as. -/
def Memory.unlisted : BitVec 8 := 0

/-- The byte at an address. -/
def Memory.read : Memory → Nat → BitVec 8
  | [], _ => Memory.unlisted
  | (k, v) :: t, a => if k = a then v else Memory.read t a

/-- List a byte that differs from the unlisted value. -/
def Memory.insert : Memory → Nat → BitVec 8 → Memory
  | [], a, v => [(a, v)]
  | (k, w) :: t, a, v =>
    if k = a then (a, v) :: t
    else if a < k then (a, v) :: (k, w) :: t
    else (k, w) :: Memory.insert t a v

/-- Remove an address, which then reads as unlisted. -/
def Memory.erase : Memory → Nat → Memory
  | [], _ => []
  | (k, w) :: t, a => if k = a then Memory.erase t a else (k, w) :: Memory.erase t a

/-- Write one byte, keeping the canonical form. -/
def Memory.write (m : Memory) (a : Nat) (v : BitVec 8) : Memory :=
  if v = Memory.unlisted then m.erase a else m.insert a v

/-- The canonical form: addresses strictly rising and no byte equal to the unlisted value. -/
def Memory.wf : Memory → Bool
  | [] => true
  | [(_, v)] => v != Memory.unlisted
  | (a, v) :: (b, w) :: t => decide (a < b) && (v != Memory.unlisted) && Memory.wf ((b, w) :: t)

/-- `n` bytes from an address as one number, the byte at the lowest address lowest (assumption 5). -/
def Memory.readN (m : Memory) (a : Nat) : Nat → Nat
  | 0 => 0
  | n + 1 => (m.read a).toNat + 256 * Memory.readN m (a + 1) n

/-- Write a number as `n` bytes from an address, lowest byte first (assumption 5). -/
def Memory.writeN (m : Memory) (a : Nat) : Nat → Nat → Memory
  | 0, _ => m
  | n + 1, v => Memory.writeN (m.write a (BitVec.ofNat 8 v)) (a + 1) n (v / 256)

end Sys2Proof.Machine
end

