-- ==== Sys2Proof/Machine/State.lean ====
section
/-!
DEFINITION. The state of the module as plain data: every register field and internal value in one sparse store
(`cells`), and the structured state beside it (batches, scans, queues, caches, records).
-/
namespace Sys2Proof.Machine

/-- What an entry of a batch writes (R44, R88): a register with the index its selector held, a word of the
module's own point store, one bit of such a word, or an address that another module holds. -/
inductive Target where
  | reg (off sel : Nat)
  | point (a : Nat)
  | pointBit (a b : Nat)
  | regBit (off b : Nat)
  | remote (modId addr : Nat)
deriving DecidableEq, Repr

/-- One staged entry: its target, the value, which bits of a register the write staged (the mask of staged fields),
the requester, the epoch the access resolved with (R28), and the tower address it was staged at, if it was walked
(R158). -/
structure Entry where
  tgt : Target
  val : Nat
  by_ : Req
  epoch : Nat
  addr : Option Nat
deriving DecidableEq, Repr

/-- The states of a batch (R148); FREE is having no batch under an ID. -/
inductive BState where
  | opened | doomed | requested | sealed | prepared
deriving DecidableEq, Repr

/-- A batch under one of the 64 IDs (R148, R160, R161). `coord` is the coordinator of a peer's batch with its batch
ID there; `parts` the participant modules; `okFrom` those whose PREPARED is held. -/
structure Batch where
  st : BState
  single : Bool
  xmod : Bool
  ls : Bool
  remote : Bool
  tin : Nat
  opener : Req
  openedAt : Nat
  ctick : Nat
  code : Nat
  peer : Nat
  entries : List Entry
  coord : Nat × Nat
  parts : List Nat
  okFrom : List Nat
deriving DecidableEq, Repr

/-- Whose output batch a fixed batch is (R146): a task slot's, the loop engine's, or the words that a placed task of
another module addresses to this one (R369), or the entries that the active partner mirrors (R361). -/
inductive Producer where
  | slot (e j : Nat)
  | loops
  | remoteTask (id : Nat)
  | mirror
deriving DecidableEq, Repr

/-- A check of the table of R158 that an entry fails: the lock, the slice fault, the translation, a rule of its block, the
epoch. -/
inductive Check where
  | lock | slice | xlate | block | epoch
deriving DecidableEq, Repr

/-- A fixed batch: its producer, its commit tick, whether it holds the image entry with the points that entry drives,
its other entries, and what failed when they were validated at their arrival (R157). -/
structure FBatch where
  who : Producer
  ctick : Nat
  image : Bool
  img : List Target
  ls : Bool
  tin : Nat
  entries : List Entry
  rel : Nat
  fails : List (Entry × Check × Nat)
deriving DecidableEq, Repr

/-- An entry waiting in a producer's queue towards the batch controller (R11): the fixed batch it is for, and the
entry, or the image entry of END. -/
structure QEnt where
  who : Producer
  due : Nat
  rel : Nat
  ls : Bool
  tin : Nat
  ent : Option Entry
deriving DecidableEq, Repr

/-- The result of a P access's walk, held until the instruction completes: a local address, an address of another
module with the KIND of its leaf, a register of this module with level and hops of its walk, a fault (R91), or a direct read of another module's point
that got no value (R91). -/
inductive PRes where
  | pt (a : Nat)
  | hist (a : Nat)
  | reg (off level hops : Nat)
  | far (modId epoch kind a : Nat)
  | fault
  | lost
deriving DecidableEq, Repr

/-- The state an engine holds for a scan (R63, R64), with what its release fixed (R80, R84, R88), what its release
record will hold (R142), the stalls of the instruction in progress as causes with cycles (cause 0 for cycles that are no
stall), and the cause of a wait of unknown length (2 or 3) that has ended (R96, R452). -/
structure Scan where
  lb : Bool
  bstk : List Bool
  acc : Word
  x0 : Word
  x1 : Word
  x2 : Word
  x3 : Word
  cstk : List Nat
  pc : Nat
  z : Bool
  n : Bool
  c : Bool
  v : Bool
  vs : Bool
  dz : Bool
  pf : Bool
  fire : Bool
  first : Bool
  ev : Nat
  rel : Nat
  due : Nat
  bank : Nat
  gen : Nat
  warmFirst : Bool
  eDone : List Nat
  started : Bool
  ready : Bool
  pd : Nat
  cyc : Nat
  walked : Option PRes
  ans : Option Nat
  late : List Nat
  forced : Bool
  stalls : List (Nat × Nat)
  wait : Nat
deriving DecidableEq, Repr

/-- A release record (R142), with the I words that were late (its extensions). -/
structure RelRec where
  tick : Nat
  modId : Nat
  eng : Nat
  slot : Nat
  bank : Nat
  event : Nat
  overrun : Bool
  fault : Bool
  pubAbort : Bool
  first : Bool
  fire : Bool
  forced : Bool
  missed : Nat
  pdirect : Nat
  late : List Nat
  progCrc : Nat
  exec : Nat
  forceGen : Nat
deriving DecidableEq, Repr

/-- What the module writes to history (R127, R142): a release record with its extensions, or an engine's force table with
its generation, each entry as index, FORCE_TGT, FORCE_MASK and FORCE_VAL. -/
inductive HistItem where
  | release (r : RelRec)
  | forces (e gen : Nat) (tbl : List (Nat × Nat × Nat × Nat))
deriving DecidableEq, Repr

/-- The groups of 224 I words of which a release record's extensions tell: those with a late word (R142). -/
def RelRec.groups (r : RelRec) : List Nat := (List.range 147).filter fun g => r.late.any fun w => w / 224 == g

/-- The eight words of an extension record: FIRST_WORD with bit 31, and the late flags of 224 I words (R142). -/
def RelRec.ext (r : RelRec) (g : Nat) : List Nat :=
  (224 * g + 2 ^ 31) :: (List.range 7).map fun i =>
    ((List.range 32).map fun b => if r.late.contains (224 * g + 32 * i + b) then 2 ^ b else 0).sum

/-- A release record in its layout of eight words, with the extension records that follow it (R142). -/
def RelRec.words (r : RelRec) : List Nat :=
  let w2 := r.modId % 256 + 2 ^ 8 * (r.eng % 16) + 2 ^ 12 * (r.slot % 8) + 2 ^ 15 * (r.bank % 2) + 2 ^ 16 * (r.event % 8192)
  let w3 := r.overrun.toNat + 2 * r.fault.toNat + 4 * r.pubAbort.toNat + 8 * r.first.toNat + 16 * r.fire.toNat +
    32 * r.forced.toNat + 2 ^ 16 * r.missed
  [r.tick % 2 ^ 32, r.tick / 2 ^ 32 % 2 ^ 32, w2, w3, r.pdirect + 2 ^ 16 * min r.late.length 65535, r.progCrc, r.exec,
    r.forceGen % 65536 + 2 ^ 16 * r.groups.length] ++ r.groups.flatMap r.ext

/-- The words of an item of history. -/
def HistItem.words : HistItem → List Nat
  | .release r => r.words
  | .forces e gen tbl => e :: gen :: tbl.flatMap fun x => [x.1, x.2.1, x.2.2.1, x.2.2.2]

/-- A leaf in a cache (R183): the page address, the leaf's level, the generation it is tagged with, the leaf, and
whether a prewarm put it there. -/
structure CEnt where
  page : Nat
  level : Nat
  gen : Nat
  leaf : Nat
  pre : Bool
deriving DecidableEq, Repr

/-- A dual-written leaf in the overlay (R190). -/
structure OvEnt where
  page : Nat
  level : Nat
  leaf : Nat
deriving DecidableEq, Repr

/-- A remote value that has reached the image builder: the point, the tick its source latched it, the value (R22). -/
structure RVal where
  addr : Nat
  tick : Nat
  val : Nat
deriving DecidableEq, Repr

/-- The program set of one bank of an engine (R131, R137): the bank's bytes, the windows (AREA_WIN index, BASE, LINES),
the words of the P windows (slot, word, value), the K initial values (slot, word, value), the image maps by slot, and
the CRC of the bank. -/
structure Prog where
  code : Memory
  wins : List (Nat × Nat × Nat)
  pwin : List (Nat × Nat × Nat)
  kinit : List (Nat × Nat × Nat)
  maps : List (Nat × ImgMap)
  crc : Nat
deriving DecidableEq, Repr

/-- A delivery of the router on its way to a task event input (R121): engine, slot, the binding positions of its
source, and the count. -/
structure Deliv where
  e : Nat
  j : Nat
  mask : Nat
  n : Nat
deriving DecidableEq, Repr

/-- What a snapshot holds for one slot (R133): K words, retentive timer and counter words, the bank's program CRC, the
lengths of its windows by area, and the retentive ranges. -/
structure SnapSlot where
  k : List Nat
  t : List Nat
  c : List Nat
  crc : Nat
  lines : List Nat
  tRet : Nat
  cRet : Nat
deriving DecidableEq, Repr

/-- A snapshot in the K-retention store (R133). -/
structure Snap where
  tick : Nat
  rtc : Nat
  slots : AMap SnapSlot
deriving DecidableEq, Repr

/-- A word of a slot's Q window whose force changed at this boundary, with the bits concerned (R125). -/
structure FTouch where
  e : Nat
  j : Nat
  word : Nat
  mask : Nat
deriving DecidableEq, Repr

/-- A change of an output that a loop or group drives (R212): the commit tick, the output before and after. -/
structure OutChg where
  tick : Nat
  old : Nat
  new : Nat
deriving DecidableEq, Repr

/-- A captured edge (R242): its timestamp in units of 10 ns, and whether it rose. -/
structure CapEnt where
  ts : Nat
  rising : Bool
deriving DecidableEq, Repr

/-- A change of the audio that takes effect at block `at_` (R256): a request slot, a player's start (`fire` when the
fire preset starts it) or stop, the stop of MP0 where it still plays the preset's message, a tone pattern, or whether REQ3 to REQ7 are ignored. -/
inductive AudWhat where
  | req (zone slot word : Nat)
  | start (mp msg rep gap : Nat) (fire : Bool)
  | stop (mp : Nat)
  | stopFire
  | tone (tg pattern : Nat)
  | ignore (on : Bool)
deriving DecidableEq, Repr

/-- A change of the audio with the block at which it takes effect. -/
structure AudChg where
  at_ : Nat
  what : AudWhat
deriving DecidableEq, Repr

/-- A message in audio memory (R259): its length in samples, and whether its check passed. -/
structure MsgInfo where
  len : Nat
  usable : Bool
deriving DecidableEq, Repr

/-- A record of the metrological log (R290). -/
structure MetRec where
  seq : Nat
  kind : Nat
  aux : Nat
  sec : Nat
  seals : Nat
  pars : Nat
  data : Nat
deriving DecidableEq, Repr

/-- A tamper record (R282, R287), numbered in the order it was written. -/
structure TampRec where
  num : Nat
  input : Nat
  present : Bool
  bat : Bool
  novolt : Bool
  sec : Nat
deriving DecidableEq, Repr

/-- What a data frame carries of one phase (R284): mV, mA, mW, mvar, mVA, per mille, and mAh. -/
structure MPhase where
  vrms : Nat
  irms : Nat
  p : Int
  q : Int
  s : Nat
  pf : Int
  ah : Nat
deriving DecidableEq, Repr

/-- What a data frame carries of one meter (R284): the masks of phases present, exporting, without voltage and clipped,
the 24 registers (totals, then phases A to C), the phases, the total powers and the frequency. -/
structure MMeter where
  en : Bool
  present : Nat
  rev : Nat
  novolt : Nat
  ovr : Nat
  regs : List Nat
  ph : List MPhase
  pTot : Int
  qTot : Int
  sTot : Nat
  freq : Nat
deriving DecidableEq, Repr

/-- A data frame of the metrology island (R283). -/
structure MFrame where
  seq : Nat
  sec : Nat
  sealSt : Nat
  debug : Bool
  vset : Nat
  freq0 : Nat
  meters : List MMeter
deriving DecidableEq, Repr

/-- What the island sends besides frames (R293): a log record, a tamper record, or its parameter report. -/
inductive MReport where
  | log (r : MetRec)
  | tamper (r : TampRec)
  | params (pars : AMap Nat) (version crc seals pcount days pres burst : Nat)
deriving DecidableEq, Repr

/-- An LRF image in a bank of the island (R291). -/
structure Lrf where
  version : Nat
  crc : Nat
deriving DecidableEq, Repr

/-- The metrology island (R274 to R295): seconds of its crystal and units of 250 µs since the last one, the next frame's
number, the billing registers in units of which 288 * 10^26 make 1 mWh, so that sums of products of samples lose nothing (key
m * 24 + 6 * g + q, g = 0 for totals and 1 to 3 for the phases), the ampere-hours in pA s by current input, the log (newest
first), the tamper buffer (newest first), the parameters, the counters, the cover switch, the debug line, the supplies, the
battery episode, the LRF banks and load, the presence of the voltage inputs, the phases' flags, the integrators of the inputs
in coil mode in pA, what the last frame carried of each meter, the units of 250 µs since the switch to VBAT or since the last
burst, those since the last word of a load, the frame on the link, the reports on the link and the outcome of the last
command. -/
structure Island where
  sec : Nat
  sub : Nat
  seq : Nat
  regs : AMap Nat
  ah : AMap Nat
  log : List MetRec
  tamper : List TampRec
  tnum : Nat
  pars : AMap Nat
  seals : Nat
  pcount : Nat
  cover : Bool
  debug : Bool
  modSupply : Bool
  mains : Bool
  vbat : Bool
  lost : Bool
  bat : Bool
  batStart : Nat
  bursts : Nat
  budgetOut : Bool
  days : Nat
  pres : Nat
  burst : Nat
  bank0 : Option Lrf
  bank1 : Option Lrf
  installed : Nat
  running : Option Nat
  minRoll : Nat
  loading : Bool
  ended : Bool
  loadLen : Nat
  words : List Word
  vPresent : Nat
  vCount : AMap Nat
  flowing : Nat
  novolt : Nat
  coil : AMap Int
  view : List MMeter
  since : Nat
  idle : Nat
  link : Option MFrame
  out : List MReport
  result : Option Nat
deriving DecidableEq, Repr

/-- The island before anything has happened to it: an installed image in bank 0, no supply (DESIGN CHOICE). -/
def Island.reset : Island :=
  { sec := 0, sub := 0, seq := 0, regs := [], ah := [], log := [], tamper := [], tnum := 0, pars := [], seals := 0,
    pcount := 0, cover := false, debug := false, modSupply := false, mains := false, vbat := true, lost := false,
    bat := false, batStart := 0, bursts := 0, budgetOut := false, days := 30, pres := 10, burst := 10,
    bank0 := some ⟨0, 0⟩, bank1 := none, installed := 0, running := none, minRoll := 0, loading := false, ended := false,
    loadLen := 0, words := [], vPresent := 0, vCount := [], flowing := 0, novolt := 0, coil := [], view := [], since := 0,
    idle := 0, link := none, out := [],
    result := none }

/-- What a frame of the module carries (R303, R368). -/
inductive TxBody where
  | token (tick resAll resLs nodes : Nat) (isoOver : Bool)
  | asyncToken (tick : Nat)
  | image (tick : Nat) (runs : List (Nat × List Nat))
  | audio (tx ch t : Nat)
  | commit (kind code coord id tick : Nat) (parts : List Nat)
  | fire (tick : Nat) (ids : List Nat)
  | request (op kind right tin addr tag val : Nat)
  | response (tag code val : Nat)
  | stage (id tin tag addr val sel : Nat)
  | stageAns (tag code id : Nat)
  | alarm (src n owner : Nat)
  | link (kind tw : Nat)
  | lease (kind pair witness flags epoch seq : Nat)
  | place (epoch tick als srcMod dstMod srcSlot dstSlot : Nat)
  | xfer (kind slot tick crc : Nat) (items : List Nat)
  | session (kind sid seq : Nat) (data : List Nat)
  | ptp (kind tick : Nat) (data : List Nat)
  | poll (seg tick : Nat) (blocks : List (Nat × List Nat))
deriving DecidableEq, Repr

/-- A frame that the module sends: its body, target module, the epoch of the target, class, and the way it goes
(0 primary, 1 both directions, 2 east only, 3 west only, 4 the pair link, 5 the pair link and the ring, 6 the
service port, 7 a floor segment). -/
structure TxFrame where
  body : TxBody
  dst : Nat
  dstEpoch : Nat
  ls : Bool
  way : Nat
deriving DecidableEq, Repr

/-- A frame as it leaves a ring port or the pair link in the current tick (R301, R302): the port, the words of its Unzan
header, its octets. Of a frame that the node only passes on words 4 and 5 stand as they came and are not listed. -/
structure Wire where
  port : Fin 3
  head : List Nat
  octets : Nat
deriving DecidableEq, Repr

/-- A frame taken, kept to know its second copy (R304): sender, position, type, sequence number, time in µs. -/
structure RxSeen where
  src : Nat
  pos : Bool
  type : Nat
  seq : Nat
  at_ : Nat
deriving DecidableEq, Repr

/-- A frame for translation (R318). -/
inductive RxBody where
  | image (tick : Nat) (runs : List (Nat × List Nat))
  | request (op kind right tin addr tag val : Nat)
  | response (tag code val : Nat)
  | stage (id tin tag addr val sel : Nat)
  | stageAns (tag code id : Nat)
deriving DecidableEq, Repr

/-- A word of an IMAGE frame that waits in translation, because the queue to the image builder has no credit (R10). -/
structure ImgHeld where
  h : Hdr
  tick : Nat
  addr : Nat
  val : Nat
deriving DecidableEq, Repr

/-- A frame held in the receive buffer (R318). -/
structure RxHeld where
  h : Hdr
  body : RxBody
deriving DecidableEq, Repr

/-- A node's answer, kept for the latch at the end of the poll period (R326): status octet, type, input words. -/
structure SegAns where
  status : Nat
  type : Nat
  words : List Nat
deriving DecidableEq, Repr

/-- A command that the vault performs (R396, R397): who gave it, its operands, and the words and attributes it took. -/
structure KeyOp where
  by_ : Req
  op : Nat
  src : Nat
  aux : Nat
  data : List Nat
  attr : Nat
deriving DecidableEq, Repr

/-- A source of handshakes that has failed or is locked out (R394): 0x10000 for the service port, else module ID and
position; and a tick. -/
structure SesMark where
  src : Nat
  at_ : Nat
deriving DecidableEq, Repr

/-- A bank of a store (R401): SEQ, FORMAT, and its content as far as its store holds such: register values, key
material, the message set, a snapshot, the tower point map. -/
structure Bank where
  seq : Nat
  fmt : Nat
  cells : Cells
  mats : AMap (List Nat)
  msgs : AMap MsgInfo
  snap : Option Snap
  map : List MapLeaf
deriving DecidableEq, Repr

/-- A persistent store (R400): its two banks (none: invalid), the bank that is held, and the write in progress. -/
structure Store where
  b0 : Option Bank
  b1 : Option Bank
  held : Option Bool
  writing : Option Bank
deriving DecidableEq, Repr

/-- A record of the event recorder (R407), whether it has been spilled, and the module IDs that a split outcome has written to
it (R164, R165), for which the record's layout has no place (assumption 122). -/
structure RecEnt where
  seq : Nat
  upd : Nat
  src : Nat
  ls : Bool
  owner : Nat
  denied : Nat
  snaps : List Nat
  rep : Nat
  firings : Nat
  spilled : Bool
  mods : List Nat
deriving DecidableEq, Repr

/-- An announced placement (R368, R371): placement epoch, hand-over tick, alias, source and destination module, and the
source and destination slot as engine + 16 * slot. -/
structure Place where
  epoch : Nat
  tick : Nat
  als : Nat
  srcMod : Nat
  dstMod : Nat
  srcSlot : Nat
  dstSlot : Nat
deriving DecidableEq, Repr

/-- An output ownership entry (R372): the publisher's module and slot, the epoch at which the entry was assigned, and the
alias that assigned it (none for an entry that a first publication made). -/
structure Owner where
  modId : Nat
  slot : Nat
  epoch : Nat
  als : Option Nat
deriving DecidableEq, Repr

/-- A checkpoint that a survival destination holds (R373): its source module, its tick, and the lines. -/
structure Ckpt where
  src : Nat
  tick : Nat
  lines : List (Nat × List Nat)
deriving DecidableEq, Repr

/-- What the vault holds of a handshake until READY is sent or it ends (R390): the module's ephemeral secret, Z, prk and fk; and
for the proofs h and the module's signature or MAC. -/
structure Handshake where
  eph : List Nat
  z : List Nat
  prk : List Nat
  fk : List Nat
  h : List Nat
  auth : List Nat
deriving DecidableEq, Repr

/-- Who waits for the answer to a REQUEST or STAGE frame (R89, R160, R393): a scan's direct read with the scan's release,
an operation of a session's DATA frame (number of the answer, position), or nobody. -/
inductive Asker where
  | scan (e j rel : Nat)
  | ses (ans pos : Nat)
  | nobody
deriving DecidableEq, Repr

/-- A REQUEST or STAGE frame that has no answer yet (R303): its TAG, its target module, who waits, and for a STAGE the batch
that stages. -/
structure Ask where
  tag : Nat
  dst : Nat
  who : Asker
  batch : Option Nat
deriving DecidableEq, Repr

/-- The answer to a session's DATA frame while it is gathered (R393): the session, the frame's number, and each operation's
TAG with its ERR_CODE and value once they are known. -/
structure SesAns where
  ses : Nat
  num : Nat
  items : List (Nat × Option (Nat × Nat))
deriving DecidableEq, Repr

/-- A cross-module batch of this coordinator whose outcomes are gathered (R164, R165): its ID, its commit tick, what this
module did once that is known, the participants, and the outcomes reported. -/
structure XOut where
  id : Nat
  tick : Nat
  own : Option Bool
  parts : List Nat
  outs : List (Nat × Bool)
deriving DecidableEq, Repr

/-- The module as plain data: every register field and internal value in `cells`, the structured state beside them. -/
structure Block where
  cells : Cells
  tick : Nat
  sealed : Bool
  bench : Memory
  shared : Memory
  dram : Memory
  points : AMap Nat
  remoteIn : List RVal
  batches : AMap Batch
  fixed : List FBatch
  engQ : AMap (List QEnt)
  loopQ : List QEnt
  scans : AMap Scan
  maps : AMap ImgMap
  progs : AMap Prog
  progStore : AMap Prog
  relLog : List RelRec
  relPend : AMap RelRec
  wcache : List CEnt
  ucache : AMap (List CEnt)
  overlay : List OvEnt
  deliv : List Deliv
  kret : Option Snap
  ftouch : List FTouch
  loopWait : List QEnt
  loopHist : AMap (List OutChg)
  capFifo : AMap (List CapEnt)
  audQ : List AudChg
  audRx : List (Nat × Nat)
  msgs : AMap MsgInfo
  isl : Island
  metKept : Option MFrame
  metPage : Option MFrame
  metLog : AMap MetRec
  metTamp : List TampRec
  metPars : AMap Nat
  txQ : List TxFrame
  sent : List TxFrame
  wire : List Wire
  seen : List RxSeen
  rxBuf : List RxHeld
  domPend : AMap (Nat × Nat)
  alarms : List (Nat × Nat × Nat × Nat)
  segAns : AMap SegAns
  keyMat : AMap (List Nat)
  keyData : AMap (List Nat)
  keyOut : AMap (List Nat)
  keyOp : Option KeyOp
  handshakes : AMap Handshake
  sesKeys : AMap (List Nat)
  sesFails : List SesMark
  lockouts : List SesMark
  stores : AMap Store
  kretNew : Option Snap
  recs : AMap RecEnt
  spill : AMap RecEnt
  updImg : AMap (List Nat)
  places : List Place
  owners : AMap Owner
  xfer : AMap (List (Nat × List Nat))
  ckpt : AMap Ckpt
  recQ : List (Nat × Nat)
  smp : List (Nat × Nat × Nat × Nat)
  asks : List Ask
  sesAns : List SesAns
  xouts : List XOut
  commitQ : List (Nat × TxFrame)
  splitIds : List Nat
  imgQ : List RVal
  imgWait : List ImgHeld
  hist : List HistItem
  farLast : AMap Nat
  pmap : List MapLeaf
  dramBad : List Nat
deriving DecidableEq, Repr

/-- The state: the commands waiting, first in first out, and the module. -/
structure State where
  pending : List Instr
  m : Block
deriving DecidableEq, Repr

/-- A fault of the model. No command of this block ends in one: what the spec calls a fault or an error is an effect on
the state (`none` is raised by nobody; safe). -/
inductive Fault where
  | none
deriving DecidableEq, Repr

/-- A refusal of the model: a command that has no meaning yet (raised by the dispatch alone; safe). -/
inductive Refusal where
  | notModelled (mnemonic : String)
deriving DecidableEq, Repr

/-- The module right after reset (R5): every field at its reset value, which is what an absent cell reads as. -/
def Block.reset : Block :=
  { cells := [], tick := 0, sealed := false, bench := [], shared := [], dram := [], points := [], remoteIn := [],
    batches := [], fixed := [], engQ := [], loopQ := [], scans := [], maps := [], progs := [], progStore := [],
    relLog := [], relPend := [], wcache := [], ucache := [], overlay := [], deliv := [], kret := none, ftouch := [],
    loopWait := [], loopHist := [], capFifo := [], audQ := [], audRx := [], msgs := [], isl := Island.reset, metKept := none,
    metPage := none, metLog := [], metTamp := [], metPars := [], txQ := [], sent := [], wire := [],
    seen := [], rxBuf := [], domPend := [], alarms := [], segAns := [], keyMat := [], keyData := [], keyOut := [], keyOp := none,
    handshakes := [], sesKeys := [], sesFails := [], lockouts := [], stores := [], kretNew := none, recs := [], spill := [], updImg := [], places := [],
    owners := [], xfer := [], ckpt := [], recQ := [], smp := [], asks := [], sesAns := [], xouts := [], commitQ := [], splitIds := [],
    imgQ := [], imgWait := [], hist := [], farLast := [], pmap := [], dramBad := [] }

/-- The state right after reset: no command waits. -/
def State.reset : State := { pending := [], m := Block.reset }

end Sys2Proof.Machine
end

