-- ==== Sys2Proof/Machine/Ops.lean ====
section
/-!
DEFINITION. The named operations over the state: reading and writing a field, counters, firing an event source
(R51, R54) and recording an error (R47, R48).
-/
namespace Sys2Proof.Machine

/-- The bits [hi:lo] of a number. -/
def bits (v hi lo : Nat) : Nat := (v / 2 ^ lo) % 2 ^ (hi + 1 - lo)

/-- One bit of a number. -/
def bitN (v k : Nat) : Nat := (v / 2 ^ k) % 2

/-- A number with bit `k` set. -/
def setBit (v k : Nat) : Nat := if v.testBit k then v else v + 2 ^ k

/-- A number with bit `k` clear. -/
def clrBit (v k : Nat) : Nat := if v.testBit k then v - 2 ^ k else v

/-- A number with bit `k` set or clear. -/
def putBit (v k : Nat) (b : Bool) : Nat := if b then setBit v k else clrBit v k

/-- 1 for true, 0 for false. -/
def b2n (b : Bool) : Nat := if b then 1 else 0

/-- A number of `w` bits read as a signed number in two's complement. -/
def sgn (w v : Nat) : Int := if v % 2 ^ w < 2 ^ (w - 1) then (v % 2 ^ w : Nat) else ((v % 2 ^ w : Nat) : Int) - 2 ^ w

/-- A signed number as `w` bits in two's complement. -/
def uns (w : Nat) (v : Int) : Nat := (v % (2 ^ w : Nat)).toNat

namespace Block

/-- The value of field `f` on page `i` of its kind, at selected index `k`. -/
def rd (s : Block) (f : Fld) (i k : Nat) : Nat := (s.cells.find ⟨f.code, i, k⟩).getD f.rst

/-- Give field `f` on page `i`, at index `k`, the value `v`, cut to the field's width. -/
def wr (s : Block) (f : Fld) (i k v : Nat) : Block :=
  if v % 2 ^ f.w = f.rst then { s with cells := s.cells.del ⟨f.code, i, k⟩ }
  else { s with cells := s.cells.put ⟨f.code, i, k⟩ (v % 2 ^ f.w) }

/-- The value of a field of which there is one. -/
def g (s : Block) (f : Fld) : Nat := s.rd f 0 0

/-- Give a field of which there is one the value `v`. -/
def p (s : Block) (f : Fld) (v : Nat) : Block := s.wr f 0 0 v

/-- Whether a one-bit field is set. -/
def on (s : Block) (f : Fld) (i k : Nat) : Bool := s.rd f i k != 0

/-- Add `n` to a counter that saturates at its maximum. -/
def sat (s : Block) (f : Fld) (i k n : Nat) : Block := s.wr f i k (min (s.rd f i k + n) (2 ^ f.w - 1))

/-- Add `n` to a counter that wraps. -/
def wrap (s : Block) (f : Fld) (i k n : Nat) : Block := s.wr f i k (s.rd f i k + n)

/-- Set bit `b` of a field. -/
def orBit (s : Block) (f : Fld) (i k b : Nat) : Block := s.wr f i k (setBit (s.rd f i k) b)

/-- Whether firings of source `n` reach EV_PEND and the router (R51, R52). -/
def srcEnabled (s : Block) (n : Nat) : Bool :=
  fixedSrc n || (s.rd HDR.EV_ENABLE.EV_ENABLE (srcPage n).1 0).testBit (srcPage n).2

/-- What one firing of source `n` does to the event registers of its page (R51). -/
def fireBits (s : Block) (n : Nat) : Block :=
  let s1 := s.orBit HDR.EV_RAW.EV_RAW (srcPage n).1 0 (srcPage n).2
  if s.srcEnabled n then s1.orBit HDR.EV_PEND.EV_PEND (srcPage n).1 0 (srcPage n).2 else s1

/-- Count `c` firings of an enabled source in its merge counter (R51). -/
def fireCount (s : Block) (n c : Nat) : Block :=
  if s.srcEnabled n then s.wr EVR.SRC_COUNT.COUNT 0 n (min (s.rd EVR.SRC_COUNT.COUNT 0 n + c) 255) else s

/-- Whether one more firing of an enabled source `n` finds its merge counter at 255 (R54). -/
def mergeFull (s : Block) (n : Nat) : Bool := s.srcEnabled n && s.rd EVR.SRC_COUNT.COUNT 0 n == 255

/-- A merge counter that saturates sets MERGE_OVF and writes its source to EVR_OVF_SRC (R54). -/
def mergeOvf (s : Block) (n : Nat) : Block :=
  (s.wr EVR.EVR_STAT.MERGE_OVF 0 0 1).wr EVR.EVR_OVF_SRC.OVF_SRC 0 0 n

/-- Source 12 fires for a merge overflow; at 255 it overflows itself and fires nothing further (R54). -/
def fireOvf (s : Block) : Block :=
  if s.mergeFull EV.EVR.MERGE_OVF then (s.fireBits EV.EVR.MERGE_OVF).mergeOvf EV.EVR.MERGE_OVF
  else (s.fireBits EV.EVR.MERGE_OVF).fireCount EV.EVR.MERGE_OVF 1

/-- Source `n` fires: EV_RAW, and while enabled EV_PEND and the merge counter (R51, R54). -/
def fire (s : Block) (n : Nat) : Block :=
  if s.mergeFull n then
    (if n = EV.EVR.MERGE_OVF then (s.fireBits n).mergeOvf n else ((s.fireBits n).mergeOvf n).fireOvf)
  else (s.fireBits n).fireCount n 1

/-- Source `n` fires when the condition holds. -/
def fireIf (s : Block) (c : Bool) (n : Nat) : Block := if c then s.fire n else s

/-- Each source of a list fires, in order. -/
def fireAll (s : Block) : List Nat → Block
  | [] => s
  | n :: t => (s.fire n).fireAll t

/-- A K-retention snapshot is due at the first boundary after this moment (R133, R141, R344). -/
def snapAsk (s : Block) : Block := s.p HID.KRETDUE (s.tick + 1)

/-- Record an error on a page (R47, R48): the code, the kind and tin of the requester, and ERR_ADDR. -/
def err (s : Block) (page code req tin off : Nat) (batch : Option Nat) : Block :=
  let s1 := s.wr HDR.ERR_CODE.CODE page 0 code
  let s2 := s1.wr HDR.ERR_CODE.REQ page 0 req
  let s3 := s2.wr HDR.ERR_CODE.TIN page 0 tin
  let s4 := s3.sat HDR.ERR_CODE.COUNT page 0 1
  let s5 := s4.wr HDR.ERR_ADDR.OFFSET page 0 off
  let s6 := s5.wr HDR.ERR_ADDR.BATCH page 0 (batch.getD 0)
  s6.wr HDR.ERR_ADDR.BATCH_VALID page 0 (b2n batch.isSome)

end Block
end Sys2Proof.Machine
end

