-- ==== Sys2Proof/Machine/Perf.lean ====
section
/-!
DEFINITION. The performance counters (R448 to R451): counting an event, and the commit of PERF_CTRL.
-/
namespace Sys2Proof.Machine
namespace Block

/-- The value of counter `i`, 48 bits. -/
def perfVal (s : Block) (i : Nat) : Nat := s.rd PERF.PERF_CNT_L.CNT_L 0 i + 2 ^ 32 * s.rd PERF.PERF_CNT_H.CNT_H 0 i

/-- Give counter `i` a value. -/
def perfPut (s : Block) (i v : Nat) : Block :=
  (s.wr PERF.PERF_CNT_L.CNT_L 0 i (v % 2 ^ 32)).wr PERF.PERF_CNT_H.CNT_H 0 i (v / 2 ^ 32 % 2 ^ 16)

/-- A wrap of counter `i`: its OVF bit sets and OVERFLOW fires (R450). -/
def perfOvf (s : Block) (i : Nat) : Block :=
  (if i < 32 then s.orBit PERF.PERF_OVF_L.OVF_L 0 0 i else s.orBit PERF.PERF_OVF_H.OVF_H 0 0 (i - 32)).fire
    EV.PERF.OVERFLOW

/-- Whether counter `i` counts the wraps of its even neighbour (R450). -/
def perfChained (s : Block) (i : Nat) : Bool := i % 2 == 1 && s.on PERF.PERF_CFG.CHAIN 0 i

/-- Add `n` to counter `i` by itself; the second result is the number of wraps. -/
def perfBump (s : Block) (i n : Nat) : Block × Nat :=
  (s.perfPut i ((s.perfVal i + n) % 2 ^ 48), (s.perfVal i + n) / 2 ^ 48)

/-- Add `n` to counter `i`; a wrap carries into a chained odd neighbour, and is otherwise flagged (R450). -/
def perfAdd (s : Block) (i n : Nat) : Block :=
  let r := s.perfBump i n
  if r.2 = 0 then r.1
  else if i % 2 = 0 && r.1.perfChained (i + 1) && r.1.on PERF.PERF_CFG.EN 0 (i + 1) then
    let q := r.1.perfBump (i + 1) r.2
    if q.2 = 0 then q.1 else q.1.perfOvf (i + 1)
  else r.1.perfOvf i

/-- Whether the counters count at all (R448, R449): ENABLE, RUN, and no stop at ladder stage 4. -/
def perfRunning (s : Block) : Bool :=
  s.on HDR.PAGE_CTRL.ENABLE 0x0E0 0 && s.on PERF.PERF_CTRL.RUN 0 0 && s.g PWR.PWR_STAT.LADDER != 4

/-- Whether counter `i` counts event `ev` of unit `u` (an engine, or none) (R448, R451). -/
def perfTakes (s : Block) (ev : Nat) (u : Option Nat) (i : Nat) : Bool :=
  s.on PERF.PERF_CFG.EN 0 i && !s.perfChained i && s.rd PERF.PERF_CFG.EVENT 0 i == ev &&
    (match u with
     | none => true
     | some e => s.rd PERF.PERF_CFG.UNIT 0 i == e || s.rd PERF.PERF_CFG.UNIT 0 i == 31)

/-- Count `n` occurrences in each of the listed counters that takes the event. -/
def perfFold (s : Block) (ev : Nat) (u : Option Nat) (n : Nat) : List Nat → Block
  | [] => s
  | i :: t => (if s.perfTakes ev u i then s.perfAdd i n else s).perfFold ev u n t

/-- `n` occurrences of event `ev` in unit `u` (R448, R451). -/
def perf (s : Block) (ev : Nat) (u : Option Nat) (n : Nat) : Block :=
  if s.perfRunning && n != 0 then s.perfFold ev u n (List.range 64) else s

/-- PERF_CTRL.SNAP takes effect: every counter is copied into its snapshot, and SNAP_DONE fires (R448, R457). -/
def perfSnapFold (s : Block) : List Nat → Block
  | [] => s
  | i :: t =>
    ((s.wr PERF.PERF_SNAP_L.SNAP_L 0 i (s.rd PERF.PERF_CNT_L.CNT_L 0 i)).wr PERF.PERF_SNAP_H.SNAP_H 0 i
      (s.rd PERF.PERF_CNT_H.CNT_H 0 i)).perfSnapFold t

/-- PERF_CTRL.CLEAR takes effect: every counter is 0 (R448). -/
def perfClearFold (s : Block) : List Nat → Block
  | [] => s
  | i :: t => (s.perfPut i 0).perfClearFold t

/-- The commit of a write of PERF_CTRL: SNAP, then CLEAR, then RUN (R448). -/
def perfCommit (s : Block) (v : Nat) : Block :=
  let s1 := if v.testBit 2 then (s.perfSnapFold (List.range 64)).fire EV.PERF.SNAP_DONE else s
  let s2 := if v.testBit 1 then s1.perfClearFold (List.range 64) else s1
  s2.wr PERF.PERF_CTRL.RUN 0 0 (bitN v 0)

end Block
end Sys2Proof.Machine
end

