-- ==== Sys2Proof/Machine/Hist.lean ====
section
/-!
DEFINITION. The life histograms (R454 to R456): adding to a bin, and the two conditions that a bin makes.
-/
namespace Sys2Proof.Machine
namespace Block

/-- The count of a bin of a histogram. -/
def lifeBin (s : Block) (hist bin : Nat) : Nat := s.rd LIFE.LIFE_VAL.VALUE 0 (32 * hist + bin)

/-- REPLACE and WEAR_HIGH set, and fire once, when their conditions first hold (R456). -/
def lifeCheck (s : Block) : Block :=
  let rep := s.lifeBin 8 2 != 0 || s.lifeBin 8 3 != 0 || decide (s.lifeBin 8 4 ≥ 60)
  let s1 := if rep && !s.on LIFE.LIFE_STAT.REPLACE 0 0 then (s.p LIFE.LIFE_STAT.REPLACE 1).fire EV.LIFE.REPLACE_DUE else s
  if decide (s1.lifeBin 11 0 ≥ 800) && !s1.on LIFE.LIFE_STAT.WEAR_HIGH 0 0 then
    (s1.p LIFE.LIFE_STAT.WEAR_HIGH 1).fire EV.LIFE.WEAR_HIGH else s1

/-- Add `n` to a bin, saturating at 0xFFFF_FFFF (R454). -/
def lifeAdd (s : Block) (hist bin n : Nat) : Block := (s.sat LIFE.LIFE_VAL.VALUE 0 (32 * hist + bin) n).lifeCheck

/-- Give a bin a value, for the bins that show a present quantity (HIST 11 bins 0 and 1). -/
def lifeSet (s : Block) (hist bin v : Nat) : Block := (s.wr LIFE.LIFE_VAL.VALUE 0 (32 * hist + bin) v).lifeCheck

/-- The temperature bin of a board temperature in degrees (R454). -/
def tempBin (t : Int) : Nat := if t < -20 then 0 else if t ≥ 130 then 31 else ((t + 25) / 5).toNat

/-- The bin of a supply dip by the lowest voltage reached, in mV, and its duration, in µs (R454). -/
def dipBin (low us : Nat) : Nat :=
  4 * (if low ≥ 18000 then 0 else if low ≥ 15000 then 1 else if low ≥ 10000 then 2 else 3) +
    (if us < 1000 then 0 else if us < 10000 then 1 else if us < 100000 then 2 else 3)

/-- Whether a histogram has a bin (R454). -/
def histBins (hist : Nat) : Nat :=
  if hist = 0 then 32 else if hist = 1 then 16 else if hist ≤ 7 then 16 else if hist = 8 then 6 else if hist = 9 then 3
  else if hist = 10 then 4 else if hist = 11 then 3 else 0

end Block
end Sys2Proof.Machine
end

