-- ==== Sys2Proof/Machine/Reqs.lean ====
section
/-!
DEFINITION. Requesters: their kind and tin (R49), their rights (R186), and the copies of selectors and tags that are
held once per requester (R39).
-/
namespace Sys2Proof.Machine

/-- The rights of a leaf and of a requester (R174, R186), in the order of their bits. -/
inductive Right where
  | read | write | force | configure
deriving DecidableEq, Repr

/-- The bit of a right in a rights field (R182). -/
def Right.bit : Right → Nat
  | .read => 0 | .write => 1 | .force => 2 | .configure => 3

/-- ERR_CODE.REQ of a requester (R49). The pair and peel blocks stage as the module's own firmware. -/
def reqKind : Req → Nat
  | .fw _ => 1
  | .task _ _ => 2
  | .ses _ => 3
  | .peer _ _ _ _ => 4
  | .loop _ => 6
  | .pairBlk => 1
  | .peelBlk => 1

/-- The number of the copy a requester holds of BATCH_TAG and of each selector (R39): supervisor processors 0 to 3,
session n is 4 + n. Engines, loops and ring peers hold none (R43, R462). -/
def reqHeld : Req → Option Nat
  | .fw c => some c.val
  | .ses n => some (4 + n.val)
  | _ => none

namespace Block

/-- The tin of a requester (R49, R186). -/
def tinOf (s : Block) : Req → Nat
  | .fw _ => 0
  | .ses n => s.rd SES.SES_STATE.TIN 0 n.val
  | .task e j => s.rd TSK.TSK_CFG.TIN e.val j.val
  | .peer _ t _ _ => t % 256
  | .loop n => s.rd LOOP.LOOP_CFG.TIN (n.val / 16) (n.val % 16)
  | .pairBlk => 0
  | .peelBlk => 0

/-- The tin that ERR_CODE.TIN holds for a requester (R49). -/
def errTin (s : Block) (r : Req) : Nat := s.tinOf r

/-- Whether a requester holds a right itself (R186). -/
def holds (s : Block) (r : Req) (x : Right) : Bool :=
  match r with
  | .fw _ => true
  | .ses n => (s.rd SES.SES_STATE.RIGHTS 0 n.val).testBit x.bit
  | .task _ _ => x == .read || x == .write
  | .peer _ _ rights _ => rights.testBit x.bit
  | .loop _ => x == .read || x == .write
  | .pairBlk => true
  | .peelBlk => true

/-- Whether a requester acts for class LS: an LS task, an LS loop, a session bound to tin 1, or an LS request (R29). -/
def reqLS (s : Block) : Req → Bool
  | .task e j => s.on TSK.TSK_CFG.LS e.val j.val
  | .loop n => s.on LOOP.LOOP_CFG.LS (n.val / 16) (n.val % 16)
  | .ses n => s.rd SES.SES_STATE.TIN 0 n.val == 1
  | .peer _ _ _ ls => ls
  | _ => false

/-- A session bound to tin 0 that holds the configure right. -/
def tin0cfg (s : Block) : Req → Bool
  | .ses n => s.rd SES.SES_STATE.TIN 0 n.val == 0 && s.holds (.ses n) .configure
  | _ => false

/-- A session bound to tin 0 or tin 1 that holds the configure right. -/
def tin01cfg (s : Block) : Req → Bool
  | .ses n => (s.rd SES.SES_STATE.TIN 0 n.val == 0 || s.rd SES.SES_STATE.TIN 0 n.val == 1) && s.holds (.ses n) .configure
  | _ => false

/-- A requester's copy of a field held once per requester; 0 where the requester holds no copy (R43, R462). -/
def own (s : Block) (f : Fld) (i : Nat) (r : Req) : Nat :=
  match reqHeld r with
  | some q => s.rd f i q
  | none => 0

/-- Give a requester's copy a value; a requester without a copy writes nothing (R43). -/
def setOwn (s : Block) (f : Fld) (i : Nat) (r : Req) (v : Nat) : Block :=
  match reqHeld r with
  | some q => s.wr f i q v
  | none => s

/-- Record an error that a requester meets on a page (R47 to R49). -/
def errR (s : Block) (page code : Nat) (r : Req) (off : Nat) (batch : Option Nat) : Block :=
  s.err page code (reqKind r) (s.errTin r) off batch

/-- Record a refusal, unless the code says there is none. -/
def refuse (s : Block) (page code : Nat) (r : Req) (off : Nat) : Block :=
  if code = 0 then s else s.errR page code r off none

/-- A free value the model takes (AN OPEN VALUE OF THE SPEC): its number in the sequence, and the state that has
taken it. -/
def takeFree (s : Block) : Block × Nat := (s.wrap HID.SERIALNO 0 0 1, s.rd HID.SERIALNO 0 0)

end Block
end Sys2Proof.Machine
end

