-- ==== Sys2Proof/Machine/Leaf.lean ====
section
/-!
DEFINITION. Leaves of the tower address space (R174, R175), the resolution of their holders (R179), and what the tower point
map says of this module's own pages (R193).
-/
namespace Sys2Proof.Machine

/-- The bytes a leaf covers at a level (R174). -/
def leafSpan (level : Nat) : Nat := if level = 0 then 0x1000 else 0x200000

/-- The entry index of an address at a level (R174). -/
def walkIndex (addr level : Nat) : Nat := addr / 2 ^ (12 + 9 * level) % 512

/-- A leaf's fields (R174). -/
def leafLS (e : Nat) : Bool := e.testBit 2
def leafRight (e : Nat) (x : Right) : Bool := e.testBit (4 + x.bit)
def leafOwner (e : Nat) : Nat := bits e 15 8
def leafHolder (e : Nat) : Nat := bits e 27 16
def leafKind (e : Nat) : Nat := bits e 29 28
def leafOffset (e : Nat) : Nat := bits e 63 32

/-- Whether a unit ID is reserved (R26). -/
def unitReserved (u : Nat) : Bool := u == 0x000 || u == 0x0FF || u == 0xFFF

/-- Whether a leaf at a level is invalid (R175). -/
def leafInvalid (level e : Nat) : Bool :=
  decide (level ≥ 2) || leafKind e == 3 || unitReserved (leafHolder e) || e.testBit 3 || bits e 31 30 != 0 ||
    leafOffset e % leafSpan level != 0 || (leafKind e == 1 && decide (leafOffset e + leafSpan level > 0x1000000))

namespace Block

/-- The domain entry of a unit: its KIND, MEMBER and EPOCH; an entry that the configuration does not name is MODULE
for module IDs (PAIR for the module's own when PAIRED), NONE for the rest, with the member and the epoch that its pair has
noted since (R179, R358). -/
def domEntry (s : Block) (u : Nat) : Nat × Nat × Nat :=
  if s.on HID.DOMNAMED 0 u then
    (s.rd XLT.XLT_DOM_DATA.KIND 0 u, s.rd XLT.XLT_DOM_DATA.MEMBER 0 u, s.rd XLT.XLT_DOM_EPOCH.EPOCH 0 u)
  else
    (if 1 ≤ u ∧ u ≤ 0xFE then (if u = s.g MOD.MOD_ID.MODULE_ID ∧ s.g MOD.MOD_ID.PAIRED = 1 then 2 else 1) else 0,
      s.rd XLT.XLT_DOM_DATA.MEMBER 0 u, s.rd XLT.XLT_DOM_EPOCH.EPOCH 0 u)

/-- How a holder resolves (R179): the unit, its epoch and the hops; or the fault's code and hops. -/
inductive Resolved where
  | unit (u epoch hops : Nat)
  | fault (code hops : Nat)
deriving DecidableEq, Repr

/-- Domain resolution (R179), following at most 8 hops. -/
def resolve (s : Block) : Nat → Nat → Nat → Resolved
  | 0, _, hops => .fault 4 hops
  | fuel + 1, u, hops =>
    let d := s.domEntry u
    if d.1 = 0 then .fault 1 hops
    else if d.1 = 1 then .unit u d.2.2 hops
    else if hops + 1 > 8 then .fault 4 (hops + 1)
    else if d.1 = 2 then .unit u d.2.2 (hops + 1)
    else s.resolve fuel d.2.1 (hops + 1)

/-- The leaf of the tower point map that maps a page of this module's point store, register window or history: `k` is the
KIND, `a` the local address (R193). -/
def pageLeaf (s : Block) (k a : Nat) : Option MapLeaf :=
  s.pmap.find? fun m =>
    m.leaf.testBit 0 && m.leaf.testBit 1 && !leafInvalid m.level m.leaf && leafKind m.leaf == k &&
      decide (leafOffset m.leaf ≤ a) && decide (a < leafOffset m.leaf + leafSpan m.level) &&
      (match s.resolve 10 (leafHolder m.leaf) 0 with
       | .unit u _ _ => u == s.g MOD.MOD_ID.MODULE_ID
       | .fault _ _ => false)

/-- The owner tin and the LS bit that a page carries (R193); a page that the map does not hold carries tin 0 and LS 0
(assumption 129). -/
def pageOwner (s : Block) (k a : Nat) : Nat := ((s.pageLeaf k a).map fun m => leafOwner m.leaf).getD 0
def pageLS (s : Block) (k a : Nat) : Bool := (s.pageLeaf k a).any fun m => leafLS m.leaf

end Block
end Sys2Proof.Machine
end

