-- ==== Sys2Proof/Machine/Batch.lean ====
section
/-!
DEFINITION. The batch controller: IDs, entries and tags, opening and ending a batch, staging (R40 to R42, R146 to
R156), and the queues of the fixed batches (R147, R157).
-/
namespace Sys2Proof.Machine

/-- Whether an offset holds the _L half of a 64-bit quantity, its _H half at the next offset (R37). -/
def isLow (off : Nat) : Bool :=
  let p := off / 4096
  let o := off % 4096
  if p = 0x000 then o == 0x04C || o == 0x068
  else if p = 0x002 then o == 0x048 || o == 0x058
  else if 0x020 ≤ p ∧ p < 0x030 then o == 0x060
  else if 0x030 ≤ p ∧ p < 0x040 then o == 0x04C || o == 0x054 || o == 0x05C || o == 0x0AC
  else if p = 0x040 then o == 0x064 || o == 0x06C || o == 0x084
  else if p = 0x05C then o == 0x058
  else if p = 0x0A0 then o == 0x064
  else if p = 0x0A1 then o == 0x040 || o == 0x048 || o == 0x058 || o == 0x060
  else if p = 0x0B1 then o == 0x054
  else if p = 0x0E0 then o == 0x04C || o == 0x054 || o == 0x05C
  else false

/-- Whether an offset holds an _H half (R37). -/
def isHigh (off : Nat) : Bool := off % 4096 ≥ 4 && isLow (off - 4)

/-- Whether two targets share a register at an index, a word or a bit (R44, R154): a word meets each of its bits. A task
has no selector, so the register of a bit store is the one at index 0. -/
def Target.meets : Target → Target → Bool
  | .reg o k, .reg p l => o == p && k == l
  | .reg o k, .regBit p _ => o == p && k == 0
  | .regBit o _, .reg p l => o == p && l == 0
  | .regBit o b, .regBit p c => o == p && b == c
  | .point a, .point x => a == x
  | .point a, .pointBit x _ => a == x
  | .pointBit a _, .point x => a == x
  | .pointBit a b, .pointBit x c => a == x && b == c
  | .remote u a, .remote w x => u == w && a == x
  | _, _ => false

/-- Whether a batch is a part of a cross-module batch that this module has confirmed: PREPARED, or the sealed part of the
coordinator, which counts as a participant (R161, R163; assumption 111). -/
def Batch.confirmed (b : Batch) : Bool := b.st == .prepared || (b.st == .sealed && b.xmod && !b.parts.isEmpty)

namespace Block

/-- The staged entries that a batch counts: the two halves of an R37 pair are one write, and one entry (R42, R146). -/
def countEntries (l : List Entry) : Nat :=
  (l.filter fun (e : Entry) => match e.tgt with | .reg o _ => !isHigh o | _ => true).length

/-- Staged entries in use (R146): those of all batches, an image entry counting as one. -/
def usedEntries (s : Block) : Nat :=
  (s.batches.map fun b => countEntries b.2.entries).sum + (s.fixed.map fun b => b.entries.length + b2n b.image).sum

/-- BAT_POOL.FREE_ENTRIES. -/
def freeEntries (s : Block) : Nat := 4096 - s.usedEntries

/-- BAT_POOL.FREE_IDS. -/
def freeIds (s : Block) : Nat := 64 - s.batches.length

/-- The lowest free batch ID, if any (R146). -/
def lowestId (s : Block) : Option Nat := (List.range 64).find? fun n => (s.batches.find n).isNone

/-- Staged entries that the fixed batches hold. -/
def fixedHeld (s : Block) : Nat := (s.fixed.map fun b => b.entries.length + b2n b.image).sum

/-- Whether an opened batch may take one more entry (R146, R147): RESERVE entries are the fixed batches' alone, and
what they hold comes from those first (assumption 39). -/
def entryFree (s : Block) : Bool := decide (s.freeEntries > s.g BAT.BAT_CFG.RESERVE - s.fixedHeld)

/-- Whether a fixed batch may take one more entry. -/
def fixedFree (s : Block) : Bool := decide (s.freeEntries > 0)

/-- POOL_LOW fires when FREE_ENTRIES passes from RESERVE + 256 or more to below it (R171); `old` is the state before
entries were taken. -/
def poolEvent (s : Block) (old : Block) : Block :=
  s.fireIf (decide (old.freeEntries ≥ s.g BAT.BAT_CFG.RESERVE + 256) &&
    decide (s.freeEntries < s.g BAT.BAT_CFG.RESERVE + 256)) EV.BAT.POOL_LOW

/-- Clear VALID and set ENDED in every listed tag that names batch `id` (R41). -/
def endTags (s : Block) (id : Nat) : List Nat → Block
  | [] => s
  | q :: t =>
    (if s.on HDR.BATCH_TAG.VALID 0 q && s.rd HDR.BATCH_TAG.ID 0 q == id then
      (s.wr HDR.BATCH_TAG.VALID 0 q 0).wr HDR.BATCH_TAG.ENDED 0 q 1 else s).endTags id t

/-- The outcome of an ended batch in its opener's BAT_RESULT (R148). -/
def putResult (s : Block) (r : Req) (id : Nat) (committed : Bool) (code peer : Nat) : Block :=
  match reqHeld r with
  | none => s
  | some q =>
    (((s.wr BAT.BAT_RESULT.ID 0 q id).wr BAT.BAT_RESULT.COMMITTED 0 q (b2n committed)).wr BAT.BAT_RESULT.CODE 0 q
      code).wr BAT.BAT_RESULT.PEER 0 q peer

/-- What the end of a cross-module batch leaves to tell (R164): a participant's OUTCOME leaves in the commit slot of the
commit tick, the coordinator notes its own outcome. -/
def noteOutcome (s : Block) (id : Nat) (b : Batch) (committed : Bool) : Block :=
  if b.remote then
    (if b.ctick = 0 then s
     else
       { s with commitQ := s.commitQ ++
           [(b.ctick, ⟨.commit (if committed then 4 else 5) (if committed then 0 else b.code) b.coord.1 b.coord.2 (b.ctick % 2 ^ 32) [],
             b.coord.1, 0, b.ls, 1⟩)] })
  else if b.xmod then
    { s with xouts := s.xouts.map fun x => if x.id = id ∧ x.own = none then { x with own := some committed } else x }
  else s

/-- A batch ends: its ID is FREE, its entries return, the tags that named it end, and the opener's BAT_RESULT holds
the outcome (R41, R148). -/
def endBatch (s : Block) (id : Nat) (b : Batch) (committed : Bool) (code peer : Nat) : Block :=
  let s1 := { s with batches := s.batches.del id }
  ((s1.endTags id (List.range 68)).putResult b.opener id committed code peer).noteOutcome id b committed

/-- A batch aborts with a code (R151): nothing of it changes logical state. -/
def abortBatch (s : Block) (id code peer : Nat) : Block :=
  match s.batches.find id with
  | none => s
  | some b =>
    let s1 := (s.endBatch id b false code peer).sat BAT.BAT_COUNT0.ABORTS 0 0 1
    let s2 := s1.perf 0x062 none 1
    if b.xmod || b.remote then (s2.sat BAT.BAT_COUNT1.XMOD_ABORTS 0 0 1).fire EV.BAT.XMOD_ABORT else s2

/-- A batch becomes DOOMED (R152, R153). -/
def doomBatch (s : Block) (id code peer : Nat) : Block :=
  match s.batches.find id with
  | none => s
  | some b =>
    if b.st = .opened ∨ b.st = .requested then
      { s with batches := s.batches.put id { b with st := .doomed, code := code, peer := peer } }.fire EV.BAT.DOOMED
    else s

/-- A new batch under an ID. -/
def newBatch (s : Block) (r : Req) (xmod single remote : Bool) : Batch :=
  { st := .opened, single := single, xmod := xmod, ls := s.reqLS r, remote := remote, tin := s.tinOf r, opener := r,
    openedAt := s.tick, ctick := 0, code := 0, peer := 0, entries := [], coord := (0, 0), parts := [], okFrom := [] }

/-- A batch takes the lowest free ID (R146); IDS_OUT fires when that was the last (R171). -/
def openBatch (s : Block) (b : Batch) : Option (Nat × Block) :=
  match s.lowestId with
  | none => none
  | some id =>
    let s1 := { s with batches := s.batches.put id b }
    some (id, s1.fireIf (s1.freeIds == 0) EV.BAT.IDS_OUT)

/-- Write a requester's BATCH_TAG: ID and VALID, clearing ENDED (R41). -/
def setTag (s : Block) (r : Req) (id valid : Nat) : Block :=
  ((s.setOwn HDR.BATCH_TAG.ID 0 r id).setOwn HDR.BATCH_TAG.VALID 0 r valid).setOwn HDR.BATCH_TAG.ENDED 0 r 0

/-- The first tick whose seal point has not passed (R156). -/
def nextCommitTick (s : Block) : Nat := if s.sealed then s.tick + 2 else s.tick + 1

/-- The class of the output a local point address belongs to (R29): a digital channel's or an analog channel's page;
other points carry the LS bit of their local page (R193). -/
def pointLS (s : Block) (a : Nat) : Bool :=
  if 0x100000 ≤ a ∧ a < 0x160000 then s.on DIO.DIO_CH_CFG.LS ((a - 0x100000) / 0x10000) ((a - 0x100000) / 0x1000 % 16)
  else if 0x160000 ≤ a ∧ a < 0x190000 then
    s.on AIO.AIO_CH_CFG.LS ((a - 0x160000) / 0x10000) ((a - 0x160000) / 0x1000 % 16)
  else s.pageLS 0 a

/-- Whether a target is class LS: a class LS output (R29), or a request slot REQ0 to REQ2 of a zone (R258). -/
def targetLS (s : Block) : Target → Bool
  | .point a => s.pointLS a
  | .pointBit a _ => s.pointLS a
  | .reg off _ => decide (0x061000 ≤ off) && decide (off < 0x065000) && decide (0x048 ≤ off % 4096) && decide (off % 4096 < 0x054)
  | _ => false

/-- Whether some entry of a list meets a target (R44). -/
def namesTarget (t : Target) (l : List Entry) : Bool := l.any fun e => Target.meets e.tgt t

/-- Whether a batch other than `id` that has not ended holds a target, a doomed one too (R152). -/
def heldByOther (s : Block) (id : Nat) (t : Target) : Bool := s.batches.any fun b => b.1 != id && namesTarget t b.2.entries

/-- Whether a fixed batch holds a target (R153). -/
def heldByFixed (s : Block) (t : Target) : Bool := s.fixed.any fun b => namesTarget t b.entries || b.img.any fun x => Target.meets x t

/-- Give a batch under an ID new contents. -/
def putBatch (s : Block) (id : Nat) (b : Batch) : Block := { s with batches := s.batches.put id b }

/-- The checks that staging an entry makes on the batch (R152, R461 step 7), as the code it fails with; 0 when it may
be added: the batch's state, the class rule of R29, a conflict, the pool. -/
def stageCode (s : Block) (id : Nat) (b : Batch) (t : Target) : Nat :=
  match b.st with
  | .doomed => b.code
  | .sealed => 0x0A
  | .prepared => 0x0A
  | _ =>
    if !b.ls && s.targetLS t then 0x01
    else if s.heldByOther id t || s.heldByFixed t then 0x03
    else if s.entryFree then 0 else 0x04

/-- Stage one entry in batch `id` (R152): add it, or fail with a code, which dooms a batch that is OPEN or
REQUESTED. The second result is the code, 0 for success. -/
def stage (s : Block) (id : Nat) (e : Entry) : Block × Nat :=
  match s.batches.find id with
  | none => (s, 0x08)
  | some b =>
    let c := s.stageCode id b e.tgt
    if c = 0 then
      let s1 := s.putBatch id { b with entries := b.entries ++ [e] }
      (s1.poolEvent s, 0)
    else (s.doomBatch id c 0, c)

/-- The batch that a requester's tag names (R39); a peer's STAGE frame names the batch that holds its part (R160). -/
def tagNow (s : Block) (r : Req) : Option Nat :=
  match r with
  | .peer _ _ _ _ => if s.g HID.PEERTAG = 0 then none else some (s.g HID.PEERTAG - 1)
  | _ => if s.own HDR.BATCH_TAG.VALID 0 r = 1 then some (s.own HDR.BATCH_TAG.ID 0 r) else none

/-- The code with which an untagged write's own batch would be refused (R42, R146, R153). -/
def singleCode (s : Block) (b : Batch) : Nat :=
  if !b.ls && b.entries.any fun (e : Entry) => s.targetLS e.tgt then 0x01
  else if b.entries.any fun (e : Entry) => s.heldByOther 64 e.tgt || s.heldByFixed e.tgt then 0x03
  else if s.freeEntries < s.g BAT.BAT_CFG.RESERVE - s.fixedHeld + countEntries b.entries then 0x04
  else 0

/-- An untagged write is staged in a batch that the module opens for it, when every check of staging passes (R42); both
halves of an R37 pair go into the one batch. -/
def stageSingle (s : Block) (r : Req) (l : List Entry) : Block × Nat :=
  if s.own HDR.BATCH_TAG.ENDED 0 r = 1 then (s, 0x08)
  else
    let b := { s.newBatch r false true false with st := .requested, ctick := s.nextCommitTick, entries := l }
    let c := s.singleCode b
    if c ≠ 0 then (s, c)
    else
      match s.openBatch b with
      | none => (s, 0x04)
      | some (_, s1) => (s1.poolEvent s, 0)

/-- Stage entries one after another in a batch, until one is refused. -/
def stageEach (s : Block) (id : Nat) : List Entry → Block × Nat
  | [] => (s, 0)
  | e :: l =>
    match s.stage id e with
    | (s1, 0) => s1.stageEach id l
    | x => x

/-- Stage RWS writes of a requester (R41, R42): into the batch its tag names; refused while ENDED is 1; untagged,
in a batch of their own. -/
def stageFor (s : Block) (r : Req) (l : List (Target × Nat)) (epoch : Nat) (addr : Option Nat) : Block × Nat :=
  let es := l.map fun (x : Target × Nat) => ({ tgt := x.1, val := x.2, by_ := r, epoch := epoch, addr := addr } : Entry)
  match s.tagNow r with
  | some id => s.stageEach id es
  | none => s.stageSingle r es

/-- A staging that a check before the batch refuses (R152, R460): the batch the requester tagged is doomed with the
code, unless it is SEALED or PREPARED. -/
def stageRefused (s : Block) (r : Req) (code : Nat) : Block :=
  match s.tagNow r with
  | some id => s.doomBatch id code 0
  | none => s

/-- The opened batches that hold a target which a fixed batch now holds too are doomed with 0x03, unless SEALED or
PREPARED (R153). -/
def doomHolders (s : Block) (t : Target) : List (Nat × Batch) → Block
  | [] => s
  | (id, b) :: l => (if namesTarget t b.entries then s.doomBatch id 0x03 0 else s).doomHolders t l

/-- The same for each of several targets. -/
def doomHoldersAll (s : Block) : List Target → Block
  | [] => s
  | t :: l => (s.doomHolders t s.batches).doomHoldersAll l

/-- The batch a command of BAT_CMD acts on: the one the requester's tag names (R150). -/
def tagged (s : Block) (r : Req) : Option (Nat × Batch) :=
  match s.tagNow r with
  | some id => (s.batches.find id).map fun b => (id, b)
  | none => none

/-- A write of BAT_OPEN with OPEN = 1 (R149, R162, R146): the code, 0 when a batch was opened. A task's write is
ignored. -/
def batOpen (s : Block) (r : Req) (xmod : Bool) : Block × Nat :=
  match reqHeld r with
  | none => (s, 0)
  | some _ =>
    if !s.on HDR.PAGE_CTRL.ENABLE 0x002 0 then (s.refuse 0x002 0x0A r 0x002040, 0x0A)
    else if xmod && s.on MOD.MOD_STATUS.GRID_FREE 0 0 then (s.refuse 0x002 0x0E r 0x002040, 0x0E)
    else
      match s.openBatch (s.newBatch r xmod false false) with
      | none => (s.refuse 0x002 0x04 r 0x002040, 0x04)
      | some (id, s1) => (s1.setTag r id 1, 0)

/-- COMMIT_AT tick `k`, or COMMIT_NOW (none) (R150, R156, R162). -/
def batCommit (s : Block) (r : Req) (k : Option Nat) : Block × Nat :=
  match s.tagged r with
  | none => (s.refuse 0x002 0x08 r 0x002044, 0x08)
  | some (id, b) =>
    match b.st with
    | .doomed => (s.abortBatch id b.code b.peer, 0)
    | .opened =>
      let t := k.getD (if b.xmod then s.nextCommitTick + 2 else s.nextCommitTick)
      if b.xmod && s.on MOD.MOD_STATUS.GRID_FREE 0 0 then (s.errR 0x002 0x0E r 0x002044 (some id), 0x0E)
      else if t > s.tick + 240000 then (s.errR 0x002 0x08 r 0x002044 (some id), 0x08)
      else if t < (if b.xmod then s.nextCommitTick + 2 else s.nextCommitTick) then
        (((s.errR 0x002 0x0F r 0x002044 (some id)).abortBatch id 0x0F 0).fire EV.BAT.LATE, 0x0F)
      else (s.putBatch id { b with st := .requested, ctick := t }, 0)
    | _ => (s.errR 0x002 0x0A r 0x002044 (some id), 0x0A)

/-- Abort a batch on command, unless it is SEALED or PREPARED (R150, R151). -/
def batAbortId (s : Block) (r : Req) (id : Nat) (b : Batch) : Block × Nat :=
  match b.st with
  | .sealed => (s.errR 0x002 0x0A r 0x002044 (some id), 0x0A)
  | .prepared => (s.errR 0x002 0x0A r 0x002044 (some id), 0x0A)
  | _ => (s.abortBatch id 0x0A 0, 0)

/-- ABORT (R150). -/
def batAbort (s : Block) (r : Req) : Block × Nat :=
  match s.tagged r with
  | none => (s.refuse 0x002 0x08 r 0x002044, 0x08)
  | some (id, b) => s.batAbortId r id b

/-- ABORT_SEL (R150): it needs a session of tin 0 with the configure right. -/
def batAbortSel (s : Block) (r : Req) : Block × Nat :=
  if !s.tin0cfg r then (s.refuse 0x002 0x01 r 0x002044, 0x01)
  else
    match s.batches.find (s.own BAT.BAT_SEL.ID 0 r) with
    | none => (s.refuse 0x002 0x08 r 0x002044, 0x08)
    | some b => s.batAbortId r (s.own BAT.BAT_SEL.ID 0 r) b

/-- The commit tick a requester named (R156). -/
def ctickOf (s : Block) (r : Req) : Nat := s.own BAT.BAT_CTICK_L.CTICK_L 0 r + 2 ^ 32 * s.own BAT.BAT_CTICK_H.CTICK_H 0 r

/-- A write of BAT_CMD (R150): the operation codes of the table; others are refused with 0x0D. -/
def batCmd (s : Block) (r : Req) (op : Nat) : Block × Nat :=
  if op = 1 then s.batCommit r (some (s.ctickOf r))
  else if op = 2 then s.batCommit r none
  else if op = 3 then s.batAbort r
  else if op = 4 then s.batAbortSel r
  else (s.refuse 0x002 0x0D r 0x002044, 0x0D)

/-- The open limit passes with no commit requested (R151): the batch aborts with 0x0E and TIMEOUT fires. A batch that was
doomed after its commit was requested ends at its seal point. -/
def openLimit (s : Block) (id : Nat) : Block :=
  match s.batches.find id with
  | none => s
  | some b =>
    if b.st = .opened ∨ (b.st = .doomed ∧ b.ctick = 0) then
      if s.tick ≥ b.openedAt + s.g BAT.BAT_CFG.OPEN_LIMIT then (s.abortBatch id 0x0E 0).fire EV.BAT.TIMEOUT else s
    else s

/-- Every batch that a requester opened aborts with a code (R151), for a session that ends. -/
def abortAllOf (s : Block) (r : Req) (code : Nat) : List (Nat × Batch) → Block
  | [] => s
  | (id, b) :: t =>
    (if b.opener = r ∧ b.st ≠ .sealed ∧ b.st ≠ .prepared then s.abortBatch id code 0 else s).abortAllOf r code t

/-- The queue of an engine towards the batch controller (R11). -/
def engQueue (s : Block) (e : Nat) : List QEnt := (s.engQ.find e).getD []

/-- The batch of a fixed producer and tick, if it exists yet. -/
def findFixed (s : Block) (who : Producer) (due : Nat) : Option FBatch :=
  s.fixed.find? fun b => decide (b.who = who) && b.ctick == due

end Block
end Sys2Proof.Machine
end

