-- ==== Sys2Proof/Machine/Translate.lean ====
section
/-!
DEFINITION. Translation: the table walk, domain resolution, rights, walk faults, the caches and the overlay
(R173 to R191).
-/
namespace Sys2Proof.Machine

/-- How a walk ends (R177): a target, with what the access needs of it, or a fault with what R182 records. -/
inductive Walked where
  | ok (unit epoch kind addr level hops leaf : Nat)
  | fault (code level hops ptr : Nat)
deriving DecidableEq, Repr

/-- The leaf a walk finds, or its fault (R177). -/
inductive LeafRes where
  | leaf (level e : Nat) (cached : Bool)
  | fault (code level ptr : Nat)
deriving DecidableEq, Repr

namespace Block

/-- Whether a table page may be read: inside table memory and outside the device region (R176). -/
def inTable (s : Block) (ptr : Nat) : Bool :=
  decide (s.g XLT.XLT_TBL_BASE.BASE ≤ ptr) && decide (ptr < s.g XLT.XLT_TBL_LIMIT.LIMIT) && decide (ptr < 2 ^ 27)

/-- A table entry in memory (R174). -/
def tableEntry (s : Block) (ptr idx : Nat) : Nat := s.dram.readN (ptr * 4096 + idx * 8) 8

/-- Whether memory can no longer correct a table entry (R176). -/
def badEntry (s : Block) (ptr idx : Nat) : Bool := s.dramBad.contains (ptr * 4096 + idx * 8)

/-- The walk through the tables from a level down (R177). `ecc` is the level whose entry memory reports as
uncorrectable to this walk, if any (R176). -/
def walkTables (s : Block) (addr : Nat) (ecc : Option Nat) : Nat → Nat → LeafRes
  | level, ptr =>
    if !s.inTable ptr then .fault 3 level ptr
    else if ecc = some level ∨ s.badEntry ptr (walkIndex addr level) = true then .fault 5 level ptr
    else
      let e := s.tableEntry ptr (walkIndex addr level)
      if !e.testBit 0 then .fault 1 level ptr
      else if e.testBit 1 then (if leafInvalid level e then .fault 1 level ptr else .leaf level e false)
      else
        match level with
        | 0 => .fault 1 0 ptr
        | l + 1 => s.walkTables addr ecc l (bits e 39 12)

/-- The table page that a walk uses last, from a level down: the one that holds the leaf. -/
def lastTable (s : Block) (addr : Nat) : Nat → Nat → Nat
  | level, ptr =>
    let e := s.tableEntry ptr (walkIndex addr level)
    if !s.inTable ptr || !e.testBit 0 || e.testBit 1 then ptr
    else
      match level with
      | 0 => ptr
      | l + 1 => s.lastTable addr l (bits e 39 12)

/-- The root of a generation (R184, R188): the active root for the current generation, the other one for the shadow's
or, while HOLD_OLD is 1, the old one. -/
def rootOf (s : Block) (gen : Nat) : Nat :=
  if (gen = s.g XLT.XLT_STAT.GEN) = (s.g XLT.XLT_STAT.ACTIVE = 0) then s.g XLT.XLT_ROOT0.ROOT0
  else s.g XLT.XLT_ROOT1.ROOT1

/-- The overlay's leaf for an address, which every walk consults first (R190); one that is not present or not valid ends the
walk (R175). -/
def overlayLeaf (s : Block) (addr : Nat) : Option LeafRes :=
  (s.overlay.find? fun o => addr / leafSpan o.level == o.page).map fun o =>
    if !o.leaf.testBit 0 || !o.leaf.testBit 1 || leafInvalid o.level o.leaf then .fault 1 o.level 0
    else .leaf o.level o.leaf true

/-- A cache's leaf for an address in a generation (R183). -/
def cacheLeaf (c : List CEnt) (addr gen : Nat) : Option CEnt :=
  c.find? fun x => x.gen == gen && addr / leafSpan x.level == x.page

/-- Put a leaf into a cache of `cap` entries, as the most recently used; a full cache loses its least recently used
entry that is not a prewarmed one (R183). -/
def cachePut (cap : Nat) (c : List CEnt) (x : CEnt) : List CEnt :=
  let c1 := c.filter fun y => !(y.page == x.page && y.level == x.level && y.gen == x.gen)
  if c1.length < cap then x :: c1
  else
    match (c1.reverse.find? fun y => !y.pre) with
    | some old => x :: c1.erase old
    | none => c1

/-- The leaf for an address in a generation, from the overlay, the walk cache or the tables (R177, R190). -/
def leafFor (s : Block) (addr gen : Nat) (ecc : Option Nat) : LeafRes :=
  match s.overlayLeaf addr with
  | some r => r
  | none =>
    match cacheLeaf s.wcache addr gen with
    | some c => .leaf c.level c.leaf true
    | none => s.walkTables addr ecc 3 (s.rootOf gen)

/-- Whether the rights check allows an access (R185): the requester holds the right, and owns the leaf with the
right's bit, or is tin 0 or tin 1 with the grant. -/
def allowed (s : Block) (tin : Nat) (holds : Bool) (x : Right) (owner : Nat) (bit ls : Bool) : Bool :=
  holds && ((tin == owner && bit) || (tin == 0 && (s.g TIN.TIN_GRANT.OPER).testBit x.bit) ||
    (tin == 1 && ls && (s.g TIN.TIN_GRANT.LS).testBit x.bit))

/-- The end of a walk once its leaf is known (R177): the rights check, then resolution. -/
def walkEnd (s : Block) (addr tin : Nat) (holds : Bool) (x : Right) : LeafRes → Walked
  | .fault c l p => .fault c l 0 p
  | .leaf level e _ =>
    if s.allowed tin holds x (leafOwner e) (leafRight e x) (leafLS e) then
      match s.resolve 10 (leafHolder e) 0 with
      | .unit u ep h => .ok u ep (leafKind e) (leafOffset e + addr % leafSpan level) level h e
      | .fault c h => .fault c level h 0
    else .fault 2 level 0 0

/-- A leaf found enters the walk cache, tagged with its generation (R177, R183): one of the tables as a new entry, one of the
cache again, as the most recently used; a leaf of the overlay stays there. A prewarm marks its own. -/
def cacheLeafRes (s : Block) (addr gen : Nat) (pre : Bool) : LeafRes → Block
  | .leaf level e cached =>
    let old := cacheLeaf s.wcache addr gen
    if cached && !pre && (s.overlayLeaf addr).isSome then s
    else
      { s with wcache := cachePut 2048 s.wcache ⟨addr / leafSpan level, level, gen, e, pre || (cached && old.any fun c => c.pre)⟩ }
  | .fault _ _ _ => s

/-- The first address of the module's own register window (assumption 6). -/
def windowBase (s : Block) : Nat := 0xF00000000000 + s.g MOD.MOD_ID.MODULE_ID * 0x1000000

/-- The offset of an address in the module's own window, if it lies there. -/
def windowOff (s : Block) (addr : Nat) : Option Nat :=
  if s.windowBase ≤ addr ∧ addr < s.windowBase + 0x1000000 then some (addr - s.windowBase) else none

/-- ERR_CODE of a walk fault (R181). -/
def faultErr (code : Nat) : Nat := if code = 2 then 0x01 else if code = 3 then 0x06 else 0x05

/-- The counter of a walk fault (R182). -/
def faultCount (s : Block) (code : Nat) : Block :=
  if code = 1 then s.sat XLT.XLT_WF_COUNT.INVALID 0 0 1
  else if code = 2 then s.sat XLT.XLT_WF_COUNT.PERM 0 0 1
  else if code = 3 then s.sat XLT.XLT_WF_COUNT.DEVICE 0 0 1
  else s.sat XLT.XLT_WF_COUNT.DEPTH_ECC 0 0 1

/-- The source of a walk fault (R182, R197, R198). -/
def faultSrc (code : Nat) : Nat :=
  if code = 1 then EV.XLT.WF_INVALID else if code = 2 then EV.TIN.DENIED else if code = 3 then EV.XLT.WF_DEVICE
  else if code = 4 then EV.XLT.WF_DEPTH else EV.XLT.WF_ECC

/-- A refusal under R185, R193 or R194 counts in TIN_DENY of every active-tin entry that holds the tin. -/
def denyCount (s : Block) (tin : Nat) : List Nat → Block
  | [] => s
  | i :: t =>
    (if (if i < 2 then i == tin else s.on TIN.TIN_ENTRY.VALID 0 i && s.rd TIN.TIN_ENTRY.TIN 0 i == tin) then
      s.sat TIN.TIN_DENY.DENY 0 i 1 else s).denyCount tin t

/-- The walk-fault record (R182). -/
def wfRecord (s : Block) (addr code level hops ptr kind tin : Nat) (x : Right) : Block :=
  let s1 := s.p XLT.XLT_WF_INFO.CODE code
  let s2 := s1.p XLT.XLT_WF_INFO.LEVEL level
  let s3 := s2.p XLT.XLT_WF_INFO.HOPS hops
  let s4 := s3.p XLT.XLT_WF_INFO.REQ kind
  let s5 := s4.p XLT.XLT_WF_INFO.TIN tin
  let s6 := s5.p XLT.XLT_WF_INFO.RIGHT (2 ^ x.bit)
  let s7 := s6.p XLT.XLT_WF_INFO.VALID 1
  let s8 := s7.p XLT.XLT_WF_ADDR_L.ADDR_L (addr % 2 ^ 32)
  let s9 := s8.p XLT.XLT_WF_ADDR_H.ADDR_H (addr / 2 ^ 32)
  s9.p XLT.XLT_WF_PTR.PTR (if code = 2 ∨ code = 4 then 0 else ptr)

/-- XLT_WF_PTR of a fault (R182, R179): for a domain fault the table page that holds the leaf, which a leaf from a cache
leaves as the tables of the walk's generation now have it (assumption 38). -/
def faultPage (s : Block) (addr gen code ptr : Nat) : Nat :=
  if code = 1 ∧ ptr = 0 then s.lastTable addr 3 (s.rootOf gen) else ptr

/-- The batch that an access which would have staged concerns, for ERR_ADDR (R48, R152). -/
def stagingBatch (s : Block) (r : Req) (x : Right) : Option Nat := if x = .read then none else s.tagNow r

/-- A walk fault is recorded in every place R182 names: the record, the counter, the XLT page, the page the address
names, and the fault's source. -/
def walkFault (s : Block) (addr gen code level hops ptr : Nat) (r : Req) (x : Right) : Block :=
  let s1 := (s.wfRecord addr code level hops (s.faultPage addr gen code ptr) (reqKind r) (s.tinOf r) x).faultCount code
  let b := s.stagingBatch r x
  let s2 := s1.errR 0x040 (faultErr code) r ((s.windowOff addr).getD 0x040080) b
  let s3 :=
    match s.windowOff addr with
    | some o => if o / 4096 = 0x040 then s2 else s2.errR (o / 4096) (faultErr code) r o b
    | none => s2
  let s4 := if code = 2 then s3.denyCount (s.tinOf r) (List.range 64) else s3
  (s4.fire (faultSrc code)).perf 0x043 none 1

/-- The generation a P access or a session walk uses now (R184). -/
def genNow (s : Block) : Nat := s.g XLT.XLT_STAT.GEN

/-- What a complete walk leaves whatever it ends in (R177, R183, R451): the leaf in the walk cache, and its count. -/
def walkSeen (s : Block) (addr gen : Nat) (l : LeafRes) : Block :=
  (s.cacheLeafRes addr gen false l).perf (match l with | .leaf _ _ true => 0x041 | _ => 0x040) none 1

/-- The end of a requester's walk whose leaf is known: a fault is recorded (R177, R182). -/
def walkOf (s : Block) (r : Req) (x : Right) (addr gen : Nat) (l : LeafRes) : Block × Walked :=
  match s.walkEnd addr (s.tinOf r) (s.holds r x) x l with
  | .ok u ep k a lv h e => (s, .ok u ep k a lv h e)
  | .fault c lv h p => (s.walkFault addr gen c lv h p r x, .fault c lv h p)

/-- A complete walk by a requester (R177, R184): caches are filled, and a fault is recorded. -/
def walk (s : Block) (r : Req) (x : Right) (addr gen : Nat) (ecc : Option Nat) : Block × Walked :=
  (s.walkSeen addr gen (s.leafFor addr gen ecc)).walkOf r x addr gen (s.leafFor addr gen ecc)

/-- Whether one leaf covers two addresses: then the image builder's lookup for the first serves the second (R191). -/
def sameLeaf (s : Block) (a b gen : Nat) : Bool :=
  match s.leafFor a gen none with
  | .leaf lv _ _ => a / leafSpan lv == b / leafSpan lv
  | .fault _ _ _ => false

/-- The walk for a point of an image: the first point of a run of points that share one leaf makes the run's one lookup; rights
and resolution are checked for each point (R177, R191, assumption 130). `prev` is the address of the point before. -/
def walkRun (s : Block) (r : Req) (x : Right) (prev : Option Nat) (addr : Nat) : Block × Walked :=
  if prev.any fun a => s.sameLeaf a addr s.genNow then s.walkOf r x addr s.genNow (s.leafFor addr s.genNow none)
  else s.walk r x addr s.genNow none

/-- Whether a resolved unit is this module while it may act: single, or the active partner (R180). -/
def isSelf (s : Block) (u : Nat) : Bool :=
  u == s.g MOD.MOD_ID.MODULE_ID && (s.g PAIR.PAIR_STAT.ROLE == 0 || s.g PAIR.PAIR_STAT.ROLE == 1)

/-- Whether a resolved unit is this module while it is standby or fenced, which refuses with 0x07 (R180). -/
def isIdleSelf (s : Block) (u : Nat) : Bool :=
  u == s.g MOD.MOD_ID.MODULE_ID && (s.g PAIR.PAIR_STAT.ROLE == 2 || s.g PAIR.PAIR_STAT.ROLE == 3)

/-- Whether a resolved unit is this module for its own captures, loops and publications: a standby computes on its own logical
state (R361, R362); a fenced partner makes no access (R180). -/
def isOwn (s : Block) (u : Nat) : Bool := u == s.g MOD.MOD_ID.MODULE_ID && s.g PAIR.PAIR_STAT.ROLE != 3

/-- The refusal of R194: a selector names an object of another tin. It is recorded as a WF_PERM fault; `b` is
the batch that a staging concerned. -/
def selectorDenied (s : Block) (r : Req) (x : Right) (off level hops : Nat) (b : Option Nat) : Block :=
  let s1 := (s.wfRecord (s.windowBase + off) 2 level hops 0 (reqKind r) (s.tinOf r) x).faultCount 2
  let s2 := s1.errR 0x040 0x01 r off b
  let s3 := if off / 4096 = 0x040 then s2 else s2.errR (off / 4096) 0x01 r off b
  ((s3.denyCount (s.tinOf r) (List.range 64)).fire EV.TIN.DENIED).perf 0x043 none 1

/-- One prewarm walk (R191): a walk of the module's own firmware in SHADOW's generation, with its rights check and its
resolution (R177, R186); its leaf enters the walk cache marked prewarmed; a fault is counted and recorded. -/
def prewarmOne (s : Block) (addr gen : Nat) : Block :=
  let l := s.leafFor addr gen none
  let s1 := (s.cacheLeafRes addr gen true l).perf (match l with | .leaf _ _ true => 0x041 | _ => 0x040) none 1
  match s1.walkOf (.fw 0) .read addr gen l with
  | (s2, .ok _ _ _ _ _ _ _) => s2
  | (s2, .fault _ _ _ _) => s2.wrap XLT.XLT_PW_COUNT.FAILED 0 0 1

/-- Prewarm walks of a list of addresses. -/
def prewarmAll (s : Block) (gen : Nat) : List Nat → Block
  | [] => s
  | a :: t => (s.prewarmOne a gen).prewarmAll gen t

/-- The addresses of the prewarm list in table memory (R191). -/
def prewarmList (s : Block) : List Nat :=
  (List.range (s.g XLT.XLT_PW_COUNT.COUNT)).map fun i => s.dram.readN (s.g XLT.XLT_PW_BASE.PW_BASE * 4096 + 8 * i) 6

/-- The leaf in memory that covers an address from a root, with its level and the address of its entry (R190). -/
def leafPlace (s : Block) (addr : Nat) : Nat → Nat → Option (Nat × Nat)
  | level, ptr =>
    if !s.inTable ptr then none
    else
      let e := s.tableEntry ptr (walkIndex addr level)
      if !e.testBit 0 then none
      else if e.testBit 1 then some (level, ptr * 4096 + walkIndex addr level * 8)
      else
        match level with
        | 0 => none
        | l + 1 => s.leafPlace addr l (bits e 39 12)

/-- Whether a dual write of an address may commit (R190): a present leaf at the same level covers it in each root. -/
def dualLevels (s : Block) (addr : Nat) : Option Nat :=
  match s.leafPlace addr 3 (s.g XLT.XLT_ROOT0.ROOT0), s.leafPlace addr 3 (s.g XLT.XLT_ROOT1.ROOT1) with
  | some (l0, _), some (l1, _) => if l0 = l1 then some l0 else none
  | _, _ => none

/-- Remove every cache entry that an address's leaf covers (R190). -/
def dropCached (s : Block) (addr : Nat) : Block :=
  { s with
    wcache := s.wcache.filter fun c => addr / leafSpan c.level != c.page
    ucache := s.ucache.map fun u => (u.1, u.2.filter fun c => addr / leafSpan c.level != c.page) }

/-- The tower point map with a leaf in the place of the one that it holds for the same span. -/
def mapPut (l : List MapLeaf) (x : MapLeaf) : List MapLeaf :=
  (l.filter fun m => !(m.level == x.level && m.addr / leafSpan m.level == x.addr / leafSpan x.level)) ++ [x]

/-- A committed dual write (R190): the overlay holds the new leaf, every cache loses the page, and the tower point map changes
with it, so that a rebuild carries it (assumption 131). -/
def dualCommit (s : Block) (addr leaf : Nat) : Block :=
  match s.dualLevels addr with
  | none => s
  | some lv =>
    let o : OvEnt := ⟨addr / leafSpan lv, lv, leaf⟩
    let s1 := { s with
      overlay := (s.overlay.filter fun (x : OvEnt) => !(x.page == o.page && x.level == o.level)) ++ [o]
      pmap := mapPut s.pmap ⟨o.page * leafSpan lv, lv, leaf⟩ }
    (s1.dropCached addr).fire EV.XLT.DUAL_WRITE

/-- The module writes a table entry: what memory holds there is whole again. -/
def putEntry (s : Block) (pa e : Nat) : Block :=
  { s with dram := s.dram.writeN pa 8 e, dramBad := s.dramBad.filter fun x => x != pa }

/-- Both roots are written and the overlay entry is freed (R190). -/
def dualSettle (s : Block) (page level : Nat) : Block :=
  match s.overlay.find? fun o => o.page == page && o.level == level with
  | none => s
  | some o =>
    let addr := o.page * leafSpan o.level
    let put (s : Block) (root : Nat) : Block :=
      match s.leafPlace addr 3 root with
      | some (_, pa) => s.putEntry pa o.leaf
      | none => s
    let s1 := put (put s (s.g XLT.XLT_ROOT0.ROOT0)) (s.g XLT.XLT_ROOT1.ROOT1)
    { s1 with overlay := s1.overlay.filter fun x => x != o }

/-- XLT_CTRL.PW_START (R191): the code it is refused with, 0 when the prewarm starts. -/
def pwStartCode (s : Block) : Nat :=
  if s.on XLT.XLT_CTRL.SHADOW_OPEN 0 0 || s.on XLT.XLT_STAT.PW_BUSY 0 0 then 0x0A
  else if s.g XLT.XLT_PW_COUNT.COUNT > s.g XLT.XLT_CFG.PW_MAX then 0x08
  else if s.inTable (s.g XLT.XLT_PW_BASE.PW_BASE) &&
      s.inTable (s.g XLT.XLT_PW_BASE.PW_BASE + (s.g XLT.XLT_PW_COUNT.COUNT * 8 - 1) / 4096) then 0
  else 0x06

/-- A write of PW_START := 1 (R191). At ladder stage 2 and above the prewarm stops as it starts (R190). -/
def pwStart (s : Block) (r : Req) : Block × Nat :=
  if s.pwStartCode = 0 then
    ((s.p XLT.XLT_STAT.PW_BUSY (b2n (decide (s.g PWR.PWR_STAT.LADDER < 2)))).p XLT.XLT_PW_COUNT.FAILED 0, 0)
  else (s.refuse 0x040 s.pwStartCode r 0x040040, s.pwStartCode)

/-- The last prewarm walk has ended (R191), and PREWARM_DONE fires. The rules do not say when the list, COUNT and PW_BASE are
read between PW_START and this: the model reads them and makes every walk here (assumption 132). -/
def prewarmDone (s : Block) : Block :=
  if s.on XLT.XLT_STAT.PW_BUSY 0 0 then
    ((s.prewarmAll ((s.genNow + 1) % 16) s.prewarmList).p XLT.XLT_STAT.PW_BUSY 0).fire EV.XLT.PREWARM_DONE
  else s

/-! ### The rebuild (R187) -/

/-- A table page with nothing in it. -/
def clearPage (s : Block) (ptr : Nat) : Block :=
  { s with dram := s.dram.filter fun c => !(c.1 / 4096 == ptr), dramBad := s.dramBad.filter fun x => x / 4096 != ptr }

/-- Put a leaf into the tables under a page at a level: missing tables take the pages from `next` on. The second result is the
next free page. A leaf for which table memory has no page is left out. -/
def putLeaf (s : Block) (m : MapLeaf) : Nat → Nat → Nat → Block × Nat
  | level, ptr, next =>
    let idx := walkIndex m.addr level
    if level ≤ m.level then (s.putEntry (ptr * 4096 + idx * 8) m.leaf, next)
    else
      match level with
      | 0 => (s, next)
      | l + 1 =>
        let e := s.tableEntry ptr idx
        if e.testBit 0 && !e.testBit 1 then s.putLeaf m l (bits e 39 12) next
        else if !s.inTable next then (s, next)
        else
          ((s.clearPage next).putEntry (ptr * 4096 + idx * 8) (1 + next * 4096)).putLeaf m l next (next + 1)

/-- Put every leaf of a map. -/
def putLeaves (s : Block) (root next : Nat) : List MapLeaf → Block
  | [] => s
  | m :: t =>
    match s.putLeaf m 3 root next with
    | (s1, n1) => s1.putLeaves root n1 t

/-- The whole tables of a root, made from the tower point map: the tables stand in the pages after the root page (assumption
133). -/
def buildTables (s : Block) (root : Nat) : Block :=
  if s.inTable root then (s.clearPage root).putLeaves root (root + 1) s.pmap else s

/-- The root that is SHADOW. -/
def shadowRoot (s : Block) : Nat := s.rootOf ((s.genNow + 1) % 16)

/-- A rebuild ends as SHADOW closes (R187): SHADOW's tables are those of the map, with every dual write committed since it
opened. From ladder stage 2 on a rebuild is stopped and leaves them as they are (R190). -/
def rebuild (s : Block) : Block := if s.g PWR.PWR_STAT.LADDER ≥ 2 then s else s.buildTables s.shadowRoot

/-- A write of SHADOW_OPEN (R187, R191): firmware only; refused while HOLD_OLD is 1. Opening takes a changed map and discards
every prewarmed entry; closing ends the rebuild. -/
def shadowOpen (s : Block) (r : Req) (v : Nat) (map : List MapLeaf) : Block × Nat :=
  if (reqKind r) ≠ 1 then (s.refuse 0x040 0x01 r 0x040040, 0x01)
  else if v = 1 ∧ s.on XLT.XLT_STAT.HOLD_OLD 0 0 then (s.refuse 0x040 0x0A r 0x040040, 0x0A)
  else
    let s1 := s.p XLT.XLT_CTRL.SHADOW_OPEN v
    (if v = 1 then { s1 with pmap := if map.isEmpty then s.pmap else map, wcache := s1.wcache.filter fun c => !c.pre } else s1.rebuild, 0)

/-- A write of XLT_TBL_BASE or XLT_TBL_LIMIT (R176): firmware only, not while locked, within LPDDR5 and outside the
device region, and leaving the limit above the base. -/
def tblWrite (s : Block) (r : Req) (limit : Bool) (v : Nat) : Block × Nat :=
  let b := if limit then s.g XLT.XLT_TBL_BASE.BASE else v % 2 ^ 28
  let l := if limit then v % 2 ^ 28 else s.g XLT.XLT_TBL_LIMIT.LIMIT
  let off := if limit then 0x04004C else 0x040048
  let f := if limit then XLT.XLT_TBL_LIMIT.LIMIT else XLT.XLT_TBL_BASE.BASE
  if (reqKind r) ≠ 1 then (s.refuse 0x040 0x01 r off, 0x01)
  else if s.on HDR.PAGE_CTRL.LOCK 0x040 0 then
    (if s.g f = v % 2 ^ 28 then s else s.refuse 0x040 0x02 r off, if s.g f = v % 2 ^ 28 then 0 else 0x02)
  else if v % 2 ^ 28 > 0x200000 then (s.refuse 0x040 0x06 r off, 0x06)
  else if l ≤ b then (s.refuse 0x040 0x08 r off, 0x08)
  else (s.p f v, 0)

/-- A write of a root pointer (R187 and the XLT page): firmware only, only while it is SHADOW and SHADOW_OPEN is 1. -/
def rootWrite (s : Block) (r : Req) (which v : Nat) : Block × Nat :=
  let off := 0x040050 + 4 * which
  if (reqKind r) ≠ 1 then (s.refuse 0x040 0x01 r off, 0x01)
  else if s.g XLT.XLT_STAT.ACTIVE = which ∨ s.g XLT.XLT_CTRL.SHADOW_OPEN = 0 then (s.refuse 0x040 0x0A r off, 0x0A)
  else (s.p (if which = 0 then XLT.XLT_ROOT0.ROOT0 else XLT.XLT_ROOT1.ROOT1) v, 0)

/-- The commit of a table swap (R188): the roots exchange, GEN increments modulo 16, HOLD_OLD sets. -/
def xltSwap (s : Block) : Block :=
  let s1 := s.p XLT.XLT_STAT.ACTIVE (1 - s.g XLT.XLT_STAT.ACTIVE)
  let s2 := s1.p XLT.XLT_STAT.GEN ((s.g XLT.XLT_STAT.GEN + 1) % 16)
  let s3 := s2.p XLT.XLT_STAT.HOLD_OLD 1
  { (s3.p HID.SWAPTICK s.tick) with wcache := s3.wcache.map fun c => { c with pre := false } }

/-- The code with which a staged swap fails validation (R188), 0 when it passes. -/
def xltSwapCode (s : Block) : Nat :=
  if s.on XLT.XLT_CTRL.SHADOW_OPEN 0 0 || s.on XLT.XLT_STAT.HOLD_OLD 0 0 || s.on XLT.XLT_STAT.SWEEP 0 0 ||
      s.on XLT.XLT_STAT.PW_BUSY 0 0 then 0x0A
  else if s.g PWR.PWR_STAT.LADDER ≥ 2 then 0x0A
  else if s.inTable (s.rootOf ((s.genNow + 1) % 16)) then 0 else 0x06

/-- Whether a user of the old generation is left (R189): a scan released before the swap, or a walk queued in it. -/
def oldUser (s : Block) : Bool :=
  s.scans.any fun x => decide (x.2.rel < s.g HID.SWAPTICK)

/-- HOLD_OLD clears at the first boundary with no old-generation user left, and each cache drops what no generation
in use can hit (R189). -/
def holdOldClear (s : Block) : Block :=
  if s.on XLT.XLT_STAT.HOLD_OLD 0 0 && !s.oldUser then
    let keep (c : CEnt) : Bool := c.gen == s.genNow || (c.pre && c.gen == (s.genNow + 1) % 16)
    let s1 := (s.p XLT.XLT_STAT.HOLD_OLD 0).p XLT.XLT_STAT.SWEEP 1
    { s1 with wcache := s1.wcache.filter keep, ucache := s1.ucache.map fun u => (u.1, u.2.filter keep) }
  else s

/-- The sweep after a swap ends, and SWAP_DONE fires (R189). -/
def sweepDone (s : Block) : Block :=
  if s.on XLT.XLT_STAT.SWEEP 0 0 then (s.p XLT.XLT_STAT.SWEEP 0).fire EV.XLT.SWAP_DONE else s

/-- A write of XLT_WF_INFO with VALID = 1 clears the walk-fault record (R182). -/
def wfClear (s : Block) : Block :=
  let s1 := (((s.p XLT.XLT_WF_INFO.CODE 0).p XLT.XLT_WF_INFO.LEVEL 0).p XLT.XLT_WF_INFO.HOPS 0).p XLT.XLT_WF_INFO.REQ 0
  let s2 := ((s1.p XLT.XLT_WF_INFO.TIN 0).p XLT.XLT_WF_INFO.RIGHT 0).p XLT.XLT_WF_INFO.VALID 0
  ((s2.p XLT.XLT_WF_ADDR_L.ADDR_L 0).p XLT.XLT_WF_ADDR_H.ADDR_H 0).p XLT.XLT_WF_PTR.PTR 0

/-- Whether a tin is active on the module (R192). -/
def tinActive (s : Block) (tin : Nat) : Bool :=
  tin == 0 || tin == 1 ||
    (List.range 62).any fun i => s.on TIN.TIN_ENTRY.VALID 0 (i + 2) && s.rd TIN.TIN_ENTRY.TIN 0 (i + 2) == tin

/-- A write of TIN_GRANT (R185, R45): both rights fields, unless the page is locked; GRANT_CHANGE fires when it is
written. -/
def grantWrite (s : Block) (r : Req) (v : Nat) : Block × Nat :=
  if s.on HDR.PAGE_CTRL.LOCK 0x041 0 then
    if bits v 3 0 = s.g TIN.TIN_GRANT.OPER ∧ bits v 7 4 = s.g TIN.TIN_GRANT.LS then (s, 0)
    else (s.refuse 0x041 0x02 r 0x041048, 0x02)
  else (((s.p TIN.TIN_GRANT.OPER (bits v 3 0)).p TIN.TIN_GRANT.LS (bits v 7 4)).fire EV.TIN.GRANT_CHANGE, 0)

end Block
end Sys2Proof.Machine
end

