-- ==== Sys2Proof/Machine/FieldIO.lean ====
section
/-!
DEFINITION. Field channels: digital and analog slices (R223 to R240, R247 to R252), the rise governor (R166 to R169),
and the capture unit (R241 to R246, R253). Slices are numbered 0 to 5 for DIO0 to DIO5 and 6 to 8 for AIO0 to AIO2;
digital channel c is channel c mod 16 of slice c / 16, analog channel c likewise of AIO c / 16.
-/
namespace Sys2Proof.Machine

/-- The local address of the page of digital channel `c`, of analog channel `c` (R223). -/
def dchBase (c : Nat) : Nat := 0x100000 + c * 0x1000
def achBase (c : Nat) : Nat := 0x160000 + c * 0x1000

/-- The digital channel, or the analog channel, whose page a local address lies in, with the offset (R223). -/
def dchOf (a : Nat) : Option (Nat × Nat) :=
  if 0x100000 ≤ a ∧ a < 0x160000 then some ((a - 0x100000) / 0x1000, a % 0x1000) else none
def achOf (a : Nat) : Option (Nat × Nat) :=
  if 0x160000 ≤ a ∧ a < 0x190000 then some ((a - 0x160000) / 0x1000, a % 0x1000) else none

/-- The slice a local address belongs to. -/
def pointSlice (a : Nat) : Option Nat :=
  match dchOf a with
  | some x => some (x.1 / 16)
  | none => (achOf a).map fun x => 6 + x.1 / 16

/-- The page of a slice, and its number among slices of its kind. -/
def slPage (sl : Nat) : Nat := if sl < 6 then 0x050 + sl else 0x052 + sl
def slIdx (sl : Nat) : Nat := if sl < 6 then sl else sl - 6

/-- The limits of R247 and R249 on a measured value, by mode. -/
def anLow (mode : Nat) : Int := if mode = 1 then -500000 else if mode = 3 then -50000 else if mode = 4 then -40000 else 0
def anHigh (mode : Nat) : Int :=
  if mode = 1 then 10500000 else if mode = 2 then 24000000 else if mode = 3 then 250000 else if mode = 4 then 125000
  else if mode = 5 then 10000000 else if mode = 6 then 22000000 else 0

/-- Above this value an input is over range (R248). -/
def anOver (mode : Nat) : Int := if mode = 2 then 21000000 else anHigh mode

/-- A value clamped to the limits of its mode (R249, R250). -/
def anClamp (mode : Nat) (v : Int) : Int := min (max v (anLow mode)) (anHigh mode)

/-- A cause of a slice fault (R238), by its bit of CAUSE. -/
def causeBit : SliceCause → Nat
  | .fsLow => 0 | .conn => 1 | .isl => 2 | .cfg => 3

namespace Block

/-- The value of a local point; 0 where nothing has given it one. -/
def point (s : Block) (a : Nat) : Nat := (s.points.find a).getD 0

/-- Give a local point a value. -/
def setPoint (s : Block) (a v : Nat) : Block :=
  if v % 2 ^ 32 = 0 then { s with points := s.points.del a } else { s with points := s.points.put a (v % 2 ^ 32) }

/-- A value of digital channel `c`, of analog channel `c`. -/
def dch (s : Block) (f : Fld) (c : Nat) : Nat := s.rd f (c / 16) (c % 16)
def setDch (s : Block) (f : Fld) (c v : Nat) : Block := s.wr f (c / 16) (c % 16) v

/-- Whether a digital channel is an output, or an input (R225). -/
def isOut (s : Block) (c : Nat) : Bool := s.dch DIO.DIO_CH_CFG.MODE c == 4
def isIn (s : Block) (c : Nat) : Bool := decide (1 ≤ s.dch DIO.DIO_CH_CFG.MODE c) && decide (s.dch DIO.DIO_CH_CFG.MODE c ≤ 3)

/-- Whether an analog channel is an output, or an input (R247). -/
def aOut (s : Block) (c : Nat) : Bool := s.dch AIO.AIO_CH_CFG.MODE c == 5 || s.dch AIO.AIO_CH_CFG.MODE c == 6
def aIn (s : Block) (c : Nat) : Bool := decide (1 ≤ s.dch AIO.AIO_CH_CFG.MODE c) && decide (s.dch AIO.AIO_CH_CFG.MODE c ≤ 4)

/-- The state of a slice: 0 RUN, 1 SAFE, 2 FAULT. -/
def slState (s : Block) (sl : Nat) : Nat := if sl < 6 then s.rd DIO.DIO_STAT.STATE sl 0 else s.rd AIO.AIO_STAT.STATE (sl - 6) 0
def setSlState (s : Block) (sl v : Nat) : Block :=
  if sl < 6 then s.wr DIO.DIO_STAT.STATE sl 0 v else s.wr AIO.AIO_STAT.STATE (sl - 6) 0 v

/-- The causes of a slice's fault (R238). -/
def slCause (s : Block) (sl : Nat) : Nat := if sl < 6 then s.rd DIO.DIO_STAT.CAUSE sl 0 else s.rd AIO.AIO_STAT.CAUSE (sl - 6) 0
def setSlCause (s : Block) (sl v : Nat) : Block :=
  if sl < 6 then s.wr DIO.DIO_STAT.CAUSE sl 0 v else s.wr AIO.AIO_STAT.CAUSE (sl - 6) 0 v

/-- Fields of SLICE_CFG of a slice. -/
def slTimeout (s : Block) (sl : Nat) : Nat :=
  if sl < 6 then s.rd DIO.SLICE_CFG.TIMEOUT sl 0 else s.rd AIO.SLICE_CFG.TIMEOUT (sl - 6) 0
def slRearm (s : Block) (sl : Nat) : Nat :=
  if sl < 6 then s.rd DIO.SLICE_CFG.REARM sl 0 else s.rd AIO.SLICE_CFG.REARM (sl - 6) 0

/-- The sources of a slice (R251, R252). -/
def evWdog (sl : Nat) : Nat := if sl < 6 then EV.DIO.WDOG_EXPIRED sl else EV.AIO.WDOG_EXPIRED (sl - 6)
def evFaultOn (sl : Nat) : Nat := if sl < 6 then EV.DIO.FAULT_ON sl else EV.AIO.FAULT_ON (sl - 6)
def evFaultOff (sl : Nat) : Nat := if sl < 6 then EV.DIO.FAULT_OFF sl else EV.AIO.FAULT_OFF (sl - 6)
def evRearmed (sl : Nat) : Nat := if sl < 6 then EV.DIO.REARMED sl else EV.AIO.REARMED (sl - 6)

/-! ### Digital channels -/

/-- A channel occurrence (R229): bit `b` of DIO_CH_ALERT, and the channel's source when its enable is 1. -/
def dchAlert (s : Block) (c b : Nat) (en : Fld) : Block :=
  (s.setDch DIO.DIO_CH_ALERT.ALERT c (setBit (s.dch DIO.DIO_CH_ALERT.ALERT c) b)).fireIf (s.dch en c == 1)
    (EV.DIO.CHANNEL (c / 16) + c % 16)

/-- The filtered value of an input changes (R226, R229). -/
def dioFilter (s : Block) (c : Nat) : Block :=
  if s.isIn c ∧ s.dch HID.DTERM c ≠ s.dch HID.DFILT c then
    let s1 := s.setDch HID.DFILT c (s.dch HID.DTERM c)
    if s.dch HID.DTERM c = 1 then s1.dchAlert c 0 DIO.DIO_CH_CFG.EV_RISE else s1.dchAlert c 1 DIO.DIO_CH_CFG.EV_FALL
  else s

/-- An input terminal changes level (R226); with FILTER = 0 there is no time to hold. The filter stops with the supervisor
(R17). -/
def dioInput (s : Block) (c : Nat) (level : Bool) : Block :=
  if s.isIn c then
    let s1 := s.setDch HID.DTERM c (b2n level)
    if s.dch DIO.DIO_CH_CFG.FILTER c = 0 ∧ s.g HID.PWRST = 0 ∧ s.on HID.ISLANDDOWN 0 0 = false then s1.dioFilter c else s1
  else s

/-- A wire break is declared (R228). -/
def wireBreak (s : Block) (c : Nat) : Block :=
  if s.dch DIO.DIO_CH_CFG.MODE c = 3 ∧ s.dch HID.DWB c = 0 then
    (s.setDch HID.DWB c 1).dchAlert c 2 DIO.DIO_CH_CFG.EV_FAULT
  else s

/-- A wire break clears (R228). -/
def wireOk (s : Block) (c : Nat) : Block := s.setDch HID.DWB c 0

/-- Whether an output has a latched fault (R232, R234). -/
def latched (s : Block) (c : Nat) : Bool := s.dch HID.DSC c == 1 || s.dch HID.DOT c == 1 || s.dch HID.DOVL c == 1

/-- Remove an output from the pending set. -/
def unpend (s : Block) (c : Nat) : Block := s.setDch HID.DPEND c 0

/-- The commit now made (R12). -/
def commitKey (s : Block) : Nat := s.g HID.COMMITNO

/-- The supply group of a digital slice (R166). -/
def fsGroup (s : Block) (sl : Nat) : Nat := bits (s.g RISE.RISE_CFG.FS_MAP) (2 * sl + 1) (2 * sl)

/-- The budget of a group (R166). -/
def fsBudget (s : Block) (g : Nat) : Nat :=
  if g = 0 then s.g RISE.RISE_FS1.BUDGET else if g = 1 then s.g RISE.RISE_FS2.BUDGET else s.g RISE.RISE_FS3.BUDGET

/-- Whether no budget is in force for a group (R168). -/
def fsFree (s : Block) (g : Nat) : Bool := s.fsBudget g == 0 || !s.on HDR.PAGE_CTRL.ENABLE 0x003 0

/-- The inrush of a channel. -/
def inrush (s : Block) (c : Nat) : Nat := s.rd RISE.RISE_CH.INRUSH 0 c

/-- Whether this module drives its terminals (R353): it is not paired, or it is the partner that drives. -/
def driving (s : Block) : Bool := s.g MOD.MOD_ID.PAIRED == 0 || s.g PAIR.PAIR_STAT.DRIVING == 1

/-- The driver of an output conducts from now on, unless the partner is not driving (R353); its off-to-on transition is
counted in the life histogram (R454). -/
def conduct (s : Block) (c : Nat) : Block :=
  if !s.driving then s
  else if s.dch HID.DDRIVE c = 1 then s
  else (s.setDch HID.DDRIVE c 1).lifeAdd (2 + c / 16) (c % 16) 1

/-- The driver of an output conducts no more, and with it open load ends (R233). -/
def unconduct (s : Block) (c : Nat) : Block := (s.setDch HID.DDRIVE c 0).setDch HID.DOL c 0

/-- An output becomes pending at tick `k` (R167, R168); one already pending keeps its last step. A partner that does
not drive leaves its outputs off (R353). -/
def rise (s : Block) (c k : Nat) : Block :=
  if s.dch HID.DPEND c = 1 ∨ s.driving = false then s
  else
    let s1 := (s.setDch HID.DPEND c 1).setDch HID.DLAST c (k + s.g RISE.RISE_CFG.SPREAD - 1)
    let s2 := (s1.setDch HID.DCOMMIT c s.commitKey).setDch HID.DCTICK c k
    let g := s.fsGroup (c / 16)
    if !s.fsFree g && decide (s.inrush c > s.fsBudget g) && s.g HID.OVERCOMMIT != s.commitKey + 1 then
      (s2.p HID.OVERCOMMIT (s.commitKey + 1)).fire EV.RISE.OVERSIZE
    else s2

/-- A latched fault of an output clears at tick `k` (R232). -/
def clearLatch (s : Block) (c k : Nat) : Block :=
  if s.latched c then
    let s1 := ((s.setDch HID.DSC c 0).setDch HID.DOT c 0).setDch HID.DOVL c 0
    if s.point (dchBase c) = 1 ∧ s.slState (c / 16) = 0 ∧ s.isOut c then s1.rise c k else s1
  else s

/-- An output turns off. -/
def switchOff (s : Block) (c : Nat) : Block := (s.unconduct c).unpend c

/-- The commit of a digital output's VALUE at tick `k` (R159, R167, R230, R232, R236). -/
def commitDigital (s : Block) (c v k : Nat) : Block :=
  let old := s.point (dchBase c)
  let s1 := s.setPoint (dchBase c) (v % 2)
  if v % 2 = 0 then
    let s2 := ((s1.setDch HID.DSC c 0).setDch HID.DOT c 0).setDch HID.DOVL c 0
    if s.slState (c / 16) = 0 then s2.switchOff c else s2.unpend c
  else if old = 0 ∧ s.slState (c / 16) = 0 then s1.rise c k
  else s1

/-- A conducting output detects a short circuit or over-temperature (R232). -/
def driverFault (s : Block) (c : Nat) (ot : Bool) : Block :=
  if s.isOut c && s.dch HID.DDRIVE c == 1 then
    let s1 := (s.setDch (if ot then HID.DOT else HID.DSC) c 1).switchOff c
    s1.dchAlert c (if ot then 4 else 3) DIO.DIO_CH_CFG.EV_FAULT
  else s

/-- Open load is detected (R233). -/
def openLoad (s : Block) (c : Nat) : Block :=
  if s.isOut c && s.dch DIO.DIO_CH_CFG.OL_EN c == 1 && s.dch HID.DDRIVE c == 1 && s.dch HID.DOL c == 0 then
    (s.setDch HID.DOL c 1).dchAlert c 5 DIO.DIO_CH_CFG.EV_FAULT
  else s

/-- Open load clears (R233). -/
def loadBack (s : Block) (c : Nat) : Block := s.setDch HID.DOL c 0

/-- The output that an overload sheds next: class N before LS, the highest channel first (R234). -/
def shedNext (s : Block) (sl : Nat) : Option Nat :=
  let on := (List.range 16).reverse.map (fun k => 16 * sl + k) |>.filter fun c => s.isOut c && s.dch HID.DDRIVE c == 1
  match on.find? fun c => s.dch DIO.DIO_CH_CFG.LS c == 0 with
  | some c => some c
  | none => on.head?

/-- One output is shed (R234): off, OVL latched, and OVERLOAD at the first of the episode. -/
def shedOne (s : Block) (sl : Nat) : Block :=
  match s.shedNext sl with
  | none => s
  | some c =>
    let s1 := ((s.setDch HID.DOVL c 1).switchOff c).dchAlert c 6 DIO.DIO_CH_CFG.EV_FAULT
    (s1.wr HID.OVFIRED sl 0 1).fireIf (s.rd HID.OVFIRED sl 0 == 0) (EV.DIO.OVERLOAD sl)

/-- A slice's current has exceeded its limit for 10 ms (R234): the episode begins with its first output. -/
def overload (s : Block) (sl : Nat) : Block :=
  if s.rd HID.OVEPISODE sl 0 = 1 then s else ((s.wr HID.OVEPISODE sl 0 1).wr HID.OVFIRED sl 0 0).shedOne sl

/-- The next 1 ms of an episode (R234): `over` while the total still exceeds the limit. -/
def overloadNext (s : Block) (sl : Nat) (excess : Bool) : Block :=
  if s.rd HID.OVEPISODE sl 0 = 1 then (if excess then s.shedOne sl else s.wr HID.OVEPISODE sl 0 0) else s

/-! ### Slice watchdog, SAFE and re-arm, slice faults -/

/-- A digital output goes to its safe state (R236). -/
def safeDigital (s : Block) (c : Nat) : Block :=
  if !s.isOut c then s
  else
    let s1 := s.unpend c
    let m := s.dch DIO.DIO_CH_CFG.SAFE c
    if m = 2 then s1 else if m = 1 then (if s.latched c then s1 else s1.conduct c)
    else s1.switchOff c

/-- An analog output goes to its safe state (R250); at ladder stages 2 and 3 it holds its value, and goes there below them
(R240). A partner that is not driving drives none (R353). -/
def safeAnalog (s : Block) (c : Nat) : Block :=
  if !s.aOut c || !s.driving then s
  else if s.g PWR.PWR_STAT.LADDER = 2 ∨ s.g PWR.PWR_STAT.LADDER = 3 then s.setDch HID.AHELD c 1
  else
    let m := s.dch AIO.AIO_CH_CFG.SAFE c
    if m = 1 then s
    else if m = 2 then
      let v := anClamp (s.dch AIO.AIO_CH_CFG.MODE c) (sgn 32 (s.dch AIO.AIO_SAFE_VAL.SAFE_VAL c))
      s.setDch AIO.AIO_CH_VAL.VAL c (uns 32 v)
    else s.setDch AIO.AIO_CH_VAL.VAL c 0

/-- The analog outputs of a list drive nothing (R353). -/
def analogMute (s : Block) : List Nat → Block
  | [] => s
  | c :: t => (if s.aOut c then (s.setDch AIO.AIO_CH_VAL.VAL c 0).setDch HID.AHELD c 0 else s).analogMute t

/-- Every channel of a list goes to its safe state. -/
def safeAll (s : Block) (sl : Nat) : List Nat → Block
  | [] => s
  | k :: t => (if sl < 6 then s.safeDigital (16 * sl + k) else s.safeAnalog (16 * (sl - 6) + k)).safeAll sl t

/-- A slice's outputs go to their safe states (R236, R238). -/
def sliceSafe (s : Block) (sl : Nat) : Block := s.safeAll sl (List.range 16)

/-- A slice becomes SAFE (1) or goes to FAULT (2): a REARM command given before concerns it no more (R237, assumption 139). -/
def slStop (s : Block) (sl v : Nat) : Block := (s.setSlState sl v).wr HID.SLREARM 0 sl 0

/-- A watchdog expires (R236). -/
def wdogExpiry (s : Block) (sl : Nat) : Block := ((s.sliceSafe sl).slStop sl 1).fire (evWdog sl)

/-- Whether TIMEOUT may have passed since the last refresh, whether it must have: the slice's own clock is within ±0.01% (R235),
and its age counts whole intervals of 250 µs. -/
def wdogMay (s : Block) (sl : Nat) : Bool :=
  s.slState sl == 0 && s.slTimeout sl != 0 && decide ((s.rd HID.SLAGE 0 sl + 1) * 10000 > 4 * s.slTimeout sl * 9999)
def wdogMust (s : Block) (sl : Nat) : Bool :=
  s.slState sl == 0 && s.slTimeout sl != 0 && decide (s.rd HID.SLAGE 0 sl * 10000 ≥ 4 * s.slTimeout sl * 10001)

/-- SLICE_WDOG_EXPIRE (R236), once TIMEOUT may have passed. -/
def wdogSlice (s : Block) (sl : Nat) : Block := if s.wdogMay sl then s.wdogExpiry sl else s

/-- The slices' own clocks advance by 250 µs (R235). -/
def wdogCount (s : Block) : List Nat → Block
  | [] => s
  | sl :: t => (if s.on HID.ISLANDDOWN 0 (18 + sl) then s else s.sat HID.SLAGE 0 sl 1).wdogCount t

/-- The watchdogs whose time has passed expire, after the refreshes of the same instant (R235). -/
def wdogSlices (s : Block) : List Nat → Block
  | [] => s
  | sl :: t => (if s.wdogMust sl then s.wdogExpiry sl else s).wdogSlices t

/-- An analog output below ladder stage 2 (R240): it takes its logical state, or the safe state that the ladder held back. -/
def aFollow (s : Block) (c : Nat) : Block :=
  if s.aOut c && s.driving && decide (s.g PWR.PWR_STAT.LADDER < 2) then
    if s.slState (6 + c / 16) = 0 then (s.setDch AIO.AIO_CH_VAL.VAL c (s.point (achBase c))).setDch HID.AHELD c 0
    else if s.dch HID.AHELD c = 1 then (s.setDch HID.AHELD c 0).safeAnalog c else s
  else s

/-- One channel at a slice's re-arm at tick `k` (R237). -/
def rearmOne (s : Block) (sl j k : Nat) : Block :=
  if sl < 6 then
    let c := 16 * sl + j
    if !s.isOut c then s else if s.point (dchBase c) = 0 then s.switchOff c else (s.unconduct c).rise c k
  else s.aFollow (16 * (sl - 6) + j)

/-- Every channel of a list at a re-arm. -/
def rearmAll (s : Block) (sl k : Nat) : List Nat → Block
  | [] => s
  | j :: t => (s.rearmOne sl j k).rearmAll sl k t

/-- A refresh of a slice's watchdog at boundary `k` (R235): its time starts again, and a SAFE slice may re-arm (R237). A REARM
command is used up by a refresh in RUN. -/
def refresh (s0 : Block) (sl k : Nat) : Block :=
  let s := s0.wr HID.SLAGE 0 sl 0
  if s.slState sl = 1 ∧ (s.on HID.SLRESTART 0 sl ∨ s.slRearm sl = 0 ∨
      (s.on HID.SLREARM 0 sl ∧ s.rd HID.SLREARMAT 0 sl ≤ k)) then
    let s1 := ((s.setSlState sl 0).wr HID.SLRESTART 0 sl 0).wr HID.SLREARM 0 sl 0
    (s1.rearmAll sl k (List.range 16)).fire (evRearmed sl)
  else if s.slState sl = 0 then (s.wr HID.SLRESTART 0 sl 0).wr HID.SLREARM 0 sl 0
  else s

/-- A cause of a slice's fault sets (R238). -/
def causeSet (s : Block) (sl b : Nat) : Block :=
  if (s.slCause sl).testBit b then s
  else
    let s1 := s.setSlCause sl (setBit (s.slCause sl) b)
    let s2 := if s.slState sl = 2 then s1 else ((s1.sliceSafe sl).slStop sl 2).fire (evFaultOn sl)
    s2.fireIf (b == 0 && decide (sl < 6)) (EV.DIO.FS_LOW sl)

/-- A cause clears (R238); the tick in which the last one clears is kept for R239. -/
def causeClear (s : Block) (sl b : Nat) : Block :=
  (s.setSlCause sl (clrBit (s.slCause sl) b)).wr HID.SLCLEAR 0 sl s.tick

/-- SLICE_FAULT_CAUSE_CLEAR: what has set a cause is gone. ISL clears only where a restart passes the self-test, CFG only with a
configuration (R238). -/
def causeGone (s : Block) (sl : Nat) (cause : SliceCause) : Block :=
  let b := causeBit cause
  if !(s.slCause sl).testBit b || (cause == .isl && s.g HID.RESTART == 0) || (cause == .cfg && s.on HID.UNCFG 0 0) then s
  else s.causeClear sl b

/-- A slice whose last cause has cleared leaves FAULT and enters SAFE (R239). -/
def faultExit (s : Block) (sl : Nat) : Block :=
  if s.slState sl = 2 ∧ s.slCause sl = 0 then (s.slStop sl 1).fire (evFaultOff sl) else s

/-- The same at the boundary of tick `n`, which must follow the clearing (R239). -/
def faultExitAt (s : Block) (n sl : Nat) : Block := if s.rd HID.SLCLEAR 0 sl < n then s.faultExit sl else s

/-- SLICE_CMD.REARM (R237): a session of tin 0 or tin 1 with the configure right. -/
def sliceRearm (s : Block) (r : Req) (sl : Nat) : Block × Nat :=
  if s.tin01cfg r then ((s.wr HID.SLREARM 0 sl 1).wr HID.SLREARMAT 0 sl (s.tick + 1), 0)
  else (s.refuse (slPage sl) 0x01 r (slPage sl * 4096 + if sl < 6 then 0x05C else 0x06C), 0x01)

/-- The digital channel a requester has selected on a DIO page. -/
def dioSel (s : Block) (r : Req) (d : Nat) : Nat := 16 * d + s.own DIO.DIO_CH_SEL.CH d r

/-- The owner tin and LS bit of the leaf that maps a channel's page (R193). -/
def chanOwner (s : Block) (a : Nat) : Nat := s.pageOwner 0 a
def chanLS (s : Block) (a : Nat) : Bool := s.pageLS 0 a

/-- Whether a requester passes the second check of R194 on an object of a tin, for a right. -/
def ownOk (s : Block) (r : Req) (x : Right) (owner : Nat) (ls : Bool) : Bool :=
  s.allowed (s.tinOf r) (s.holds r x) x owner true ls

/-- DIO_CH_CMD.CLR_FAULT on the selected channel (R232), whose owner the access to the register has checked (R194): a session
with the configure right; it acts at the next boundary. -/
def dioClr (s : Block) (r : Req) (d : Nat) : Block × Nat :=
  let c := s.dioSel r d
  let off := (0x050 + d) * 4096 + 0x04C
  match r with
  | .ses _ =>
    if s.holds r .configure then (s.setDch HID.DCLR c 1, 0) else (s.refuse (0x050 + d) 0x01 r off, 0x01)
  | _ => (s.refuse (0x050 + d) 0x01 r off, 0x01)

/-- The clears that waited for a boundary (R232). -/
def clrPending (s : Block) (k : Nat) : List Nat → Block
  | [] => s
  | c :: t => (if s.dch HID.DCLR c = 1 then (s.setDch HID.DCLR c 0).clearLatch c k else s).clrPending k t

/-! ### The rise governor -/

/-- The governor switches a pending output on at step `t` (R167): its drive conducts unless a fault is latched, and
the spread of its commit is noted. -/
def governOn (s : Block) (c t : Nat) : Block :=
  let s1 := if s.latched c then s.switchOff c else (s.unpend c).conduct c
  let d := s.dch HID.DCTICK c
  let steps := min 31 (t - d)
  if t ≤ d then s1
  else if d > s.g HID.SPREADTICK then (s1.p HID.SPREADTICK d).p RISE.RISE_STAT.LAST_SPREAD steps
  else if d = s.g HID.SPREADTICK then s1.p RISE.RISE_STAT.LAST_SPREAD (max steps (s.g RISE.RISE_STAT.LAST_SPREAD))
  else s1

/-- Each output of a list switches on. -/
def governAll (s : Block) (t : Nat) : List Nat → Block
  | [] => s
  | c :: l => (s.governOn c t).governAll t l

/-- The pending outputs of a group, by channel number. -/
def pendingOf (s : Block) (g : Nat) : List Nat :=
  (List.range 96).filter fun c => s.dch HID.DPEND c == 1 && s.fsGroup (c / 16) == g

/-- The outputs taken within the budget, in order, after a load (R167). -/
def takeBudget (s : Block) (budget : Nat) : Nat → List Nat → List Nat
  | _, [] => []
  | load, c :: t =>
    if load = 0 ∨ load + s.inrush c ≤ budget then c :: s.takeBudget budget (load + s.inrush c) t else []

/-- The outputs a group switches on at step `t` (R167, R168). -/
def governPick (s : Block) (g t : Nat) : List Nat :=
  let l := s.pendingOf g
  if s.fsFree g then l
  else
    let last := l.filter fun c => decide (s.dch HID.DLAST c ≤ t)
    let rest := l.filter fun c => !decide (s.dch HID.DLAST c ≤ t)
    let ord := (rest.filter fun c => s.dch DIO.DIO_CH_CFG.LS c == 1) ++ (rest.filter fun c => s.dch DIO.DIO_CH_CFG.LS c == 0)
    last ++ s.takeBudget (s.fsBudget g) ((last.map s.inrush).sum) ord

/-- One group's step at boundary `t` (R167, R168). -/
def governGroup (s : Block) (t g : Nat) : Block :=
  let l := s.governPick g t
  if l.isEmpty then s
  else
    let load := (l.map s.inrush).sum
    let f := if g = 0 then RISE.RISE_FS1.LAST else if g = 1 then RISE.RISE_FS2.LAST else RISE.RISE_FS3.LAST
    let s1 := s.p f (min load 16383)
    let s2 := if !s.fsFree g && decide (load > s.fsBudget g) then
      (s1.sat RISE.RISE_STAT.OVER 0 0 1).fire EV.RISE.BUDGET_EXCEEDED else s1
    s2.governAll t l

/-- The commits of the previous tick that still have pending outputs: each needs more than one step (R172). -/
def spreadCommits (s : Block) (t : Nat) : List Nat :=
  ((List.range 96).filterMap fun c =>
    if s.dch HID.DPEND c = 1 ∧ s.dch HID.DCTICK c + 1 = t then some (s.dch HID.DCOMMIT c) else none).eraseDups

/-- The governor at boundary `t`, after the commits (R167). -/
def govern (s : Block) (t : Nat) : Block :=
  let s1 := s.fireAll ((s.spreadCommits t).map fun _ => EV.RISE.SPREAD)
  ((s1.governGroup t 0).governGroup t 1).governGroup t 2

/-- Outputs that were pending when a restart came become pending again at the first boundary after it (R132). -/
def repend (s : Block) (k : Nat) : List Nat → Block
  | [] => s
  | c :: t =>
    (if s.dch HID.DREPEND c = 1 then
      let s1 := s.setDch HID.DREPEND c 0
      if s.isOut c && s.slState (c / 16) == 0 && s.point (dchBase c) == 1 then s1.rise c k else s1
     else s).repend k t

/-- RISE_STAT.PENDING. -/
def pendingCount (s : Block) : Nat := ((List.range 96).filter fun c => s.dch HID.DPEND c == 1).length

/-! ### The latch -/

/-- The terminal of an output as PHYS reads it: either partner's drive (R230). -/
def phys (s : Block) (c : Nat) : Bool := s.dch HID.DDRIVE c == 1 || s.dch HID.DEXT c == 1

/-- The live STATUS of a digital channel (R224). -/
def dStatus (s : Block) (c : Nat) : Nat :=
  let safe := s.slState (c / 16) != 0
  let q := if s.isOut c then true else s.isIn c && s.slState (c / 16) != 2 && s.dch HID.DWB c == 0
  let ph := if s.isOut c then s.phys c else s.isIn c && s.dch HID.DTERM c == 1
  b2n q + 2 * b2n ph + 4 * s.dch HID.DWB c + 8 * s.dch HID.DSC c + 16 * s.dch HID.DOT c + 32 * s.dch HID.DOL c +
    64 * s.dch HID.DOVL c + 128 * b2n safe + 256 * s.dch HID.DPEND c

/-- The latch of a digital channel at step 2 (R224, R226, R228, R238). -/
def latchD (s : Block) (c : Nat) : Block :=
  let s1 := s.setPoint (dchBase c + 4) (s.dStatus c)
  if s.isOut c then s1
  else if !s.isIn c then s1.setPoint (dchBase c) 0
  else if s.slState (c / 16) = 2 then s1
  else s1.setPoint (dchBase c) (if s.dch HID.DWB c = 1 then 0 else s.dch HID.DFILT c)

/-- The live STATUS of an analog channel (R224); an output that the ladder holds shows RANGE and SAFE 0 (R240). -/
def aStatus (s : Block) (c : Nat) : Nat :=
  let st := s.slState (6 + c / 16)
  let bad := s.dch HID.AWB c == 1 || s.dch HID.ASC c == 1 || s.dch HID.ARANGE c == 1
  let q := s.aOut c || (s.aIn c && s.dch HID.ACONV c == 1 && st != 2 && !bad)
  let held := s.aOut c && decide (s.g PWR.PWR_STAT.LADDER ≥ 2)
  b2n q + 4 * s.dch HID.AWB c + 8 * s.dch HID.ASC c +
    (if held then 0 else 128 * b2n (st != 0) + 512 * s.dch HID.ARANGE c)

/-- The latch of an analog channel at step 2 (R224, R249). -/
def latchA (s : Block) (c : Nat) : Block :=
  let s1 := s.setPoint (achBase c + 4) (s.aStatus c)
  if s.aOut c then s1
  else if !s.aIn c then s1.setPoint (achBase c) 0
  else if s.slState (6 + c / 16) = 2 then s1 else s1.setPoint (achBase c) (s.dch AIO.AIO_CH_VAL.VAL c)

/-- Every listed channel is latched. -/
def latchDs (s : Block) : List Nat → Block
  | [] => s
  | c :: t => (s.latchD c).latchDs t
def latchAs (s : Block) : List Nat → Block
  | [] => s
  | c :: t => (s.latchA c).latchAs t

/-- The analog outputs that follow their logical state (R240). -/
def aFollowAll (s : Block) : List Nat → Block
  | [] => s
  | c :: t => (s.aFollow c).aFollowAll t

/-! ### Analog channels -/

/-- A bit of an analog channel's status changes; setting it sets its alert and fires with EV_FAULT (R249). -/
def aBit (s : Block) (c b : Nat) (f : Fld) (v : Bool) : Block :=
  let s1 := s.setDch f c (b2n v)
  if v && s.dch f c == 0 then
    (s1.setDch AIO.AIO_CH_ALERT.ALERT c (setBit (s1.dch AIO.AIO_CH_ALERT.ALERT c) b)).fireIf
      (s.dch AIO.AIO_CH_CFG.EV_FAULT c == 1) (EV.AIO.CHANNEL (c / 16) + c % 16)
  else s1

/-- Whether a value lies within the limits of a channel (R249). -/
def aInside (s : Block) (c : Nat) (v : Int) : Bool :=
  decide (sgn 32 (s.dch AIO.AIO_LIM_LO.LIM_LO c) ≤ v) && decide (v ≤ sgn 32 (s.dch AIO.AIO_LIM_HI.LIM_HI c))

/-- A conversion of an analog input completes with a measured value; `wb` and `sc` are an open or a short sensor
(R249). The open loop of a 4-20 mA input follows from the value (R248). For a 4-20 mA output `wb` says that its load cannot take
the commanded current (R250). -/
def convert (s : Block) (c : Nat) (v : Int) (wb sc : Bool) : Block :=
  if s.aIn c then
    let m := s.dch AIO.AIO_CH_CFG.MODE c
    let cl := anClamp m v
    let s1 := s.aBit c 1 HID.AWB (if m = 2 then decide (v < 3600000) else wb && decide (m ≥ 3))
    let s2 := s1.aBit c 2 HID.ASC (sc && decide (m ≥ 3))
    let s3 := s2.aBit c 3 HID.ARANGE (decide (v < anLow m) || decide (v > anOver m))
    let was := s.dch HID.ACONV c == 0 || s.aInside c (sgn 32 (s.dch AIO.AIO_CH_VAL.VAL c))
    let s4 := (s3.setDch AIO.AIO_CH_VAL.VAL c (uns 32 cl)).setDch HID.ACONV c 1
    if was && !s.aInside c cl then
      (s4.setDch AIO.AIO_CH_ALERT.ALERT c (setBit (s4.dch AIO.AIO_CH_ALERT.ALERT c) 0)).fireIf
        (s.dch AIO.AIO_CH_CFG.EV_LIM c == 1) (EV.AIO.CHANNEL (c / 16) + c % 16)
    else s4
  else if s.dch AIO.AIO_CH_CFG.MODE c = 6 then s.aBit c 1 HID.AWB wb
  else s

/-- The commit of an analog output's VALUE (R250). -/
def commitAnalog (s : Block) (c v : Nat) : Block :=
  let m := s.dch AIO.AIO_CH_CFG.MODE c
  let cl := anClamp m (sgn 32 v)
  let s1 := (s.setPoint (achBase c) (uns 32 cl)).aBit c 3 HID.ARANGE (decide (cl ≠ sgn 32 v))
  s1.aFollow c

/-- The code with which a write to a channel page's word is refused (R224), and with which a commit fails while the
slice is in fault (R238). -/
def chanWriteCode (s : Block) (a : Nat) : Nat :=
  match dchOf a with
  | some x => if x.2 = 0 && s.isOut x.1 then 0 else 0x0D
  | none =>
    match achOf a with
    | some x => if x.2 = 0 && s.aOut x.1 then 0 else 0x0D
    | none => 0

/-- Whether a channel point's slice is in fault (R238). -/
def chanFault (s : Block) (a : Nat) : Bool :=
  match pointSlice a with
  | some sl => s.slState sl == 2
  | none => false

/-- The commit of a local point at tick `k`. -/
def commitPoint (s : Block) (a v k : Nat) : Block :=
  match dchOf a with
  | some x => s.commitDigital x.1 v k
  | none =>
    match achOf a with
    | some x => s.commitAnalog x.1 v
    | none => s.setPoint a v

/-- The commit of one bit of a point's word. -/
def commitPointBit (s : Block) (a b v k : Nat) : Block := s.commitPoint a (putBit (s.point a) b (v % 2 == 1)) k

/-! ### Configuration commits -/

/-- A digital channel's mode has been committed as `new` from `old` at tick `k` (R225). -/
def dioMode (s : Block) (c old new : Nat) : Block :=
  if old = new then s
  else
    let s1 := ((s.setDch HID.DTERM c 0).setDch HID.DFILT c 0).setDch HID.DWB c 0
    let s2 := ((s1.setDch HID.DSC c 0).setDch HID.DOT c 0).setDch HID.DOVL c 0
    ((s2.switchOff c).setPoint (dchBase c) 0).setPoint (dchBase c + 4) (clrBit (s.point (dchBase c + 4)) 0)

/-- An analog channel's mode has been committed (R225, R247). -/
def aioMode (s : Block) (c old new : Nat) : Block :=
  if old = new then s
  else
    let s1 := ((s.setDch HID.AWB c 0).setDch HID.ASC c 0).setDch HID.ARANGE c 0
    let s2 := (s1.setDch HID.ACONV c 0).setDch AIO.AIO_CH_VAL.VAL c 0
    (s2.setPoint (achBase c) 0).setPoint (achBase c + 4) (clrBit (s.point (achBase c + 4)) 0)

/-- Whether a slice has an output channel (R235). -/
def hasOutput (s : Block) (sl : Nat) : Bool :=
  (List.range 16).any fun k => if sl < 6 then s.isOut (16 * sl + k) else s.aOut (16 * (sl - 6) + k)

/-! ### The capture unit -/

/-- The FIFO of a capture channel, oldest first. -/
def capFifoOf (s : Block) (c : Nat) : List CapEnt := (s.capFifo.find c).getD []

/-- A capture channel sets one of STANDSTILL, REVERSED, QERR or OVF (R253). -/
def capEvent (s : Block) (c : Nat) : Block := (s.fire (EV.CAP.CAPTURE + c / 8)).fire (EV.DIO.CAPTURE (c / 8))

/-- An edge in timestamp mode (R242). -/
def capStamp (s : Block) (c ts : Nat) (rising : Bool) : Block :=
  let l := s.capFifoOf c
  if l.length ≥ 64 then (s.wr CAP.CAP_STAT.OVF 0 c 1).capEvent c
  else
    let s1 := { s with capFifo := s.capFifo.put c (l ++ [CapEnt.mk ts rising]) }
    s1.fireIf (l.length == 31) EV.CAP.FIFO_HALF

/-- A counted edge in direction `d` (R243 to R245). -/
def capCount (s : Block) (c ts d : Nat) : Block :=
  let st := s.rd HID.CAPST 0 c
  let same := s.rd HID.CAPDIR 0 c = d
  let period := ts - s.rd HID.CAPTE 0 c
  let s1 := (s.wr HID.CAPTE 0 c ts).wr HID.CAPDIR 0 c d
  if st = 0 then s1.wr HID.CAPST 0 c 1
  else if st = 1 then (if same then (s1.wr HID.CAPST 0 c 2).wr HID.CAPPER 0 c period else s1)
  else if !same then (if st = 2 then (s1.wr HID.CAPST 0 c 3).capEvent c else s1.wr HID.CAPST 0 c 3)
  else if st = 2 then s1.wr HID.CAPPER 0 c period
  else if st = 3 then s1.wr HID.CAPST 0 c 4
  else (s1.wr HID.CAPST 0 c 2).wr HID.CAPPER 0 c period

/-- The step a change of the lines of a quadrature channel makes (R246): +1 forward, -1 in reverse, 0 for none, none for
a change of both. Line A leads line B when the shaft turns forward. -/
def quadStep (old new : Nat) : Option Int :=
  let pos (x : Nat) : Nat := if x = 0 then 0 else if x = 1 then 1 else if x = 3 then 2 else 3
  let d := (pos new + 4 - pos old) % 4
  if d = 0 then some 0 else if d = 1 then some 1 else if d = 3 then some (-1) else none

/-- An edge of a quadrature channel to line levels `new` (bit 0 A, bit 1 B) (R243, R246). -/
def capQuad (s : Block) (c ts new : Nat) : Block :=
  let old := s.rd HID.CAPLINE 0 c
  let s1 := s.wr HID.CAPLINE 0 c new
  match quadStep old new with
  | none =>
    (s1.wr HID.CAPQERR 0 c 1).capEvent c
  | some d =>
    let s2 := s1.wr HID.CAPPOS 0 c (uns 32 (s.rd HID.CAPPOS 0 c + d))
    if old % 2 = 0 ∧ new % 2 = 1 then s2.capCount c ts (new / 2) else s2

/-- A filtered edge on a capture channel (R242, R243, R246), `cnt` units of 10 ns after the last boundary: the levels of its line
and of the next channel's after it. Channels capture while CAP.ENABLE is 1; the levels are followed always. -/
def capEdge (s : Block) (c cnt : Nat) (a b : Bool) : Block :=
  let m := s.rd CAP.CAP_CFG.MODE 0 c
  let ts := s.tick * 25000 + cnt
  if s.on HDR.PAGE_CTRL.ENABLE 0x05C 0 && m == 3 then s.capQuad c ts (b2n a + 2 * b2n b)
  else
    let s1 := s.wr HID.CAPLINE 0 c (b2n a + 2 * b2n b)
    if !s.on HDR.PAGE_CTRL.ENABLE 0x05C 0 || m == 0 then s1
    else
      let e := s.rd CAP.CAP_CFG.EDGE 0 c
      let counted := e == 2 || (e == 0 && a) || (e == 1 && !a)
      if !counted then s1 else if m = 1 then s1.capStamp c ts a else s1.capCount c ts 0

/-- Standstill is declared (R244). -/
def standstill (s : Block) (c : Nat) : Block :=
  if s.rd HID.CAPST 0 c ≥ 2 then (s.wr HID.CAPST 0 c 0).capEvent c else s.wr HID.CAPST 0 c 0

/-- Whether STILL has passed at the latch of tick `n` since the last counted edge (R244). -/
def stillPast (s : Block) (n c : Nat) : Bool :=
  decide (s.rd HID.CAPTE 0 c + 100000 * s.rd CAP.CAP_STILL.STILL 0 c ≤ n * 25000)

/-- STANDSTILL_TIMEOUT (R244): at the last latch STILL had passed. -/
def standstillAt (s : Block) (c : Nat) : Block := if s.stillPast s.tick c then s.standstill c else s

/-- The speed of a capture channel at instant `tl` (R243 to R245). -/
def capSpeed (s : Block) (c tl : Nat) : Int :=
  if s.rd HID.CAPST 0 c ≠ 2 ∨ s.rd CAP.CAP_CFG.MODE 0 c < 2 then 0
  else
    let epr := s.rd CAP.CAP_CFG.EPR 0 c
    let per (t : Nat) : Nat := if t = 0 then 2147483647 else min 2147483647 (600000000000 / (epr * t))
    let v := min (per (s.rd HID.CAPPER 0 c)) (per (tl - s.rd HID.CAPTE 0 c))
    if s.rd HID.CAPDIR 0 c = 1 then -(v : Int) else v

/-- Live CFLAGS of a capture channel (R224). -/
def capFlags (s : Block) (c : Nat) : Nat :=
  let st := s.rd HID.CAPST 0 c
  b2n (decide (st < 2)) + 2 * b2n (decide (st ≥ 3)) + 4 * s.rd HID.CAPDIR 0 c + 8 * s.rd HID.CAPQERR 0 c

/-- The latch of a capture channel at tick `n` (R224, R243, R244). A channel that captures no speed latches 0 and STANDSTILL, and
its position as it stands. -/
def latchCap (s : Block) (n c : Nat) : Block :=
  let base := dchBase (c / 8 * 16 + c % 8)
  let s0 := if s.stillPast n c then s.standstill c else s
  let s1 := (s0.setPoint (base + 8) (uns 32 (s0.capSpeed c (n * 25000)))).setPoint (base + 0xC) (s0.rd HID.CAPPOS 0 c)
  (s1.setPoint (base + 0x10) (s0.capFlags c)).wr HID.CAPQERR 0 c 0

/-- Every listed capture channel is latched. -/
def latchCaps (s : Block) (n : Nat) : List Nat → Block
  | [] => s
  | c :: t => (s.latchCap n c).latchCaps n t

/-- CAP_FIFO_L (R242): the timestamp's low word of the oldest entry. -/
def capFifoLow (s : Block) (c : Nat) : Nat := ((s.capFifoOf c).head?.map fun x => x.ts % 2 ^ 32).getD 0

/-- A read of CAP_FIFO_L (R242): the oldest entry leaves the FIFO, and CAP_FIFO_H shows its rest. -/
def capPop (s : Block) (c : Nat) : Block :=
  match s.capFifoOf c with
  | [] => ((s.wr CAP.CAP_FIFO_H.TS_H 0 c 0).wr CAP.CAP_FIFO_H.RISING 0 c 0).wr CAP.CAP_FIFO_H.VALID 0 c 0
  | x :: t =>
    let s1 := { s with capFifo := s.capFifo.put c t }
    ((s1.wr CAP.CAP_FIFO_H.TS_H 0 c (x.ts / 2 ^ 32)).wr CAP.CAP_FIFO_H.RISING 0 c (b2n x.rising)).wr CAP.CAP_FIFO_H.VALID 0 c 1

/-- A committed change of CAP_CFG starts the channel afresh, in standstill (R244), from the levels that its terminals show
(DESIGN CHOICE, assumption 140). -/
def capReset (s : Block) (c : Nat) : Block :=
  let d (k : Nat) : Nat := s.dch HID.DTERM (k / 8 * 16 + k % 8)
  let s1 := (s.standstill c).wr HID.CAPLINE 0 c (d c + if c % 2 = 0 then 2 * d (c + 1) else 0)
  ((s1.wr HID.CAPTE 0 c 0).wr HID.CAPPER 0 c 0).wr HID.CAPDIR 0 c 0

/-- The commit of CAP.PAGE_CTRL.ENABLE := 0: every channel starts afresh when it captures again. -/
def capOff (s : Block) : List Nat → Block
  | [] => s
  | c :: t => (s.capReset c).capOff t

/-- The rules of R241 on a capture channel's committing MODE, with the modes that will stand. -/
def capCode (dioModeOf capModeOf : Nat → Nat) (c : Nat) : Nat :=
  let m := capModeOf c
  let dm := dioModeOf (c / 8 * 16 + c % 8)
  if m = 0 then 0
  else if dm = 0 ∨ dm > 3 then 0x08
  else if m = 3 ∧ (c % 2 = 1 ∨ capModeOf (c + 1) ≠ 0) then 0x08
  else if c % 2 = 1 ∧ capModeOf (c - 1) = 3 then 0x08 else 0

end Block
end Sys2Proof.Machine
end

