-- ==== Sys2Proof/Machine/Loops.lean ====
section
/-!
DEFINITION. The hysteretic loops (R199 to R222): the laws, travel, minimum times, the plausibility model, fault
actions, hand-over, groups, and the rules that staging and committing loop registers follow. Loop n is entry
k = n mod 16 of page i = n / 16; a parameter-set register lies at index k + 16 * set.
-/
namespace Sys2Proof.Machine

/-- The two-position law (R205). -/
def lawTwo (dir cur : Nat) (pv lo hi : Int) : Nat :=
  if dir = 0 then (if pv < lo then 1 else if pv > hi then 0 else cur)
  else (if pv > hi then 1 else if pv < lo then 0 else cur)

/-- The output that raises the PV of a three-position loop (R206). -/
def raiseCode (dir : Nat) : Nat := if dir = 0 then 2 else 0

/-- The three-position law (R206). -/
def lawThree (dir cur : Nat) (pv sp blo bhi ret : Int) : Nat :=
  if cur = raiseCode dir then (if pv < sp - ret then raiseCode dir else 1)
  else if cur = 2 - raiseCode dir then (if pv > sp + ret then 2 - raiseCode dir else 1)
  else if pv < sp - blo then raiseCode dir
  else if pv > sp + bhi then 2 - raiseCode dir else 1

/-- The alert bits of a loop by number (R222). -/
def loopAlertBit (b : Nat) : Fld :=
  if b = 0 then LOOP.LOOP_ALERT.PLAUS_FAULT else if b = 1 then LOOP.LOOP_ALERT.HANDOVER_END
  else if b = 2 then LOOP.LOOP_ALERT.HO_TIMEOUT else if b = 3 then LOOP.LOOP_ALERT.PV_LATE
  else if b = 4 then LOOP.LOOP_ALERT.OUT_FAULT else if b = 5 then LOOP.LOOP_ALERT.OUT_LATE
  else if b = 6 then LOOP.LOOP_ALERT.AT_END else LOOP.LOOP_ALERT.SP_CLAMPED

namespace Block

/-- A value of loop `n`. -/
def lp (s : Block) (f : Fld) (n : Nat) : Nat := s.rd f (n / 16) (n % 16)

/-- Give loop `n` a value. -/
def setLp (s : Block) (f : Fld) (n v : Nat) : Block := s.wr f (n / 16) (n % 16) v

/-- A value of a parameter set of loop `n`. -/
def lpSet (s : Block) (f : Fld) (n set : Nat) : Nat := s.rd f (n / 16) (n % 16 + 16 * set)

/-- A condition that sets a bit of LOOP_ALERT fires the loop's source (R222). -/
def loopAlert (s : Block) (n b : Nat) : Block := (s.setLp (loopAlertBit b) n 1).fire (EV.LOOP.LOOP_ALERT + n)

/-- LOOP_CHG of a loop. -/
def loopChg (s : Block) (n : Nat) : Nat := s.lp LOOP.LOOP_CHG_L.CHG_L n + 2 ^ 32 * s.lp LOOP.LOOP_CHG_H.CHG_H n

/-- The address of a loop's PV, point A or point B. -/
def loopPv (s : Block) (n : Nat) : Nat := s.lp LOOP.LOOP_PV_L.PV_L n + 2 ^ 32 * s.lp LOOP.LOOP_PV_H.PV_H n
def loopOutA (s : Block) (n : Nat) : Nat := s.lp LOOP.LOOP_OUTA_L.OUTA_L n + 2 ^ 32 * s.lp LOOP.LOOP_OUTA_H.OUTA_H n
def loopOutB (s : Block) (n : Nat) : Nat := s.lp LOOP.LOOP_OUTB_L.OUTB_L n + 2 ^ 32 * s.lp LOOP.LOOP_OUTB_H.OUTB_H n

/-- Whether loop `n` acts for a tin whose write right reaches an output address, and where that address lies. -/
def loopPoint (s : Block) (n addr : Nat) : Option Nat :=
  match s.walkEnd addr (s.lp LOOP.LOOP_CFG.TIN n) true .write (s.leafFor addr s.genNow none) with
  | .ok u _ kind a _ _ _ => if s.isSelf u && kind == 0 then some a else none
  | .fault _ _ _ _ => none

/-- The output that points A and B of a loop show (R204); none while one of them is no point of this module. -/
def loopDecode (s : Block) (n : Nat) : Option Nat :=
  match s.loopPoint n (s.loopOutA n) with
  | none => none
  | some a =>
    if s.lp LOOP.LOOP_CFG.KIND n = 1 then some (if s.point a = 0 then 0 else 1)
    else
      match s.loopPoint n (s.loopOutB n) with
      | none => none
      | some b => some (if s.point a ≠ 0 ∧ s.point b = 0 then 2 else if s.point a = 0 ∧ s.point b ≠ 0 then 0 else 1)

/-- Whether a loop is a member of a group (R215). -/
def loopMember (s : Block) (n : Nat) : Bool := s.lp LOOP.LOOP_CFG.GRP_EN n != 0

/-- The members of a group, by loop number (R215). -/
def grpMembers (s : Block) (g : Nat) : List Nat :=
  (List.range 256).filter fun n =>
    s.lp LOOP.LOOP_CFG.KIND n != 0 && s.loopMember n && s.lp LOOP.LOOP_CFG.GROUP n == g

/-- Whether a loop contributes to a group with others: a group of one member behaves as that loop alone (R216). -/
def grouped (s : Block) (n : Nat) : Bool :=
  s.loopMember n && (s.grpMembers (s.lp LOOP.LOOP_CFG.GROUP n)).length != 1

/-- A loop's current output (R204): the contribution of a member, else what its points show; outputs that this
module does not hold keep what the loop last published. -/
def loopCur (s : Block) (n : Nat) : Nat :=
  if s.grouped n then s.lp LOOP.LOOP_STAT.OUT n else (s.loopDecode n).getD (s.lp LOOP.LOOP_STAT.OUT n)

/-- A change of output enters a history of the last 16 (R212). -/
def pushHist (s : Block) (key : Nat) (c : OutChg) : Block :=
  { s with loopHist := s.loopHist.put key ((c :: (s.loopHist.find key).getD []).take 16) }

/-- The state of an output at tick `t`, from its recorded changes, newest first: the newest change not after `t`, or
what preceded the oldest (R212). -/
def histAt : List OutChg → Int → Nat → Nat
  | [], _, cur => cur
  | c :: l, t, cur => if (c.tick : Int) ≤ t then c.new else histAt l t (match l with | [] => c.old | _ => cur)

/-- A loop's output (or contribution) changes with commit tick `t` (R207, R208, R212). -/
def loopChanged (s : Block) (n new t : Nat) : Block :=
  let old := s.lp LOOP.LOOP_STAT.OUT n
  let s1 := if s.grouped n then s else s.pushHist n ⟨t, old, new⟩
  let s2 := (s1.setLp LOOP.LOOP_CHG_L.CHG_L n (t % 2 ^ 32)).setLp LOOP.LOOP_CHG_H.CHG_H n (t / 2 ^ 32)
  let drives := s.lp LOOP.LOOP_CFG.KIND n = 2 ∧ new ≠ 1
  let s3 := if drives then s2.setLp HID.LOOPDRIVE n t else s2
  let s4 := if s.lp LOOP.LOOP_STAT.AT_END n = 1 ∧ drives ∧ new ≠ s.lp HID.LOOPENDDIR n then
    s3.setLp LOOP.LOOP_STAT.AT_END n 0 else s3
  s4.setLp LOOP.LOOP_STAT.OUT n new

/-- The current output as the logical state at tick `t` has it: a change that something else has committed there counts from
that tick (R204, R208). -/
def loopSync (s : Block) (n t : Nat) : Block :=
  let cur := s.loopCur n
  if s.lp HID.LOOPSEEN n = 0 then ((s.setLp HID.LOOPSEEN n 1).setLp HID.LOOPDRIVE n t).setLp LOOP.LOOP_STAT.OUT n cur
  else if cur ≠ s.lp LOOP.LOOP_STAT.OUT n then s.loopChanged n cur t else s

/-- The setpoint of a set, clamped to its limits (R211). -/
def loopSp (s : Block) (n set : Nat) : Int :=
  min (max (sgn 32 (s.lpSet LOOP.LOOP_SP.SP n set)) (sgn 32 (s.lpSet LOOP.LOOP_SP_MIN.SP_MIN n set)))
    (sgn 32 (s.lpSet LOOP.LOOP_SP_MAX.SP_MAX n set))

/-- Whether clamping changes a set's setpoint (R211). -/
def loopClamped (s : Block) (n set : Nat) : Bool := decide (s.loopSp n set ≠ sgn 32 (s.lpSet LOOP.LOOP_SP.SP n set))

/-- The law of a set before travel (R205, R206). -/
def loopRaw (s : Block) (n set cur : Nat) (pv : Int) : Nat :=
  let sp := s.loopSp n set
  let lo : Int := s.lpSet LOOP.LOOP_BAND.BAND_LO n set
  let hi : Int := s.lpSet LOOP.LOOP_BAND.BAND_HI n set
  if s.lp LOOP.LOOP_CFG.KIND n = 1 then lawTwo (s.lp LOOP.LOOP_CFG.DIR n) cur pv (sp - lo) (sp + hi)
  else lawThree (s.lp LOOP.LOOP_CFG.DIR n) cur pv sp lo hi (s.lpSet LOOP.LOOP_RET.RET n set)

/-- Whether the output has driven one way for the whole travel of a set at tick `t` (R207). -/
def loopTravelled (s : Block) (n set cur t : Nat) : Bool :=
  s.lp LOOP.LOOP_CFG.KIND n == 2 && cur != 1 && s.lpSet LOOP.LOOP_TRAVEL.TRAVEL n set != 0 &&
    !(s.lp LOOP.LOOP_STAT.AT_END n == 1 && cur == s.lp HID.LOOPENDDIR n) &&
    decide (s.lp HID.LOOPDRIVE n + 40 * s.lpSet LOOP.LOOP_TRAVEL.TRAVEL n set ≤ t)

/-- The law output of a set, and the direction whose travel end it reaches, if any (R205 to R207). -/
def loopLaw (s : Block) (n set cur t : Nat) (pv : Int) : Nat × Option Nat :=
  let tr := s.loopTravelled n set cur t
  let out := if tr then 1 else s.loopRaw n set cur pv
  let out' := if s.lp LOOP.LOOP_CFG.KIND n = 2 ∧ out ≠ 1 ∧ s.lp LOOP.LOOP_STAT.AT_END n = 1 ∧
    out = s.lp HID.LOOPENDDIR n then 1 else out
  (out', if tr then some cur else none)

/-- The travel limit is reached (R207). -/
def loopEnd (s : Block) (n : Nat) : Option Nat → Block
  | none => s
  | some d => ((s.setLp LOOP.LOOP_STAT.AT_END n 1).setLp HID.LOOPENDDIR n d).loopAlert n 6

/-- The minimum times of a set, and the stop between two directions (R208). -/
def loopGate (s : Block) (n set cur want t : Nat) : Nat :=
  if want = cur then cur
  else
    let three := s.lp LOOP.LOOP_CFG.KIND n = 2
    let w := if three ∧ cur ≠ 1 ∧ want ≠ 1 then 1 else want
    let active := if three then cur ≠ 1 else cur = 1
    let m := if active then s.lpSet LOOP.LOOP_TIMES.MIN_ON n set else s.lpSet LOOP.LOOP_TIMES.MIN_OFF n set
    if s.loopChg n + 40 * m ≤ t + 1 then w else cur

/-- The plausibility model starts afresh (R212). -/
def plausReset (s : Block) (n : Nat) : Block := (s.setLp HID.LOOPRHAT n 0).setLp HID.LOOPPREVV n 0

/-- A LOOP_CFG that has committed (R212): PLAUS_EN that becomes 1 starts the model afresh. -/
def loopCfgDone (s : Block) (n was : Nat) : Block :=
  if was = 0 ∧ s.lp LOOP.LOOP_CFG.PLAUS_EN n = 1 then s.plausReset n else s

/-- The gain of a set for an output state. -/
def loopGain (s : Block) (n set u : Nat) : Int :=
  sgn 32 (s.lpSet (if u = 0 then LOOP.LOOP_GAIN0.GAIN0 else if u = 1 then LOOP.LOOP_GAIN1.GAIN1
    else LOOP.LOOP_GAIN2.GAIN2) n set)

/-- The next rhat (R212). -/
def rhatNext (rhat g : Int) (p t : Nat) : Int :=
  if t = 0 then g else rhat + Int.tdiv ((g - rhat) * (min p t : Nat)) t

/-- The state of the output that the model takes at tick `t` (R212). -/
def loopU (s : Block) (n cur : Nat) (t : Int) : Nat :=
  if s.grouped n then
    histAt ((s.loopHist.find (256 + s.lp LOOP.LOOP_CFG.GROUP n)).getD []) t (s.rd HID.GRPLOG 0 (s.lp LOOP.LOOP_CFG.GROUP n))
  else histAt ((s.loopHist.find n).getD []) t cur

/-- A plausibility fault is raised (R213, R214). -/
def plausFault (s : Block) (n set cur : Nat) : Block :=
  let s1 := (s.setLp LOOP.LOOP_STAT.FAULT n 1).loopAlert n 0
  let fact := s1.lpSet LOOP.LOOP_PLAUS.FACT n set
  let s2 := (s1.setLp HID.LOOPFACT n fact).setLp HID.LOOPSAFE n (s1.lpSet LOOP.LOOP_PLAUS.SAFE_OUT n set)
  if fact = 2 then
    ((s2.setLp LOOP.LOOP_CTRL.CLOSED n 0).setLp LOOP.LOOP_STAT.CLOSED n 0).setLp LOOP.LOOP_CTRL.MAN_OUT n cur
  else s2

/-- The plausibility test at a sample whose PV is on time (R212, R213). -/
def plaus (s : Block) (n set cur t : Nat) (pv : Int) : Block :=
  let s1 := (s.setLp HID.LOOPPREV n (uns 32 pv)).setLp HID.LOOPPREVV n 1
  if s.lp HID.LOOPPREVV n = 0 then s1
  else
    let p := s.lp LOOP.LOOP_PERIOD.PERIOD n
    let u := s.loopU n cur ((t : Int) - 40 * s.lpSet LOOP.LOOP_DYN.DEAD n set)
    let rhat := rhatNext (sgn 64 (s.lp HID.LOOPRHAT n)) (s.loopGain n set u) p (40 * s.lpSet LOOP.LOOP_DYN.TAU n set)
    let res : Int := pv - sgn 32 (s.lp HID.LOOPPREV n) - Int.tdiv (rhat * p) 4000
    let s2 := (s1.setLp HID.LOOPRHAT n (uns 64 rhat)).setLp LOOP.LOOP_RES.RES n (uns 32 res)
    if s.lp LOOP.LOOP_STAT.FAULT n = 1 then s2
    else
      let c := if res.natAbs > s.lpSet LOOP.LOOP_PLAUS.THR n set then min 255 (s.lp LOOP.LOOP_STAT.CNT n + 1) else 0
      let s3 := s2.setLp LOOP.LOOP_STAT.CNT n c
      if c ≥ s.lpSet LOOP.LOOP_PLAUS.PERSIST n set then s3.plausFault n set cur else s3

/-- A sample while the hand-over into NORMAL is pending, with the output it publishes (R218). -/
def handover (s : Block) (n cur t : Nat) (pv : Int) : Block × Nat :=
  let x := s.loopLaw n 1 cur t pv
  let y := s.loopLaw n 0 cur t pv
  let late := decide (s.lp HID.LOOPHO n + 4000 * s.lpSet LOOP.LOOP_TRAVEL.HO_TIMEOUT n 0 ≤ t)
  if y.1 ≠ x.1 ∧ !late then (s.loopEnd n x.2, s.loopGate n 1 cur x.1 t)
  else
    let s1 := if y.1 ≠ x.1 then s.loopAlert n 2 else s
    let s2 := ((s1.setLp LOOP.LOOP_STAT.HANDOVER_PENDING n 0).setLp LOOP.LOOP_STAT.MODE n 0).loopAlert n 1
    (s2.loopEnd n y.2, s.loopGate n 0 cur y.1 t)

/-- The setpoint's clamping at a sample (R211). -/
def noteClamp (s : Block) (n set : Nat) : Block :=
  let c := s.loopClamped n set
  let s1 := s.setLp LOOP.LOOP_STAT.SP_CLAMPED n (b2n c)
  if c && s.lp LOOP.LOOP_STAT.SP_CLAMPED n == 0 then s1.loopAlert n 7 else s1

/-- The PV of a sample (R201): a late one sets its flag, its alert, and breaks the plausibility sequence. -/
def notePv (s : Block) (n : Nat) : Option Int → Block
  | none => ((s.setLp LOOP.LOOP_STAT.PV_LATE n 1).setLp HID.LOOPPREVV n 0).loopAlert n 3
  | some v => (s.setLp LOOP.LOOP_STAT.PV_LATE n 0).setLp LOOP.LOOP_PV.PV n (uns 32 v)

/-- A CLOSED loop's sample with an on-time PV, and the output it publishes (R205 to R208, R212 to R214, R218). -/
def closedSample (s : Block) (n cur t : Nat) (pv : Int) (exempt : Bool) : Block × Nat :=
  let set := s.lp LOOP.LOOP_STAT.MODE n
  let s1 := if s.lp LOOP.LOOP_CFG.PLAUS_EN n = 1 then s.plaus n set cur t pv else s
  if s1.lp LOOP.LOOP_CTRL.CLOSED n = 0 then (s1, cur)
  else if s1.lp LOOP.LOOP_STAT.FAULT n = 1 ∧ s1.lp HID.LOOPFACT n = 1 then (s1, s1.lp HID.LOOPSAFE n)
  else if s1.lp LOOP.LOOP_STAT.FAULT n = 1 ∧ s1.lp HID.LOOPFACT n = 0 then (s1, cur)
  else if s1.lp LOOP.LOOP_STAT.HANDOVER_PENDING n = 1 then s1.handover n cur t pv
  else
    let x := s1.loopLaw n set cur t pv
    (s1.loopEnd n x.2, if exempt then x.1 else s1.loopGate n set cur x.1 t)

/-- A sample of loop `n` at tick `t` with the PV it read (none: late), and the output it publishes or contributes
(R201 to R218). -/
def loopSample (s : Block) (n t : Nat) (pv : Option Int) : Block × Nat :=
  let s1 := s.loopSync n t
  let cur := s1.lp LOOP.LOOP_STAT.OUT n
  let set := s1.lp LOOP.LOOP_STAT.MODE n
  let exempt := s1.lp HID.LOOPEXEMPT n = 1
  let s2 := ((s1.setLp HID.LOOPEXEMPT n 0).noteClamp n set).notePv n pv
  if s2.lp LOOP.LOOP_CTRL.CLOSED n = 0 then (s2, s2.loopGate n set cur (s2.lp LOOP.LOOP_CTRL.MAN_OUT n) t)
  else
    match pv with
    | none => (s2, cur)
    | some v => s2.closedSample n cur t v exempt

/-- Whether loop `n` samples at tick `t` (R199, R200, R220, R221, and the stop of R438 at stage 4). -/
def loopDue (s : Block) (n t : Nat) : Bool :=
  let p := s.lp LOOP.LOOP_PERIOD.PERIOD n
  s.lp LOOP.LOOP_CFG.KIND n != 0 && p != 0 && t % p == s.lp LOOP.LOOP_PERIOD.PHASE n &&
    (s.lp LOOP.LOOP_CFG.LS n == 1 || decide (s.g PWR.PWR_STAT.LADDER < 3)) && decide (s.g PWR.PWR_STAT.LADDER < 4) &&
    s.on HDR.PAGE_CTRL.ENABLE (0x030 + n / 16) 0

/-- The mode a loop is asked for (R217). -/
def loopWant (s : Block) (n : Nat) : Nat :=
  b2n (s.lp LOOP.LOOP_CTRL.MODE_REQ n == 1 || (s.lp LOOP.LOOP_CFG.FIRE_LS n == 1 && s.on MOD.MOD_STATUS.FIRE 0 0))

/-- A pending hand-over ends without a sample (R219). -/
def handoverDrop (s : Block) (n : Nat) : Block :=
  if s.lp LOOP.LOOP_STAT.HANDOVER_PENDING n = 1 then (s.setLp LOOP.LOOP_STAT.HANDOVER_PENDING n 0).loopAlert n 1 else s

/-- Entry into MOD_FIRE makes an OPEN loop with FIRE_CLOSE CLOSED. -/
def fireClose (s : Block) (n : Nat) (entered : Bool) : Block :=
  if entered && s.lp LOOP.LOOP_CFG.FIRE_CLOSE n == 1 && s.lp LOOP.LOOP_CTRL.CLOSED n == 0 then
    ((s.setLp LOOP.LOOP_CTRL.CLOSED n 1).setLp LOOP.LOOP_STAT.CLOSED n 1).plausReset n
  else s

/-- A loop's mode at boundary `h` (R217 to R219); `init` is the first boundary after a restart. -/
def loopMode (s : Block) (n h : Nat) (init entered : Bool) : Block :=
  let s1 := (s.fireClose n entered)
  let s2 := s1.setLp LOOP.LOOP_STAT.CLOSED n (s1.lp LOOP.LOOP_CTRL.CLOSED n)
  let want := s2.loopWant n
  if init || s2.lp LOOP.LOOP_CTRL.CLOSED n == 0 then (s2.handoverDrop n).setLp LOOP.LOOP_STAT.MODE n want
  else if want = 1 then
    (if s2.lp LOOP.LOOP_STAT.HANDOVER_PENDING n = 1 then s2.handoverDrop n
     else if s2.lp LOOP.LOOP_STAT.MODE n = 0 then (s2.setLp LOOP.LOOP_STAT.MODE n 1).setLp HID.LOOPEXEMPT n 1 else s2)
  else if s2.lp LOOP.LOOP_STAT.MODE n = 1 ∧ s2.lp LOOP.LOOP_STAT.HANDOVER_PENDING n = 0 then
    (s2.setLp LOOP.LOOP_STAT.HANDOVER_PENDING n 1).setLp HID.LOOPHO n h
  else s2

/-- The modes of a list of loops. Unused loops have none. -/
def loopModeAll (s : Block) (h : Nat) (init entered : Bool) : List Nat → Block
  | [] => s
  | n :: t =>
    (if s.lp LOOP.LOOP_CFG.KIND n = 0 then s else s.loopMode n h init entered).loopModeAll h init entered t

/-- The used loops of a list take the outputs that stand in logical state at tick `h`, and show whether their setpoint is
clamped (R204, R208, R211). -/
def loopSyncs (s : Block) (h : Nat) : List Nat → Block
  | [] => s
  | n :: t =>
    (if s.lp LOOP.LOOP_CFG.KIND n = 0 then s
     else (s.loopSync n h).noteClamp n (s.lp LOOP.LOOP_STAT.MODE n)).loopSyncs h t

/-- A group's output in logical state is `new` from tick `t` on (R212). -/
def grpLogical (s : Block) (g t new : Nat) : Block :=
  if new = s.rd HID.GRPLOG 0 g then s
  else (s.pushHist (256 + g) ⟨t, s.rd HID.GRPLOG 0 g, new⟩).wr HID.GRPLOG 0 g new

/-- The groups that have members (R215). -/
def grpsUsed (s : Block) : List Nat :=
  (((List.range 256).filter fun n => s.lp LOOP.LOOP_CFG.KIND n != 0 && s.loopMember n).map
    fun n => s.lp LOOP.LOOP_CFG.GROUP n).eraseDups

/-- What the outputs in logical state of a list of groups have become at tick `t`, as their leads' points show them, also
after a write from outside (R212, R215). -/
def grpSyncs (s : Block) (t : Nat) : List Nat → Block
  | [] => s
  | g :: l =>
    (match (s.grpMembers g).head? with
     | none => s
     | some n => s.grpLogical g t ((s.loopDecode n).getD (s.rd HID.GRPLOG 0 g))).grpSyncs t l

/-- The loops at step 1 of tick `h`, after the commits and the MOD_FIRE update (R204, R217 to R219). -/
def loopBoundary (s0 : Block) (h : Nat) : Block :=
  let s := (s0.loopSyncs h (List.range 256)).grpSyncs h s0.grpsUsed
  let init := s.on HID.LOOPINIT 0 0
  let fire := s.on MOD.MOD_STATUS.FIRE 0 0
  let s1 := s.loopModeAll h init (fire && !s.on HID.LOOPFIRE 0 0 && !init) (List.range 256)
  (s1.wr HID.LOOPINIT 0 0 0).wr HID.LOOPFIRE 0 0 (b2n fire)

/-- The group output: the lowest contribution (R215). -/
def grpOut (s : Block) (l : List Nat) : Nat := (l.map fun n => s.lp LOOP.LOOP_STAT.OUT n).foldl min 2

/-- GRP_STAT of a group (R215): its output, its lead, the lowest member that gives the output, and the number of members. -/
def grpWord (s : Block) (g : Nat) : Nat :=
  let l := s.grpMembers g
  let o := s.grpOut l
  if l.isEmpty then 0
  else o + 2 ^ 8 * l.headD 0 + 2 ^ 16 * (l.find? fun n => s.lp LOOP.LOOP_STAT.OUT n == o).getD 0 + 2 ^ 24 * min l.length 31

/-- A member's contribution at tick `t` (R215, R208): a change counts from the next boundary. -/
def contribute (s : Block) (n out t : Nat) : Block :=
  if out = s.lp LOOP.LOOP_STAT.OUT n then s else s.loopChanged n out (t + 1)

/-- A loop output batch has committed at tick `t`: a loop that published takes what its points now show, and a group
notes its output in logical state (R204, R208, R212). -/
def loopCommitted (s : Block) (n t sent : Nat) : Block :=
  let new := (s.loopDecode n).getD sent
  if s.grouped n then
    s.grpLogical (s.lp LOOP.LOOP_CFG.GROUP n) t new
  else if new = s.lp LOOP.LOOP_STAT.OUT n then s else s.loopChanged n new t

/-- LOOP_CMD.FAULT_CLR on a loop (R214). -/
def loopFaultClr (s : Block) (n : Nat) : Block := (s.setLp LOOP.LOOP_STAT.FAULT n 0).setLp LOOP.LOOP_STAT.CNT n 0

/-- The class rule of R221 on LOOP_CTRL and LOOP_CMD: a session on a class LS loop must be bound to tin 0 or tin 1. -/
def loopClassCode (s : Block) (r : Req) (n : Nat) : Nat :=
  match r with
  | .ses _ => if s.lp LOOP.LOOP_CFG.LS n = 1 ∧ s.tinOf r ≠ 0 ∧ s.tinOf r ≠ 1 then 0x01 else 0
  | _ => 0

/-- A write of LOOP_CMD (R214, R221): `clr` is FAULT_CLR. -/
def loopCmd (s : Block) (r : Req) (page : Nat) (clr : Bool) : Block × Nat :=
  let n := 16 * page + s.own LOOP.LOOP_SEL.LOOP page r
  let c := s.loopClassCode r n
  if c = 0 then (if clr then s.loopFaultClr n else s, 0) else (s.refuse (0x030 + page) c r (0x030068 + 0x1000 * page), c)

/-- Whether a register offset within a LOOP page holds coefficients throughout (R210). -/
def loopCoefReg (o : Nat) : Bool := (decide (0x048 ≤ o) && decide (o ≤ 0x060)) || (decide (0x070 ≤ o) && decide (o ≤ 0x098))

/-- The bits of LOOP_CFG that are coefficients (R210). -/
def loopCfgCoef : Nat := 0x00FF1F8F

/-- Whether a value changes a coefficient of a loop (R210). -/
def loopCoef (o old new : Nat) : Bool :=
  loopCoefReg o || (o == 0x044 && decide (Nat.land old loopCfgCoef ≠ Nat.land new loopCfgCoef))

/-- Whether a register of a LOOP page needs a session of tin 0 with the configure right (R199). -/
def loopNeedsCfg (o : Nat) : Bool := o == 0x044 || loopCoefReg o

/-- The entries of a batch that write a register of loop `n`: offset and value. -/
def loopEntries (l : List Entry) (n : Nat) : List (Nat × Nat) :=
  l.filterMap fun e =>
    match e.tgt with
    | .reg off sel => if off / 4096 = 0x030 + n / 16 ∧ sel % 16 = n % 16 then some (off % 4096, e.val) else none
    | _ => none

/-- The code a staging of a LOOP register fails with before it is added (R199, R209, R210, R221); `held` is what the
requester's tagged batch already holds, `old` the register's committed value. -/
def loopStageCode (s : Block) (r : Req) (n o old new : Nat) (held : List Entry) : Nat :=
  if loopNeedsCfg o && !s.tin0cfg r then 0x01
  else if o = 0x064 ∧ s.loopClassCode r n ≠ 0 then 0x01
  else if o = 0x064 ∧ bits new 5 4 = 2 ∧ s.lp LOOP.LOOP_CFG.KIND n = 1 then 0x08
  else if loopCoef o old new && s.lp LOOP.LOOP_CTRL.CLOSED n == 1 &&
      !((loopEntries held n).any fun x => x.1 == 0x064 && !x.2.testBit 0) then 0x09
  else 0

/-- The members a group would have after changes `cfg` (loop, LOOP_CFG value) (R216). -/
def grpAfter (cfg : Nat → Nat) (g : Nat) : List Nat :=
  (List.range 256).filter fun n => bits (cfg n) 1 0 != 0 && (cfg n).testBit 7 && bits (cfg n) 12 8 == g

/-- Whether a group keeps R216 under configurations `cfg`. -/
def grpOk (cfg : Nat → Nat) (g : Nat) : Bool :=
  let l := grpAfter cfg g
  decide (l.length ≤ 16) &&
    l.all fun a => l.all fun b =>
      bits (cfg a) 1 0 == bits (cfg b) 1 0 && (cfg a).testBit 3 == (cfg b).testBit 3 && bits (cfg a) 23 16 == bits (cfg b) 23 16

/-- Whether an output address reaches a class LS point (R199). -/
def outLS (s : Block) (addr : Nat) : Bool :=
  match s.leafFor addr s.genNow none with
  | .leaf _ l _ => leafLS l
  | _ => false

/-- The validation of a committing LOOP_CFG, with the addresses that will stand (R199). -/
def loopCfgCode (s : Block) (cfg pv outA outB : Nat) : Nat :=
  let tin := bits cfg 23 16
  let ok (x : Right) (a : Nat) : Bool :=
    match s.walkEnd a tin true x (s.leafFor a s.genNow none) with | .ok .. => true | .fault .. => false
  if !ok .read pv || !ok .write outA || (bits cfg 1 0 == 2 && !ok .write outB) then 0x05
  else if !cfg.testBit 3 && (s.outLS outA || (bits cfg 1 0 == 2 && s.outLS outB)) then 0x01
  else if s.tinActive tin then 0 else 0x08

/-- The validation of a loop's parameter set as it would stand (R206, R211, R214). -/
def loopSetCode (kind spMin spMax band plausReg ret : Nat) : Nat :=
  if ret > bits band 15 0 ∨ ret > bits band 31 16 then 0x08
  else if sgn 32 spMin > sgn 32 spMax then 0x08
  else if kind = 1 ∧ bits plausReg 29 28 = 2 then 0x08 else 0

end Block
end Sys2Proof.Machine
end

