-- ==== Sys2Proof/Config.lean ====
section
/-!
DEFINITION. What the spec leaves open: free values, as constants without a body, applied to a serial number that the
state counts (`HID.SERIALNO`) so that each use has a value of its own, and the constants of an implementation that the
spec does not give. Nothing can be proved of their values.
-/
namespace Sys2Proof.Config

/-- Engine cycles of an issue that ends in a fault (R94 gives none) (assumption 20). -/
opaque faultCycles : Nat → Nat

/-- Engine cycles that an instruction waited for an answer or a credit (causes 2 and 3 of R96), by a serial number
(assumption 31). -/
opaque waitCycles : Nat → Nat

/-- The value of a history point that is read (R22 and R89 give none; what history holds is the client's record)
(assumption 21). -/
opaque history : Nat → Nat

/-- The end of a module's history (R175 refuses an address beyond it and gives no size) (assumption 115). -/
opaque historySize : Nat

/-- What a word of a module's history shows, where it is one of the records that R127 and R142 write there: a record of the
release log or, where `true`, an item copied to history; which one, counted from the newest; and which word of it. R143
gives sessions a reading of release records and no place for it (assumption 115). -/
opaque historyWhat : Nat → Option (Bool × Nat × Nat)

/-- offsetScaledLogVariance of this module's clock, which R337 does not give (assumption 22). -/
opaque ptpVariance : Nat

/-- An octet that the vault draws in secret: generated keys, nonces, ephemeral keys (R390, R397), by a serial number and the
octet's place (assumption 23). -/
opaque secret : Nat → Nat → Nat

/-- An octet of SHA-384 of an octet string, which FIPS 180-4 defines (assumption 23). -/
opaque sha384 : List Nat → Nat → Nat

/-- An octet of HMAC-SHA-384 of an octet string under a key (assumption 23). -/
opaque hmac384 : List Nat → List Nat → Nat → Nat

/-- An octet of the x-coordinate of the P-384 ECDH of a secret and a public key (assumption 23). -/
opaque ecdhX : List Nat → List Nat → Nat → Nat

/-- An octet of the P-384 public key of a secret (assumption 23). -/
opaque pubPoint : List Nat → Nat → Nat

/-- An octet of an ECDSA P-384 signature of an octet string by a private key, by a serial number (assumption 23). -/
opaque ecdsaSign : List Nat → List Nat → Nat → Nat → Nat

/-- An octet of the 384-bit root in the fuses: the test root or the production root (R376) (assumption 23). -/
opaque root : Bool → Nat → Nat

/-- A word of the image-signing key in the starter ROM that belongs to a root (R378) (assumption 23). -/
opaque romKey : Bool → Nat → Nat

/-- An octet of the device certificate (R384, R389) (assumption 25). -/
opaque certOct : Nat → Nat

/-- A word of a vault output that no rule gives in words: output words of signatures, blobs and public keys. -/
opaque cryptoWord : Nat → List Nat → Nat → Nat

/-- The session ID that HELLO_ACK assigns (R388 gives no rule for it), by a serial number (assumption 25). -/
opaque sessionId : Nat → Nat

/-- Octets of the device certificate with its padding (R389 gives at most 1,024) (assumption 25). -/
opaque certLen : Nat

/-- A word that the spec leaves open, by a serial number: what REC_W reads while a record is being fetched
(assumption 26). -/
opaque freeWord : Nat → Nat

/-- The digest of the loop engine's state, given as numbers; R362 gives no layout for that state (assumption 27). -/
opaque loopDigest : List Nat → Nat

/-- Whether the board temperature shown, in 0.1 °C, is its mean rounded up where the mean has a fraction of a tenth (R435
gives no rounding), by the sum of the samples and their number (assumption 37). -/
opaque meanUp : Int → Nat → Bool

/-- By how much, modulo 701 Hz, the sweep of tone pattern 4 stands above 500 Hz in each of its 12,000 blocks but the first (R261
gives its ends and its time, not its course) (assumption 143). -/
opaque sweepRise : Nat → Nat

/-- The arc of a line's impedance in 0.1°, 12 bits in two's complement, from the four demodulated sums (R265 gives it as a real
number) (assumption 145). -/
opaque arcZ : Int → Int → Int → Int → Nat

/-- The gain k of the coil integrator for SIG and I_N, in 2^-32 pA per nV (R277 says how k is set, a real number) (assumption
147). -/
opaque coilGain : Nat → Nat → Nat

/-- A current signal with the phase correction CI_PHASE, in 0.001°, applied (R292); a correction of 0 changes nothing
(assumption 147). -/
opaque phaseShift : List Int → Int → List Int

/-- A voltage signal shifted by 90° at a frequency in mHz (R279) (assumption 147). -/
opaque quarterTurn : List Int → Nat → List Int

/-- The frequency, in mHz, that a frame shows for a voltage set without a present phase, by the frame's number (R282 names none)
(assumption 149). -/
opaque freqNone : Nat → Nat

/-- The power factor, in per mille, of a phase without apparent power, by the frame's number (assumption 149). -/
opaque pfNone : Nat → Int

end Sys2Proof.Config
end

