-- ==== Sys2Proof/Machine/Audio.lean ====
section
/-!
DEFINITION. Voice alarm: sources, players, receivers, transmitters, zones and line supervision (R254 to R273). Zone z is
entry z mod 4 of page z / 4. Waveforms are not held; what each zone plays, and where each player stands, is.
-/
namespace Sys2Proof.Machine

/-- The registers REQ0 to REQ7 of a zone page. -/
def reqSrc (p : Nat) : Fld :=
  if p = 0 then ZONE.REQ0.SRC else if p = 1 then ZONE.REQ1.SRC else if p = 2 then ZONE.REQ2.SRC
  else if p = 3 then ZONE.REQ3.SRC else if p = 4 then ZONE.REQ4.SRC else if p = 5 then ZONE.REQ5.SRC
  else if p = 6 then ZONE.REQ6.SRC else ZONE.REQ7.SRC
def reqValid (p : Nat) : Fld :=
  if p = 0 then ZONE.REQ0.VALID else if p = 1 then ZONE.REQ1.VALID else if p = 2 then ZONE.REQ2.VALID
  else if p = 3 then ZONE.REQ3.VALID else if p = 4 then ZONE.REQ4.VALID else if p = 5 then ZONE.REQ5.VALID
  else if p = 6 then ZONE.REQ6.VALID else ZONE.REQ7.VALID
def reqAtten (p : Nat) : Fld :=
  if p = 0 then ZONE.REQ0.ATTEN else if p = 1 then ZONE.REQ1.ATTEN else if p = 2 then ZONE.REQ2.ATTEN
  else if p = 3 then ZONE.REQ3.ATTEN else if p = 4 then ZONE.REQ4.ATTEN else if p = 5 then ZONE.REQ5.ATTEN
  else if p = 6 then ZONE.REQ6.ATTEN else ZONE.REQ7.ATTEN

/-- Where a player stands within its message or gap: state, samples, repeats left (0 without end), gap samples left. -/
structure MpPos where
  st : Nat
  pos : Nat
  rep : Nat
  left : Nat
deriving DecidableEq, Repr

/-- A player's next sample (R260): within the message, then the gap, then the next repeat, or idle. -/
def MpPos.next (len gap : Nat) (x : MpPos) : MpPos :=
  if x.st = 1 then
    if x.pos + 1 < len then { x with pos := x.pos + 1 }
    else if x.rep = 1 then { x with st := 0, pos := 0, rep := 0 }
    else if gap = 0 then { x with pos := 0, rep := x.rep - 1 }
    else { x with st := 2, pos := 0, rep := x.rep - 1, left := gap }
  else if x.st = 2 then
    if x.left ≤ 1 then { x with st := 1, left := 0 } else { x with left := x.left - 1 }
  else x

/-- A number of samples later. -/
def MpPos.steps (len gap : Nat) : Nat → MpPos → MpPos
  | 0, x => x
  | n + 1, x => MpPos.steps len gap n (x.next len gap)

/-- The class of a supervision window (R266): 0 OK, 1 AMP_FAIL, 2 SHORT, 3 OPEN, 4 DRIFT. Voltage in mV, impedances in
0.1 ohm. -/
def lineClass (vp mag zref drift : Nat) : Nat :=
  if vp < 5000 then 1
  else if mag < 40 ∨ (zref ≠ 0 ∧ mag * 10 < zref) then 2
  else if mag > 200000 ∨ (zref ≠ 0 ∧ mag > 10 * zref) then 3
  else if zref ≠ 0 ∧ (mag * 100 < zref * (100 - drift) ∨ mag * 100 > zref * (100 + drift)) then 4
  else 0

/-- The square root of `n`, truncated, from its `b` binary places down; `r` is what the places above give. -/
def rootOf (n : Nat) : Nat → Nat → Nat
  | 0, r => r
  | b + 1, r => rootOf n b (if (r + 2 ^ b) ^ 2 ≤ n then r + 2 ^ b else r)

/-- The magnitudes of a supervision window (R265): pilot voltage in mV, pilot current in 10 uA, |z| in 0.1 ohm, each truncated,
from the demodulated sums: `v2` and `i2` are the squares of their magnitudes, of line samples in uV and of shunt samples in nV.
Without current |z| is beyond every limit. -/
def supVolt (vdiv v2 : Nat) : Nat := rootOf (vdiv ^ 2 * v2 / (288 * 10 ^ 12)) 96 0
def supAmp (rsh i2 : Nat) : Nat := rootOf (i2 / (288 * 10 ^ 8 * rsh ^ 2)) 96 0
def supMag (vdiv rsh v2 i2 : Nat) : Nat := if i2 = 0 then 2 ^ 32 else rootOf (100 * vdiv ^ 2 * rsh ^ 2 * v2 / i2) 96 0

/-- The frequency, in Hz, that a pattern sounds in block `b` after its beginning, 0 for silence (R261): a second is 4,000 blocks.
The course of the sweep between its ends is free (assumption 143). -/
def toneHz (p b : Nat) : Nat :=
  if p = 1 then 1000
  else if p = 2 then (if b % 4000 < 2000 then 1000 else 0)
  else if p = 3 then (if b % 16000 < 12000 ∧ b % 4000 < 2000 then 1000 else 0)
  else if p = 4 then (if b % 12000 = 0 then 500 else 500 + Config.sweepRise (b % 12000) % 701)
  else if p = 5 then (if b % 2000 < 1000 then 800 else 970)
  else 0

namespace Block

/-- A source of the audio island fires; in the autonomous state the firing waits for the router to run again (R270). -/
def fireAud (s : Block) (n : Nat) : Block :=
  if s.on AUD.AUD_STAT.AUTONOMOUS 0 0 then s.sat HID.AUDEV 0 n 1 else s.fire n

/-- The firings of a source that have waited. -/
def fireTimes (s : Block) (n : Nat) : Nat → Block
  | 0 => s
  | k + 1 => (s.fire n).fireTimes n k

/-- The firings of the autonomous state are delivered (R270). -/
def audDeliver (s : Block) : List Nat → Block
  | [] => s
  | n :: t => ((s.fireTimes n (s.rd HID.AUDEV 0 n)).wr HID.AUDEV 0 n 0).audDeliver t

/-- A value of zone `z`. -/
def zn (s : Block) (f : Fld) (z : Nat) : Nat := s.rd f (z / 4) (z % 4)
def setZn (s : Block) (f : Fld) (z v : Nat) : Block := s.wr f (z / 4) (z % 4) v

/-- The word of request slot `p` of a zone. -/
def reqWord (s : Block) (z p : Nat) : Nat := s.zn (reqSrc p) z + 32 * s.zn (reqValid p) z + 256 * s.zn (reqAtten p) z

/-- Write a request slot's register. -/
def setReq (s : Block) (z p w : Nat) : Block :=
  ((s.setZn (reqSrc p) z (w % 32)).setZn (reqValid p) z (bitN w 5)).setZn (reqAtten p) z (bits w 14 8)

/-- Queue a change of the audio for a block. -/
def audPush (s : Block) (b : Nat) (w : AudWhat) : Block := { s with audQ := s.audQ ++ [⟨b, w⟩] }

/-- A message, when it is usable (R259). -/
def msgLen (s : Block) (m : Nat) : Option Nat :=
  match s.msgs.find m with
  | some x => if x.usable then some x.len else none
  | none => none

/-- Whether a player plays. -/
def mpOn (s : Block) (k : Nat) : Bool := s.rd HID.MPST 0 k != 0

/-- Start a player at its message's first sample (R260). -/
def mpStart (s : Block) (k msg rep gap : Nat) (fire : Bool) : Block :=
  match s.msgLen msg with
  | none => s
  | some _ =>
    let s1 := ((s.wr HID.MPST 0 k 1).wr HID.MPMSG 0 k msg).wr HID.MPREP 0 k rep
    let s2 := ((s1.wr HID.MPGAP 0 k gap).wr HID.MPLEFT 0 k 0).wr HID.MPPOS 0 k 0
    if k = 0 then s2.p HID.FIREMP0 (b2n fire) else s2

/-- Stop a player. -/
def mpStop (s : Block) (k : Nat) : Block :=
  let s1 := (s.wr HID.MPST 0 k 0).wr HID.MPPOS 0 k 0
  if k = 0 then s1.p HID.FIREMP0 0 else s1

/-- Where a player stands after `n` samples more. -/
def mpAfter (s : Block) (k n : Nat) : MpPos :=
  MpPos.steps ((s.msgLen (s.rd HID.MPMSG 0 k)).getD 0) (480 * s.rd HID.MPGAP 0 k) n
    ⟨s.rd HID.MPST 0 k, s.rd HID.MPPOS 0 k, s.rd HID.MPREP 0 k, s.rd HID.MPLEFT 0 k⟩

/-- Whether a START of a player takes effect at block `n`. -/
def mpDue (s : Block) (n k : Nat) : Bool :=
  s.audQ.any fun c => decide (c.at_ ≤ n) && match c.what with | .start m _ _ _ _ => m == k | _ => false

/-- Whether a player ends naturally in the block before block `n` (R260): a START that takes effect in the block in which the
message ends wins. A message whose last sample is the last of a block ends with the beginning of the next (assumption 142). -/
def mpEnds (s : Block) (n k : Nat) : Bool :=
  s.mpOn k && (s.mpAfter k 12).st == 0 && (!s.mpDue n k || (s.mpAfter k 11).st == 0)

/-- A player plays the block of 12 samples before block `n`; its natural end fires PLAYER_END (R260). -/
def mpAdvance (s : Block) (n k : Nat) : Block :=
  if !s.mpOn k then s
  else if s.mpEnds n k then (s.mpStop k).fireAud EV.AUD.PLAYER_END
  else
    let y := s.mpAfter k 12
    (((s.wr HID.MPST 0 k y.st).wr HID.MPPOS 0 k y.pos).wr HID.MPREP 0 k y.rep).wr HID.MPLEFT 0 k y.left

/-- PLAYER_END (R260): a player whose last repeat ends in the block now playing becomes idle. -/
def playerEnd (s : Block) (k : Nat) : Block :=
  if s.mpEnds (s.g HID.AUDBLK + 1) k then (s.mpStop k).fireAud EV.AUD.PLAYER_END else s

/-- The players of a list play the block before block `n`. -/
def mpAll (s : Block) (n : Nat) : List Nat → Block
  | [] => s
  | k :: t => (s.mpAdvance n k).mpAll n t

/-- The tone generators of a list sound their next block (R261). -/
def toneAll (s : Block) : List Nat → Block
  | [] => s
  | k :: t =>
    ((s.wr HID.TGHZ 0 k (toneHz (s.rd HID.TGPAT 0 k) (s.rd HID.TGBLOCK 0 k))).wrap HID.TGBLOCK 0 k 1).toneAll t

/-- A zone has been cut (R268, R271). -/
def zoneCut (s : Block) (z : Nat) : Block := s.setZn ZONE.ZONE_ALERT.CUT z 1

/-- The zones of a list that play REQ3 to REQ7 are cut (R268). -/
def cutAll (s : Block) : List Nat → Block
  | [] => s
  | z :: t =>
    (if s.zn ZONE.ZONE_STAT.SILENT z = 0 ∧ s.zn ZONE.ZONE_STAT.PRIO z ≥ 3 then s.zoneCut z else s).cutAll t

/-- A change of the audio takes effect. -/
def audApply (s : Block) : AudWhat → Block
  | .req z p w => s.wr HID.REQF z p w
  | .start k m r g f => s.mpStart k m r g f
  | .stop k => s.mpStop k
  | .stopFire => if s.on HID.FIREMP0 0 0 && s.mpOn 0 then s.mpStop 0 else s
  | .tone k p => (s.wr HID.TGPAT 0 k p).wr HID.TGBLOCK 0 k 0
  | .ignore b => (if b && !s.on HID.AUDIGN 0 0 then s.cutAll (List.range 16) else s).p HID.AUDIGN (b2n b)

/-- Every due change takes effect, in order. -/
def audApplyAll (s : Block) (n : Nat) : List AudChg → Block
  | [] => s
  | c :: t => (if c.at_ ≤ n then s.audApply c.what else s).audApplyAll n t

/-- Whether a source is active (R257). -/
def srcActive (s : Block) (x : Nat) : Bool :=
  if x < 4 then !s.on AUD.SRC_STAT.OPEN 0 x
  else if x < 8 then s.mpOn (x - 4)
  else if x < 12 then s.rd HID.TGPAT 0 (x - 8) != 0
  else s.on AUD.SRC_CFG.RX_EN 0 x && !s.on AUD.SRC_STAT.LOST 0 x && !s.on AUD.AUD_STAT.AUTONOMOUS 0 0

/-- Whether slot `p` of a zone may play (R257, R268 to R270). -/
def slotPlays (s : Block) (z p : Nat) : Bool :=
  let w := s.rd HID.REQF z p
  w.testBit 5 && s.srcActive (w % 32) && (decide (p < 3) || !s.on HID.AUDIGN 0 0) &&
    (!s.on AUD.AUD_STAT.AUTONOMOUS 0 0 || (p == 0 && decide (4 ≤ w % 32) && decide (w % 32 < 12)))

/-- Whether a zone may output at all: its page, the mute of R269, and a partner that drives (R353). -/
def zoneOn (s : Block) (z : Nat) : Bool :=
  s.on HDR.PAGE_CTRL.ENABLE (0x061 + z / 4) 0 && !s.on HID.AUDMUTE 0 0 && s.driving

/-- What a zone plays in a block, and the fade over 12 samples where its source changes (R257). -/
def zonePick (s0 : Block) (z : Nat) : Block :=
  let old := if s0.zn ZONE.ZONE_STAT.SILENT z = 1 then 32 else s0.zn ZONE.ZONE_STAT.SRC z
  let new := match (if s0.zoneOn z then (List.range 8).find? fun p => s0.slotPlays z p else none) with
    | none => 32
    | some p => s0.rd HID.REQF z p % 32
  let s := s0.wr HID.ZFADE 0 z (if old = new then 0 else old + 1)
  match (if s.zoneOn z then (List.range 8).find? fun p => s.slotPlays z p else none) with
  | none => ((s.setZn ZONE.ZONE_STAT.PRIO z 0).setZn ZONE.ZONE_STAT.SRC z 0).setZn ZONE.ZONE_STAT.SILENT z 1
  | some p => ((s.setZn ZONE.ZONE_STAT.PRIO z p).setZn ZONE.ZONE_STAT.SRC z (s.rd HID.REQF z p % 32)).setZn
      ZONE.ZONE_STAT.SILENT z 0

/-- What each listed zone plays. -/
def zoneAll (s : Block) : List Nat → Block
  | [] => s
  | z :: t => (s.zonePick z).zoneAll t

/-- A ring receiver at boundary `n`: its block of tick n - 3 is on time or late (R264). -/
def rxStep (s : Block) (n x : Nat) : Block :=
  if !s.on AUD.SRC_CFG.RX_EN 0 x ∨ n < 3 then (s.wr HID.RXLATE 0 x 0).wr HID.RXOK 0 x 0
  else if s.audRx.contains (s.rd AUD.SRC_CFG.CHANNEL 0 x, n - 3) then
    let s1 := s.wr HID.RXLATE 0 x 0
    if s.on AUD.SRC_STAT.LOST 0 x then
      (if s.rd HID.RXOK 0 x ≥ 3 then (s1.wr HID.RXOK 0 x 0).wr AUD.SRC_STAT.LOST 0 x 0
       else s1.wr HID.RXOK 0 x (s.rd HID.RXOK 0 x + 1))
    else s1
  else
    let s1 := (s.sat AUD.AUD_COUNT.RX_LATE 0 0 1).wr HID.RXOK 0 x 0
    if s.on AUD.SRC_STAT.LOST 0 x then s1
    else if s.rd HID.RXLATE 0 x ≥ 3 then
      ((s1.wr HID.RXLATE 0 x 0).wr AUD.SRC_STAT.LOST 0 x 1).fire EV.AUD.RING_RX_LOST
    else s1.wr HID.RXLATE 0 x (s.rd HID.RXLATE 0 x + 1)

/-- Every listed receiver. -/
def rxAll (s : Block) (n : Nat) : List Nat → Block
  | [] => s
  | x :: t => (s.rxStep n x).rxAll n t

/-- A block of a ring audio channel arrives (R264); a late one is discarded. -/
def ringAudio (s : Block) (ch t : Nat) : Block :=
  if s.tick < t + 3 && !s.on AUD.AUD_STAT.AUTONOMOUS 0 0 then { s with audRx := (ch, t) :: s.audRx } else s


/-- Whether the module's audio slots are class LS. -/
def audioLS (s : Block) : Bool :=
  (List.range 16).any fun k => s.rd RCTL.SLOT_CFG.KIND 0 k == 3 && s.on RCTL.SLOT_CFG.LS 0 k

/-- A transmitter's block of tick `t` (R264): it spends a credit and waits for the ring MAC, or is not produced. -/
def txStep (s : Block) (t x : Nat) : Block :=
  if !s.on AUD.TX_CFG.EN 0 x then s
  else
    let c := s.rd AUD.RING_Q_CREDIT.CREDITS 0 x
    if c = 0 then (s.sat AUD.AUD_COUNT.TX_SKIP 0 0 1).fire EV.AUD.TX_SKIP
    else
      let f : TxFrame := ⟨.audio x (s.rd AUD.TX_CFG.CHANNEL 0 x) t, 0xFF, 0, s.audioLS, 0⟩
      { (s.wr AUD.RING_Q_CREDIT.CREDITS 0 x (c - 1)).fireIf (c == 1) EV.AUD.RING_Q_EMPTY with txQ := s.txQ ++ [f] }

/-- Every listed transmitter. -/
def txAll (s : Block) (b : Nat) : List Nat → Block
  | [] => s
  | x :: t => (s.txStep b x).txAll b t

/-- The audio island at block boundary `n` (R256, R257, R260, R261, R264). -/
def audioBlock (s : Block) (n : Nat) : Block :=
  let s1 := (s.p HID.AUDBLK n).mpAll n (List.range 4)
  let s2 := { s1.audApplyAll n s1.audQ with audQ := s1.audQ.filter fun c => !decide (c.at_ ≤ n) }
  let s3 := if s2.on AUD.AUD_STAT.AUTONOMOUS 0 0 then s2
    else (s2.rxAll n ((List.range 20).map fun k => 12 + k)).txAll (n - 1) (List.range 8)
  let s4 := { s3 with audRx := s3.audRx.filter fun x => decide (n < x.2 + 3) }
  (s4.toneAll (List.range 4)).zoneAll (List.range 16)

/-- Committed changes at tick `k` (R256, R260, R261). -/
def commitReq (s : Block) (z p w k : Nat) : Block :=
  let s1 := (s.setReq z p w).audPush (k + 3) (.req z p (Nat.land w 0x7F3F))
  let s2 := if p = 1 then s1.wr HID.FIREREQ1 0 z 0 else s1
  if p = 0 then s2.wr HID.AUDPROMO 0 z 0 else s2
def commitMp (s : Block) (src w k : Nat) : Block :=
  let s1 := ((s.wr AUD.MP_CTRL.MSG 0 src (bits w 7 0)).wr AUD.MP_CTRL.REPEAT 0 src (bits w 15 8)).wr AUD.MP_CTRL.GAP 0 src
    (bits w 23 16)
  if w.testBit 24 then s1.audPush (k + 3) (.start (src - 4) (bits w 7 0) (bits w 15 8) (bits w 23 16) false)
  else if w.testBit 25 then s1.audPush (k + 3) (.stop (src - 4)) else s1
def commitTone (s : Block) (src p k : Nat) : Block :=
  if s.rd AUD.SRC_CFG.TG_PATTERN 0 src = p then s
  else (s.wr AUD.SRC_CFG.TG_PATTERN 0 src p).audPush (k + 3) (.tone (src - 8) p)

/-- The validation of a committing MP_CTRL (R260), 0 when it passes; START and STOP in two entries of a batch fail in
`mpFail`. -/
def mpCode (s : Block) (w : Nat) : Nat :=
  if w.testBit 24 && w.testBit 25 then 0x08
  else if w.testBit 24 && (s.msgLen (bits w 7 0)).isNone then 0x08 else 0

/-- Messages are copied into audio memory, each checked: one that fails is unusable and fires MSG_FAIL (R259). -/
def msgPut (s : Block) : List (Nat × MsgInfo) → Block
  | [] => s
  | (k, m) :: t => (({ s with msgs := s.msgs.put k m }).fireIf (!m.usable) EV.AUD.MSG_FAIL).msgPut t

/-- The copy of a message set into audio memory, at a start and at each RELOAD (R259); a set larger than the memory is refused
whole. -/
def msgCopy (s : Block) (set : List (Nat × MsgInfo)) : Block :=
  if (set.map fun m => m.2.len).sum > 86400000 then s else
  let s1 := ({ s with msgs := [] }).msgPut set
  s1.p AUD.AUD_STAT.MSG_OK ((s1.msgs.filter fun m => m.2.usable).length)

/-- MSG_CMD.RELOAD (R258, R259): the set that flash holds replaces the one in audio memory. -/
def msgReload (s : Block) (r : Req) (set : List (Nat × MsgInfo)) : Block × Nat :=
  let off := 0x06006C
  if !s.holds r .configure then (s.refuse 0x060 0x01 r off, 0x01)
  else if (List.range 4).any s.mpOn then (s.refuse 0x060 0x0A r off, 0x0A)
  else if (set.map fun m => m.2.len).sum > 86400000 then (s.refuse 0x060 0x08 r off, 0x08)
  else (s.msgCopy set, 0)

/-- Talkback supervision (R263); a partner that is not driving has its phantom supply off (R353). -/
def tbOpen (s : Block) (t : Nat) : Block :=
  if s.on AUD.SRC_CFG.PHANTOM 0 t && s.driving && !s.on AUD.SRC_STAT.OPEN 0 t then (s.wr AUD.SRC_STAT.OPEN 0 t 1).fireAud EV.AUD.TB_OPEN else s
def tbClear (s : Block) (t : Nat) : Block := s.wr AUD.SRC_STAT.OPEN 0 t 0

/-! ### Line supervision -/

/-- Whether a zone is supervised (R265). -/
def zoneSup (s : Block) (z : Nat) : Bool :=
  s.on HDR.PAGE_CTRL.ENABLE (0x061 + z / 4) 0 && s.zn ZONE.ZONE_CFG.PILOT_EN z == 1

/-- A line state is declared (R266, R273). -/
def declareLine (s : Block) (z c : Nat) : Block :=
  let s1 := s.setZn ZONE.ZONE_STAT.LINE z c
  let b := 3 * (z % 4)
  if c = 1 then (s1.setZn ZONE.ZONE_ALERT.AMP_FAIL z 1).fireAud (EV.ZONE.AMP_FAIL (z / 4) + b)
  else if c = 2 then (s1.setZn ZONE.ZONE_ALERT.SHORT z 1).fireAud (EV.ZONE.LINE_FAULT (z / 4) + b)
  else if c = 3 then (s1.setZn ZONE.ZONE_ALERT.OPEN z 1).fireAud (EV.ZONE.LINE_FAULT (z / 4) + b)
  else if c = 4 then (s1.setZn ZONE.ZONE_ALERT.DRIFT z 1).fireAud (EV.ZONE.DRIFT (z / 4) + b)
  else s1

/-- A window's class against the declared state (R266): a fault after 2 windows that agree, OK after 4. -/
def classify (s : Block) (z c : Nat) : Block :=
  let n := if s.zn HID.ZCLASS z = c then min 7 (s.zn HID.ZCOUNT z + 1) else 1
  let s1 := (s.setZn HID.ZCLASS z c).setZn HID.ZCOUNT z n
  if s.zn ZONE.ZONE_STAT.LINE z = c then s1
  else if (c ≠ 0 ∧ n ≥ 2) ∨ (c = 0 ∧ n ≥ 4) then s1.declareLine z c else s1

/-- A window of a commissioning (R267). -/
def commission (s : Block) (z mag : Nat) (ph : Int) : Block :=
  let n := s.zn HID.COMMLEFT z
  if n = 0 then s
  else
    let m := s.zn HID.COMMSUM z + mag
    let q : Int := sgn 32 (s.zn HID.COMMPH z) + ph
    if n = 1 then
      let s1 := ((s.setZn HID.COMMLEFT z 0).setZn HID.COMMSUM z 0).setZn HID.COMMPH z 0
      ((s1.setZn ZONE.ZREF.ZREF z (m / 8)).setZn ZONE.ZREF.ZREF_PH z (uns 12 (Int.tdiv q 8))).setZn ZONE.ZONE_ALERT.COMM_DONE z 1
    else ((s.setZn HID.COMMLEFT z (n - 1)).setZn HID.COMMSUM z m).setZn HID.COMMPH z (uns 32 q)

/-- A supervision window with its demodulated sums (R265, R266), which ends at a block whose number is a multiple of 1,000, once
for each zone. The arc of z is free (assumption 145). -/
def supWindow (s0 : Block) (z : Nat) (vc vs ic is : Int) : Block :=
  let n := s0.g HID.AUDBLK
  if !s0.zoneSup z || n % 1000 != 0 || s0.rd HID.ZWIN 0 z == n + 1 then s0
  else
    let s := s0.wr HID.ZWIN 0 z (n + 1)
    let v2 := (vc ^ 2 + vs ^ 2).toNat
    let i2 := (ic ^ 2 + is ^ 2).toNat
    let vp := supVolt (s.zn ZONE.ZONE_CFG.VDIV z) v2
    let ip := supAmp (s.zn ZONE.ZONE_CFG.RSH z) i2
    let mag := supMag (s.zn ZONE.ZONE_CFG.VDIV z) (s.zn ZONE.ZONE_CFG.RSH z) v2 i2
    let ph := sgn 12 (Config.arcZ vc vs ic is)
    let mg := min mag 0xFFFFF
    let s1 := (s.setZn ZONE.Z_MAG.MAG z mg).setZn ZONE.Z_MAG.PHASE z (uns 12 ph)
    let s2 := (s1.setZn ZONE.ZONE_PILOT.V_PILOT z (min vp 65535)).setZn ZONE.ZONE_PILOT.I_PILOT z (min ip 65535)
    let s3 := s2.classify z (lineClass vp mag (s.zn ZONE.ZREF.ZREF z) (s.zn ZONE.ZONE_CFG.DRIFT z))
    s3.commission z mg ph

/-- An insulation measurement in kohm (R266). -/
def earthMeasure (s : Block) (z kohm : Nat) : Block :=
  if s.zn ZONE.ZONE_CFG.EARTH_EN z = 0 ∨ !s.on HDR.PAGE_CTRL.ENABLE (0x061 + z / 4) 0 then s
  else
    let s1 := s.setZn ZONE.ZONE_INSUL.INSUL z (min kohm 65535)
    let lo := if kohm < 50 then min 2 (s.zn HID.ZEARTHLO z + 1) else 0
    let hi := if kohm ≥ 100 then min 4 (s.zn HID.ZEARTHHI z + 1) else 0
    let s2 := (s1.setZn HID.ZEARTHLO z lo).setZn HID.ZEARTHHI z hi
    if s.zn ZONE.ZONE_STAT.EARTH z = 0 ∧ lo = 2 then
      ((s2.setZn ZONE.ZONE_STAT.EARTH z 1).setZn ZONE.ZONE_ALERT.EARTH z 1).fireAud (EV.ZONE.LINE_FAULT (z / 4) + 3 * (z % 4))
    else if s.zn ZONE.ZONE_STAT.EARTH z = 1 ∧ hi = 4 then s2.setZn ZONE.ZONE_STAT.EARTH z 0 else s2

/-- ZONE_STAT.LINE as it reads (R265, and the ENABLE remark of the ZONE pages). -/
def zoneLine (s : Block) (z : Nat) : Nat :=
  if !s.on HDR.PAGE_CTRL.ENABLE (0x061 + z / 4) 0 then 6
  else if s.zn ZONE.ZONE_CFG.PILOT_EN z = 0 then 5 else s.zn ZONE.ZONE_STAT.LINE z

/-- ZONE_CMD.COMMISSION on the requester's selected zone (R258, R267). -/
def zoneCommission (s : Block) (r : Req) (page : Nat) : Block × Nat :=
  let z := 4 * page + s.own ZONE.ZONE_SEL.ENTRY page r
  let off := (0x061 + page) * 4096 + 0x07C
  if !s.holds r .configure then (s.refuse (0x061 + page) 0x01 r off, 0x01)
  else if (1 ≤ s.zoneLine z ∧ s.zoneLine z ≤ 3) ∨ s.zn HID.COMMLEFT z ≠ 0 then (s.refuse (0x061 + page) 0x0A r off, 0x0A)
  else (((s.setZn HID.COMMLEFT z 8).setZn HID.COMMSUM z 0).setZn HID.COMMPH z 0, 0)

/-! ### Fire, the ladder, and playing on alone -/

/-- The zones with FIRE_EN. -/
def fireZones (s : Block) : List Nat := (List.range 16).filter fun z => s.zn ZONE.ZONE_CFG.FIRE_EN z == 1

/-- The fire preset writes REQ1 of each listed zone at boundary `h` (R268): SRC 4, VALID, ATTEN 0. -/
def fireReq1 (s : Block) (h : Nat) : List Nat → Block
  | [] => s
  | z :: t => (((s.setReq z 1 0x24).audPush (h + 3) (.req z 1 0x24)).wr HID.FIREREQ1 0 z 1).fireReq1 h t

/-- Whether REQ3 to REQ7 are to be ignored: in MOD_FIRE, and from ladder stage 3 (R268, R269). -/
def audIgnoreWant (s : Block) : Bool := s.on MOD.MOD_STATUS.FIRE 0 0 || decide (s.g PWR.PWR_STAT.LADDER ≥ 3)

/-- What the zones ignore follows MOD_FIRE and the ladder, from block h + 3. -/
def audIgnore (s : Block) (h : Nat) : Block :=
  if s.audIgnoreWant = s.on HID.AUDIGNW 0 0 then s
  else (s.p HID.AUDIGNW (b2n s.audIgnoreWant)).audPush (h + 3) (.ignore s.audIgnoreWant)

/-- Entry into MOD_FIRE at boundary `h` (R268). A START of MP0 committed at `h` yields to the preset. -/
def audFireEnter (s : Block) (h : Nat) : Block :=
  if !s.on AUD.AUD_FIRE.EN 0 0 then s
  else
    let q := s.audQ.filter fun c =>
      !(c.at_ == h + 3 && match c.what with | .start m _ _ _ _ => m == 0 | .stop m => m == 0 | _ => false)
    let s1 := { s with audQ := q }.audPush (h + 3) (.start 0 (s.g AUD.AUD_FIRE.MSG) 0 0 true)
    s1.fireReq1 h s.fireZones

/-- Each listed zone loses the REQ1 that entry wrote, and a promoted REQ0 (R268, R271). -/
def fireClear (s : Block) (h : Nat) : List Nat → Block
  | [] => s
  | z :: t =>
    let s1 := if s.on HID.FIREREQ1 0 z then
      ((s.setReq z 1 0).audPush (h + 3) (.req z 1 0)).wr HID.FIREREQ1 0 z 0 else s
    (if s1.on HID.AUDPROMO 0 z then
      ((s1.setReq z 0 0).audPush (h + 3) (.req z 0 0)).wr HID.AUDPROMO 0 z 0 else s1).fireClear h t

/-- MOD_FIRE is left at boundary `h` (R268). -/
def audFireLeave (s : Block) (h : Nat) : Block :=
  (s.fireClear h (List.range 16)).audPush (h + 3) .stopFire

/-- Zones note whether they play something other than REQ0, and the players that feed it (R271). -/
def noteCuts (s : Block) : List Nat → Block
  | [] => s
  | z :: t =>
    let cut := s.zn ZONE.ZONE_STAT.SILENT z == 0 && s.zn ZONE.ZONE_STAT.PRIO z != 0
    let src := s.zn ZONE.ZONE_STAT.SRC z
    let s1 := s.wr HID.AUDCUT 0 z (b2n cut)
    (if cut && decide (4 ≤ src) && decide (src < 8) then s1.wr HID.AUDCUTMP 0 (src - 4) 1 else s1).noteCuts t

/-- The FIRE_EN zones whose REQ0 in force holds no message or tone are promoted to MP0 (R270). -/
def promoteAll (s : Block) : List Nat → Block
  | [] => s
  | z :: t =>
    let w := s.rd HID.REQF z 0
    (if w.testBit 5 && decide (4 ≤ w % 32) && decide (w % 32 < 12) then s
     else (((s.wr HID.REQF z 0 0x24).setReq z 0 0x24).wr HID.AUDPROMO 0 z 1).p HID.AUDPROMOF 1).promoteAll t

/-- The audio island enters the autonomous state (R270). -/
def audAlone (s : Block) : Block :=
  if s.on AUD.AUD_STAT.AUTONOMOUS 0 0 then s
  else
    let s1 := (s.noteCuts (List.range 16)).p AUD.AUD_STAT.AUTONOMOUS 1
    let s2 :=
      if s1.on MOD.MOD_STATUS.FIRE 0 0 && s1.on AUD.AUD_FIRE.EN 0 0 then
        let q := s1.promoteAll s1.fireZones
        if q.on HID.AUDPROMOF 0 0 && !(q.mpOn 0 && q.rd HID.MPMSG 0 0 == q.g AUD.AUD_FIRE.MSG) then
          q.mpStart 0 (q.g AUD.AUD_FIRE.MSG) 0 0 true else q
      else s1
    s2.zoneAll (List.range 16)

/-- A zone at the exit (R271): a REQ0 that plays stays, every other slot takes its register's value. -/
def zoneBack (s : Block) (z : Nat) (keep : Bool) : List Nat → Block
  | [] => s
  | p :: t =>
    (if p = 0 ∧ keep then s.setReq z 0 (s.rd HID.REQF z 0) else s.wr HID.REQF z p (s.reqWord z p)).zoneBack z keep t

/-- Whether a zone's REQ0 in force plays a message or a tone (R271). -/
def req0Plays (s : Block) (z : Nat) : Bool :=
  let w := s.rd HID.REQF z 0
  w.testBit 5 && decide (4 ≤ w % 32) && decide (w % 32 < 12) && s.srcActive (w % 32)

/-- The requests in force of each listed zone after a reload (R132, R271): a REQ0 that plays a message or a tone stays, and one
that was promoted; every other slot takes its register's value. -/
def zonesLoad (s : Block) : List Nat → Block
  | [] => s
  | z :: t => (s.zoneBack z (s.req0Plays z || s.on HID.AUDPROMO 0 z) (List.range 8)).zonesLoad t

/-- The tone generators that feed no such REQ0 take their register's pattern. -/
def tonesLoad (s : Block) (fed : List Nat) : List Nat → Block
  | [] => s
  | k :: t =>
    let p := s.rd AUD.SRC_CFG.TG_PATTERN 0 (8 + k)
    (if fed.contains (4 + k) || s.rd HID.TGPAT 0 k == p then s else (s.wr HID.TGPAT 0 k p).wr HID.TGBLOCK 0 k 0).tonesLoad fed t

/-- The players and tone generators, 0 to 7, that feed a REQ0 that plays. -/
def fedSrcs (s : Block) : List Nat :=
  (List.range 16).filterMap fun z => if s.req0Plays z then some (s.rd HID.REQF z 0 % 32 - 4) else none

/-- The router and the zones take the reloaded configuration (R132). -/
def audReload (s : Block) : Block := (s.tonesLoad s.fedSrcs (List.range 4)).zonesLoad (List.range 16)

/-- Each listed zone that was cut shows it at the exit (R271). -/
def cutsShown (s : Block) : List Nat → Block
  | [] => s
  | z :: t => ((if s.on HID.AUDCUT 0 z then s.zoneCut z else s).wr HID.AUDCUT 0 z 0).cutsShown t

/-- The players that fed a cut request, and no REQ0 that stays, are idle after the exit (R271). -/
def mpIdle (s : Block) (fed : List Nat) : List Nat → Block
  | [] => s
  | k :: t =>
    ((if s.on HID.AUDCUTMP 0 k && !fed.contains k then s.mpStop k else s).wr HID.AUDCUTMP 0 k 0).mpIdle fed t

/-- The audio island leaves the autonomous state at a boundary (R271), and what has waited for the router is delivered. -/
def audBack (s : Block) : Block :=
  if !s.on AUD.AUD_STAT.AUTONOMOUS 0 0 ∨ s.g PWR.PWR_STAT.LADDER = 4 then s
  else
    let cut := (List.range 16).any fun z => s.on HID.AUDCUT 0 z
    let s1 := ((s.mpIdle s.fedSrcs (List.range 4)).audReload.cutsShown (List.range 16)).p AUD.AUD_STAT.AUTONOMOUS 0
    let s2 := ((s1.fire EV.AUD.AUTONOMOUS_ON).fireIf (s.on HID.AUDPROMOF 0 0) EV.AUD.AUTO_PROMOTE).p HID.AUDPROMOF 0
    (((s2.audDeliver ((List.range 64).map fun k => 800 + k)).fire EV.AUD.AUTONOMOUS_OFF).fireIf cut EV.AUD.ANNOUNCE_CUT).p
      HID.AUDMUTE 0

/-- AUDIO_AUTONOMOUS_ENTER (R270): 8 ticks of the island's own clock have passed without heartbeat or tick announcement; its
clock may be ahead of the grid's. -/
def audEnter (s : Block) : Block := if s.g HID.AUDMISS ≥ 7 then s.audAlone else s

/-- AUDIO_AUTONOMOUS_EXIT (R271): heartbeats and announcements are back since the last boundary at the latest. -/
def audExit (s : Block) : Block := if s.g HID.AUDMISS = 0 then s.audBack else s

/-- The next block of the audio island (R256, R270, R271): block `n` of the grid, or in the autonomous state the next of its own
clock. `heard` says that the supervisor's heartbeat and the tick's announcement came: after 8 blocks without them the island
goes on alone, and at the first with them it comes back. -/
def audStep (s : Block) (n : Nat) (heard : Bool) : Block :=
  let s1 := if heard then (s.p HID.AUDMISS 0).audBack else s.sat HID.AUDMISS 0 0 1
  let s2 := if s1.g HID.AUDMISS ≥ 8 then s1.audAlone else s1
  s2.audioBlock (if s2.on AUD.AUD_STAT.AUTONOMOUS 0 0 then s2.g HID.AUDBLK + 1 else n)

/-- A block without a tick's announcement: the island's own clock makes it (R9, R270). -/
def audioOwnBlock (s : Block) : Block := s.audStep (s.g HID.AUDBLK + 1) false

/-- The temperature mute of the stage 4 autonomous state (R269), by the island's own sensor in 0.1 °C: from 125 °C on, until
120 °C. -/
def audMute (s : Block) (temp : Int) : Block :=
  if s.on AUD.AUD_STAT.AUTONOMOUS 0 0 ∧ s.g PWR.PWR_STAT.LADDER = 4 then
    (if temp ≥ 1250 then (s.p HID.AUDMUTE 1).zoneAll (List.range 16)
     else if temp ≤ 1200 then (s.p HID.AUDMUTE 0).zoneAll (List.range 16) else s)
  else s

/-- The staging rules of a request slot (R258, R268), 0 when it passes. -/
def reqStageCode (s : Block) (p w : Nat) : Nat :=
  if p < 3 ∧ bits w 14 8 > 24 then 0x08
  else if p ≥ 3 ∧ s.on MOD.MOD_STATUS.FIRE 0 0 then 0x0A else 0

end Block
end Sys2Proof.Machine
end

