-- ==== Sys2Proof/Machine/Network.lean ====
section
/-!
DEFINITION. The networks: statistics counters (R299, R300), frames on the ring and the pair link (R301 to R306), the
timing master and its tokens (R307 to R311), breaks, healing and degraded links (R312 to R315), the fire frames
(R316, R317), the receive buffer (R318), the floor segments (R324 to R331) and the service port (R332 to R334).
Ring port 0 is east, 1 is west; port 2 is the pair link. Traffic of other nodes that the module only passes on has no
effect on it but in its counters and in the fields a node adds to.
-/
namespace Sys2Proof.Machine

/-- The counters page of a port: VALUE, HALF, the page index and the source of STAT_HALF (R299). -/
def statFld : NetPort → Fld × Fld × Nat × Nat
  | .ring p => (RING.STAT_VAL.VALUE, RING.STAT_HALF.HALF, p.val, EV.RING.STAT_HALF p.val)
  | .seg g => (SEG.STAT_VAL.VALUE, SEG.STAT_HALF.HALF, g.val, EV.SEG.STAT_HALF g.val)
  | .svc => (SVC.STAT_VAL.VALUE, SVC.STAT_HALF.HALF, 0, EV.SVC.STAT_HALF)
  | .pair => (PAIR.STAT_VAL.VALUE, PAIR.STAT_HALF.HALF, 0, EV.PAIR.STAT_HALF)

/-- The port of a frame header's port number. -/
def netPort (p : Fin 3) : NetPort := if h : p.val < 2 then .ring ⟨p.val, h⟩ else .pair

/-- The type code of a frame (R303). -/
def TxBody.type : TxBody → Nat
  | .token _ _ _ _ _ => 0x01
  | .asyncToken _ => 0x02
  | .image _ _ => 0x03
  | .audio _ _ _ => 0x04
  | .commit _ _ _ _ _ _ => 0x05
  | .fire _ _ => 0x06
  | .request _ _ _ _ _ _ _ => 0x07
  | .response _ _ _ => 0x08
  | .stage _ _ _ _ _ _ => 0x09
  | .stageAns _ _ _ => 0x0A
  | .alarm _ _ _ => 0x0B
  | .link _ _ => 0x0C
  | .lease _ _ _ _ _ _ => 0x0D
  | .place _ _ _ _ _ _ _ => 0x0D
  | .xfer _ _ _ _ _ => 0x0E
  | .session _ _ _ _ => 0x10
  | .ptp _ _ _ => 0x88F7
  | .poll _ _ _ => 0x20

/-- The payload octets of a frame (R303, R368). -/
def TxBody.len : TxBody → Nat
  | .token _ _ _ _ _ => 20
  | .asyncToken _ => 8
  | .image _ runs => 8 + (runs.map fun r => 8 + 4 * r.2.length).sum
  | .audio _ _ _ => 44
  | .commit _ _ _ _ _ parts => 16 + (parts.length + 3) / 4 * 4
  | .fire _ ids => 8 + ids.length
  | .request _ _ _ _ _ _ _ => 16
  | .response _ _ _ => 8
  | .stage _ _ _ _ _ _ => 16
  | .stageAns _ _ _ => 4
  | .alarm _ _ _ => 4
  | .link _ _ => 4
  | .lease _ _ _ _ _ _ => 18
  | .place _ _ _ _ _ _ _ => 18
  | .xfer kind _ _ _ items =>
    16 + (if kind = 4 then 66 * (items.length / 17) else if kind = 2 then 16 * (items.length / 3) else 4 * items.length)
  | .session kind _ _ data =>
    if kind = 2 then 12 + data.length
    else if kind = 4 then 36 else if kind = 5 then 32 + 16 * (data.length / 3) else if kind = 6 then 32 else 16
  | .ptp kind _ _ => if kind = 1 then 40 else 20
  | .poll _ _ bl => (bl.map fun b => 4 + 4 * b.2.length).sum

/-- Whether a frame of a type and class is an express frame (R303). -/
def expressType (type : Nat) (ls : Bool) : Bool :=
  match type with
  | 0x01 => true | 0x02 => true | 0x04 => true | 0x05 => true | 0x06 => true | 0x0C => true | 0x0D => true
  | 0x88F7 => true
  | 0x0E => false
  | 0x10 => false
  | _ => ls

/-- Whether a frame of a type and class may go onto a degraded link (R315). -/
def degradedType (type : Nat) (ls : Bool) : Bool := ls || type == 0x01 || type == 0x02 || type == 0x0C

/-- Words 0 to 3 of a frame's Unzan header (R302); VERSION is 1. -/
def headWords (type : Nat) (ls dir both pos : Bool) (src dst srcEpoch dstEpoch seq hops : Nat) : List Nat :=
  [type % 256 + 2 ^ 8 * b2n ls + 2 ^ 9 * b2n dir + 2 ^ 10 * b2n both + 2 ^ 11 * b2n pos + 2 ^ 12 + 2 ^ 16 * src + 2 ^ 24 * dst,
    srcEpoch, dstEpoch, seq + 2 ^ 16 * hops]

namespace TxFrame

/-- The octets of a frame on the wire, without preamble and gap: 14 of Ethernet, 24 of header (8 in a segment frame), the
payload and the FCS, at least 64 (R302, R324). -/
def octets (f : TxFrame) : Nat := max 64 ((if f.body.type = 0x20 then 26 else 42) + f.body.len)

/-- Whether a frame is an AUDIO frame, which goes in an audio slot (R303). -/
def isAudio (f : TxFrame) : Bool := f.body.type == 0x04

/-- Whether a frame is an IMAGE frame, which goes in an image slot of its class (R303, R308). -/
def isImage (f : TxFrame) : Bool := f.body.type == 0x03

/-- Whether a frame goes in a slot of its own. -/
def slotted (f : TxFrame) : Bool := f.isAudio || f.isImage

/-- Whether a frame is an express frame (R303). -/
def express (f : TxFrame) : Bool := expressType f.body.type f.ls

/-- Whether a frame may go onto a degraded link (R315). -/
def degradedOk (f : TxFrame) : Bool := degradedType f.body.type f.ls

end TxFrame

namespace Block

/-- A counter of a port (R299). -/
def statVal (s : Block) (p : NetPort) (k : Nat) : Nat := s.rd (statFld p).1 (statFld p).2.2.1 k

/-- Whether a counter applies to a port (R300); one that does not reads 0 (R299). -/
def statApplies (p : NetPort) (k : Nat) : Bool :=
  match p with
  | .ring _ => k < 28
  | .svc => k < 12 || k == 14 || k == 19 || k == 20 || (25 ≤ k && k ≤ 27) || k == 31
  | .seg _ => k < 12 || k == 14 || k == 19 || k == 20 || (28 ≤ k && k ≤ 30)
  | .pair => k < 12 || k == 14 || k == 19 || k == 20

/-- Add `n` to counter `k` of a port: it wraps, and bit 31 going from 0 to 1 sets its HALF bit and fires STAT_HALF
(R299). -/
def stat (s : Block) (p : NetPort) (k n : Nat) : Block :=
  if !statApplies p k then s else
  let f := statFld p
  let old := s.rd f.1 f.2.2.1 k
  let s1 := s.wr f.1 f.2.2.1 k (old + n)
  if !old.testBit 31 && (old + n).testBit 31 then (s1.orBit f.2.1 f.2.2.1 0 k).fire f.2.2.2 else s1

/-- The number of the counters page a port has among all ports, for the octet remainders. -/
def statPage : NetPort → Nat
  | .ring p => p.val
  | .pair => 2
  | .svc => 3
  | .seg g => 4 + g.val

/-- Count octets in a counter in units of 64 octets (R300). -/
def statOct (s : Block) (p : NetPort) (k n : Nat) : Block :=
  let r := s.rd HID.STATREM (statPage p) k + n
  (s.wr HID.STATREM (statPage p) k (r % 64)).stat p k (r / 64)

/-- The counter of a good frame's length (R300). -/
def sizeBin (n : Nat) : Nat :=
  if n ≤ 64 then 2 else if n ≤ 127 then 3 else if n ≤ 255 then 4 else if n ≤ 511 then 5 else if n ≤ 1023 then 6 else 7

/-- Count a good frame received (R300). -/
def rxCount (s : Block) (p : NetPort) (octets : Nat) (express : Bool) : Block :=
  let s1 := ((s.stat p 0 1).statOct p 1 octets).stat p (sizeBin octets) 1
  match p with
  | .ring _ => if express then s1.stat p 12 1 else s1
  | _ => s1

/-- Whether a port carries frames: enabled and linked (R320). -/
def portUp (s : Block) (p : Fin 3) : Bool :=
  if p.val < 2 then s.on HDR.PAGE_CTRL.ENABLE (0x080 + p.val) 0 && s.on RING.PORT_STAT.LINK p.val 0
  else s.on PAIR.PAIR_STAT.LINK 0 0

/-- The node's own module ID. -/
def selfId (s : Block) : Nat := s.g MOD.MOD_ID.MODULE_ID

/-- Whether the module takes frames for its module ID: single, or the active partner (R301). -/
def takesUnicast (s : Block) : Bool := s.g PAIR.PAIR_STAT.ROLE == 0 || s.g PAIR.PAIR_STAT.ROLE == 1

/-- Microseconds of grid time at offset `us` in the current tick. -/
def nowUs (s : Block) (us : Nat) : Nat := 250 * s.tick + us

/-! ### Sending -/

/-- A frame of a header leaves by a port, counted (R300, R302); one with BOTH = 1 wakes a protection direction that is in
LPI, which enters LPI again after it (R312). -/
def onWire (s : Block) (p : Fin 3) (head : List Nat) (octets : Nat) (express both : Bool) : Block :=
  let s1 := (({ s with wire := s.wire ++ [⟨p, head, octets⟩] } : Block).stat (netPort p) 19 1).statOct (netPort p) 20 octets
  let s2 := if p.val < 2 && express then s1.stat (netPort p) 21 1 else s1
  if p.val = 1 ∧ both ∧ s.on RING.PORT_STAT.LPI_TX 1 0 = true then s2.stat (netPort p) 25 1 else s2

/-- The Unzan header of a frame that this node sends by a port (R302); a PTP frame has none. -/
def header (s : Block) (f : TxFrame) (p : Fin 3) (both : Bool) : List Nat :=
  if f.body.type ≥ 256 then []
  else headWords f.body.type f.ls (p.val == 1) both (s.on MOD.MOD_ID.POSITION 0 0) s.selfId f.dst
    (if s.g PAIR.PAIR_STAT.ROLE = 0 then 0 else s.g PAIR.PAIR_EPOCH.EPOCH) (f.dstEpoch % 2 ^ 32)
    (s.rd HID.TXSEQ 0 f.body.type) 0 ++ [f.body.len, s.tick % 2 ^ 32]

/-- A frame leaves by one port, or, when it is class N and the link degraded, is discarded and counted (R300, R315). -/
def txPort (s : Block) (f : TxFrame) (both : Bool) (p : Fin 3) : Block :=
  if !s.portUp p then s
  else if p.val < 2 && s.on RING.PORT_STAT.DEGRADED p.val 0 && !f.degradedOk then s.stat (netPort p) 16 1
  else s.onWire p (s.header f p both) f.octets f.express both

/-- The ports a frame leaves by: while STEERING every ring frame goes in both directions (R313). -/
def txPorts (s : Block) (f : TxFrame) : List (Fin 3) :=
  match f.way with
  | 0 => if s.g RCTL.RCTL_STAT.STATE = 2 then [0, 1] else [0]
  | 1 => [0, 1]
  | 2 => [0]
  | 3 => [1]
  | 4 => [2]
  | 5 => [2, 0, 1]
  | _ => []

/-- A frame leaves by each of several ports. -/
def txOver (s : Block) (f : TxFrame) (both : Bool) : List (Fin 3) → Block
  | [] => s
  | p :: t => (s.txPort f both p).txOver f both t

/-- The module sends a frame: it is counted and stands among the frames sent in this tick. A node that has seen its
own ID and position elsewhere sends only LINK frames (R317). -/
def send (s : Block) (f : TxFrame) : Block :=
  if s.on HID.DUPSEEN 0 0 && f.body.type != 0x0C then s
  else
    let s1 := s.txOver f (decide (((s.txPorts f).filter fun p => decide (p.val < 2)).length > 1)) (s.txPorts f)
    { (s1.wrap HID.TXSEQ 0 f.body.type 1) with sent := s1.sent ++ [f] }

/-- Several frames. -/
def sendAll (s : Block) : List TxFrame → Block
  | [] => s
  | f :: t => (s.send f).sendAll t

/-- A frame is queued for its phase of the cycle (R306, R310, R311, R319). -/
def queue (s : Block) (f : TxFrame) : Block := { s with txQ := s.txQ ++ [f] }

/-- Octets that a port carries in a microsecond: 3,125 at 25.78125 GBd and 1,250 at 10.3125 GBd (R308). -/
def octPerUs (s : Block) : Nat := if s.rd RING.PORT_STAT.RATE 0 0 = 1 then 1250 else 3125

/-- The frames of a list that fit into `n` octets of wire time, each costing its length plus 20 octets, from the
front; and the rest (R308, R310, R311). -/
def fitOctets (n : Nat) : List TxFrame → List TxFrame × List TxFrame
  | [] => ([], [])
  | f :: t =>
    if f.octets + 20 ≤ n then
      let r := fitOctets (n - (f.octets + 20)) t
      (f :: r.1, r.2)
    else ([], f :: t)

/-- The queue's frames of one class and kind, in the order queued. -/
def pick (s : Block) (p : TxFrame → Bool) : List TxFrame := s.txQ.filter p

/-- The transmitters of frames that the MAC has taken get their credits back (R11, R264). -/
def audioTaken (s : Block) : List TxFrame → Block
  | [] => s
  | f :: t =>
    (match f.body with
     | .audio x _ _ => s.wr AUD.RING_Q_CREDIT.CREDITS 0 x (min 4 (s.rd AUD.RING_Q_CREDIT.CREDITS 0 x + 1))
     | _ => s).audioTaken t

/-- The octets of the slots of a kind and class (R308). -/
def slotOct (s : Block) (kind : Nat) (ls : Bool) : Nat :=
  ((List.range 16).map fun k =>
    if s.rd RCTL.SLOT_CFG.KIND 0 k = kind ∧ s.on RCTL.SLOT_CFG.LS 0 k = ls then s.rd RCTL.SLOT_CFG.OCTETS 0 k else 0).sum

/-- Send the AUDIO frames of the blocks that wait, as many as the audio slots hold (R264, R303, R308); without a linked ring port
the MAC takes none. -/
def sendAudio (s : Block) : Block :=
  if !s.portUp 0 && !s.portUp 1 then s
  else
    let a := fitOctets (s.slotOct 3 true + s.slotOct 3 false) (s.pick TxFrame.isAudio)
    ({ s with txQ := (s.pick fun f => !f.isAudio) ++ a.2 }.audioTaken a.1).sendAll a.1

/-- Send the IMAGE frames of one class, as many as the image slots of that class hold; the others wait for the next cycle
(R303, R306, R308, assumption 150). -/
def sendImages (s : Block) (ls : Bool) : Block :=
  let a := fitOctets (s.slotOct 2 ls) (s.pick fun f => f.isImage && f.ls == ls)
  { s with txQ := a.2 ++ s.pick fun f => !(f.isImage && f.ls == ls) }.sendAll a.1

/-- Send the express frames that are queued (R311): those within EXP_QUOTA in the isochronous phase, the others ahead
of the asynchronous frames up to 210 µs of the cycle. -/
def sendExpress (s : Block) : Block :=
  let l := s.pick fun f => f.express && !f.slotted
  let a := fitOctets (s.g RCTL.RCTL_QUOTA.EXP_QUOTA) l
  let b := fitOctets (59 * s.octPerUs) a.2
  let s1 := { s with txQ := b.2 ++ s.pick fun f => !f.express || f.slotted }
  (s1.sendAll a.1).sendAll b.1

/-- Send STATE_XFER and other frames for the pair link, which go without delay (R368). -/
def sendPairLink (s : Block) : Block :=
  let l := s.pick fun f => f.way == 4
  { s with txQ := s.pick fun f => f.way != 4 }.sendAll l

/-- Send asynchronous frames for at most `n` octets of wire time: class LS first, each class in the order queued
(R310). -/
def sendAsync (s : Block) (n : Nat) : Block :=
  let wait (f : TxFrame) : Bool := !f.express && !f.slotted
  let l := (s.pick fun f => wait f && f.ls) ++ s.pick fun f => wait f && !f.ls
  let a := fitOctets n l
  { s with txQ := (s.pick fun f => !wait f) ++ a.2 }.sendAll a.1

/-- The octets this node reserves (R308): all its slots, or those of class LS, plus EXP_QUOTA. -/
def ownRes (s : Block) (lsOnly : Bool) : Nat :=
  ((List.range 16).map fun k =>
    if s.rd RCTL.SLOT_CFG.KIND 0 k != 0 && (!lsOnly || s.on RCTL.SLOT_CFG.LS 0 k) then s.rd RCTL.SLOT_CFG.OCTETS 0 k
    else 0).sum + s.g RCTL.RCTL_QUOTA.EXP_QUOTA

/-- Whether the node has a commit slot (R306). -/
def hasCommitSlot (s : Block) : Bool := (List.range 16).any fun k => s.rd RCTL.SLOT_CFG.KIND 0 k == 1

/-- The modules that the FIRE frames list: the valid FIRE_ZONE entries (R316). -/
def fireList (s : Block) : List Nat :=
  ((List.range 32).filter fun k => s.on RCTL.FIRE_ENTRY.VALID 0 k).map fun k => s.rd RCTL.FIRE_ENTRY.MODULE_ID 0 k

/-- The FIRE frame of this module (R316). -/
def fireFrame (s : Block) : TxFrame := ⟨.fire (s.g HID.FIREENT % 2 ^ 32) s.fireList, 0xFF, 0, true, 1⟩

/-- Whether the module sends its FIRE frame (R316); a frame lists at least one module (R303). -/
def firesOn (s : Block) : Bool :=
  !s.fireList.isEmpty && s.on MOD.MOD_STATUS.FIRE 0 0 && (s.g MOD.MOD_FIRE_SRC.LOCAL != 0 || s.g MOD.MOD_FIRE_SRC.CMD != 0)

/-! ### Receiving -/

/-- Whether epoch `a` is newer than `b` (R358). -/
def newer (a b : Nat) : Bool :=
  let d := (a % 2 ^ 32 + 2 ^ 32 - b % 2 ^ 32) % 2 ^ 32
  decide (1 ≤ d) && decide (d ≤ 2 ^ 31 - 1)

/-- The newest epoch seen for a pair (R359): in frames, or in its domain entry; of the module's own pair the pair epoch. -/
def newestEpoch (s : Block) (u : Nat) : Nat :=
  let held := if u = s.selfId ∧ s.on MOD.MOD_ID.PAIRED 0 0 then s.g PAIR.PAIR_EPOCH.EPOCH else (s.domEntry u).2.2
  let seen := s.rd HID.EPSEEN 0 u
  if seen = 0 ∨ newer held (seen - 1) then held else seen - 1

/-- Whether a frame carries a stale epoch (R305): its sender is a pair, of which a newer epoch has been seen. -/
def stale (s : Block) (h : Hdr) : Bool :=
  (s.domEntry h.src.val).1 == 2 && newer (s.newestEpoch h.src.val) h.srcEpoch

/-- A frame of a pair with a newer epoch (R359): it is the newest seen, and the update of the domain entry is staged for
the next boundary. -/
def noteEpoch (s : Block) (h : Hdr) : Block :=
  if (s.domEntry h.src.val).1 == 2 && newer h.srcEpoch (s.newestEpoch h.src.val) then
    { (s.wr HID.EPSEEN 0 h.src.val (h.srcEpoch % 2 ^ 32 + 1)) with
      domPend := s.domPend.put h.src.val (h.srcEpoch % 2 ^ 32, b2n h.pos) }
  else s

/-- The domain updates that wait commit at the boundary (R28, R359). -/
def commitDom (s : Block) : AMap (Nat × Nat) → Block
  | [] => s
  | (u, e, p) :: t =>
    let s1 := (s.wr XLT.XLT_DOM_EPOCH.EPOCH 0 u e).wr XLT.XLT_DOM_DATA.MEMBER 0 u p
    s1.commitDom t

/-- Whether a frame is the second copy of one taken within 1 ms (R304). -/
def isDup (s : Block) (h : Hdr) (type : Nat) : Bool :=
  s.seen.any fun x => x.src == h.src.val && x.pos == h.pos && x.type == type && x.seq == h.seq &&
    decide (s.nowUs h.us < x.at_ + 1000)

/-- Note a frame as taken; older notes than 1 ms are dropped. -/
def noteSeen (s : Block) (h : Hdr) (type : Nat) : Block :=
  { s with seen := (s.seen.filter fun x => decide (s.nowUs h.us < x.at_ + 1000)) ++
      [⟨h.src.val, h.pos, type, h.seq, s.nowUs h.us⟩] }

/-- A ring frame of a module is heard (R373). -/
def heard (s : Block) (h : Hdr) : Block := if h.port.val < 2 then s.wr HID.HEARD 0 h.src.val (s.tick + 1) else s

/-- What becomes of a frame that arrives (R301, R304, R305). -/
inductive RxRes where
  | taken | refused | passed | lost
deriving DecidableEq, Repr

/-- Whether frames pass on over a port: it is up, and a node next to a break is a chain end while STEERING (R313). -/
def passes (s : Block) (p : Fin 3) : Bool := s.portUp p && !(s.g RCTL.RCTL_STAT.STATE == 2 && s.on HID.PBROKEN 0 p.val)

/-- A frame of another node leaves by a port with one hop more (R301), or is discarded at a degraded link (R315). -/
def passOn (s : Block) (h : Hdr) (type : Nat) (p : Fin 3) : Block :=
  if s.on RING.PORT_STAT.DEGRADED p.val 0 && !degradedType type h.ls then s.stat (netPort p) 16 1
  else s.onWire p (headWords type h.ls (p.val == 1) h.both h.pos h.src.val h.dst.val h.srcEpoch h.dstEpoch h.seq (h.hops + 1))
    h.octets (expressType type h.ls) h.both

/-- The port by which a frame goes on. -/
def farPort (h : Hdr) : Fin 3 := if h.port.val = 0 then 1 else 0

/-- Whether a header names this module's ID and position. -/
def ownMark (s : Block) (h : Hdr) : Bool := h.src.val == s.selfId && b2n h.pos == s.g MOD.MOD_ID.POSITION

/-- A frame that the node passes on leaves by the other ring port, unless it is the node's own or the node is a chain end
(R301, R313). -/
def forward (s : Block) (h : Hdr) (type : Nat) : Block :=
  if decide (h.port.val ≥ 2) || decide (h.hops ≥ 320) || s.ownMark h || !s.passes (farPort h) then s
  else s.passOn h type (farPort h)

/-- A frame of a stale epoch (R305): counted, and no action follows. -/
def refuseStale (s : Block) (h : Hdr) : Block :=
  ((s.stat (netPort h.port) 15 1).sat RCTL.RCTL_COUNT1.STALE 0 0 1).fire EV.RCTL.STALE

/-- A frame for this node (R304, R305): a second copy is counted, one of a stale epoch is refused. -/
def take (s : Block) (h : Hdr) (type : Nat) : Block × RxRes :=
  if s.isDup h type then (s.stat (netPort h.port) 18 1, .lost)
  else
    let s1 := s.noteSeen h type
    if s.stale h then (s1.refuseStale h, .refused) else ((s1.noteEpoch h).perf 0x0A0 none 1, .taken)

/-- A frame arrives at a port (R301 to R305, R318): counted; passed on unless it is taken for this module alone; a
second copy and a frame of a stale epoch are refused. -/
def receive (s : Block) (h : Hdr) (type : Nat) (express : Bool) : Block × RxRes :=
  if !s.portUp h.port then (s, .lost)
  else
    let s1 := (s.rxCount (netPort h.port) h.octets express).heard h
    if h.hops ≥ 320 then (s1, .lost)
    else if s.ownMark h then (s1, .lost)
    else
      let mine := h.dst.val == s.selfId && s.takesUnicast
      let s2 := if mine then s1 else s1.forward h type
      if mine || h.dst.val == 0xFF then s2.take h type else (s2, .passed)

/-! ### Tokens -/

/-- ISO_OVER as a value, firing when it sets (R308). -/
def setIso (s : Block) (v : Bool) : Block :=
  (s.p RCTL.RCTL_STAT.ISO_OVER (b2n v)).fireIf (v && !s.on RCTL.RCTL_STAT.ISO_OVER 0 0) EV.RCTL.ISO_OVER

/-- The acting master's ID; a change fires MASTER_CHANGE (R307). -/
def setMaster (s : Block) (id : Nat) : Block :=
  (s.p RCTL.RCTL_STAT.MASTER_ID id).fireIf (s.g RCTL.RCTL_STAT.MASTER_ID != id) EV.RCTL.MASTER_CHANGE

/-- The TOKEN this node sends or passes on: the reservations and the count of nodes with its own added (R308). -/
def tokenOut (s : Block) (tick resAll resLs nodes : Nat) (isoOver : Bool) : TxFrame :=
  ⟨.token tick (resAll + s.ownRes false) (resLs + s.ownRes true) (nodes + 1) isoOver, 0xFF, 0, true, 1⟩

/-- The TOKEN returns to the master (R308, R309): both totals, the rotation time and the nodes are written. -/
def tokenBack (s : Block) (resAll resLs nodes rot : Nat) : Block :=
  let s1 := ((s.p RCTL.RCTL_ISO.RES_ALL resAll).p RCTL.RCTL_ISO_LS.RES_LS resLs).p RCTL.RCTL_STAT.NODES (min nodes 320)
  let s2 := (s1.p RCTL.RCTL_ROT.ROT (min rot 65535)).p RCTL.RCTL_ROT.ROT_MAX (max (min rot 65535) (s.g RCTL.RCTL_ROT.ROT_MAX))
  let s3 := s2.fireIf (decide (rot > 4000) && decide (s.g RCTL.RCTL_ROT.ROT ≤ 4000)) EV.RCTL.ROT_HIGH
  s3.setIso (decide (resAll > 468750) || decide (resLs > 187500))

/-- This node has seen its own ID and position in another node (R317). -/
def dupSeen (s : Block) : Block :=
  if s.on HID.DUPSEEN 0 0 then s else ((s.p HID.DUPSEEN 1).p RCTL.RCTL_STAT.MASTER 0).fire EV.RCTL.DUP_ID

/-- A TOKEN of another node goes on (R301, R307, R308): the copy that passes in the primary direction, from west to east, with
this node's reservations and the count of nodes; the other as it came. -/
def tokenPass (s : Block) (h : Hdr) (tick resAll resLs nodes : Nat) (isoOver : Bool) : Block :=
  let f := if h.port.val = 1 then s.tokenOut tick resAll resLs nodes isoOver
    else ⟨.token tick resAll resLs nodes isoOver, 0xFF, 0, true, 1⟩
  if s.passes (farPort h) then { s with sent := s.sent ++ [f] }.forward h 0x01 else s

/-- What a node does on a TOKEN of another node (R307): a master with the weaker claim stops at the next cycle; one with the
stronger claim stays. -/
def tokenTake (s : Block) (h : Hdr) (nodes : Nat) (isoOver : Bool) (rank : Nat) : Block :=
  let s1 := (s.p HID.TOKENAT (s.tick + 1)).p HID.TMISS 0
  let yields := decide (rank < s.g RCTL.RCTL_CFG.RANK) || (rank == s.g RCTL.RCTL_CFG.RANK && decide (h.src.val < s.selfId))
  if s.on RCTL.RCTL_STAT.MASTER 0 0 && !yields then s1
  else
    let s2 := if s.on RCTL.RCTL_STAT.MASTER 0 0 then s1.p HID.MSTOP 1 else s1
    ((s2.setMaster h.src.val).setIso isoOver).p RCTL.RCTL_STAT.NODES (min (nodes + 1) 320)

/-- A TOKEN arrives (R304, R305, R307, R308, R317): the master's own ends a rotation when it comes back in the primary
direction; another's is passed on and noted. -/
def tokenRx (s : Block) (h : Hdr) (tick resAll resLs nodes : Nat) (isoOver : Bool) (rank rot : Nat) : Block :=
  if !s.portUp h.port then s
  else
    let s1 := (s.rxCount (netPort h.port) h.octets true).heard h
    if h.hops ≥ 320 then s1
    else if s.ownMark h then
      if s.on RCTL.RCTL_STAT.MASTER 0 0 then
        let s2 := (s1.p HID.TOKENAT (s.tick + 1)).p HID.TMISS 0
        if h.port.val = 1 then s2.tokenBack resAll resLs nodes rot else s2
      else s1.dupSeen
    else
      match (s1.tokenPass h tick resAll resLs nodes isoOver).take h 0x01 with
      | (s2, .taken) => s2.tokenTake h nodes isoOver rank
      | (s2, _) => s2

/-- No TOKEN by offset 50 µs of the cycle (R307), once in a cycle. -/
def tokenMiss (s : Block) : Block :=
  if s.g HID.TOKENAT = s.tick + 1 ∨ s.g HID.TMISSAT = s.tick + 1 then s
  else
    let n := s.g HID.TMISS + 1
    let s1 := (((s.p HID.TMISSAT (s.tick + 1)).sat RCTL.RCTL_COUNT2.TOKEN_MISS 0 0 1).sat HID.TMISS 0 0 1).fireIf (n == 4) EV.RCTL.TOKEN_LOST
    if s.on RCTL.RCTL_CFG.MASTER_EN 0 0 && !s.on RCTL.RCTL_STAT.MASTER 0 0 && !s.on HID.DUPSEEN 0 0 &&
        decide (n ≥ 4 + 4 * s.g RCTL.RCTL_CFG.RANK) then
      (s1.p RCTL.RCTL_STAT.MASTER 1).setMaster s.selfId
    else s1

/-- The node uses ASYNC_TOKEN at offset `us` of the cycle (R310): it sends for its allowance, in frames that end by 210 µs. -/
def asyncUse (s : Block) (us : Nat) : Block :=
  let now := s.nowUs us
  let first := s.g HID.ASYNCCYC != s.tick + 1
  let trt := now + 1 - s.g HID.ASYNCAT
  let allow := if first then s.g RCTL.RCTL_QUOTA.ASYNC_QUOTA
    else if trt ≥ s.g RCTL.RCTL_CFG.TTRT then 0 else s.g RCTL.RCTL_CFG.TTRT - trt
  ((s.sendAsync (min allow (210 - us) * s.octPerUs)).p HID.ASYNCCYC (s.tick + 1)).p HID.ASYNCAT (now + 1)

/-- ASYNC_TOKEN goes on; at a chain end while STEERING it turns back (R310). -/
def asyncPass (s : Block) (h : Hdr) : Block :=
  if s.passes (farPort h) || s.g RCTL.RCTL_STAT.STATE != 2 then s.forward h 0x02
  else if h.port.val < 2 then s.passOn h 0x02 h.port else s

/-- ASYNC_TOKEN arrives (R301, R304, R310): the node uses it and passes it on, unless it holds it at 210 µs. The master takes
its own off the ring and sends a new one. -/
def asyncToken (s : Block) (h : Hdr) : Block :=
  if !s.portUp h.port then s
  else
    let s1 := (s.rxCount (netPort h.port) h.octets true).heard h
    if h.hops ≥ 320 then s1
    else if s.ownMark h then
      if s.on RCTL.RCTL_STAT.MASTER 0 0 && decide (h.us < 210) && !s.on RCTL.RCTL_STAT.ISO_OVER 0 0 then
        (s1.asyncUse h.us).send ⟨.asyncToken s.tick, 0xFF, 0, true, 0⟩
      else s1
    else
      match s1.take h 0x02 with
      | (s2, .taken) => if h.us ≥ 210 then s2 else (s2.asyncUse h.us).asyncPass h
      | (s2, _) => s2.forward h 0x02

/-! ### Ports, breaks and healing -/

/-- RCTL_STAT.DEGRADED: a port of this node is degraded. -/
def noteDegraded (s : Block) : Block :=
  s.p RCTL.RCTL_STAT.DEGRADED (b2n (s.on RING.PORT_STAT.DEGRADED 0 0 || s.on RING.PORT_STAT.DEGRADED 1 0))

/-- A port's link is degraded or not (R315); becoming degraded fires DEGRADED. -/
def setDegraded (s : Block) (p : Nat) (v : Bool) : Block :=
  ((s.wr RING.PORT_STAT.DEGRADED p 0 (b2n v)).fireIf (v && !s.on RING.PORT_STAT.DEGRADED p 0) EV.RCTL.DEGRADED).noteDegraded

/-- A node declares a port broken (R313): it sends BREAK on its other port, and enters STEERING at the next boundary. -/
def declareBreak (s : Block) (p : Nat) : Block :=
  if s.on HID.PBROKEN 0 p then s
  else
    let s1 := (s.wr HID.PBROKEN 0 p 1).p HID.STEERPEND 1
    s1.send ⟨.link 2 0, 0xFF, 0, true, if p = 0 then 3 else 2⟩

/-- The rate a link of a ring port comes up with: 1 is 10.3125 GBd; a RATE 2 port comes up at the rate it tries (R315,
R320). -/
def linkRate (s : Block) (p : Nat) : Nat :=
  if s.on HID.RSLOW 0 p then 1
  else if s.rd RING.PORT_CFG.RATE p 0 = 2 then s.rd HID.RTRYSLOW 0 p else s.rd RING.PORT_CFG.RATE p 0

/-- A ring port's link comes up (R312, R315, R320, R321). -/
def ringUp (s : Block) (p : Nat) : Block :=
  if s.on RING.PORT_STAT.LINK p 0 || s.on HID.RSTOP 0 p || !s.on HDR.PAGE_CTRL.ENABLE (0x080 + p) 0 then s
  else
    let r := s.linkRate p
    let s1 := ((s.wr RING.PORT_STAT.LINK p 0 1).wr RING.PORT_STAT.RATE p 0 r).wr RING.PORT_STAT.FEC p 0
      (b2n (r == 0 && s.on RING.PORT_CFG.FEC_EN p 0))
    let s2 := (s1.wr RING.PORT_STAT.PREEMPT p 0 (s.rd RING.PORT_CFG.PREEMPT_EN p 0)).wr RING.PORT_STAT.ROLE p 0 p
    let s3 := (((s2.wr HID.NEEDPD 0 p 1).wr HID.LINKAT 0 p s.tick).wr HID.LINKSINCE 0 p s.tick).fire (EV.RING.LINK_UP p)
    let s4 := s3.fireIf (r == 1 && s.rd RING.PORT_CFG.RATE p 0 == 2) (EV.RING.RATE_FALLBACK p)
    let s5 := s4.setDegraded p (r == 1 && s.rd RING.PORT_CFG.RATE p 0 != 1)
    if s.g RCTL.RCTL_STAT.STATE != 0 then s5
    else if s5.on RING.PORT_STAT.LINK 0 0 && s5.on RING.PORT_STAT.LINK 1 0 && !s5.on HID.STEERPEND 0 0 then
      (((s5.p RCTL.RCTL_STAT.STATE 1).wr HID.PBROKEN 0 0 0).wr HID.PBROKEN 0 1 0)
    else if s5.on HID.PBROKEN 0 (1 - p) then s5.p HID.STEERPEND 1
    else s5

/-- A ring port's link goes down (R300, R313, R321, R454). -/
def ringDown (s : Block) (p : Fin 2) : Block :=
  if !s.on RING.PORT_STAT.LINK p.val 0 then s
  else
    let i := p.val
    let s1 := ((s.wr RING.PORT_STAT.LINK i 0 0).wr RING.PORT_STAT.RATE i 0 3).wr RING.PORT_STAT.FEC i 0 0
    let s2 := ((s1.wr RING.PORT_STAT.LPI_TX i 0 0).wr RING.PORT_STAT.LPI_RX i 0 0).wr RING.PORT_STAT.PREEMPT i 0 0
    let s3 := (((s2.wr RING.PORT_STAT.TW i 0 0).wr HID.RTRYAT 0 i s.tick).setDegraded i false).stat (.ring p) 27 1
    let s4 := ((s3.lifeAdd 10 i 1).fire (EV.RING.LINK_DOWN i)).declareBreak i
    if !s4.on RING.PORT_STAT.LINK 0 0 && !s4.on RING.PORT_STAT.LINK 1 0 then s4.p RCTL.RCTL_STAT.STATE 0 else s4

/-- A cage's state (R320). -/
def setCage (s : Block) (p : Nat) (cage fault : Bool) : Block :=
  (s.wr RING.PORT_STAT.CAGE p 0 (b2n cage)).wr RING.PORT_STAT.CAGE_FAULT p 0 (b2n fault)

/-- The service port takes its link up or down (R332, R334). -/
def svcUp (s : Block) (slow : Bool) : Block :=
  if s.on SVC.SVC_STAT.LINK 0 0 || s.g SVC.SVC_CFG.MODE = 0 || !s.on HDR.PAGE_CTRL.ENABLE 0x090 0 then s
  else
    let m2 := s.g SVC.SVC_CFG.MODE == 2 && !s.on SVC.SVC_STAT.WOKEN 0 0
    let s1 := (s.p SVC.SVC_STAT.LINK 1).p SVC.SVC_STAT.SPEED (b2n (slow || m2 || s.on SVC.SVC_CFG.SPEED_MAX 0 0))
    (s1.p SVC.SVC_STAT.LPI (b2n (m2 || s.on SVC.SVC_CFG.EEE_EN 0 0))).fire EV.SVC.LINK_UP

/-- The service port loses its link. -/
def svcDown (s : Block) : Block :=
  if s.on SVC.SVC_STAT.LINK 0 0 then
    ((((((s.p SVC.SVC_STAT.LINK 0).p SVC.SVC_STAT.SPEED 3).p SVC.SVC_STAT.LPI 0).stat .svc 27 1).lifeAdd 10 3 1).fire
      EV.SVC.LINK_DOWN)
  else s

/-- The pair link comes up or goes down (R361, R454). -/
def pairLink (s : Block) (up : Bool) : Block :=
  if up then s.p PAIR.PAIR_STAT.LINK 1
  else if s.on PAIR.PAIR_STAT.LINK 0 0 then (s.p PAIR.PAIR_STAT.LINK 0).lifeAdd 10 2 1 else s

/-- PORT_LINK_CHANGE. -/
def linkChange (s : Block) (p : NetPort) (up slow cage cfault : Bool) : Block :=
  match p with
  | .ring q =>
    let s1 := s.setCage q.val cage cfault
    if up then s1.ringUp q.val else s1.ringDown q
  | .svc => if up then s.svcUp slow else s.svcDown
  | .pair => s.pairLink up
  | .seg _ => s

/-- 4 cycles without a LINK frame on a port (R313). -/
def linkTimeout (s : Block) (p : Nat) : Block :=
  if s.tick ≥ s.rd HID.LINKAT 0 p + 4 then s.declareBreak p else s

/-- A LINK frame has come on a port (R313, R314): frames that come every cycle keep the run going. -/
def noteLink (s : Block) (p : Nat) : Block :=
  let s1 := if s.tick > s.rd HID.LINKAT 0 p + 1 then s.wr HID.LINKSINCE 0 p s.tick else s
  s1.wr HID.LINKAT 0 p s.tick

/-- HELLO from a neighbour (R312, R317): its ID and position, the negotiated wake time, and what the port saw of the
receive direction's LPI. -/
def hello (s : Block) (h : Hdr) (tw : Nat) (lpi late : Bool) : Block :=
  if h.port.val ≥ 2 || !s.portUp h.port then s
  else
    let i := h.port.val
    let s1 := ((s.rxCount (netPort h.port) h.octets true).heard h).noteLink i
    if s.ownMark h then s1.dupSeen
    else if s.stale h then s1.refuseStale h
    else
      let s2 := (s1.wr RING.PORT_STAT.PEER_ID i 0 h.src.val).wr RING.PORT_STAT.PEER_POS i 0 (b2n h.pos)
      let s3 := (s2.wr RING.PORT_STAT.TW i 0 (min 31 (max tw (s.rd RING.PORT_CFG.TW_MAX i 0)))).wr RING.PORT_STAT.LPI_RX i 0 (b2n lpi)
      let s4 := if lpi then s3.stat (netPort h.port) 26 1 else s3
      s4.fireIf late (EV.RING.WAKE_LATE i)

/-- BREAK arrives (R313): STEERING at the next boundary, and every node forwards the frame. -/
def breakRx (s : Block) (h : Hdr) : Block :=
  match s.receive h 0x0C true with
  | (s1, .taken) => s1.p HID.STEERPEND 1
  | (s1, _) => s1

/-- The boundary at which a node returns to RING after HEAL at offset `us` of the current tick, plus 1: the first that
is at least 2 cycles later (R314). -/
def healDue (s : Block) (us : Nat) : Nat := (if us = 0 then s.tick + 2 else s.tick + 3) + 1

/-- HEAL arrives (R314). -/
def healRx (s : Block) (h : Hdr) : Block :=
  match s.receive h 0x0C true with
  | (s1, .taken) =>
    if s.g HID.HEALAT = 0 then s1.p HID.HEALAT (s.healDue h.us) else s1
  | (s1, _) => s1

/-- Whether a port has had LINK frames for 16 consecutive cycles (R314). -/
def linked16 (s : Block) (p : Nat) : Bool :=
  s.on RING.PORT_STAT.LINK p 0 && s.on HDR.PAGE_CTRL.ENABLE (0x080 + p) 0 &&
    decide (s.rd HID.LINKAT 0 p + 1 ≥ s.tick) && decide (s.tick ≥ s.rd HID.LINKSINCE 0 p + 16)

/-- Both ports of a node that had declared a break are up again (R314): the node sends HEAL and obeys it (assumption 151). -/
def healReady (s : Block) : Block :=
  if s.g RCTL.RCTL_STAT.STATE = 2 ∧ (s.on HID.PBROKEN 0 0 || s.on HID.PBROKEN 0 1) = true ∧ s.linked16 0 ∧ s.linked16 1 ∧ s.g HID.HEALAT = 0 then
    (s.send ⟨.link 3 0, 0xFF, 0, true, 1⟩).p HID.HEALAT (s.healDue 1)
  else s

/-- A RATE 2 port without a link tries the other rate after 50 ms, 200 ticks (R315). -/
def rateAlternate (s : Block) (p : Nat) : Block :=
  if s.rd RING.PORT_CFG.RATE p 0 = 2 ∧ s.rd RING.PORT_STAT.LINK p 0 = 0 ∧ s.tick ≥ s.rd HID.RTRYAT 0 p + 200 then
    (s.wr HID.RTRYSLOW 0 p (1 - s.rd HID.RTRYSLOW 0 p)).wr HID.RTRYAT 0 p s.tick else s

/-- Preemption verification with a neighbour fails (R311). -/
def preemptFail (s : Block) (p : Nat) : Block :=
  if s.on RING.PORT_STAT.LINK p 0 && s.on RING.PORT_CFG.PREEMPT_EN p 0 then
    (s.wr RING.PORT_STAT.PREEMPT p 0 0).fire (EV.RING.PREEMPT_FAIL p) else s

/-- PAGE_CTRL.ENABLE of a ring port commits (R320): at 0 the transmitter is off and the port is broken. -/
def ringEnable (s : Block) (p : Fin 2) : Block :=
  if s.on HDR.PAGE_CTRL.ENABLE (0x080 + p.val) 0 then s else (s.ringDown p).declareBreak p.val

/-- Entry into ladder stage 3 (R315): the port that is not kept stops, and the kept one runs at 10.3125 GBd. -/
def ringStage3 (s : Block) : Block :=
  let keep := s.g RCTL.RCTL_CFG.STAGE3_PORT
  let off : Fin 2 := if keep = 0 then 1 else 0
  let s1 := (s.wr HID.RSTOP 0 off.val 1).ringDown off
  let s2 := s1.wr HID.RSLOW 0 keep 1
  if s2.on RING.PORT_STAT.LINK keep 0 then
    ((((s2.wr HID.NEEDPD 0 keep 1).wr RING.PORT_STAT.RATE keep 0 1).wr RING.PORT_STAT.FEC keep 0 0).setDegraded keep (s.rd RING.PORT_CFG.RATE keep 0 != 1))
  else s2

/-- Below stage 3 both ports return to their configured rates (R315). -/
def ringBelow3 (s : Block) : Block :=
  if s.on HID.RSLOW 0 0 || s.on HID.RSLOW 0 1 then
    let keep := if s.on HID.RSLOW 0 0 then 0 else 1
    let s1 := ((s.wr HID.RSLOW 0 keep 0).wr HID.RSTOP 0 0 0).wr HID.RSTOP 0 1 0
    if s1.on RING.PORT_STAT.LINK keep 0 && s1.rd RING.PORT_CFG.RATE keep 0 != 1 then
      ((((s1.wr HID.NEEDPD 0 keep 1).wr RING.PORT_STAT.RATE keep 0 0).wr RING.PORT_STAT.FEC keep 0 (s1.rd RING.PORT_CFG.FEC_EN keep 0)).setDegraded keep
        false)
    else s1
  else s

/-! ### Fire frames -/

/-- A FIRE frame arrives (R316): a class LS frame that lists this module asserts the ring fire source. -/
def fireRx (s : Block) (h : Hdr) (ids : List Nat) : Block :=
  match s.receive h 0x06 true with
  | (s1, .taken) =>
    if h.ls && ids.contains s.selfId then
      let s2 := (((s1.p HID.RINGFIRE 1).p HID.FIRERXAT s.tick).p HID.FIREASK 1).p MOD.MOD_FIRE_SRC.RING 1
      s2.fire EV.RCTL.FIRE_RX
    else s1
  | (s1, _) => s1

/-- 8 whole cycles without such a frame: the ring fire source is no longer asserted (R316). -/
def fireRxTimeout (s : Block) : Block :=
  if s.on HID.RINGFIRE 0 0 && decide (s.tick ≥ s.g HID.FIRERXAT + 9) then s.p HID.RINGFIRE 0 else s

/-! ### The ring at a boundary -/

/-- LPI of the protection transmit direction (R312, R316): entered again in every cycle while the ring is whole. -/
def lpiStep (s : Block) : Block :=
  let lp := s.g RCTL.RCTL_STAT.STATE == 1 && s.portUp 1 && s.on RING.PORT_CFG.EEE_EN 1 0 && !s.on MOD.MOD_STATUS.FIRE 0 0
  let s1 := s.wr RING.PORT_STAT.LPI_TX 1 0 (b2n lp)
  if lp then s1.stat (.ring 1) 25 1 else s1

/-- The pending change of the ring's state at boundary `n` (R313, R314). -/
def ringState (s : Block) (n : Nat) : Block :=
  let s1 := if s.on HID.STEERPEND 0 0 then
      let a := (s.p HID.STEERPEND 0).p HID.HEALAT 0
      if s.g RCTL.RCTL_STAT.STATE = 2 ∨ (s.portUp 0 = false ∧ s.portUp 1 = false) then a
      else (((a.p RCTL.RCTL_STAT.STATE 2).sat RCTL.RCTL_COUNT2.BREAKS 0 0 1).fire EV.RCTL.BREAK)
    else s
  if s1.g HID.HEALAT != 0 && decide (n + 1 ≥ s1.g HID.HEALAT) then
    let b := ((s1.p HID.HEALAT 0).wr HID.PBROKEN 0 0 0).wr HID.PBROKEN 0 1 0
    if s1.g RCTL.RCTL_STAT.STATE = 2 then (b.p RCTL.RCTL_STAT.STATE 1).fire EV.RCTL.HEAL else b
  else s1

/-- What the node sends first in cycle `n` (R306, R307, R312): the master's TOKEN and HELLO on each port. The protection
direction has left LPI. -/
def ringOpen (s0 : Block) (n : Nat) : Block :=
  let s := s0.wr RING.PORT_STAT.LPI_TX 1 0 0
  let s1 := if s.on HID.MSTOP 0 0 then (s.p HID.MSTOP 0).p RCTL.RCTL_STAT.MASTER 0 else s
  let s2 := if s1.on RCTL.RCTL_STAT.MASTER 0 0 then
      s1.send (s1.tokenOut n 0 0 0 (s1.on RCTL.RCTL_STAT.ISO_OVER 0 0)) else s1
  (s2.send ⟨.link 1 (s2.rd RING.PORT_CFG.TW_MAX 0 0), 0xFF, 0, true, 2⟩).send
    ⟨.link 1 (s2.rd RING.PORT_CFG.TW_MAX 1 0), 0xFF, 0, true, 3⟩

/-- What the node sends in cycle `n` after the records of its commit slot (R306, R311, R312, R316): the FIRE frame, with which
the commit slot ends, the audio and image slots and the express frames; ASYNC_TOKEN unless ISO_OVER is set. -/
def ringSend (s : Block) (n : Nat) : Block :=
  let s3 := (if s.firesOn && (s.hasCommitSlot || s.g HID.FIREENT == n) then s.send s.fireFrame else s).lpiStep
  let s4 := ((s3.sendAudio.sendImages true).sendImages false)
  let s5 := s4.sendExpress.sendPairLink
  if s5.on RCTL.RCTL_STAT.MASTER 0 0 && !s5.on RCTL.RCTL_STAT.ISO_OVER 0 0 then
    s5.send ⟨.asyncToken n, 0xFF, 0, true, 0⟩ else s5

/-! ### The receive buffer -/

/-- Octets held in the receive buffer, of one class. -/
def bufOct (s : Block) (ls : Bool) : Nat := ((s.rxBuf.filter fun x => x.h.ls == ls).map fun x => x.h.octets).sum

/-- RX_BUF.FILL and LS_FILL in KiB, rounded up. -/
def noteBuf (s : Block) : Block :=
  (s.p RCTL.RX_BUF.FILL ((s.bufOct true + s.bufOct false + 1023) / 1024)).p RCTL.RX_BUF.LS_FILL ((s.bufOct true + 1023) / 1024)

/-- A frame is discarded at the receive buffer (R318). -/
def discard (s : Block) (h : Hdr) : Block :=
  let s1 := s.stat (netPort h.port) (if h.ls then 17 else 16) 1
  let s2 := if h.ls then s1.sat RCTL.RCTL_COUNT0.DISC_LS 0 0 1 else s1.sat RCTL.RCTL_COUNT0.DISC_N 0 0 1
  let s3 := s2.fire EV.RCTL.RX_DISCARD
  if h.ls && decide (h.port.val < 2) then s3.fire (EV.RING.RX_DISCARD_LS h.port.val) else s3

/-- Class LS frames evict the oldest class N frames held until `need` octets are free, with `fuel` tries (R318). -/
def evict (s : Block) (need : Nat) : Nat → Block
  | 0 => s
  | f + 1 =>
    if s.bufOct true + s.bufOct false + need ≤ 0x400000 then s
    else
      match s.rxBuf.find? fun x => !x.h.ls with
      | none => s
      | some x => ({ s with rxBuf := s.rxBuf.erase x }.discard x.h).evict need f

/-- A frame finds the ring-receive queue credit-empty and is held, evicts, or is discarded (R318). -/
def hold (s : Block) (x : RxHeld) : Block :=
  let put (a : Block) : Block := { a with rxBuf := a.rxBuf ++ [x] }
  if x.h.ls then
    let s1 := s.evict x.h.octets s.rxBuf.length
    (if s1.bufOct true + s1.bufOct false + x.h.octets ≤ 0x400000 then put s1 else s1.discard x.h).noteBuf
  else
    let used := s.bufOct false + (s.bufOct true - 0x80000)
    (if used + x.h.octets ≤ 0x380000 then put s else s.discard x.h).noteBuf

/-- A frame takes a credit of the ring-receive queue (R10, R11). -/
def takeRxCredit (s : Block) : Block :=
  let c := s.g RCTL.RX_Q_CREDIT.CREDITS
  (s.p RCTL.RX_Q_CREDIT.CREDITS (c - 1)).fireIf (c == 1) EV.RCTL.RX_Q_EMPTY

/-- Whether a frame for translation enters the queue at once; a translation that waits for the image builder takes none
(R10). -/
def rxDirect (s : Block) : Bool := s.g RCTL.RX_Q_CREDIT.CREDITS != 0 && s.rxBuf.isEmpty && s.imgWait.isEmpty

/-- The frame that the buffer releases next: class LS first, in order of arrival (R318). -/
def rxNext (s : Block) : Option RxHeld :=
  match s.rxBuf.find? fun x => x.h.ls with
  | some x => some x
  | none => s.rxBuf.head?

/-- A released frame leaves the buffer. -/
def rxTake (s : Block) (x : RxHeld) : Block := { s with rxBuf := s.rxBuf.erase x }.noteBuf.takeRxCredit

/-- An ALARM frame goes to the supervisor (R55, R318), which holds it in the order of arrival. -/
def alarmRx (s : Block) (h : Hdr) (src n owner : Nat) : Block :=
  match s.receive h 0x0B h.ls with
  | (s1, .taken) => { s1 with alarms := s1.alarms ++ [(h.src.val, src, n, owner)] }
  | (s1, _) => s1

/-- Whether a port receives at all (R320, R325, R332). -/
def netUp (s : Block) (p : NetPort) : Bool :=
  match p with
  | .ring q => s.on HDR.PAGE_CTRL.ENABLE (0x080 + q.val) 0 && s.on RING.PORT_STAT.LINK q.val 0
  | .svc => s.on HDR.PAGE_CTRL.ENABLE 0x090 0 && s.on SVC.SVC_STAT.LINK 0 0
  | .seg g => s.on HDR.PAGE_CTRL.ENABLE (0x088 + g.val) 0
  | .pair => s.on PAIR.PAIR_STAT.LINK 0 0

/-- A frame or codeword that no consumer takes (R300, R302, R303, R324, R332): counted, and a frame of a type that no rule
gives is passed on. -/
def badFrame (s : Block) (p : NetPort) (b : BadFrame) : Block :=
  match b with
  | .unknown n =>
    let s1 := (s.rxCount p n false).stat p 14 1
    match p with
    | .svc => s1.fire EV.SVC.RX_DISCARD
    | _ => s1
  | .untyped h type =>
    let s1 := (s.rxCount p h.octets (expressType type.val h.ls)).stat p 14 1
    s1.forward h type.val
  | .fcs => s.stat p 8 1
  | .undersize => s.stat p 9 1
  | .oversize => s.stat p 10 1
  | .code => s.stat p 11 1
  | .reasm => (match p with | .ring _ => s.stat p 13 1 | _ => s)
  | .fecCorr => (match p with | .ring q => if s.on RING.PORT_STAT.FEC q.val 0 then s.stat p 23 1 else s | _ => s)
  | .fecUncorr =>
    match p with
    | .ring q => if s.on RING.PORT_STAT.FEC q.val 0 then (s.stat p 24 1).fire (EV.RING.FEC_UNCORR q.val) else s
    | _ => s

/-! ### Ring slots -/

/-- Validation of a ring slot table (R322) as a committing batch leaves it: KIND, LS, OFFSET and OCTETS of each entry,
EXP_QUOTA and the number of enabled audio transmitters; 0 or the code. -/
def slotCfgCode (kind ls off oct : Nat → Nat) (quota tx : Nat) : Nat :=
  let l := (List.range 16).filter fun k => kind k != 0
  let commits := l.filter fun k => kind k == 1
  let audio := l.filter fun k => kind k == 3
  if commits.length > 1 then 0x08
  else if commits.any fun k => decide (off k > 20) then 0x08
  else if l.any fun k => kind k == 2 && decide (off k < 10) then 0x08
  else if l.any fun k => decide (oct k < 84) then 0x08
  else if decide ((audio.map oct).sum < 106 * tx) then 0x08
  else if (l.map oct).sum + quota > 468750 then 0x08
  else if ((l.filter fun k => ls k != 0).map oct).sum + quota > 187500 then 0x08
  else 0

/-! ### Floor segments -/

/-- The local address of node `j` of segment `g` (R329). -/
def nodeBase (g j : Nat) : Nat := 0x200000 + (32 * g + j) * 0x1000

/-- Segment and node of a local address in a node page, with the offset in the page (R329). -/
def nodeOf (a : Nat) : Option (Nat × Nat × Nat) :=
  if 0x200000 ≤ a ∧ a < 0x300000 ∧ (a - 0x200000) / 0x1000 % 32 ≠ 0 then
    some ((a - 0x200000) / 0x1000 / 32, (a - 0x200000) / 0x1000 % 32, a % 0x1000) else none

/-- Whether the module coordinates a segment: enabled, and this partner drives (R353). -/
def segRuns (s : Block) (g : Nat) : Bool := s.on HDR.PAGE_CTRL.ENABLE (0x088 + g) 0 && s.driving

/-- STATUS of a node page (R329). -/
def nodeStatus (s : Block) (g j : Nat) : Nat :=
  let st := s.rd SEG.NODE_STAT.STATE g j
  b2n (st == 1 && s.on HDR.PAGE_CTRL.ENABLE (0x088 + g) 0) + 2 * b2n (st == 2) + 4 * b2n (st == 3) +
    2 ^ 8 * s.rd HID.NODESTAT g j + 2 ^ 16 * s.rd SEG.NODE_STAT.TYPE_SEEN g j

/-- A word of a node page: STATUS, or an input or output word. -/
def nodeWord (s : Block) (g j off : Nat) : Nat :=
  if off = 0x080 then s.nodeStatus g j else if off < 0x080 then s.point (nodeBase g j + off) else 0

/-- The code a write or staging of a node page's word is refused with: only output words below OUT_WORDS (R329). -/
def nodeWriteCode (s : Block) (g j off : Nat) : Nat :=
  if 0x040 ≤ off ∧ off < 0x040 + 4 * s.rd SEG.NODE_CFG.OUT_WORDS g j ∧ off % 4 = 0 then 0 else 0x0D

/-- The valid nodes of a segment. -/
def segNodes (s : Block) (g : Nat) : List Nat := (List.range 32).filter fun j => j != 0 && s.on SEG.NODE_CFG.VALID g j

/-- The segment's nodes in OK (BLOCK_STAT). -/
def segOk (s : Block) (g : Nat) : Nat := ((List.range 32).filter fun j => s.rd SEG.NODE_STAT.STATE g j == 1).length

/-- A node that answered the last poll in time: its page takes the answer, and the second accepted answer in a row ends
LOST or TYPE_ERR (R326, R327). -/
def nodeTake (s : Block) (g j : Nat) (a : SegAns) : Block :=
  let rec put (s : Block) (i : Nat) : List Nat → Block
    | [] => s
    | w :: t => put (s.setPoint (nodeBase g j + 4 * i) w) (i + 1) t
  let s1 := ((put s 0 (a.words.take (s.rd SEG.NODE_CFG.IN_WORDS g j))).wr HID.NODESTAT g j a.status).wr SEG.NODE_STAT.MISSES g j 0
  let ok := min 2 (s.rd HID.SEGOK g j + 1)
  let s2 := s1.wr HID.SEGOK g j ok
  let st := s.rd SEG.NODE_STAT.STATE g j
  if st = 0 then s2.wr SEG.NODE_STAT.STATE g j 1
  else if decide (st ≥ 2) && ok == 2 then (s2.wr SEG.NODE_STAT.STATE g j 1).fire (EV.SEG.NODE_BACK g)
  else s2

/-- A node that missed the last poll; at MISS_LIMIT it becomes LOST (R327). -/
def nodeMiss (s : Block) (g : Fin 8) (j : Nat) : Block :=
  let i := g.val
  let s1 := ((s.stat (.seg g) 29 1).sat SEG.NODE_STAT.MISSES i j 1).wr HID.SEGOK i j 0
  if s1.rd SEG.NODE_STAT.MISSES i j ≥ s.rd SEG.NODE_CFG.MISS_LIMIT i j && s.rd SEG.NODE_STAT.STATE i j != 2 then
    (s1.wr SEG.NODE_STAT.STATE i j 2).fire (EV.SEG.NODE_LOST i)
  else s1

/-- What the last poll brought from each node (R326, R327). -/
def nodeLatch (s : Block) (g : Fin 8) : List Nat → Block
  | [] => s
  | j :: t =>
    let i := g.val
    let k := 32 * i + j
    let s1 :=
      if !s.on HID.SEGASKED i j then s
      else
        match s.segAns.find k with
        | some a => { (s.nodeTake i j a) with segAns := s.segAns.del k }
        | none => if s.on HID.SEGWRONG i j then s else s.nodeMiss g j
    ((s1.wr HID.SEGASKED i j 0).wr HID.SEGWRONG i j 0).nodeLatch g t

/-- The blocks of a POLL (R324, R325): each valid node with output words, and their logical state. -/
def pollBlocks (s : Block) (g : Nat) : List (Nat × List Nat) :=
  ((s.segNodes g).filter fun j => s.rd SEG.NODE_CFG.OUT_WORDS g j != 0).map fun j =>
    (j, (List.range (s.rd SEG.NODE_CFG.OUT_WORDS g j)).map fun k => s.point (nodeBase g j + 0x040 + 4 * k))

/-- The POLL of a segment at tick `n` (R324, R325). -/
def pollFrame (s : Block) (g n : Nat) : TxFrame := ⟨.poll g (n % 2 ^ 32) (s.pollBlocks g), 0xFF, 0, false, 7⟩

/-- The nodes that a poll addresses. -/
def markAsked (s : Block) (g : Nat) : List Nat → Block
  | [] => s
  | j :: t => (s.wr HID.SEGASKED g j 1).markAsked g t

/-- Whether segment `g` polls at tick `n` (R325). -/
def pollsAt (s : Block) (g n : Nat) : Bool :=
  s.segRuns g && n % (max 1 (s.rd SEG.SEG_CFG.PERIOD g 0)) == s.rd SEG.SEG_CFG.PHASE g 0

/-- Segment `g` at step 2 of tick `n` (R325 to R327, R331): a poll tick takes the answers of the poll before, and sends
the next POLL. -/
def segTick (s : Block) (g : Fin 8) (n : Nat) : Block :=
  let i := g.val
  let s1 := s.wr SEG.SEG_STAT.BEACON i 0 (b2n (s.segRuns i))
  if !s1.pollsAt i n then s1
  else
    let s2 := s1.nodeLatch g (List.range 32)
    let s3 := ((s2.wr SEG.SEG_STAT.FOREIGN i 0 (s2.rd HID.SEGFOR i 0)).wr HID.SEGFOR i 0 0).wr HID.SEGPOLL i 0 (n + 1)
    let f := s3.pollFrame i n
    let s4 := (s3.stat (.seg g) 19 1).statOct (.seg g) 20 f.octets
    { s4 with sent := s4.sent ++ [f] }.markAsked i (s4.segNodes i)

/-- Every segment. -/
def segAll (s : Block) (n : Nat) : Block :=
  ((((((((s.segTick 0 n).segTick 1 n).segTick 2 n).segTick 3 n).segTick 4 n).segTick 5 n).segTick 6 n).segTick 7 n)

/-- An ANSWER of node `j` that ends `us` µs after the boundary of the last poll (R324, R326, R327): a late one is
discarded, one of the wrong type is not taken. -/
def segAnswer (s : Block) (g : Fin 8) (j us status type : Nat) (words : List Word) : Block :=
  let i := g.val
  if !s.segRuns i || s.rd HID.SEGPOLL i 0 == 0 then s
  else
    let s1 := s.rxCount (.seg g) (max 64 (14 + 8 + 4 + 4 * words.length + 4)) false
    if !s.on HID.SEGASKED i j then s1
    else if us ≥ 250 * s.rd SEG.SEG_CFG.PERIOD i 0 then s1
    else if type % 2 ^ 16 ≠ s.rd SEG.NODE_CFG.TYPE i j then
      (((s1.wr SEG.NODE_STAT.TYPE_SEEN i j type).wr SEG.NODE_STAT.STATE i j 3).wr HID.SEGOK i j 0).wr HID.SEGWRONG i j 1 |>.fire
        (EV.SEG.TYPE_ERR i)
    else
      let s2 := ((s1.wr SEG.NODE_STAT.TYPE_SEEN i j type).wr SEG.SEG_STAT.LAST_ANS i 0 (min us 65535)).stat (.seg g) 28 1
      { s2 with segAns := s2.segAns.put (32 * i + j) ⟨status % 256, type % 2 ^ 16, words.map (·.toNat)⟩ }

/-- A foreign beacon or a collision on a segment (R331). -/
def segForeign (s : Block) (g : Fin 8) : Block :=
  (((s.wr HID.SEGFOR g.val 0 1).wr SEG.SEG_STAT.FOREIGN g.val 0 1).stat (.seg g) 30 1).fire (EV.SEG.PLCA_FAULT g.val)

/-- Validation of a segment's configuration (R330) as a committing batch leaves it. -/
def segCode (valid outW : Nat → Nat) (count period phase : Nat) : Nat :=
  let l := (List.range 32).filter fun j => j != 0 && valid j != 0
  if (l.map fun j => 4 + 4 * outW j).sum > 1492 then 0x08
  else if l.any fun j => decide (j ≥ count) then 0x08
  else if phase ≥ period then 0x08
  else 0

/-- A node that is no longer valid is unused (NODE_STAT). -/
def nodeCfgCommit (s : Block) (g j : Nat) : Block :=
  if s.on SEG.NODE_CFG.VALID g j then s
  else ((s.wr SEG.NODE_STAT.STATE g j 0).wr SEG.NODE_STAT.MISSES g j 0).wr HID.SEGASKED g j 0

/-! ### Service port -/

/-- Whether the service port takes SESSION frames (R332, R333). -/
def svcTakes (s : Block) : Bool :=
  s.on HDR.PAGE_CTRL.ENABLE 0x090 0 && s.on SVC.SVC_STAT.LINK 0 0 &&
    (s.g SVC.SVC_CFG.MODE == 1 || (s.g SVC.SVC_CFG.MODE == 2 && s.on SVC.SVC_STAT.WOKEN 0 0))

/-- A wake pattern arrives (R333); one that the mode does not take, or with another key, is counted in RX_UNKNOWN. -/
def svcWake (s : Block) (key : Nat) : Block :=
  if !s.on HDR.PAGE_CTRL.ENABLE 0x090 0 || !s.on SVC.SVC_STAT.LINK 0 0 then s
  else if s.g SVC.SVC_CFG.MODE = 2 ∧ s.g SVC.SVC_STAT.WOKEN = 0 ∧ key = s.g SVC.SVC_WAKE.KEY then
    (((s.rxCount .svc 64 false).p SVC.SVC_STAT.WOKEN 1).stat .svc 31 1).fire EV.SVC.WAKE
  else s.badFrame .svc (.unknown 64)

/-- A commit of SVC_CFG ends what a wake pattern made (R333); MODE 0 powers the port down (R332). -/
def svcCfgCommit (s : Block) : Block :=
  let s1 := s.p SVC.SVC_STAT.WOKEN 0
  if s1.g SVC.SVC_CFG.MODE = 0 ∨ s1.on HDR.PAGE_CTRL.ENABLE 0x090 0 = false then s1.svcDown else s1

end Block
end Sys2Proof.Machine
end

