-- ==== Sys2Proof/Machine/Crc.lean ====
section
/-!
DEFINITION. CRC-32C (the Castagnoli polynomial, reflected), over bytes.
-/
namespace Sys2Proof.Machine

/-- One bit of the reflected CRC-32C. -/
def crcBit (c : BitVec 32) : BitVec 32 := if c.getLsbD 0 then (c >>> 1) ^^^ 0x82F63B78#32 else c >>> 1

/-- One byte of the reflected CRC-32C. -/
def crcByte (c : BitVec 32) (b : BitVec 8) : BitVec 32 :=
  crcBit (crcBit (crcBit (crcBit (crcBit (crcBit (crcBit (crcBit (c ^^^ b.zeroExtend 32))))))))

/-- The CRC register after the `n` bytes of a memory from address `a`, the memory's list starting at or above `a`. -/
def crcMem (c : BitVec 32) (a : Nat) : Nat → Memory → BitVec 32
  | 0, _ => c
  | n + 1, [] => crcMem (crcByte c 0) (a + 1) n []
  | n + 1, (k, v) :: t =>
    if k = a then crcMem (crcByte c v) (a + 1) n t else crcMem (crcByte c 0) (a + 1) n ((k, v) :: t)

/-- CRC-32C of the first `n` bytes of a memory. -/
def crc32c (m : Memory) (n : Nat) : Nat := (crcMem 0xFFFFFFFF#32 0 n m ^^^ 0xFFFFFFFF#32).toNat

/-- The CRC register after a word, its lowest byte first (assumption 5). -/
def crcWord (c : BitVec 32) (w : Nat) : BitVec 32 :=
  crcByte (crcByte (crcByte (crcByte c (BitVec.ofNat 8 w)) (BitVec.ofNat 8 (w / 256))) (BitVec.ofNat 8 (w / 65536)))
    (BitVec.ofNat 8 (w / 16777216))

/-- CRC-32C of a list of words. -/
def crcWords (l : List Nat) : Nat := (l.foldl crcWord 0xFFFFFFFF#32 ^^^ 0xFFFFFFFF#32).toNat

end Sys2Proof.Machine
end

