-- ==== Sys2Proof/Machine/Kdf.lean ====
section
/-!
DEFINITION. The functions of the vault on octet strings: hashes and MACs (constants without a body of Config, cut to
their lengths), the key derivation of R385, and the octets of words.
-/
namespace Sys2Proof.Machine

/-- `n` octets of a number, most significant first. -/
def octs (n v : Nat) : List Nat := (List.range n).map fun i => v / 256 ^ (n - 1 - i) % 256

/-- The number that octets spell, most significant first. -/
def octVal (l : List Nat) : Nat := l.foldl (fun a x => 256 * a + x) 0

/-- The octets of key material (assumption 155: most significant octet of a word first). -/
def wordOcts (l : List Nat) : List Nat := l.flatMap fun w => octs 4 w

/-- `n` words of an octet string. -/
def octWords (n : Nat) (l : List Nat) : List Nat := (List.range n).map fun i => octVal ((l.drop (4 * i)).take 4)

/-- The octets of a name in ASCII. -/
def ascii (t : String) : List Nat := t.toList.map fun c => c.toNat

/-- SHA-384 of an octet string: 48 octets. -/
def sha384 (m : List Nat) : List Nat := (List.range 48).map fun i => Config.sha384 m i % 256

/-- HMAC-SHA-384 of an octet string under a key: 48 octets. -/
def hmac384 (key m : List Nat) : List Nat := (List.range 48).map fun i => Config.hmac384 key m i % 256

/-- The x-coordinate that P-384 ECDH gives for a secret and a public key: 48 octets (R390). -/
def ecdhX (secret pub : List Nat) : List Nat := (List.range 48).map fun i => Config.ecdhX secret pub i % 256

/-- The public key of a P-384 secret, uncompressed: 0x04, X and Y (R389). -/
def pubPoint (secret : List Nat) : List Nat := 4 :: (List.range 96).map fun i => Config.pubPoint secret i % 256

/-- An ECDSA P-384 signature, r and s, of an octet string by a private key; each signature is made with a serial number's
nonce (R389, R390). -/
def ecdsaSign (key m : List Nat) (serial : Nat) : List Nat := (List.range 96).map fun i => Config.ecdsaSign key m serial i % 256

/-- Octets `i` to `i + n - 1` of what the vault draws in secret under a serial number. -/
def secretOcts (serial i n : Nat) : List Nat := (List.range n).map fun k => Config.secret serial (i + k) % 256

/-- The first `l` bits, `l` being whole octets, of the counter-mode key derivation (R385). -/
def kdf (ki label context : List Nat) (l : Nat) : List Nat :=
  ((List.range ((l + 383) / 384)).flatMap fun i => hmac384 ki (octs 4 (i + 1) ++ label ++ [0] ++ context ++ octs 4 l)).take (l / 8)

/-- The order n of P-384 (FIPS 186: the spec names it and writes it nowhere). -/
def p384Order : Nat :=
  0xFFFFFFFFFFFFFFFFFFFFFFFFFFFFFFFFFFFFFFFFFFFFFFFFC7634D81F4372DDF581A0DB248B0A77AECEC196ACCC52973

/-- Words of key material by TYPE (R379); 0 where TYPE names no key. -/
def keyWords (type : Nat) : Nat :=
  if type = 1 then 8 else if type = 2 then 16 else if type = 3 then 12 else if type = 4 then 13 else if type = 5 then 8 else 0

/-- The material that a derivation gives a key of a TYPE (R385): a P-384 private key is 448 bits modulo n − 1, plus 1. -/
def kdfKey (ki label context : List Nat) (type : Nat) : List Nat :=
  if type = 3 then octWords 12 (octs 48 (octVal (kdf ki label context 448) % (p384Order - 1) + 1))
  else octWords (keyWords type) (kdf ki label context (32 * keyWords type))

end Sys2Proof.Machine
end

