-- ==== Sys2Proof/Machine/Metrology.lean ====
section
/-!
DEFINITION. The sealed metrology island and the MET page (R274 to R296). Signals become the island's measurements
outside the model; what the island makes of them is here.
-/
namespace Sys2Proof.Machine

/-- A parameter of the island: identifier and index (R292). One that was never written has the lowest value of its
range in magnitude. -/
def parVal (pars : AMap Nat) (id idx : Nat) : Nat :=
  (pars.find (id * 256 + idx)).getD (if id = 2 then 1 else if id = 3 then 1000 else 0)

/-- Whether a parameter exists and a value lies in its range (R292). -/
def parOk (p v : Nat) : Bool :=
  let id := p / 256
  let idx := p % 256
  let x := sgn 32 v
  if id = 1 then decide (idx < 48) && decide (v ≤ 3)
  else if id = 2 then decide (idx < 48) && decide (1 ≤ v) && decide (v ≤ 100000)
  else if id = 3 then decide (idx < 48) && decide (1000 ≤ v) && decide (v ≤ 500000)
  else if id = 4 then decide (idx < 48) && decide (-50000 ≤ x) && decide (x ≤ 50000)
  else if id = 5 then decide (idx < 48) && decide (-5000 ≤ x) && decide (x ≤ 5000)
  else if id = 6 then decide (idx < 8) && decide (-50000 ≤ x) && decide (x ≤ 50000)
  else if id = 7 then decide (idx < 16) && decide (v < 32)
  else false

/-- What the island has made of one metered phase in an interval (R279): active and reactive energy (signed) as sums of products
of samples in pV and pA, the voltage in pV and the current in pA, and whether a sample was clipped (R277). -/
structure PhaseVal where
  ci : Nat
  e : Int
  q : Int
  vrms : Nat
  irms : Nat
  clip : Bool
deriving DecidableEq, Repr

/-- The apparent energy of a phase, in the unit of its other energies (R279). -/
def PhaseVal.s (p : PhaseVal) : Nat := p.vrms * p.irms * 1600

/-- A sample held to a full scale, and whether it reaches it (R276, R277). -/
def clipAt (f x : Int) : Int := max (-f) (min f x)
def atScale (f : Int) (l : List Int) : Bool := l.any fun x => decide (x ≤ -f) || decide (f ≤ x)

/-- The full scale of a voltage input in µV, of a current input in nV by its mode (R276). -/
def voltScale : Int := 450000000
def curScale (mode : Nat) : Int := if mode = 1 then 120000000 else 600000000

/-- The sum of the products of two signals, and the RMS value of one over `n` samples, truncated (R279). -/
def dotSum (a b : List Int) : Int := ((a.zip b).map fun x => x.1 * x.2).sum
def rmsOf (n : Nat) (l : List Int) : Nat := rootOf ((l.map fun x => x.natAbs ^ 2).sum / n) 64 0

/-- The coil integrator over samples in nV, from `y` on, with gain `k` in 2^-32 pA per nV (R277): its outputs, the newest last. -/
def coilRun (k : Nat) : Int → List Int → List Int
  | _, [] => []
  | y, x :: t => let z := y - y.fdiv 16384 + (x * k).tdiv (2 ^ 32); z :: coilRun k z t

namespace Island

/-- The rated current of an input, in 0.1 A. -/
def iN (x : Island) (ci : Nat) : Nat := parVal x.pars 2 ci

/-- MTR_CFG of a meter: enabled, voltage set, phase mask (R278, R292). -/
def mtrEn (x : Island) (m : Nat) : Bool := (parVal x.pars 7 m).testBit 0
def mtrVs (x : Island) (m : Nat) : Nat := bitN (parVal x.pars 7 m) 1
def mtrMask (x : Island) (m : Nat) : Nat := bits (parVal x.pars 7 m) 4 2

/-- Whether a current input is an enabled phase of an enabled meter (R278). -/
def phaseOn (x : Island) (ci : Nat) : Bool := x.mtrEn (ci / 3) && (x.mtrMask (ci / 3)).testBit (ci % 3)

/-- Whether the voltage of a meter's phase is present (R278, R282). -/
def phasePresent (x : Island) (m p : Nat) : Bool := x.vPresent.testBit (4 * x.mtrVs m + p)

/-- Whether a voltage set is absent (R282). -/
def setAbsent (x : Island) (vs : Nat) : Bool := bits x.vPresent (4 * vs + 2) (4 * vs) == 0

/-- The presence word of MET_VSET [7:0]. -/
def vsetWord (x : Island) : Nat :=
  bits x.vPresent 2 0 + 8 * b2n (x.setAbsent 0) + 16 * bits x.vPresent 6 4 + 128 * b2n (x.setAbsent 1)

/-- The seal state (R289). -/
def sealState (x : Island) : Nat :=
  if x.running.isNone then 4 else if x.debug then 3 else if x.loading then 2 else if x.cover then 1
  else if x.log.length ≥ 1024 then 5 else 0

/-- Write a log record and send it (R290). -/
def addLog (x : Island) (kind aux data : Nat) : Island :=
  if x.log.length ≥ 1024 then x
  else
    let r : MetRec := ⟨x.log.length, kind, aux % 65536, x.sec % 2 ^ 32, x.seals % 65536, x.pcount % 65536, data % 2 ^ 32⟩
    { x with log := r :: x.log, out := x.out ++ [.log r] }

/-- Write a tamper record and send it; the buffer keeps the newest 256 (R282, R287). -/
def addTamper (x : Island) (ci : Nat) (present nov : Bool) : Island :=
  let r : TampRec := ⟨x.tnum, ci, present, x.bat, nov, x.sec % 2 ^ 32⟩
  { x with tamper := (r :: x.tamper).take 256, tnum := x.tnum + 1, out := x.out ++ [.tamper r] }

/-- The image in a bank. -/
def bank (x : Island) (b : Nat) : Option Lrf := if b = 0 then x.bank0 else x.bank1

/-- The running image. -/
def runImg (x : Island) : Lrf := ((x.running.bind fun b => x.bank b)).getD ⟨0, 0⟩

/-- The parameter report (R292, R293). -/
def parReport (x : Island) : MReport :=
  .params x.pars x.runImg.version x.runImg.crc x.seals x.pcount x.days x.pres x.burst

/-- The island sends its whole log, its tamper buffer and its parameter set (R293). -/
def resync (x : Island) : Island :=
  { x with out := x.out ++ x.log.reverse.map (.log ·) ++ x.tamper.reverse.map (.tamper ·) ++ [x.parReport] }

/-- A signed parameter of an input (R292). -/
def corr (x : Island) (id idx : Nat) : Int := sgn 32 (parVal x.pars id idx)

/-- The calibrated samples of a voltage input, in pV (R276, R292). -/
def voltCal (x : Island) (vi : Nat) (l : List Int) : List Int := l.map fun a => clipAt voltScale a * (1000000 + x.corr 6 vi)

/-- What the samples of a current input in coil mode add to its integrator (R277). -/
def coilOut (x : Island) (ci : Nat) (l : List Int) : List Int :=
  coilRun (Config.coilGain (parVal x.pars 3 ci) (x.iN ci)) ((x.coil.find ci).getD 0) (l.map (clipAt (curScale 3)))

/-- The calibrated samples of a current input, in pA (R277, R292): a 50 Hz sine of SIG reads as I_N, and an input that is off reads
0. -/
def curCal (x : Island) (ci : Nat) (l : List Int) : List Int :=
  let m := parVal x.pars 1 ci
  let g : Int := 1000000 + x.corr 4 ci
  let r :=
    if m = 0 then l.map fun _ => 0
    else if m = 3 then (x.coilOut ci l).map fun y => (y * g).tdiv 1000000
    else l.map fun a => (clipAt (curScale m) a * x.iN ci * 100 * g).tdiv (parVal x.pars 3 ci)
  if x.corr 5 ci = 0 then r else Config.phaseShift r (x.corr 5 ci)

/-- The integrators after an interval or a burst (R277). -/
def coilsNext (x : Island) (i : List (List Int)) : List Nat → Island
  | [] => x
  | ci :: t =>
    let l := i.getD ci []
    (if parVal x.pars 1 ci = 3 ∧ l ≠ [] then { x with coil := x.coil.put ci ((x.coilOut ci l).getLast?.getD 0) } else x).coilsNext i t

/-- The frequency of a voltage set: of L1, or of its first present phase (R282). -/
def freqOf (x : Island) (f : List Nat) (vs : Nat) : Nat :=
  match [0, 1, 2].find? fun p => x.vPresent.testBit (4 * vs + p) with
  | some p => f.getD (4 * vs + p) 0
  | none => Config.freqNone x.seq

/-- What the island makes of one metered phase in an interval (R277 to R279). -/
def phaseVal (x : Island) (v i : List (List Int)) (f : List Nat) (ci : Nat) : PhaseVal :=
  let m := ci / 3
  let vi := 4 * x.mtrVs m + ci % 3
  let raw := v.getD vi []
  let vl := x.voltCal vi raw
  let il := x.curCal ci (i.getD ci [])
  { ci := ci, e := dotSum vl il, q := dotSum (Config.quarterTurn vl (x.freqOf f (x.mtrVs m))) il, vrms := rmsOf 1600 vl,
    irms := rmsOf 1600 il,
    clip := atScale voltScale raw || (parVal x.pars 1 ci != 0 && atScale (curScale (parVal x.pars 1 ci)) (i.getD ci [])) }

/-- Every metered phase of every enabled meter (R278). -/
def phaseVals (x : Island) (v i : List (List Int)) (f : List Nat) : List PhaseVal :=
  ((List.range 48).filter x.phaseOn).map (x.phaseVal v i f)

/-- Whether a current in pA reaches a number of thousandths of an input's rated current. -/
def reaches (x : Island) (ci irms mil : Nat) : Bool := decide (mil * x.iN ci * 100000000 ≤ irms)

/-- A billing register: its total in units of which 288 * 10^26 make 1 mWh. -/
def reg (x : Island) (m g q : Nat) : Nat := (x.regs.find (m * 24 + 6 * g + q)).getD 0

/-- Add energy to a billing register (R280). -/
def addReg (x : Island) (m g q n : Nat) : Island :=
  if n = 0 then x else { x with regs := x.regs.put (m * 24 + 6 * g + q) (x.reg m g q + n) }

/-- Accumulate active, reactive and apparent energy in a group of registers, by sign (R279). -/
def accum (x : Island) (m g : Nat) (e q : Int) (s : Nat) : Island :=
  let x1 := x.addReg m g (if e ≥ 0 then 0 else 1) e.natAbs
  let x2 := x1.addReg m g (if q ≥ 0 then 2 else 3) q.natAbs
  x2.addReg m g (if e ≥ 0 then 4 else 5) s

/-- Whether a phase counts in an interval: at least 0.1% of its rated current (R280). -/
def counts (x : Island) (p : PhaseVal) : Bool := x.reaches p.ci p.irms 1

/-- Each phase's own registers (R279). -/
def accumPhases (x : Island) : List PhaseVal → Island
  | [] => x
  | p :: t =>
    (if x.counts p then x.accum (p.ci / 3) (p.ci % 3 + 1) p.e p.q p.s else x).accumPhases t

/-- The counted phases of a meter. -/
def meterIn (x : Island) (m : Nat) (l : List PhaseVal) : List PhaseVal := l.filter fun p => p.ci / 3 == m && x.counts p

/-- The totals of each listed meter: the net of its phases (R279). -/
def accumTotals (x : Island) (l : List PhaseVal) : List Nat → Island
  | [] => x
  | m :: t =>
    let k := x.meterIn m l
    (if x.mtrEn m then x.accum m 0 (k.map (·.e)).sum (k.map (·.q)).sum (k.map (·.s)).sum else x).accumTotals l t

/-- NOVOLT of a phase in an interval: voltage absent, current at or above PRES (R282). -/
def noVolt (x : Island) (p : PhaseVal) : Bool := !x.phasePresent (p.ci / 3) (p.ci % 3) && x.reaches p.ci p.irms x.pres

/-- Each phase's NOVOLT, with a tamper record at a change (R282). -/
def noVolts (x : Island) : List PhaseVal → Island
  | [] => x
  | p :: t =>
    let b := x.noVolt p
    (if b = x.novolt.testBit p.ci then x
     else { x with novolt := putBit x.novolt p.ci b }.addTamper p.ci b true).noVolts t

/-- Mean power over an interval in mW, mvar or mVA, from a sum of products of samples. -/
def power (e : Int) : Int := Int.tdiv e (1600 * 10 ^ 21)

/-- What a frame carries of a phase (R284). -/
def phaseView (x : Island) (p : PhaseVal) : MPhase :=
  ⟨p.vrms / 10 ^ 9, p.irms / 10 ^ 9, power p.e, power p.q, (power p.s).toNat,
    if p.s = 0 then Config.pfNone x.seq else Int.tdiv (p.e * 1000) p.s, (x.ah.find p.ci).getD 0 / (3600 * 10 ^ 9)⟩

/-- A mask of the phases of a meter with a property. -/
def maskOf (f : Nat → Bool) : Nat := b2n (f 0) + 2 * b2n (f 1) + 4 * b2n (f 2)

/-- A meter of which no frame has carried anything. -/
def viewNone : MMeter :=
  { en := false, present := 0, rev := 0, novolt := 0, ovr := 0, regs := List.replicate 24 0,
    ph := List.replicate 3 ⟨0, 0, 0, 0, 0, 0, 0⟩, pTot := 0, qTot := 0, sTot := 0, freq := 0 }

/-- What the last frame carried of a meter. -/
def viewOf (x : Island) (m : Nat) : MMeter := x.view.getD m viewNone

/-- What a frame carries of an enabled meter (R283, R284): of its metered phases what the interval gave, of the others what stands
(R278). -/
def meterView (x : Island) (l : List PhaseVal) (f : List Nat) (m : Nat) : MMeter :=
  let all := l.filter fun p => p.ci / 3 == m
  let k := x.meterIn m l
  { en := true, present := maskOf fun p => x.phasePresent m p,
    rev := maskOf fun p => k.any fun y => y.ci % 3 == p && decide (y.e < 0),
    novolt := maskOf fun p => x.novolt.testBit (3 * m + p),
    ovr := maskOf fun p => all.any fun y => y.ci % 3 == p && y.clip,
    regs := (List.range 24).map fun i => x.reg m (i / 6) (i % 6) / (288 * 10 ^ 26) % 2 ^ 64,
    ph := (List.range 3).map fun p =>
      match all.find? fun y => y.ci % 3 == p with
      | some y => x.phaseView y
      | none => (x.viewOf m).ph.getD p ⟨0, 0, 0, 0, 0, 0, 0⟩,
    pTot := power (all.map (·.e)).sum, qTot := power (all.map (·.q)).sum, sTot := (power (all.map (·.s)).sum).toNat,
    freq := x.freqOf f (x.mtrVs m) }

/-- The meters of a frame: one that is not enabled stands (R278), and so does every meter while no LRF runs (R289). -/
def views (x : Island) (l : List PhaseVal) (f : List Nat) : List MMeter :=
  (List.range 16).map fun m =>
    if x.running.isSome && x.mtrEn m then x.meterView l f m else { x.viewOf m with en := false }

/-- The data frame of an interval (R283). -/
def frame (x : Island) (f : List Nat) : MFrame :=
  { seq := x.seq % 65536, sec := x.sec % 2 ^ 32, sealSt := x.sealState, debug := x.debug, vset := x.vsetWord,
    freq0 := x.freqOf f 0 / 10, meters := x.view }

/-- The seconds count goes on by a number of units of 250 µs (R283). -/
def count (x : Island) (u : Nat) : Island :=
  if x.sub + u ≥ 4000 then { x with sub := x.sub + u - 4000, sec := x.sec + 1 } else { x with sub := x.sub + u }

/-- Whether the island runs at all. -/
def powered (x : Island) : Bool := x.modSupply || x.mains || x.vbat

/-- The energies of an interval go to the registers, and NOVOLT follows (R279, R280, R282). -/
def account (x : Island) (l : List PhaseVal) : Island := ((x.noVolts l).accumPhases l).accumTotals l (List.range 16)

/-- METROLOGY_INTERVAL (R277 to R283): outside battery mode. While no LRF runs nothing is measured, and the registers stand. -/
def interval (x : Island) (v i : List (List Int)) (f : List Nat) : Island :=
  if !x.powered || x.bat then x
  else
    let x0 := x.count 800
    let l := if x.running.isNone then [] else x0.phaseVals v i f
    let x1 := if x.running.isNone then x0 else (x0.account l).coilsNext i (List.range 48)
    let x2 := { x1 with view := x1.views l f }
    { x2 with link := some (x2.frame f), seq := x2.seq + 1 }

/-- The present currents of a battery episode cease (R286, worked example). -/
def endFlows (x : Island) : List Nat → Island
  | [] => x
  | ci :: t =>
    (if x.flowing.testBit ci then { x with flowing := clrBit x.flowing ci }.addTamper ci false false else x).endFlows t

/-- Battery mode ends (R286). -/
def batOff (x : Island) : Island :=
  if x.bat then
    let x1 := x.addLog 0x0A (min x.bursts 65535) (x.sec - x.batStart)
    { x1.endFlows (List.range 48) with bat := false, budgetOut := false }
  else x

/-- BATTERY_MODE_ENTRY (R286): the island runs from VBAT. -/
def batEnter (x : Island) : Island :=
  if x.modSupply || x.mains || !x.vbat || x.bat then x
  else
    let x1 := { x with bat := true, batStart := x.sec, bursts := 0, budgetOut := x.days == 0, ah := [], flowing := 0, since := 0 }
    x1.addLog 0x09 0 0

/-- Battery mode is entered as soon as the island runs from VBAT and both voltage sets are absent (R286). -/
def batCheck (x : Island) : Island := if x.setAbsent 0 && x.setAbsent 1 then x.batEnter else x

/-- ISLAND_SUPPLY_CHANGE (R275, R286): the sources now available. With no source at all the island stops, and its next start
records the loss. -/
def supply (x : Island) (md mn vb : Bool) : Island :=
  let x1 := { x with modSupply := md, mains := mn, vbat := vb,
                     since := if (x.modSupply || x.mains) && !md && !mn then 0 else x.since }
  if !x1.powered then
    { x1 with lost := true, bat := false, running := none, loading := false, ended := false, words := [], link := none, out := [] }
  else if md || mn then x1.batOff else x1.batCheck

/-- One input in a burst (R287), its RMS current in pA. -/
def burstOne (x : Island) (ci irms : Nat) : Island :=
  let on := x.reaches ci irms x.pres
  let x1 := if on then { x with ah := x.ah.put ci ((x.ah.find ci).getD 0 + irms * x.burst) } else x
  if on = x.flowing.testBit ci then x1 else { x1 with flowing := putBit x1.flowing ci on }.addTamper ci on false

/-- The metered inputs of a list in a burst of 800 samples. -/
def burstAll (x : Island) (i : List (List Int)) : List Nat → Island
  | [] => x
  | ci :: t => (if x.phaseOn ci then x.burstOne ci (rmsOf 800 (x.curCal ci (i.getD ci []))) else x).burstAll i t

/-- BATTERY_BURST (R287): the first at entry, each other BURST seconds after the one before. -/
def burstRun (x : Island) (i : List (List Int)) : Island :=
  if !x.bat || x.budgetOut || x.running.isNone || (x.bursts != 0 && decide (x.since < 4000 * x.burst)) then x
  else ({ x with bursts := x.bursts + 1, since := 0 }.burstAll i (List.range 48)).coilsNext i (List.range 48)

/-- BATTERY_BUDGET_END (R288): the episode has lasted DAYS days, or the cell is low. -/
def budget (x : Island) (cell : Bool) : Island :=
  if !x.bat || x.budgetOut || (!cell && decide (x.sec < x.batStart + 86400 * x.days)) then x
  else { x with budgetOut := true }.addLog 0x0B (b2n cell) 0

/-- An LRF load ends refused (R291). -/
def lrfRefuse (x : Island) (code : Nat) : Island :=
  { x with loading := false, ended := false, words := [] }.addLog 0x04 0 code

/-- COVER_SWITCH_CHANGE (R289, R291). -/
def coverTo (x : Island) (o : Bool) : Island :=
  if !x.powered || o == x.cover then x
  else
    let x1 := { x with cover := o }.addLog (if o then 0x01 else 0x02) 0 0
    if !o && x1.loading && !x1.ended then x1.lrfRefuse 0x02 else x1

/-- DEBUG_LINE_CHANGE (R295). -/
def debugTo (x : Island) (on : Bool) : Island :=
  if !x.powered || on == x.debug then x else { x with debug := on }.addLog (if on then 0x07 else 0x08) 0 0

/-- ISLAND_START (R290, R291): the last-installed bank runs when it verifies, else the other with LRF_FALLBACK; a
power loss and a gap in measurement are recorded, and everything is sent again (R293). -/
def start (x : Island) (ok0 ok1 : Bool) (gap : Nat) : Island :=
  if !x.powered then x
  else
    let ok (b : Nat) : Bool := (x.bank b).isSome && if b = 0 then ok0 else ok1
    let x1 := if x.lost then { x with lost := false }.addLog 0x0D 0 x.sec else x
    let x2 :=
      if ok x1.installed then { x1 with running := some x1.installed }
      else if ok (1 - x1.installed) then
        let y := { x1 with running := some (1 - x1.installed) }
        y.addLog 0x05 (y.runImg.version % 65536) y.runImg.crc
      else { x1 with running := none }
    let x3 := if gap = 0 then x2 else x2.addLog 0x0C 0 gap
    { x3 with out := [] }.resync

/-- VOLTAGE_PHASE_ABSENT (R282). -/
def vAbsent (x : Island) (v : Nat) : Island := { x with vPresent := clrBit x.vPresent v, vCount := x.vCount.del v }.batCheck

/-- VOLTAGE_ZERO_CROSSING (R282): `within` when it comes within 40 ms of the one before. -/
def vCross (x : Island) (v : Nat) (within : Bool) : Island :=
  if x.vPresent.testBit v then x
  else
    let n := if within then (x.vCount.find v).getD 0 + 1 else 0
    if n ≥ 3 then { x with vPresent := setBit x.vPresent v, vCount := x.vCount.del v }
    else { x with vCount := x.vCount.put v n }

/-- PARAM_WRITE as the island does it, with its outcome (R292, R293). -/
def paramWrite (x : Island) (p v : Nat) : Island × Nat :=
  if !x.cover || x.debug then (x, 0x02)
  else if !parOk p v then (x, 0x08)
  else if x.log.length ≥ 1000 then (x, 0x0A)
  else
    let x1 := { x with pars := x.pars.put p v, pcount := x.pcount + 1 }.addLog 0x06 p v
    ({ x1 with out := x1.out ++ [x1.parReport] }, 0)

/-- LRF_BEGIN (R291, R293). -/
def lrfBegin (x : Island) (len : Nat) : Island × Nat :=
  if !x.cover || x.debug then (x, 0x02)
  else if len % 4 ≠ 0 ∨ len = 0 ∨ len > 524288 then (x, 0x08)
  else if x.log.length ≥ 1000 || x.loading then (x, 0x0A)
  else ({ x with loading := true, ended := false, loadLen := len, words := [], idle := 0 }, 0)

/-- LRF_END and LRF_ABORT (R291, R293). -/
def lrfEnd (x : Island) : Island × Nat := if x.loading && !x.ended then ({ x with ended := true }, 0) else (x, 0x0A)
def lrfAbort (x : Island) : Island × Nat := if x.loading then (x.lrfRefuse 0x0A, 0) else (x, 0x0A)

/-- BAT_CFG (R293). -/
def batCfg (x : Island) (a : Nat) : Island × Nat :=
  if bits a 4 0 > 30 ∨ bits a 15 8 = 0 ∨ bits a 23 16 = 0 then (x, 0x08)
  else
    let x1 := { x with days := bits a 4 0, pres := bits a 15 8, burst := bits a 23 16 }
    ({ x1 with out := x1.out ++ [x1.parReport] }, 0)

/-- LRF_WORD_TIMEOUT (R291): no word of a load has come for 10 s. -/
def wordTimeout (x : Island) : Island :=
  if x.loading && !x.ended && decide (x.idle ≥ 40000) then x.lrfRefuse 0x0E else x

/-- 250 µs of the island's time (R283, R286 to R288, R291): the seconds count outside the measuring that counts them, battery mode
100 ms after the switch to VBAT, the end of the episode's days, and the wait for the words of a load. -/
def pass (x : Island) : Island :=
  if !x.powered then x
  else
    let x1 := { (if x.bat then x.count 1 else x) with since := x.since + 1, idle := x.idle + 1 }
    let x2 := if x1.bat then (if x1.days = 0 then x1 else x1.budget false) else if x1.since ≥ 400 then x1.batEnter else x1
    x2.wordTimeout

/-- The bytes of a loaded image. -/
def imageBytes (x : Island) : Memory :=
  let l := x.words.reverse
  (l.zip (List.range l.length)).foldl (fun m w => m.writeN (4 * w.2) 4 w.1.toNat) []

/-- LRF_VERIFY_DONE (R291): a good image is installed in the inactive bank, and the island restarts into it. -/
def lrfVerify (x : Island) (good : Bool) (version roll gap : Nat) : Island :=
  if !x.loading || !x.ended then x
  else if !good || decide (4 * x.words.length ≠ x.loadLen) then x.lrfRefuse 0x0B
  else if roll < x.minRoll then x.lrfRefuse 0x08
  else
    let img : Lrf := ⟨version, crc32c x.imageBytes x.loadLen⟩
    let b := 1 - x.running.getD x.installed
    let x1 := { x with loading := false, ended := false, words := [], installed := b, running := some b,
                       seals := x.seals + 1 }
    let x2 := if b = 0 then { x1 with bank0 := some img } else { x1 with bank1 := some img }
    let x3 := x2.addLog 0x03 (version % 65536) img.crc
    { (x3.addLog 0x0C 0 gap) with out := [] }.resync

end Island

/-- A word of a meter page (R284), but for QUAL, which the latch judges. -/
def meterWord (f : MFrame) (m : MMeter) (off : Nat) : Nat :=
  let ph (p : Nat) : MPhase := m.ph.getD p ⟨0, 0, 0, 0, 0, 0, 0⟩
  let reg (i : Nat) : Nat := m.regs.getD i 0
  if off = 0 then
    2 * m.present + 16 * m.rev + 128 * m.novolt + 1024 * m.ovr + 8192 * b2n f.debug + 16384 * f.sealSt
  else if off = 4 then f.seq
  else if off = 8 then f.sec
  else if 0x10 ≤ off ∧ off < 0xD0 then
    let i := (off - 0x10) / 8
    if off % 8 = 0 then reg i % 2 ^ 32 else reg i / 2 ^ 32
  else if 0x100 ≤ off ∧ off < 0x160 then
    let x := ph ((off - 0x100) / 0x20)
    let o := (off - 0x100) % 0x20
    if o = 0 then x.vrms % 2 ^ 32 else if o = 4 then x.irms % 2 ^ 32 else if o = 8 then uns 32 x.p
    else if o = 12 then uns 32 x.q else if o = 16 then x.s % 2 ^ 32 else if o = 20 then uns 32 x.pf
    else if o = 24 then x.ah % 2 ^ 32 else 0
  else if off = 0x160 then uns 32 m.pTot
  else if off = 0x164 then uns 32 m.qTot
  else if off = 0x168 then m.sTot % 2 ^ 32
  else if off = 0x16C then m.freq % 2 ^ 32
  else 0

namespace Block

/-- Change the island. -/
def island (s : Block) (f : Island → Island) : Block := { s with isl := f s.isl }

/-- What the module drives on the debug line: 1 while it runs with the substitute test root in use (R274, R295). -/
def debugLine (s : Block) : Bool := decide (s.g HID.PWRST ≤ 1) && s.on KEY.KEY_STAT.ROOT 0 0

/-- The island follows the debug line (R274). -/
def debugFollow (s : Block) : Block := s.island fun x => x.debugTo s.debugLine

/-- A word of meter page `m` at an offset as the latch left it (R283 to R285). -/
def meterPage (s : Block) (m off : Nat) : Nat :=
  match s.metPage with
  | none => 0
  | some f =>
    match f.meters[m]? with
    | none => 0
    | some x =>
      let q := off == 0 && x.en && s.on MET.MET_SEAL.LINK 0 0 && decide (s.tick < s.g HID.METRX + 4000)
      meterWord f x (off / 4 * 4) + b2n q

/-- The latch of the meter pages at step 2 (R283). -/
def latchMeters (s : Block) : Block :=
  match s.metKept with
  | none => s
  | some f => { s with metPage := some f, metKept := none }

/-- Meters whose NOVOLT or OVR sets with a new frame fire METER_ALERT (R296). -/
def meterAlerts (s : Block) (new old : List MMeter) (m : Nat) : Block :=
  match new with
  | [] => s
  | x :: t =>
    let z : Nat × Nat := match old with | [] => (0, 0) | y :: _ => (y.novolt, y.ovr)
    let sets (a b : Nat) : Bool := (List.range 3).any fun p => a.testBit p && !b.testBit p
    (s.fireIf (sets x.novolt z.1 || sets x.ovr z.2) (880 + m)).meterAlerts t (old.drop 1) (m + 1)

/-- MET_FRAME_RX (R283, R285): the frame on the link arrives; one with a CRC error is discarded. -/
def metFrameRx (s : Block) (crcOk : Bool) : Block :=
  match s.isl.link with
  | none => s
  | some f =>
    let s0 := s.island fun x => { x with link := none }
    if !crcOk then (s0.sat MET.MET_LINK.CRC_ERR 0 0 1).fire EV.MET.FRAME_CRC
    else
      let last := match s.metKept with | some k => some k | none => s.metPage
      let gap := match last with | some k => decide (f.seq ≠ (k.seq + 1) % 65536) | none => false
      let s1 := if gap then s0.sat MET.MET_LINK.GAPS 0 0 1 else s0
      let s2 := ((s1.p MET.MET_LINK.SEQ f.seq).p MET.MET_ISL_SEC.ISL_SEC f.sec).p MET.MET_SEAL.LINK 1
      let s3 := (s2.fireIf (s.g MET.MET_SEAL.STATE != f.sealSt) EV.MET.SEAL_CHANGE).fireIf
        (s.g MET.MET_SEAL.STATE != 4 && f.sealSt == 4) EV.MET.LRF_FAIL
      let s4 := (s3.p MET.MET_SEAL.STATE f.sealSt).p MET.MET_SEAL.DEBUG (b2n f.debug)
      let s5 := (s4.fireIf (s.g MET.MET_VSET.ABS0 == 0 && bitN f.vset 3 == 1) EV.MET.VS0_ABSENT).fireIf
        (s.g MET.MET_VSET.ABS1 == 0 && bitN f.vset 7 == 1) EV.MET.VS1_ABSENT
      let s6 := ((s5.p MET.MET_VSET.SET0 (bits f.vset 2 0)).p MET.MET_VSET.ABS0 (bitN f.vset 3)).p MET.MET_VSET.SET1 (bits f.vset 6 4)
      let s7 := (s6.p MET.MET_VSET.ABS1 (bitN f.vset 7)).p MET.MET_VSET.FREQ0 f.freq0
      let s8 := s7.meterAlerts f.meters ((last.map fun k => k.meters).getD []) 0
      { (s8.p HID.METRX s.tick) with metKept := some f }

/-- MET_LINK_LOST (R285): no correct frame has arrived for 1 s. -/
def metLost (s : Block) : Block :=
  if s.on MET.MET_SEAL.LINK 0 0 && decide (s.tick ≥ s.g HID.METRX + 4000) then (s.p MET.MET_SEAL.LINK 0).fire EV.MET.LINK_LOST else s

/-- The source a log record fires, when it has not arrived before (R296). -/
def metRecSrc (kind : Nat) : Option Nat :=
  if kind = 1 then some EV.MET.COVER_OPEN else if kind = 2 then some EV.MET.COVER_CLOSE
  else if kind = 3 then some EV.MET.LRF_INSTALLED else if kind = 4 ∨ kind = 5 then some EV.MET.LRF_FAIL
  else if kind = 6 then some EV.MET.PARAM_CHANGED else if kind = 7 ∨ kind = 8 then some EV.MET.DEBUG
  else if kind = 9 then some EV.MET.BAT_ON else if kind = 10 then some EV.MET.BAT_OFF
  else if kind = 11 then some EV.MET.BUDGET_END else none

/-- A log record arrives (R293, R296). -/
def metLogRx (s : Block) (r : MetRec) : Block :=
  let s1 := { s with metLog := s.metLog.put r.seq r }
  let s2 := ((s1.p MET.MET_LOG_STAT.COUNT (max (s.g MET.MET_LOG_STAT.COUNT) (r.seq + 1))).p MET.MET_COUNT.SEAL_COUNT
    r.seals).p MET.MET_COUNT.PARAM_COUNT r.pars
  let s3 := if r.kind = 1 then s2.p MET.MET_SEAL.COVER 1 else if r.kind = 2 then s2.p MET.MET_SEAL.COVER 0
    else if r.kind = 9 then s2.p MET.MET_SEAL.BAT 1 else if r.kind = 10 then s2.p MET.MET_SEAL.BAT 0
    else if r.kind = 7 then s2.p MET.MET_SEAL.DEBUG 1 else if r.kind = 8 then s2.p MET.MET_SEAL.DEBUG 0 else s2
  if r.seq < s.g HID.METSEEN then s3
  else
    let s4 := s3.p HID.METSEEN (r.seq + 1)
    let s5 := match metRecSrc r.kind with | some n => s4.fire n | none => s4
    s5.fireIf (r.seq == 999 || r.seq == 1023) EV.MET.LOG_FULL

/-- A tamper record arrives (R293, R296). -/
def metTampRx (s : Block) (r : TampRec) : Block :=
  let l := s.metTamp.filter fun x => x.num != r.num
  let s1 := { s with metTamp := ((l.filter fun x => decide (r.num < x.num)) ++ r :: l.filter fun x => decide (x.num < r.num)).take 256 }
  if r.num < s.g HID.METTSEEN then s1 else (s1.p HID.METTSEEN (r.num + 1)).fire (880 + r.input / 3)

/-- MET_RECORD_RX: the oldest report on the link arrives (R293, R296). -/
def metRecordRx (s : Block) : Block :=
  match s.isl.out with
  | [] => s
  | x :: t =>
    let s1 := s.island fun y => { y with out := t }
    match x with
    | .log r => s1.metLogRx r
    | .tamper r => s1.metTampRx r
    | .params pars ver crc seals pc d p b =>
      let s2 := { s1 with metPars := pars }
      let s3 := ((s2.p MET.MET_LRF_VER.VERSION ver).p MET.MET_LRF_CRC.CRC crc).p MET.MET_COUNT.SEAL_COUNT seals
      (((s3.p MET.MET_COUNT.PARAM_COUNT pc).p MET.MET_BAT_CFG.DAYS d).p MET.MET_BAT_CFG.PRES p).p MET.MET_BAT_CFG.BURST b

/-- A refusal of a write of MET_CMD (R293): recorded, and CMD_REFUSED fires. -/
def metRefuse (s : Block) (r : Req) (code : Nat) : Block × Nat :=
  ((s.refuse 0x070 code r 0x070058).fire EV.MET.CMD_REFUSED, code)

/-- The checks of a write of MET_CMD (R293). -/
def metCmdCode (s : Block) (r : Req) : Nat :=
  match r with
  | .ses _ => if !s.tin0cfg r then 0x01 else if s.on MET.MET_CMD_STAT.BUSY 0 0 then 0x0A else 0
  | _ => 0x0C

/-- A write of MET_CMD with a code: when it is accepted, the island does `f` and owes its outcome (R293). -/
def metCmd (s : Block) (r : Req) (code : Nat) (f : Island → Island × Nat) : Block × Nat :=
  if s.metCmdCode r = 0 then
    let y := f s.isl
    let s1 := { s with isl := { y.1 with result := some y.2 } }
    ((s1.p MET.MET_CMD_STAT.BUSY 1).p MET.MET_CMD_STAT.LAST code, 0)
  else s.metRefuse r (s.metCmdCode r)

/-- A requester's arguments. -/
def metArg0 (s : Block) (r : Req) : Nat := s.own MET.MET_ARG0.ARG0 0 r
def metArg1 (s : Block) (r : Req) : Nat := s.own MET.MET_ARG1.ARG1 0 r

/-- MET_CMD_OUTCOME (R293). -/
def metOutcome (s : Block) : Block :=
  match s.isl.result with
  | none => s
  | some c =>
    let s1 := (s.island fun x => { x with result := none }).p MET.MET_CMD_STAT.BUSY 0
    (s1.p MET.MET_CMD_STAT.RESULT c).fireIf (c != 0) EV.MET.CMD_REFUSED

/-- A write of MET_LRF_DATA (R291): refused unless a load runs. -/
def lrfData (s : Block) (r : Req) (w : Word) : Block × Nat :=
  if s.isl.loading && !s.isl.ended then (s.island fun x => { x with words := w :: x.words, idle := 0 }, 0)
  else (s.refuse 0x070 0x0A r 0x070068, 0x0A)

/-- The words of the selected log record, tamper record and parameter, as MET shows them to a requester. -/
def metLogWord (s : Block) (r : Req) (i : Nat) : Nat :=
  match s.metLog.find (s.own MET.MET_LOG_SEL.RECORD 0 r) with
  | none => 0
  | some x =>
    if i = 0 then x.seq + 1024 * x.kind + 65536 * x.aux else if i = 1 then x.sec
    else if i = 2 then x.seals + 65536 * x.pars else x.data
def metTampWord (s : Block) (r : Req) (i : Nat) : Nat :=
  match s.metTamp[s.own MET.MET_TAMP_SEL.TAMPER 0 r]? with
  | none => 0
  | some x => if i = 0 then x.input + 64 * b2n x.present + 128 * b2n x.bat + 256 * b2n x.novolt else x.sec
def metParWord (s : Block) (r : Req) : Nat := (s.metPars.find (s.own MET.MET_PAR_SEL.PARAM 0 r)).getD 0

end Block
end Sys2Proof.Machine
end

