-- ==== Sys2Proof/Machine/Time.lean ====
section
/-!
DEFINITION. Time: the PTP clock's states and its discipline (R335 to R342), and the real-time clock (R343 to R349).
The grid is cut from the PTP clock (R18), so PTP time is 250,000 ns times the tick number plus the time in the tick.
The offset still to be slewed is held in units of 0.25 ns.
-/
namespace Sys2Proof.Machine

/-- A data set as one number, lower being better (Clause 9.3 order: priority1, class, accuracy, variance, priority2,
identity) (R337). -/
def dataSet (prio1 cls acc var prio2 id : Nat) : Nat :=
  ((((prio1 * 256 + cls) * 256 + acc) * 65536 + var) * 256 + prio2) * 2 ^ 64 + id % 2 ^ 64

/-- A value cut to the range of a signed 32-bit field. -/
def clamp32 (v : Int) : Int := max (-2147483648) (min v 2147483647)

namespace Block

/-- Whether the supervisor island has power (R427). -/
def supPowered (s : Block) : Bool := s.g HID.PWRST == 0

/-- A source fires now, or at step 6 of the next start when the supervisor has no power, then once (R349, R447). -/
def fireHeld (s : Block) (n : Nat) : Block := if s.supPowered then s.fire n else s.wr HID.HELDEV 0 n 1

/-- The held sources of a list fire. -/
def fireHeldAll (s : Block) : List Nat → Block
  | [] => s
  | n :: t => (if s.on HID.HELDEV 0 n then (s.wr HID.HELDEV 0 n 0).fire n else s).fireHeldAll t

/-- What is held fires at step 6 of a start, in the order of R349. -/
def releaseHeld (s : Block) : Block :=
  s.fireHeldAll ([EV.RTC.ALARM0, EV.RTC.ALARM1, EV.RTC.OSF, EV.RTC.VBAT_ON, EV.RTC.VBAT_OFF, EV.RTC.VBAT_LOW,
    EV.RTC.SEC_WRITE, EV.PAIR.FENCED] ++ (List.range 12).map fun k => 16 + k)

/-! ### The PTP clock -/

/-- The state of the PTP clock. -/
def ptpState (s : Block) : Nat := s.g PTP.PTP_STAT.STATE

/-- GRID_FREE follows the state: 1 in every state except LOCKED and GRANDMASTER (R338); its changes fire (R61). -/
def noteGrid (s : Block) : Block :=
  let free := s.ptpState != 3 && s.ptpState != 5
  if free == s.on MOD.MOD_STATUS.GRID_FREE 0 0 then s
  else (s.p MOD.MOD_STATUS.GRID_FREE (b2n free)).fire (if free then EV.MOD.GRID_FREE_SET else EV.MOD.GRID_FREE_CLR)

/-- The PTP clock takes a state (R338, R350). -/
def setPtp (s : Block) (st : Nat) : Block :=
  let old := s.ptpState
  if old = st then s
  else
    let s1 := s.p PTP.PTP_STAT.STATE st
    let s2 := if old = 3 then (s1.sat PTP.PTP_COUNT.LOCK_LOSS 0 0 1).fire EV.PTP.LOCK_LOST else s1
    let s3 := s2.fireIf (st == 3 || st == 5) EV.PTP.LOCKED
    let s4 := s3.fireIf (st == 4) EV.PTP.FAR
    let s5 := if st = 3 then ((s4.p HID.WASLOCKED 1).p HID.AUTOLOCK (s4.g RTC.RTC_STAT.OSF)).p HID.SYNCBAD 0 else s4
    s5.noteGrid

/-- The clockIdentity of this module (R337). -/
def ownClockId (s : Block) : Nat :=
  0x020000FFFE000000 + s.selfId * 256 + s.g MOD.MOD_ID.POSITION

/-- This module's own data set (R337). -/
def ownDataSet (s : Block) : Nat :=
  dataSet (s.g PTP.PTP_CFG.PRIO1) 248 0xFE (Config.ptpVariance % 65536) (s.g PTP.PTP_CFG.PRIO2) s.ownClockId

/-- The grandmaster's identity; a change is counted and fires GM_CHANGE (R350). -/
def setGm (s : Block) (id key : Nat) : Block :=
  let old := s.g PTP.PTP_GM_L.GM_L + 2 ^ 32 * s.g PTP.PTP_GM_H.GM_H
  let s1 := ((s.p PTP.PTP_GM_L.GM_L (id % 2 ^ 32)).p PTP.PTP_GM_H.GM_H (id / 2 ^ 32)).p HID.GMKEY key
  let s2 := s1.p HID.GMKNOWN 1
  if old = id then s2 else ((s2.sat PTP.PTP_COUNT.GM_CHANGE 0 0 1).p HID.SYNCN 0).fire EV.PTP.GM_CHANGE

/-- The offset that remains to be slewed, in units of 0.25 ns. -/
def ptpOff (s : Block) : Int := sgn 64 (s.g HID.PTPOFF)

/-- A number moved towards 0 by at most `d`. -/
def towardZero (v : Int) (d : Nat) : Int := if v ≥ 0 then max 0 (v - d) else min 0 (v + d)

/-- Whether a Sync is usable (R335, R336, R338): one-step, of this domain, from the current grandmaster, on the port of
the primary traffic (either while steering), of a port whose delay has been measured since its last rate change, and
not the second copy of its sequenceId. -/
def syncUsable (s : Block) (p domain : Nat) (two : Bool) (gm seq us : Nat) : Bool :=
  !two && domain == s.g PTP.PTP_CFG.DOMAIN && s.on HID.GMKNOWN 0 0 && s.ptpState != 5 &&
    gm == s.g PTP.PTP_GM_L.GM_L + 2 ^ 32 * s.g PTP.PTP_GM_H.GM_H &&
    (p == 1 || s.g RCTL.RCTL_STAT.STATE == 2) && !s.on HID.NEEDPD 0 p &&
    !(s.g HID.SYNCSEQAT != 0 && seq == s.g HID.SYNCSEQ && decide (s.nowUs us + 1 < s.g HID.SYNCSEQAT + 1000))

/-- PTP time in ns at `sub` ns into the tick. -/
def ptpNow (s : Block) (sub : Nat) : Nat := 250000 * s.tick + sub % 250000

/-- What the model keeps as a tick number of something that has happened, in cells of one index. -/
def tickCells : List (Fld × Nat × Nat) :=
  [(HID.SYNCAT, 0, 0), (HID.ANNAT, 0, 0), (HID.TOKENAT, 0, 0), (HID.TMISSAT, 0, 0), (HID.ASYNCCYC, 0, 0), (HID.FIRERXAT, 0, 0),
    (HID.HEALAT, 0, 0), (HID.JOINTAT, 0, 0), (HID.RESTARTAT, 0, 0), (HID.METRX, 0, 0), (HID.LINKAT, 0, 0), (HID.LINKAT, 0, 1),
    (HID.LINKSINCE, 0, 0), (HID.LINKSINCE, 0, 1), (HID.RTRYAT, 0, 0), (HID.RTRYAT, 0, 1), (HID.DAYAT, 0, 0)] ++
  ((List.range 256).map fun k => (HID.HEARD, 0, k)) ++ (List.range 64).flatMap fun k => [(HID.SESHELLO, 0, k), (HID.SESLAST, 0, k), (HID.SESREADY, 0, k)]

/-- Cells that hold a tick number move with a step of the clock; one that holds none stays. -/
def moveCells (s : Block) (d : Int) : List (Fld × Nat × Nat) → Block
  | [] => s
  | (f, i, k) :: t => (if s.rd f i k = 0 then s else s.wr f i k ((s.rd f i k : Int) + d).toNat).moveCells d t

/-- The tick number steps to `n` with PTP time (R340): times that have passed are still as long ago. -/
def stepTick (s : Block) (n : Nat) : Block :=
  let d : Int := (n : Int) - s.tick
  let by_ (t c : Nat) : Nat := ((t : Int) + c * d).toNat
  let s1 := s.moveCells d tickCells
  { s1 with
    tick := n,
    seen := s1.seen.map fun x => { x with at_ := by_ x.at_ 250 },
    sesFails := s1.sesFails.map fun x => { x with at_ := by_ x.at_ 1 },
    lockouts := s1.lockouts.map fun x => { x with at_ := by_ x.at_ 1 } }

/-- What the offset of a usable Sync, at `us` µs into the tick, makes of the state (R338, R340). A step moves PTP time, and
the tick number is the one in which the new time lies (R18). -/
def syncState (s : Block) (off : Int) (us : Nat) : Block :=
  let far := decide (off.natAbs > s.g PTP.PTP_LIMITS.STEP_MAX * 1000000)
  if s.ptpState = 4 then s
  else if s.g HID.PTPSTEP = 0 ∧ s.g HID.FIRSTREL = 0 then
    (((s.p HID.PTPSTEP 1).p HID.PTPOFF 0).stepTick ((((s.ptpNow (1000 * us) : Nat) : Int) - off).toNat / 250000)).setPtp 2
  else if far && s.on HID.FIRSTREL 0 0 then s.setPtp 4
  else
    let s1 := s.p HID.PTPOFF (uns 64 (4 * off))
    if s.ptpState = 3 then
      let n := if off.natAbs > 2000 then s.g HID.SYNCBAD + 1 else 0
      if n ≥ 4 then (s1.p HID.SYNCBAD 0).setPtp 2 else s1.p HID.SYNCBAD n
    else s1.setPtp 2

/-- A Sync or an Announce of clock `id` is passed on by the other ring port (R336): not by the clock that sent it, nor at a chain
end. It has no Unzan header; what is added to its correctionField is no state. -/
def ptpForward (s : Block) (p : Fin 2) (id octets : Nat) : Block :=
  let q : Fin 3 := if p.val = 0 then 1 else 0
  if id = s.ownClockId ∨ s.passes q = false ∨ s.on RING.PORT_STAT.DEGRADED q.val 0 = true then s
  else s.onWire q [] octets true (s.g RCTL.RCTL_STAT.STATE == 2)

/-- A Sync arrives (R336, R338, R340). -/
def ptpSync (s : Block) (p : Fin 2) (domain : Nat) (two : Bool) (gm seq : Nat) (off freq : Int) (us : Nat) : Block :=
  if !s.portUp ⟨p.val, by omega⟩ then s
  else
    let s0 := (s.rxCount (.ring p) 64 true).ptpForward p gm 64
    if !s.syncUsable p.val domain two gm seq us then s0
    else
      let lim : Int := s.g PTP.PTP_LIMITS.SLEW * 1000
      let s1 := ((s0.p HID.SYNCSEQ seq).p HID.SYNCSEQAT (s.nowUs us + 1)).p HID.SYNCAT s.tick
      let s2 := (s1.sat HID.SYNCN 0 0 1).p PTP.PTP_STAT.PORT p.val
      let s3 := (s2.p PTP.PTP_OFFSET.OFFSET (uns 32 (clamp32 off))).p PTP.PTP_FREQ.FREQ
        (uns 32 (max (-lim) (min freq lim)))
      s3.syncState off us

/-- An Announce arrives (R337): the best data set makes its clock the grandmaster; a GRANDMASTER that hears a better one
gives up. -/
def ptpAnnounce (s : Block) (p : Fin 2) (domain : Nat) (a : Announce) : Block :=
  if !s.portUp ⟨p.val, by omega⟩ then s
  else
    let s0 := (s.rxCount (.ring p) 82 true).ptpForward p a.id 82
    let key := dataSet a.prio1.val a.cls.val a.acc.val a.var.val a.prio2.val a.id
    let cur := s.g PTP.PTP_GM_L.GM_L + 2 ^ 32 * s.g PTP.PTP_GM_H.GM_H
    let mine := s.on PTP.PTP_CFG.GM_EN 0 0
    let same := s.on HID.GMKNOWN 0 0 && cur == a.id && s.ptpState != 5
    if domain ≠ s.g PTP.PTP_CFG.DOMAIN ∨ a.id = s.ownClockId then s0
    else if mine && decide (s.ownDataSet < key) then s0
    else if !same && s.on HID.GMKNOWN 0 0 && s.ptpState != 5 && decide (s.g HID.GMKEY ≤ key) then s0
    else
      let s1 := (s0.setGm a.id key).p HID.ANNAT s.tick
      let s2 := (s1.p PTP.PTP_STAT.TIME_VALID (b2n a.traceable)).p PTP.PTP_STAT.STEPS (min a.steps 255)
      let s3 := s2.p PTP.PTP_UTC.UTC_RX a.utc
      if s.ptpState = 5 then s3.setPtp 0 else s3

/-- A peer-delay measurement completes (R336). -/
def ptpPdelay (s : Block) (p ns : Nat) : Block :=
  if s.on RING.PORT_STAT.LINK p 0 then (s.wr RING.PORT_DELAY.LINK_DELAY p 0 (min ns 65535)).wr HID.NEEDPD 0 p 0 else s

/-- No usable Sync for 1 s, or the Announce timeout (R338). -/
def syncTimeout (s : Block) : Block :=
  if s.tick ≥ s.g HID.SYNCAT + 4000 ∨ s.tick ≥ s.g HID.ANNAT + 12000 then
    if s.ptpState = 3 then (s.p HID.SYNCN 0).setPtp 1
    else if s.ptpState = 2 then (s.p HID.SYNCN 0).setPtp (if s.on HID.WASLOCKED 0 0 then 1 else 0)
    else s
  else s

/-- No better Announce within the receipt timeout makes a grandmaster-capable module GRANDMASTER (R337). -/
def announceTimeout (s : Block) : Block :=
  if s.on PTP.PTP_CFG.GM_EN 0 0 && s.ptpState != 5 && s.ptpState != 4 && decide (s.tick ≥ s.g HID.ANNAT + 12000) then
    let s1 := (s.setGm s.ownClockId s.ownDataSet).p PTP.PTP_STAT.STEPS 0
    let s2 := ((s1.p PTP.PTP_STAT.TIME_VALID (s.g HID.SEEDOK)).p PTP.PTP_FREQ.FREQ 0).p HID.PTPOFF 0
    s2.setPtp 5
  else s

/-- A write of PTP_ADJ (R341): the code, 0 when the slew starts. -/
def ptpAdj (s : Block) (r : Req) (w : Nat) : Block × Nat :=
  let d := sgn 32 w
  let code := if !s.tin0cfg r then 0x01 else if s.ptpState ≠ 5 ∨ s.g HID.ADJLEFT ≠ 0 then 0x0A
    else if d.natAbs > 1000000000 then 0x08 else 0
  if code = 0 then (s.p HID.ADJLEFT (uns 40 (4 * d)), 0) else (s.refuse 0x0A0 code r 0x0A006C, code)

/-- The time island seeds its clock from the RTC at a start (R340): the tick number that the seed gives. -/
def seedTick (s : Block) : Block :=
  if s.on RTC.RTC_STAT.OSF 0 0 then { (s.p HID.SEEDOK 0) with tick := 0 }
  else
    let c := s.g RTC.RTC_TICK_L.TICK_L + 2 ^ 32 * s.g RTC.RTC_TICK_H.TICK_H
    { (s.p HID.SEEDOK 1) with tick := c / 2 ^ 15 * 4000 + c % 2 ^ 15 * 4000 / 2 ^ 15 }

/-- The PTP clock at a restart (R132, R340): it re-acquires lock from LISTENING, and its timeouts run from now. -/
def ptpStart (s : Block) : Block :=
  ((((s.setPtp 0).noteGrid).p PTP.PTP_STAT.TIME_VALID 0).p HID.SYNCAT s.tick).p HID.ANNAT s.tick

/-- The clock's slew over one tick, and the lock at a boundary (R338, R340, R341). -/
def ptpTick (s : Block) : Block :=
  let slew := s.g PTP.PTP_LIMITS.SLEW
  let s1 := if s.ptpState = 2 ∨ s.ptpState = 3 then s.p HID.PTPOFF (uns 64 (towardZero s.ptpOff slew)) else s
  let left := sgn 40 (s1.g HID.ADJLEFT)
  let s2 :=
    if left = 0 then s1
    else
      let l := towardZero left slew
      (s1.p HID.ADJLEFT (uns 40 l)).p PTP.PTP_FREQ.FREQ
        (if l = 0 then 0 else uns 32 (if l > 0 then (slew : Int) * 1000 else -((slew : Int) * 1000)))
  let s3 := if decide (s2.ptpState ≤ 2) && decide (s2.g HID.SYNCN ≥ 8) && decide (s2.ptpOff.natAbs ≤ 4000) then s2.setPtp 3 else s2
  s3.noteGrid

/-- What a grandmaster announces (R337): priority1, clockClass, clockAccuracy, priority2, clockIdentity, timeTraceable and
currentUtcOffset. -/
def announceData (s : Block) : List Nat :=
  [s.g PTP.PTP_CFG.PRIO1, 248, 0xFE, s.g PTP.PTP_CFG.PRIO2, s.ownClockId, s.g PTP.PTP_STAT.TIME_VALID, s.g PTP.PTP_UTC.UTC_GM]

/-- What PTP sends in cycle `n` (R335, R336): the grandmaster's Sync, 16 a second, and Announce, one a second, in both directions
as express frames within its EXP_QUOTA; and Pdelay_Req on each ring port every second. -/
def ptpSend (s : Block) (n : Nat) : Block :=
  let s1 :=
    if s.ptpState = 5 then
      let a := if n % 250 = 0 then s.queue ⟨.ptp 0 n [], 0xFF, 0, true, 1⟩ else s
      if n % 4000 = 0 then a.queue ⟨.ptp 1 n s.announceData, 0xFF, 0, true, 1⟩ else a
    else s
  if n % 4000 = 0 then (s1.queue ⟨.ptp 2 n [], 0xFF, 0, true, 2⟩).queue ⟨.ptp 2 n [], 0xFF, 0, true, 3⟩ else s1

/-- A read of PTP_NS (R342): seconds and fraction are held for the requester `q`. -/
def ptpNsRead (s : Block) (q sub frac : Nat) : Block :=
  let t := s.ptpNow sub
  let hold (a : Block) (off v : Nat) : Block := (a.wr HID.SNAPH off q v).wr HID.SNAPHV off q 1
  hold (hold (hold s 0x0A0058 (t / 1000000000 % 2 ^ 32)) 0x0A005C (t / 1000000000 / 2 ^ 32 % 2 ^ 16)) 0x0A0060
    (frac % 2 ^ 16)

/-! ### The real-time clock -/

/-- The RTC count (R343). -/
def rtcCount (s : Block) : Nat := s.g RTC.RTC_TICK_L.TICK_L + 2 ^ 32 * s.g RTC.RTC_TICK_H.TICK_H

/-- The fields of alarm `k`: enable, match, and the compare enables (R347). -/
def almEn (k : Nat) : Fld := if k = 0 then RTC.ALM0_H.EN else RTC.ALM1_H.EN
def almSub (k : Nat) : Fld := if k = 0 then RTC.ALM0_H.CMP_SUB else RTC.ALM1_H.CMP_SUB
def almSlo (k : Nat) : Fld := if k = 0 then RTC.ALM0_H.CMP_SLO else RTC.ALM1_H.CMP_SLO
def almShi (k : Nat) : Fld := if k = 0 then RTC.ALM0_H.CMP_SHI else RTC.ALM1_H.CMP_SHI
def almMatch (s : Block) (k : Nat) : Nat :=
  (if k = 0 then s.g RTC.ALM0_L.MATCH_L else s.g RTC.ALM1_L.MATCH_L) +
    2 ^ 32 * (if k = 0 then s.g RTC.ALM0_H.MATCH_H else s.g RTC.ALM1_H.MATCH_H)

/-- Whether a count matches alarm `k` (R347). -/
def almHit (s : Block) (k c : Nat) : Bool :=
  let m := s.almMatch k
  let a := s.on (almSub k) 0 0
  let b := s.on (almSlo k) 0 0
  let d := s.on (almShi k) 0 0
  s.on (almEn k) 0 0 && (a || b || d) && (!a || bits c 14 0 == bits m 14 0) && (!b || bits c 30 15 == bits m 30 15) &&
    (!d || bits c 47 31 == bits m 47 31)

/-- Alarm `k` fires (R347, R351). -/
def almFire (s : Block) (k : Nat) : Block :=
  (s.p (if k = 0 then RTC.RTC_STAT.ALM0 else RTC.RTC_STAT.ALM1) 1).fireHeld (if k = 0 then EV.RTC.ALARM0 else EV.RTC.ALARM1)

/-- Alarm `k` at an edge of the RTC clock (R347): it fires where its match begins. -/
def almEdge (s : Block) (k : Nat) : Block :=
  let hit := s.almHit k s.rtcCount
  let s1 := s.wr HID.ALMMATCH 0 k (b2n hit)
  if hit && !s.on HID.ALMMATCH 0 k then s1.almFire k else s1

/-- Give the RTC count a value, and let the alarms see it. -/
def rtcSet (s : Block) (c : Nat) : Block :=
  (((s.p RTC.RTC_TICK_L.TICK_L (c % 2 ^ 32)).p RTC.RTC_TICK_H.TICK_H (c / 2 ^ 32 % 2 ^ 16)).almEdge 0).almEdge 1

/-- A seconds write lands (R344): the count takes the written seconds, and the edge's own increment is discarded. -/
def rtcLand (s : Block) : Block :=
  let s1 := ((s.rtcSet (s.g HID.RTCWRITE * 2 ^ 15)).p RTC.RTC_STAT.WRITE_PEND 0).p RTC.RTC_STAT.OSF 0
  s1.snapAsk.fireHeld EV.RTC.SEC_WRITE

/-- One edge of the RTC clock (R343, R344): the count advances, or the seconds write that is due at this edge lands. -/
def rtcEdge (s : Block) : Block :=
  if s.on RTC.RTC_STAT.WRITE_PEND 0 0 && decide (s.g HID.LANDLEFT ≤ 1) then s.rtcLand
  else (s.p HID.LANDLEFT (s.g HID.LANDLEFT - 1)).rtcSet ((s.rtcCount + 1) % 2 ^ 48)

/-- `n` edges of the RTC clock (R343). -/
def rtcEdges (s : Block) : Nat → Block
  | 0 => s
  | n + 1 => s.rtcEdge.rtcEdges n

/-- Edges of the present tick that a command works ahead of the tick's own count of edges. -/
def rtcAhead (s : Block) (n : Nat) : Block := (s.rtcEdges n).p HID.RTCDONE (s.g HID.RTCDONE + n)

/-- The edges of the tick that ends, but for those that have been worked already. -/
def rtcPass (s : Block) (n : Nat) : Block := (s.rtcEdges (n - s.g HID.RTCDONE)).p HID.RTCDONE 0

/-- The commit of a seconds write (R344): it lands at the second edge after the boundary. -/
def rtcCommit (s : Block) (secs : Nat) : Block :=
  ((s.p RTC.RTC_STAT.WRITE_PEND 1).p HID.RTCWRITE secs).p HID.LANDLEFT 2

/-- RTC_SEC_LANDING: the edges up to the one at which a committed seconds write lands (R344). -/
def rtcLanding (s : Block) : Block :=
  if s.on RTC.RTC_STAT.WRITE_PEND 0 0 then s.rtcAhead (max 1 (s.g HID.LANDLEFT)) else s

/-- Whether the module sets the RTC for commit at tick `n` (R345). -/
def autosetDue (s : Block) (n : Nat) : Bool :=
  s.on RTC.RTC_CFG.AUTOSET 0 0 && (s.ptpState == 3 || s.ptpState == 5) && s.on PTP.PTP_STAT.TIME_VALID 0 0 &&
    (n % 14400000 == 0 || (s.on HID.AUTOLOCK 0 0 && n % 4000 == 0))

/-- The module stages the seconds write of tick `n` = the next one (R345), in a single-entry batch of its own. -/
def autoset (s : Block) : Block :=
  let n := s.tick + 1
  let t := Target.reg 0x0A1048 0
  if !s.autosetDue n || s.sealed || s.heldByOther 64 t || !s.entryFree then s
  else
    let e : Entry := { tgt := t, val := n / 4000 % 2 ^ 33, by_ := .fw 0, epoch := 0, addr := none }
    let b := { s.newBatch (.fw 0) false true false with st := .requested, ctick := n, entries := [e] }
    match s.openBatch b with
    | none => s
    | some (_, s1) => (s1.poolEvent s).p HID.AUTOLOCK 0

/-- The edges of a tick that are left, at 32.768 kHz at most nine: the number of them, up to `n`, after which alarm `k` has
begun to match (R347). -/
def almEdges (s : Block) (k : Nat) : Nat → Option Nat
  | 0 => none
  | n + 1 =>
    match s.almEdges k n with
    | some j => some j
    | none => if (s.rtcEdges n).on HID.ALMMATCH 0 k == false && (s.rtcEdges (n + 1)).on HID.ALMMATCH 0 k then some (n + 1) else none

/-- RTC_ALARM: the edges up to the one at which the match of alarm `k` begins in this tick, where it fires (R347). -/
def rtcAlarm (s : Block) (k : Nat) : Block :=
  match s.almEdges k (9 - s.g HID.RTCDONE) with
  | some j => s.rtcAhead j
  | none => s

/-- The oscillator stops (R346). -/
def oscStop (s : Block) : Block :=
  if s.on RTC.RTC_STAT.OSF 0 0 then s
  else ((s.p RTC.RTC_STAT.OSF 1).sat RTC.RTC_COUNT.OSF_SETS 0 0 1).fireHeld EV.RTC.OSF

/-- The RTC domain switches its supply (R348). -/
def rtcSwitch (s : Block) (vbat : Bool) : Block :=
  if s.on RTC.RTC_STAT.ON_VBAT 0 0 == vbat then s
  else if vbat then ((s.p RTC.RTC_STAT.ON_VBAT 1).sat RTC.RTC_COUNT.VBAT_SWITCH 0 0 1).fireHeld EV.RTC.VBAT_ON
  else (s.p RTC.RTC_STAT.ON_VBAT 0).fireHeld EV.RTC.VBAT_OFF

/-- The cell's voltage is measured (R348); VBAT_LOW fires as it falls below 2.8 V. -/
def vbatLow (s : Block) (mv : Nat) : Block :=
  let s1 := (s.p RTC.RTC_STAT.VBAT (min mv 4095)).p HID.VBATLO (b2n (decide (mv < 2800)))
  if mv < 2800 ∧ s.g HID.VBATLO = 0 then s1.fireHeld EV.RTC.VBAT_LOW else s1

/-- Validation of an alarm as a committing batch leaves it (R347). -/
def almCode (en sub slo shi : Nat) : Nat := if en = 1 ∧ sub = 0 ∧ slo = 0 ∧ shi = 0 then 0x08 else 0

end Block
end Sys2Proof.Machine
end

