-- ==== Sys2Proof/Machine/Keys.lean ====
section
/-!
DEFINITION. The key vault (R376 to R387, R396 to R398): the checks of an operation on a slot, the commands, their
completion, and the integrity sweep. What cryptography computes is a constant without a body of Config.
-/
namespace Sys2Proof.Machine

/-- TYPE of an attribute word. -/
def attrType (a : Nat) : Nat := bits a 3 1

/-- The attributes that a slot takes from a given word (R379, KEY_NEWATTR): VALID set, VENDOR and INTEG_FAIL clear. -/
def newAttr (a : Nat) : Nat := Nat.lor (Nat.land a 0x0FFFFFFE) 1

/-- The attribute word of vendor slots 0 to 3 (R378); DEBUG_OK lets them serve under either root. -/
def vendorAttr (k : Nat) : Nat :=
  if k = 0 then 0x10800117 else if k = 1 then 0x10800029 else if k = 2 then 0x10800207 else if k = 3 then 0x1080008B else 0

namespace Block

/-- The attribute word of a slot. -/
def keyAttr (s : Block) (k : Nat) : Nat := s.rd KEY.KEY_ATTR.ATTR 0 k

/-- Why an operation may not use a slot (R380), in the order of the table; 0 when it may. `suits` says whether the TYPE
suits the operation, `usage` is the usage bit it needs, `tin` the tin it is made on behalf of. -/
def useCode (s : Block) (k : Nat) (suits : Nat → Bool) (usage : Option Nat) (tin : Nat) : Nat :=
  let a := s.keyAttr k
  if !a.testBit 0 || !suits (attrType a) then 0x08
  else if a.testBit 29 then 0x0B
  else if usage.any fun b => !a.testBit b then 0x0D
  else if a.testBit 12 && bits a 20 13 != tin then 0x01
  else if bits a 22 21 != 0 && bits a 22 21 != s.g KEY.KEY_STAT.LIFECYCLE then 0x02
  else if s.on KEY.KEY_STAT.ROOT 0 0 && !a.testBit 23 then 0x0A
  else 0

/-- Why a slot may not be filled: a vendor slot, or one that is not empty (R380, R397). -/
def fillCode (s : Block) (k : Nat) : Nat := if k < 16 then 0x02 else if (s.keyAttr k).testBit 0 then 0x0A else 0

/-- The words a requester has written to KEY_DATA. -/
def keyIn (s : Block) (r : Req) : List Nat := ((reqHeld r).bind fun q => s.keyData.find q).getD []

/-- The octets of label and context that a DERIVE reads (R385), or none where they are malformed. -/
def deriveOk (data : List Nat) : Bool :=
  match data with
  | [] => false
  | w :: t => decide (1 ≤ bits w 7 0) && decide (bits w 7 0 ≤ 32) && decide (bits w 15 8 ≤ 64) &&
      t.length == (bits w 7 0 + bits w 15 8 + 3) / 4

/-- The checks of a command once it may be given (R380, R381, R385, R386, R397), as its code. -/
def keyOpCode (s : Block) (o : KeyOp) (tin : Nat) : Nat :=
  let any (_ : Nat) : Bool := true
  let secret (t : Nat) : Bool := t == 1 || t == 2
  let attrOk := decide (keyWords (attrType o.attr) > 0) && (!o.attr.testBit 10 || attrType o.attr == 4)
  if o.op = 1 then
    if s.fillCode o.src ≠ 0 then s.fillCode o.src
    else if !attrOk || o.data.length != keyWords (attrType o.attr) then 0x08 else 0
  else if o.op = 2 then
    if s.fillCode o.src ≠ 0 then s.fillCode o.src else if !attrOk || attrType o.attr == 4 then 0x08 else 0
  else if o.op = 3 then
    let c := s.useCode o.src secret (some 6) tin
    if c ≠ 0 then c
    else if s.fillCode o.aux ≠ 0 then s.fillCode o.aux
    else if !attrOk || attrType o.attr == 4 || !deriveOk o.data then 0x08 else 0
  else if o.op = 4 then
    let c := s.useCode o.src any none tin
    let w := s.useCode o.aux (fun t => t == 5) (some 7) tin
    let a := s.keyAttr o.src
    let b := s.keyAttr o.aux
    if c ≠ 0 then c else if o.src < 16 then 0x02 else if w ≠ 0 then w
    else if a.testBit 11 then 0x0D
    else if o.src = o.aux then 0x08
    else if a.testBit 12 && b.testBit 12 && bits a 20 13 != bits b 20 13 then 0x01 else 0
  else if o.op = 5 then
    let w := s.useCode o.aux (fun t => t == 5) (some 7) tin
    if s.fillCode o.src ≠ 0 then s.fillCode o.src else if w ≠ 0 then w else if o.data.isEmpty then 0x08 else 0
  else if o.op = 6 then
    if !(s.keyAttr o.src).testBit 0 then 0x08 else if o.src < 16 then 0x02 else 0
  else if o.op = 7 then s.useCode o.src (fun t => t == 3 || t == 4) none tin
  else if o.op = 8 then (if o.aux ≥ 16 then 0x08 else s.useCode 2 (fun t => t == 3) (some 9) tin)
  else if o.op = 9 then (if o.data.length != 28 then 0x08 else 0)
  else if o.op = 10 then 0
  else if o.data.length != 28 then 0x08
  else if s.g KEY.KEY_STAT.LIFECYCLE ≥ 3 then 0x0A else 0

/-- The outcome of a command in KEY_RESULT (R397). -/
def keyResult (s : Block) (op code : Nat) : Block :=
  ((s.p KEY.KEY_RESULT.BUSY 0).p KEY.KEY_RESULT.CODE code).p KEY.KEY_RESULT.LAST op

/-- A KEY_CMD is refused (R397): CMD_REFUSED fires. -/
def keyRefuse (s : Block) (r : Req) (code : Nat) : Block × Nat :=
  ((s.refuse 0x0C0 code r 0x0C0054).fire EV.KEY.CMD_REFUSED, code)

/-- Whether a requester holds the read right on a meter's page (R393). -/
def meterRead (s : Block) (r : Req) (m : Nat) : Bool :=
  s.ownOk r .read (s.chanOwner (0x1A0000 + m * 0x1000)) (s.chanLS (0x1A0000 + m * 0x1000))

/-- A write of KEY_CMD (R396, R397): the requester's kind, its right, BUSY, the operation, and then its own checks; a
command takes the words of KEY_DATA, and BUSY is 1 until its outcome. -/
def keyCmd (s : Block) (r : Req) (op src aux : Nat) : Block × Nat :=
  let isSes := reqKind r == 3
  let right := if op = 8 then s.meterRead r (aux % 16) else s.tin0cfg r
  if !isSes then s.keyRefuse r 0x0C
  else if decide (1 ≤ op) && decide (op ≤ 11) && !right then s.keyRefuse r 0x01
  else if s.on KEY.KEY_RESULT.BUSY 0 0 then s.keyRefuse r 0x0A
  else if op = 0 ∨ op > 11 then s.keyRefuse r 0x0D
  else
    let o : KeyOp := ⟨r, op, src, aux, s.keyIn r, s.own KEY.KEY_NEWATTR.NEWATTR 0 r⟩
    let s1 := match reqHeld r with
      | some q => { s with keyData := s.keyData.del q }
      | none => s
    let c := s.keyOpCode o (s.tinOf r)
    if c ≠ 0 then (s1.keyResult op c).keyRefuse r c
    else ({ (((s1.p KEY.KEY_RESULT.BUSY 1).p KEY.KEY_RESULT.LAST op)) with keyOp := some o }, 0)

/-- A slot holds a key (R379). -/
def fillSlot (s : Block) (k attr : Nat) (mat : List Nat) : Block :=
  ({ (s.wr KEY.KEY_ATTR.ATTR 0 k (newAttr attr)) with keyMat := s.keyMat.put k mat }).fire EV.KEY.SLOT_LOADED

/-- Output words for a requester. -/
def putOut (s : Block) (r : Req) (l : List Nat) : Block :=
  match reqHeld r with
  | some q => { s with keyOut := s.keyOut.put q (l.take 128) }
  | none => s

/-- The label and the context of a DERIVE (R385). -/
def deriveLabel (data : List Nat) : List Nat := (wordOcts data.tail).take (bits (data.headD 0) 7 0)
def deriveContext (data : List Nat) : List Nat := ((wordOcts data.tail).drop (bits (data.headD 0) 7 0)).take (bits (data.headD 0) 15 8)

/-- The root in use (R376). -/
def rootOcts (test : Bool) : List Nat := (List.range 48).map fun i => Config.root test i % 256

/-- The material of vendor slots 0 to 3 under a root (R378). -/
def vendorMat (test : Bool) (k : Nat) : List Nat :=
  if k = 0 then kdfKey (rootOcts test) (ascii "SFM-ID") [] 3
  else if k = 2 then kdfKey (rootOcts test) (ascii "SFM-METER") [] 3
  else if k = 3 then kdfKey (rootOcts test) (ascii "SFM-STORE") [] 5
  else (List.range 13).map fun i => Config.romKey test i % 2 ^ 32

/-- `n` words that a cryptographic operation gives. -/
def outWords (op : Nat) (args : List Nat) (n : Nat) : List Nat := (List.range n).map fun i => Config.cryptoWord op args i % 2 ^ 32

/-- Slots with INTEG_FAIL. -/
def noteFailed (s : Block) : Block :=
  s.p KEY.KEY_STAT.FAILED ((List.range 64).filter fun k => (s.keyAttr k).testBit 29).length

/-- The authorisation's serial number and count are those of the module (R386). -/
def authMatches (s : Block) (data : List Nat) : Bool :=
  data.take 3 == [s.g MOD.MOD_SERIAL_H.SERIAL_H, s.g MOD.MOD_SERIAL_L.SERIAL_L, s.g KEY.KEY_STAT.DBG_COUNT]

/-- The slots of a list are erased (R377, R397). -/
def eraseSlots (s : Block) : List Nat → Block
  | [] => s
  | k :: t =>
    (if (s.keyAttr k).testBit 0 then
      ({ (s.wr KEY.KEY_ATTR.ATTR 0 k 0) with keyMat := s.keyMat.del k }).fire EV.KEY.SLOT_ERASED else s).eraseSlots t

/-- What a vault operation does at its completion (R381, R385, R386, R393, R397), with its code: `ok` is the verdict on
a signature or a wrapped blob, `attr` the attribute word that a blob carries. The slots whose sessions must end are
those the caller finds erased. -/
def keyEffect (s : Block) (o : KeyOp) (ok : Bool) (attr : Nat) : Block × Nat :=
  let mat := (s.keyMat.find o.src).getD []
  if o.op = 1 then (s.fillSlot o.src o.attr o.data, 0)
  else if o.op = 2 then
    let f := s.takeFree
    (f.1.fillSlot o.src o.attr (octWords (keyWords (attrType o.attr)) (secretOcts f.2 0 (4 * keyWords (attrType o.attr)))), 0)
  else if o.op = 3 then
    (s.fillSlot o.aux o.attr (kdfKey (wordOcts mat) (deriveLabel o.data) (deriveContext o.data) (attrType o.attr)), 0)
  else if o.op = 4 then
    ((s.putOut o.by_ (outWords 4 (s.keyAttr o.src :: mat ++ (s.keyMat.find o.aux).getD [])
      (keyWords (attrType (s.keyAttr o.src)) + 3))).fire EV.KEY.EXPORTED, 0)
  else if o.op = 5 then
    if !ok then (s, 0x0B)
    else if keyWords (attrType attr) = 0 then (s, 0x08)
    else (s.fillSlot o.src attr (outWords 5 (o.data ++ (s.keyMat.find o.aux).getD []) (keyWords (attrType attr))), 0)
  else if o.op = 6 then (s.eraseSlots [o.src], 0)
  else if o.op = 7 then (s.putOut o.by_ (if attrType (s.keyAttr o.src) = 4 then mat else outWords 7 mat 13), 0)
  else if o.op = 8 then
    ((s.putOut o.by_ (outWords 8 ((s.keyMat.find 2).getD [] ++ ((List.range 256).map fun i => s.meterPage o.aux (4 * i))) 24)).fire
      EV.KEY.METER_SIGNED, 0)
  else if o.op = 9 then
    if !ok then (s, 0x0B)
    else if !s.authMatches o.data then (s, 0x08)
    else (((s.p KEY.KEY_STAT.DBG_ARMED 1).wrap KEY.KEY_STAT.DBG_COUNT 0 0 1).fire EV.KEY.DEBUG_ARMED, 0)
  else if o.op = 10 then
    ((s.p KEY.KEY_STAT.DBG_ARMED 0).fireIf (s.on KEY.KEY_STAT.DBG_ARMED 0 0) EV.KEY.DEBUG_ARMED, 0)
  else if !ok then (s, 0x0B)
  else if !s.authMatches o.data then (s, 0x08)
  else
    let n := s.g KEY.KEY_STAT.LIFECYCLE + 1
    let s1 := if n = 3 then s.eraseSlots ((List.range 48).map fun k => 16 + k) else s
    ((s1.p KEY.KEY_STAT.LIFECYCLE n).fire EV.KEY.LIFECYCLE, 0)

/-- A write of KEY_DATA (R397): at most 128 words wait. -/
def keyDataWrite (s : Block) (r : Req) (w : Nat) : Block × Nat :=
  match reqHeld r with
  | none => (s, 0)
  | some q =>
    if (s.keyIn r).length ≥ 128 then (s.refuse 0x0C0 0x08 r 0x0C0050, 0x08)
    else ({ s with keyData := s.keyData.put q (s.keyIn r ++ [w]) }, 0)

/-- The words waiting in a requester's KEY_OUT. -/
def keyOutOf (s : Block) (r : Req) : List Nat := ((reqHeld r).bind fun q => s.keyOut.find q).getD []

/-- A read of KEY_OUT pops the next word; 0 when empty (R397). -/
def keyOutPop (s : Block) (r : Req) : Block :=
  match reqHeld r with
  | none => s
  | some q =>
    { s with keyOut := s.keyOut.put q (s.keyOutOf r).tail }

/-- The vault at step 2 of a start (R376, R378, R382, R383): the root in use, and the vendor slots. `fail` is a failure
to read the root fuses or to derive a slot. -/
def keyStart (s : Block) (debugNow fail : Bool) : Block :=
  let s1 := ((s.p KEY.KEY_STAT.ROOT (b2n debugNow)).p KEY.KEY_STAT.DEBUG (b2n debugNow)).p MOD.MOD_STATUS.DEBUG (b2n debugNow)
  let s2 := (s1.p KEY.KEY_STAT.SELFTEST (b2n !fail)).p HID.SELFFAIL (b2n fail)
  let put (a : Block) (k : Nat) : Block :=
    { (a.wr KEY.KEY_ATTR.ATTR 0 k (vendorAttr k)) with
      keyMat := a.keyMat.put k (vendorMat debugNow k) }
  let s3 := put (put (put (put s2 0) 1) 2) 3
  let s4 := { s3 with keyOp := none, keyData := [], keyOut := [] }
  ((s4.fireIf fail EV.KEY.SELFTEST_FAIL).fireIf debugNow EV.KEY.DEBUG_ACTIVE).noteFailed

end Block
end Sys2Proof.Machine
end

