-- ==== Sys2Proof/Machine/Flags.lean ====
section
/-!
DEFINITION. The registers and flags of a scan (R63, R64) and the flag computations of the word instructions (R79),
the timers (R85) and the counters (R87).
-/
namespace Sys2Proof.Machine
namespace Scan

/-- Index register `n` (R63). -/
def x (c : Scan) (n : Fin 4) : Word :=
  match n with
  | 0 => c.x0 | 1 => c.x1 | 2 => c.x2 | 3 => c.x3

/-- Give index register `n` a value. -/
def setX (c : Scan) (n : Fin 4) (v : Word) : Scan :=
  match n with
  | 0 => { c with x0 := v }
  | 1 => { c with x1 := v }
  | 2 => { c with x2 := v }
  | 3 => { c with x3 := v }

/-- Give ACC a value and set Z and N from it (R64). -/
def setAcc (c : Scan) (v : Word) : Scan := { c with acc := v, z := v == 0, n := v.msb }

/-- Set or clear C. -/
def setC (c : Scan) (b : Bool) : Scan := { c with c := b }

/-- Set or clear V; a V that is set sets VS (R79). -/
def setV (c : Scan) (b : Bool) : Scan := { c with v := b, vs := c.vs || b }

/-- Give LB a value. -/
def setLb (c : Scan) (b : Bool) : Scan := { c with lb := b }

/-- The next instruction. -/
def next (c : Scan) : Scan := { c with pc := (c.pc + 1) % 16384 }

/-- Continue at an instruction index. -/
def goto (c : Scan) (t : Nat) : Scan := { c with pc := t }

/-- Set PF, which is sticky (R64). -/
def setPf (c : Scan) : Scan := { c with pf := true }

/-- Add engine cycles to the scan. -/
def spend (c : Scan) (n : Nat) : Scan := { c with cyc := c.cyc + n }

/-- The status word (R64). -/
def status (c : Scan) : Nat :=
  b2n c.lb + 2 * b2n c.z + 4 * b2n c.n + 8 * b2n c.c + 16 * b2n c.v + 32 * b2n c.vs + 64 * b2n c.dz + 128 * b2n c.pf +
    256 * (c.bstk.length % 64) + 16384 * (c.cstk.length % 32) + 524288 * b2n c.fire + 1048576 * b2n c.first

/-- ACC + w with C the carry out of bit 31 and V the signed overflow (R79). -/
def addW (c : Scan) (w : Word) : Scan :=
  ((c.setAcc (c.acc + w)).setC (decide (c.acc.toNat + w.toNat ≥ 2 ^ 32))).setV (c.acc.msb == w.msb && (c.acc + w).msb != c.acc.msb)

/-- ACC − w with C the borrow and V the signed overflow (R79). -/
def subW (c : Scan) (w : Word) : Scan :=
  ((c.setAcc (c.acc - w)).setC (decide (c.acc.toNat < w.toNat))).setV (c.acc.msb != w.msb && (c.acc - w).msb != c.acc.msb)

/-- −ACC with C the borrow and V the signed overflow (R79). -/
def negW (c : Scan) : Scan :=
  ((c.setAcc (-c.acc)).setC (decide (c.acc ≠ 0))).setV (c.acc == 0x80000000#32)

/-- Whether a signed number fits in 32 bits. -/
def fits (v : Int) : Bool := decide (-2147483648 ≤ v) && decide (v ≤ 2147483647)

/-- The low 32 bits of ACC × w; V when the signed product does not fit; C cleared (R76, R79). -/
def mulW (c : Scan) (w : Word) : Scan :=
  ((c.setAcc (c.acc * w)).setC false).setV (!fits (c.acc.toInt * w.toInt))

/-- ACC ÷ w, signed, truncating; w = 0 keeps ACC and sets DZ; −2^31 ÷ −1 leaves −2^31 and sets V (R79). -/
def divW (c : Scan) (w : Word) : Scan :=
  if w = 0 then { ((c.setAcc c.acc).setV false) with dz := true }
  else (c.setAcc (c.acc.sdiv w)).setV (c.acc == 0x80000000#32 && w == 0xFFFFFFFF#32)

/-- ACC shifted left by n; C the last bit shifted out, cleared by n = 0 (R79). -/
def shlW (c : Scan) (n : Nat) : Scan :=
  (c.setAcc (c.acc <<< n)).setC (n != 0 && c.acc.getLsbD (32 - n))

/-- ACC shifted right by n with zero fill. -/
def shrW (c : Scan) (n : Nat) : Scan :=
  (c.setAcc (c.acc >>> n)).setC (n != 0 && c.acc.getLsbD (n - 1))

/-- ACC shifted right by n with sign fill. -/
def sarW (c : Scan) (n : Nat) : Scan :=
  (c.setAcc (c.acc.sshiftRight n)).setC (n != 0 && c.acc.getLsbD (n - 1))

/-- Pop one branch stack entry into a combination with LB (R77); none on an empty stack. -/
def popWith (c : Scan) (f : Bool → Bool → Bool) : Option Scan :=
  match c.bstk with
  | [] => none
  | b :: t => some { c with lb := f b c.lb, bstk := t }

end Scan

/-- A timer entry (R85), its two words taken apart. -/
structure TEnt where
  base : Nat
  preset : Nat
  inPrev : Bool
  q : Bool
  run : Bool
  hold : Bool
deriving DecidableEq, Repr

/-- The timer entry in two words. -/
def TEnt.ofWords (w0 w1 : Nat) : TEnt :=
  ⟨w0 % 2 ^ 32, w1 % 2 ^ 28, w1.testBit 28, w1.testBit 29, w1.testBit 30, w1.testBit 31⟩

/-- Word 1 of a timer entry. -/
def TEnt.word1 (t : TEnt) : Nat :=
  t.preset % 2 ^ 28 + 2 ^ 28 * b2n t.inPrev + 2 ^ 29 * b2n t.q + 2 ^ 30 * b2n t.run + 2 ^ 31 * b2n t.hold

/-- The elapsed time at a release tick (R85). -/
def TEnt.elapsed (t : TEnt) (rel : Nat) : Nat := (rel % 2 ^ 32 + 2 ^ 32 - t.base % 2 ^ 32) % 2 ^ 32

/-- The four kinds of timer. -/
inductive TKind where
  | ton | tof | tp | tonr
deriving DecidableEq, Repr

/-- Start a timer at a release tick. -/
def TEnt.start (t : TEnt) (rel : Nat) : TEnt := { t with base := rel % 2 ^ 32, run := true, hold := false }

/-- Stop a timer whose preset has passed: it holds the preset, and Q is 0 (TOF, TP). -/
def TEnt.expire (t : TEnt) : TEnt := { t with run := false, hold := true, base := t.preset, q := false }

/-- TON (R85). -/
def TEnt.ton (t : TEnt) (rel : Nat) (inp : Bool) : TEnt :=
  if inp then
    let u := if t.run then t else t.start rel
    { u with q := decide (u.elapsed rel ≥ u.preset) }
  else { t with run := false, hold := false, q := false }

/-- TOF (R85). -/
def TEnt.tof (t : TEnt) (rel : Nat) (inp : Bool) : TEnt :=
  if inp then { t with q := true, run := false, hold := false }
  else
    let u := if t.inPrev then t.start rel else t
    if u.run then (if u.elapsed rel ≥ u.preset then u.expire else { u with q := true }) else u

/-- TP (R85). -/
def TEnt.tp (t : TEnt) (rel : Nat) (inp : Bool) : TEnt :=
  let u := if inp && !t.inPrev && !t.run then { (t.start rel) with q := true } else t
  if u.run then (if u.elapsed rel ≥ u.preset then u.expire else { u with q := true }) else u

/-- TONR (R85). -/
def TEnt.tonr (t : TEnt) (rel : Nat) (inp : Bool) : TEnt :=
  if inp then
    let u := if t.run then t
      else { t with base := (rel % 2 ^ 32 + 2 ^ 32 - (if t.hold then t.base else 0)) % 2 ^ 32, run := true, hold := false }
    { u with q := decide (u.elapsed rel ≥ u.preset) }
  else if t.run then { t with base := min (t.elapsed rel) 0x0FFFFFFF, run := false, hold := true }
  else t

/-- A timer instruction on an entry whose preset is already set (R85). -/
def TEnt.exec (k : TKind) (t : TEnt) (rel : Nat) (inp : Bool) : TEnt :=
  let u := match k with
    | .ton => t.ton rel inp
    | .tof => t.tof rel inp
    | .tp => t.tp rel inp
    | .tonr => t.tonr rel inp
  { u with inPrev := inp }

/-- The preset a timer instruction takes from ACC, and whether it was clamped (R85). -/
def timerPreset (acc : Word) : Nat × Bool :=
  if acc.msb || decide (acc.toNat > 0x0FFFFFFF) then (0x0FFFFFFF, true) else (acc.toNat, false)

/-- LDT (R86). -/
def TEnt.load (t : TEnt) (rel : Nat) : Nat :=
  if t.run then min (t.elapsed rel) t.preset else if t.hold then min t.base t.preset else 0

/-- TRST with LB = 1 (R86). -/
def TEnt.rst (t : TEnt) : TEnt := { t with base := 0, q := false, run := false, hold := false }

/-- The preset a counter instruction takes from ACC, and whether it was clamped (R87). -/
def counterPreset (acc : Word) : Nat × Bool :=
  if acc.msb then (0, true) else if acc.toNat > 0x3FFFFFFF then (0x3FFFFFFF, true) else (acc.toNat, false)

/-- A counter instruction (R87): the new words, the output in LB and V. `up` is CTU. -/
def counterStep (up : Bool) (acc : Word) (lb : Bool) (w0 w1 : Nat) : Nat × Nat × Bool × Bool :=
  let p := counterPreset acc
  let prevBit := if up then 30 else 31
  let count := sgn 32 w0
  let step := lb && !w1.testBit prevBit
  let lim : Int := if up then 2147483647 else -2147483648
  let satd := step && decide (count = lim)
  let count' := if step && !satd then (if up then count + 1 else count - 1) else count
  let w1' := p.1 + 2 ^ 30 * (if up then b2n lb else bitN w1 30) + 2 ^ 31 * (if up then bitN w1 31 else b2n lb)
  (uns 32 count', w1', (if up then decide (count' ≥ (p.1 : Int)) else decide (count' ≤ 0)), p.2 || satd)

/-- The bit test of a counter: COUNT ≥ PRESET (R87). -/
def counterQ (w0 w1 : Nat) : Bool := decide (sgn 32 w0 ≥ ((w1 % 2 ^ 30 : Nat) : Int))

end Sys2Proof.Machine
end

