-- ==== Sys2Proof/Machine/NaltinCode.lean ====
section
/-!
DEFINITION. The Naltin instruction word (R74 to R76): operations, operand forms, and the decoder and encoder of the
32-bit word.
-/
namespace Sys2Proof.Machine

/-- The operand forms of R74. -/
inductive NForm where
  | none | tgt | xtgt | mem | imm | imm10 | cnt | ximm | xreg
deriving DecidableEq, Repr

/-- The 75 operations of the opcode table (R76). -/
inductive NOp where
  | nop | endS | jmp | jb1 | jb0 | jz | jnz | call | ret | djnz
  | levt | ldtk | ldst | clst | ldb | ldbn | andb | andbn | orb | orbn
  | xorb | pushb | ands | andns | ors | xors | notB | set1 | clr1 | stb
  | setb | rstb | edgr | edgf | ldl | andl | orl | ldw | ldi | ldih
  | stw | add | sub | mul | div | addi | andw | orw | xorw | shl
  | shr | sar | neg | cmpeq | cmpne | cmplt | cmple | cmpgt | cmpge | shifta
  | ldxi | addxi | tax | txa | ton | tof | tp | tonr | trst | ldt
  | ctu | ctd | cts | crst | ldc
deriving DecidableEq, Repr

/-- The opcode (R76). -/
def NOp.code : NOp → Nat
  | .nop => 0x00
  | .endS => 0x01
  | .jmp => 0x02
  | .jb1 => 0x03
  | .jb0 => 0x04
  | .jz => 0x05
  | .jnz => 0x06
  | .call => 0x07
  | .ret => 0x08
  | .djnz => 0x09
  | .levt => 0x0A
  | .ldtk => 0x0B
  | .ldst => 0x0C
  | .clst => 0x0D
  | .ldb => 0x10
  | .ldbn => 0x11
  | .andb => 0x12
  | .andbn => 0x13
  | .orb => 0x14
  | .orbn => 0x15
  | .xorb => 0x16
  | .pushb => 0x17
  | .ands => 0x18
  | .andns => 0x19
  | .ors => 0x1A
  | .xors => 0x1B
  | .notB => 0x1C
  | .set1 => 0x1D
  | .clr1 => 0x1E
  | .stb => 0x1F
  | .setb => 0x20
  | .rstb => 0x21
  | .edgr => 0x22
  | .edgf => 0x23
  | .ldl => 0x24
  | .andl => 0x25
  | .orl => 0x26
  | .ldw => 0x30
  | .ldi => 0x31
  | .ldih => 0x32
  | .stw => 0x33
  | .add => 0x34
  | .sub => 0x35
  | .mul => 0x36
  | .div => 0x37
  | .addi => 0x38
  | .andw => 0x39
  | .orw => 0x3A
  | .xorw => 0x3B
  | .shl => 0x3C
  | .shr => 0x3D
  | .sar => 0x3E
  | .neg => 0x3F
  | .cmpeq => 0x40
  | .cmpne => 0x41
  | .cmplt => 0x42
  | .cmple => 0x43
  | .cmpgt => 0x44
  | .cmpge => 0x45
  | .shifta => 0x46
  | .ldxi => 0x50
  | .addxi => 0x51
  | .tax => 0x52
  | .txa => 0x53
  | .ton => 0x58
  | .tof => 0x59
  | .tp => 0x5A
  | .tonr => 0x5B
  | .trst => 0x5C
  | .ldt => 0x5D
  | .ctu => 0x5E
  | .ctd => 0x5F
  | .cts => 0x60
  | .crst => 0x61
  | .ldc => 0x62

/-- The operand form (R74). -/
def NOp.form : NOp → NForm
  | .jmp | .jb1 | .jb0 | .jz | .jnz | .call => .tgt
  | .djnz => .xtgt
  | .ldb | .ldbn | .andb | .andbn | .orb | .orbn | .xorb | .stb | .setb | .rstb | .edgr | .edgf | .ldl | .andl | .orl | .ldw | .stw | .add | .sub | .mul | .div | .andw | .orw | .xorw | .cmpeq | .cmpne | .cmplt | .cmple | .cmpgt | .cmpge | .shifta | .ton | .tof | .tp | .tonr | .trst | .ldt | .ctu | .ctd | .cts | .crst | .ldc => .mem
  | .ldi | .addi => .imm
  | .ldih => .imm10
  | .shl | .shr | .sar => .cnt
  | .ldxi | .addxi => .ximm
  | .tax | .txa => .xreg
  | .nop | .endS | .ret | .levt | .ldtk | .ldst | .clst | .pushb | .ands | .andns | .ors | .xors | .notB | .set1 | .clr1 | .neg => .none

/-- The areas listed for the operation (R76), as area codes of R71. -/
def NOp.areas : NOp → List Nat
  | .nop | .endS | .jmp | .jb1 | .jb0 | .jz | .jnz | .call | .ret | .djnz | .levt | .ldtk | .ldst | .clst | .pushb | .ands | .andns | .ors | .xors | .notB | .set1 | .clr1 | .ldi | .ldih | .addi | .shl | .shr | .sar | .neg | .ldxi | .addxi | .tax | .txa => []
  | .ldb | .ldbn | .andb | .andbn | .orb | .orbn | .xorb => [0, 1, 2, 3, 4, 5, 6, 7]
  | .stb | .setb | .rstb | .stw => [1, 2, 3, 7]
  | .edgr | .edgf => [4]
  | .ldl | .andl | .orl => [0]
  | .ldw | .add | .sub | .mul | .div | .andw | .orw | .xorw | .cmpeq | .cmpne | .cmplt | .cmple | .cmpgt | .cmpge => [0, 1, 2, 3, 7]
  | .shifta => [1, 2, 3]
  | .ton | .tof | .tp | .tonr | .trst | .ldt => [5]
  | .ctu | .ctd | .cts | .crst | .ldc => [6]

/-- The operation of an opcode; none for the unassigned codes. -/
def NOp.ofCode (c : Nat) : Option NOp :=
  match c with
  | 0x00 => some .nop
  | 0x01 => some .endS
  | 0x02 => some .jmp
  | 0x03 => some .jb1
  | 0x04 => some .jb0
  | 0x05 => some .jz
  | 0x06 => some .jnz
  | 0x07 => some .call
  | 0x08 => some .ret
  | 0x09 => some .djnz
  | 0x0A => some .levt
  | 0x0B => some .ldtk
  | 0x0C => some .ldst
  | 0x0D => some .clst
  | 0x10 => some .ldb
  | 0x11 => some .ldbn
  | 0x12 => some .andb
  | 0x13 => some .andbn
  | 0x14 => some .orb
  | 0x15 => some .orbn
  | 0x16 => some .xorb
  | 0x17 => some .pushb
  | 0x18 => some .ands
  | 0x19 => some .andns
  | 0x1A => some .ors
  | 0x1B => some .xors
  | 0x1C => some .notB
  | 0x1D => some .set1
  | 0x1E => some .clr1
  | 0x1F => some .stb
  | 0x20 => some .setb
  | 0x21 => some .rstb
  | 0x22 => some .edgr
  | 0x23 => some .edgf
  | 0x24 => some .ldl
  | 0x25 => some .andl
  | 0x26 => some .orl
  | 0x30 => some .ldw
  | 0x31 => some .ldi
  | 0x32 => some .ldih
  | 0x33 => some .stw
  | 0x34 => some .add
  | 0x35 => some .sub
  | 0x36 => some .mul
  | 0x37 => some .div
  | 0x38 => some .addi
  | 0x39 => some .andw
  | 0x3A => some .orw
  | 0x3B => some .xorw
  | 0x3C => some .shl
  | 0x3D => some .shr
  | 0x3E => some .sar
  | 0x3F => some .neg
  | 0x40 => some .cmpeq
  | 0x41 => some .cmpne
  | 0x42 => some .cmplt
  | 0x43 => some .cmple
  | 0x44 => some .cmpgt
  | 0x45 => some .cmpge
  | 0x46 => some .shifta
  | 0x50 => some .ldxi
  | 0x51 => some .addxi
  | 0x52 => some .tax
  | 0x53 => some .txa
  | 0x58 => some .ton
  | 0x59 => some .tof
  | 0x5A => some .tp
  | 0x5B => some .tonr
  | 0x5C => some .trst
  | 0x5D => some .ldt
  | 0x5E => some .ctu
  | 0x5F => some .ctd
  | 0x60 => some .cts
  | 0x61 => some .crst
  | 0x62 => some .ldc
  | _ => none
/-- The fields of an instruction below its opcode, by form (R74): a target; an index register with a target; a direct
or an indexed memory operand; an immediate; a shift count; an index register with an immediate; an index register. -/
inductive NArg where
  | none
  | tgt (t : Fin 16384)
  | xtgt (n : Fin 4) (t : Fin 16384)
  | dir (area : Fin 8) (a : Fin 2097152)
  | ind (area : Fin 8) (n : Fin 4) (d : Fin 524288)
  | imm (v : Fin 4194304)
  | imm10 (v : Fin 1024)
  | cnt (n : Fin 32)
  | ximm (n : Fin 4) (v : Fin 4194304)
  | xreg (n : Fin 4)
deriving DecidableEq, Repr

/-- A decoded instruction. -/
structure NIns where
  op : NOp
  arg : NArg
deriving DecidableEq, Repr

/-- Whether an argument has a form. -/
def NArg.hasForm : NArg → NForm → Bool
  | .none, .none => true
  | .tgt _, .tgt => true
  | .xtgt _ _, .xtgt => true
  | .dir _ _, .mem => true
  | .ind _ _ _, .mem => true
  | .imm _, .imm => true
  | .imm10 _, .imm10 => true
  | .cnt _, .cnt => true
  | .ximm _ _, .ximm => true
  | .xreg _, .xreg => true
  | _, _ => false

/-- Whether an instruction is one that the decoder can give. -/
def NIns.wf (i : NIns) : Bool := i.arg.hasForm i.op.form

/-- The bits [24:0] of an argument (R74). -/
def NArg.bits : NArg → Nat
  | .none => 0
  | .tgt t => t.val
  | .xtgt n t => n.val * 4194304 + t.val
  | .dir ar a => ar.val * 4194304 + a.val
  | .ind ar n d => ar.val * 4194304 + 2097152 + n.val * 524288 + d.val
  | .imm v => v.val
  | .imm10 v => v.val
  | .cnt n => n.val
  | .ximm n v => n.val * 4194304 + v.val
  | .xreg n => n.val * 4194304

/-- The word of an instruction (R74). -/
def NIns.encode (i : NIns) : Nat := i.op.code * 33554432 + i.arg.bits

/-- The low bits of a number as a `Fin`. -/
def finMod (n : Nat) (v : Nat) (h : 0 < n := by decide) : Fin n := ⟨v % n, Nat.mod_lt v h⟩

/-- The argument in bits [24:0] by form (R74); none where a bit the form requires to be zero is set (R75). -/
def nalArg (f : NForm) (b : Nat) : Option NArg :=
  match f with
  | .none => if b = 0 then some .none else none
  | .tgt => if b < 16384 then some (.tgt (finMod 16384 b)) else none
  | .xtgt =>
    if b / 16777216 % 2 = 0 ∧ b / 16384 % 256 = 0 then some (.xtgt (finMod 4 (b / 4194304)) (finMod 16384 b)) else none
  | .mem =>
    if b / 2097152 % 2 = 0 then some (.dir (finMod 8 (b / 4194304)) (finMod 2097152 b))
    else some (.ind (finMod 8 (b / 4194304)) (finMod 4 (b / 524288)) (finMod 524288 b))
  | .imm => if b < 4194304 then some (.imm (finMod 4194304 b)) else none
  | .imm10 => if b < 1024 then some (.imm10 (finMod 1024 b)) else none
  | .cnt => if b < 32 then some (.cnt (finMod 32 b)) else none
  | .ximm => if b / 16777216 % 2 = 0 then some (.ximm (finMod 4 (b / 4194304)) (finMod 4194304 b)) else none
  | .xreg =>
    if b / 16777216 % 2 = 0 ∧ b % 4194304 = 0 then some (.xreg (finMod 4 (b / 4194304))) else none

/-- Decode a word: the instruction, or none where the word is ILLEGAL (R75). The area of a memory operand is checked
separately, since that fault has its own code. -/
def nalDecode (w : Nat) : Option NIns :=
  match NOp.ofCode (w / 33554432 % 128) with
  | none => none
  | some op => (nalArg op.form (w % 33554432)).map fun a => ⟨op, a⟩

/-- The area code of a memory operand. -/
def NArg.area : NArg → Nat
  | .dir ar _ => ar.val
  | .ind ar _ _ => ar.val
  | _ => 0

/-- Whether an argument is a memory operand. -/
def NArg.isMem : NArg → Bool
  | .dir _ _ => true
  | .ind _ _ _ => true
  | _ => false

/-- Whether the opcode table lists the operand's area (R75, R76). -/
def NIns.areaOk (i : NIns) : Bool := !i.arg.isMem || i.op.areas.contains i.arg.area

/-- The signed 22-bit immediate, extended to 32 bits (R74). -/
def sext22 (v : Nat) : Word := (BitVec.ofNat 22 v).signExtend 32

end Sys2Proof.Machine
end

