-- ==== Sys2Proof/Machine/Operands.lean ====
section
/-!
DEFINITION. The benches (R13, R66 to R73) and the operands of the Naltin instructions: program words, the slot table,
windows, journalled lines (R92), and the effective address (R73).
-/
namespace Sys2Proof.Machine

/-- The journalled areas Q, M, K, E, T and C (R70, R71). -/
def journalled (area : Nat) : Bool := decide (1 ≤ area) && decide (area ≤ 6)

/-- A window of the data region (R70). -/
structure Win where
  base : Nat
  lines : Nat
deriving DecidableEq, Repr

/-- The lines a window of an area occupies (R70). -/
def Win.occupied (w : Win) (area : Nat) : Nat :=
  if journalled area then 2 * w.lines
  else if area = 0 then w.lines + (w.lines + 31) / 32
  else w.lines

/-- The unit an address of an area counts for an instruction (R71, R73). -/
inductive NUnit where
  | bit | word | entry
deriving DecidableEq, Repr

/-- A window's capacity in a unit (R73). -/
def Win.cap (w : Win) : NUnit → Nat
  | .bit => 512 * w.lines
  | .word => 16 * w.lines
  | .entry => 8 * w.lines

/-- A slot table entry (R68). -/
structure SlotEnt where
  entry : Nat
  present : Bool
  codeLo : Nat
  codeHi : Nat
  preload : Nat
  eBits : Nat
deriving DecidableEq, Repr

/-- The scan key of slot `j` of engine `e`. -/
def scanKey (e j : Nat) : Nat := e * 8 + j

namespace Block

/-- The bench address of program word `i` of a bank (R66). -/
def progAddr (e bank i : Nat) : Nat := e * 0x40000 + bank * 0x10000 + 4 * i

/-- The bench address of data line `l`. -/
def lineAddr (e l : Nat) : Nat := e * 0x40000 + 0x20000 + 64 * l

/-- A program word. -/
def progWord (s : Block) (e bank i : Nat) : Nat := s.bench.readN (progAddr e bank i) 4

/-- Write a program word. -/
def setProgWord (s : Block) (e bank i v : Nat) : Block := { s with bench := s.bench.writeN (progAddr e bank i) 4 v }

/-- Word `w` of data line `l`. -/
def dataWord (s : Block) (e l w : Nat) : Nat := s.bench.readN (lineAddr e l + 4 * w) 4

/-- Write word `w` of data line `l`. -/
def setDataWord (s : Block) (e l w v : Nat) : Block := { s with bench := s.bench.writeN (lineAddr e l + 4 * w) 4 v }

/-- The slot table entry of slot `j` in a bank (R68). -/
def slotEnt (s : Block) (e bank j : Nat) : SlotEnt :=
  let w0 := s.progWord e bank (4 * j)
  let w1 := s.progWord e bank (4 * j + 1)
  let w2 := s.progWord e bank (4 * j + 2)
  ⟨bits w0 13 0, w0.testBit 31, bits w1 13 0, bits w1 29 16, bits w2 13 0, bits w2 29 16⟩

/-- The index of a window in AREA_WIN (R99). -/
def winIdx (slot area bank : Nat) : Nat := slot + 16 * area + 256 * bank

/-- A window of a slot in a bank (R70). -/
def win (s : Block) (e j bank area : Nat) : Win :=
  ⟨s.rd ENG.AREA_WIN.BASE e (winIdx j area bank), s.rd ENG.AREA_WIN.LINES e (winIdx j area bank)⟩

/-- The copy of a journalled line that is read now: the current one, or the other one while it is dirty (R92). -/
def lineCopy (s : Block) (e l : Nat) : Nat := (s.rd HID.LINE_CUR e l + s.rd HID.LINE_DIRTY e l) % 2

/-- The data line that holds word `w` of a window, as it is read now (R92). -/
def wordLine (s : Block) (e : Nat) (win : Win) (area w : Nat) : Nat :=
  let l := win.base + w / 16
  if journalled area then l + s.lineCopy e l * win.lines else l

/-- Word `w` of a window. -/
def winWord (s : Block) (e : Nat) (win : Win) (area w : Nat) : Nat := s.dataWord e (s.wordLine e win area w) (w % 16)

/-- Word `w` of a journalled window in its current copies, whatever a scan has written since (R93, R133). -/
def winCurWord (s : Block) (e : Nat) (win : Win) (w : Nat) : Nat :=
  let l := win.base + w / 16
  s.dataWord e (l + s.rd HID.LINE_CUR e l * win.lines) (w % 16)

/-- Write word `w` of a window in the copy that is read now. -/
def setWinWord (s : Block) (e : Nat) (win : Win) (area w v : Nat) : Block :=
  s.setDataWord e (s.wordLine e win area w) (w % 16) v

/-- Copy the words of a data line to another, from index `n - 1` down. -/
def copyWords (s : Block) (e src dst : Nat) : Nat → Block
  | 0 => s
  | n + 1 => (s.setDataWord e dst n (s.dataWord e src n)).copyWords e src dst n

/-- The first write of a scan to a clean journalled line (R92): the current copy goes to the other copy, and the line
is dirty. -/
def dirtyLine (s : Block) (e : Nat) (win : Win) (l : Nat) : Block :=
  let c := s.rd HID.LINE_CUR e l
  (s.copyWords e (l + c * win.lines) (l + (1 - c) * win.lines) 16).wr HID.LINE_DIRTY e l 1

/-- A program's write of word `w` of a journalled window, with the cycles of its journal copy (R92). -/
def journalWrite (s : Block) (e : Nat) (win : Win) (area w v : Nat) : Block × Nat :=
  if s.on HID.LINE_DIRTY e (win.base + w / 16) then (s.setWinWord e win area w v, 0)
  else ((s.dirtyLine e win (win.base + w / 16)).setWinWord e win area w v, 8)

/-- Several program writes, summing their journal cycles. -/
def journalWrites (s : Block) (e : Nat) (win : Win) (area : Nat) : List (Nat × Nat) → Block × Nat
  | [] => (s, 0)
  | (w, v) :: t =>
    let r := s.journalWrite e win area w v
    let q := r.1.journalWrites e win area t
    (q.1, r.2 + q.2)

/-- The late flag of I word `w` (R73). -/
def lateFlag (s : Block) (e : Nat) (win : Win) (w : Nat) : Bool :=
  (s.dataWord e (win.base + win.lines + w / 512) (w / 32 % 16)).testBit (w % 32)

/-- Write the late flag of I word `w`. -/
def setLateFlag (s : Block) (e : Nat) (win : Win) (w : Nat) (b : Bool) : Block :=
  s.setDataWord e (win.base + win.lines + w / 512) (w / 32 % 16)
    (putBit (s.dataWord e (win.base + win.lines + w / 512) (w / 32 % 16)) (w % 32) b)

/-- Every line of a list of lines, marked by one field of the line state. -/
def setLines (s : Block) (f : Fld) (e v : Nat) : List Nat → Block
  | [] => s
  | l :: t => (s.wr f e l v).setLines f e v t

/-- The journalled lines of a slot in a bank (copy 0). -/
def slotLines (s : Block) (e j bank : Nat) : List Nat :=
  (List.range 6).flatMap fun a =>
    (List.range (s.win e j bank (a + 1)).lines).map fun i => (s.win e j bank (a + 1)).base + i

/-- END makes every dirty line of the slot current (R93). -/
def commitLines (s : Block) (e : Nat) : List Nat → Block
  | [] => s
  | l :: t =>
    (if s.on HID.LINE_DIRTY e l then (s.wr HID.LINE_CUR e l (1 - s.rd HID.LINE_CUR e l)).wr HID.LINE_DIRTY e l 0
      else s).commitLines e t

/-- A scan that fails leaves every current bit and clears the dirty bits (R94). -/
def dropLines (s : Block) (e j bank : Nat) : Block := s.setLines HID.LINE_DIRTY e 0 (s.slotLines e j bank)

/-- The cycles END adds for the slot's journalled lines: L = ceil(lines / 64) (R93). -/
def endCycles (s : Block) (e j bank : Nat) : Nat := ((s.slotLines e j bank).length + 63) / 64

/-- The scan a slot holds, if any. -/
def scan (s : Block) (e j : Nat) : Option Scan := s.scans.find (scanKey e j)

/-- Give a slot's scan new contents. -/
def putScan (s : Block) (e j : Nat) (c : Scan) : Block := { s with scans := s.scans.put (scanKey e j) c }

/-- The bank a slot has adopted. -/
def slotBank (s : Block) (e j : Nat) : Nat := bitN (s.rd ENG.ENG_STATE.SLOT_BANK e 0) j

/-- The bank no slot has adopted, if there is one (R67). -/
def freeBank (s : Block) (e : Nat) : Option Nat :=
  if s.rd ENG.ENG_STATE.SLOT_BANK e 0 = 0 then some 1
  else if s.rd ENG.ENG_STATE.SLOT_BANK e 0 = 255 then some 0
  else none

/-- A point reference entry of the P window (R88). -/
def pEntry (s : Block) (e : Nat) (win : Win) (i : Nat) : Nat :=
  s.dataWord e (win.base + i / 8) (i % 8 * 2) + 2 ^ 32 * s.dataWord e (win.base + i / 8) (i % 8 * 2 + 1)

end Block
end Sys2Proof.Machine
end

