-- ==== Sys2Proof/Machine/Tasks.lean ====
section
/-!
DEFINITION. Tasks: alerts, the states of a slot (R110), how a scan ends (R94, R95, R118 to R120), release records
(R142), event inputs (R121, R122), forces (R124 to R128), and the change of a program (R67 to R72, R111, R137 to R141).
-/
namespace Sys2Proof.Machine
namespace Block

/-- A condition that sets a bit of TSK_ALERT: the bit, and TASK_ALERT of the slot, at every occurrence (R145). -/
def taskAlert (s : Block) (f : Fld) (e j : Nat) : Block := (s.wr f e j 1).fire (EV.TSK.TASK_ALERT e + j)

/-- Whether a slot has a task: a kind, and a program in the bank it has adopted (R101). -/
def hasTask (s : Block) (e j : Nat) : Bool :=
  s.rd TSK.TSK_CFG.KIND e j != 0 && (s.slotEnt e (s.slotBank e j) j).present

/-- The state of a slot that holds no scan and is not STOPPED (R101, R110). -/
def restState (s : Block) (e j : Nat) : Nat :=
  if !s.hasTask e j then 0 else if s.on TSK.TSK_CFG.RUN e j then 2 else 1

/-- A slot without a scan takes its state of rest; STOPPED stands unless the slot is EMPTY or OFF (R110, R120). -/
def settle (s : Block) (e j : Nat) : Block :=
  if (s.scan e j).isSome then s
  else if s.rd TSK.TSK_STAT.STATE e j = 7 ∧ s.restState e j = 2 then s
  else s.wr TSK.TSK_STAT.STATE e j (s.restState e j)

/-- A slot enters STOPPED (R120). -/
def stopSlot (s : Block) (e j : Nat) : Block := (s.wr TSK.TSK_STAT.STATE e j 7).taskAlert TSK.TSK_ALERT.STOPPED e j

/-- A release that faulted (`fault`), overran or was missed counts in CONSEC; at the limit of its kind the slot enters
STOPPED, once its scan is gone (R120). R120 does not say how a run of both kinds counts: the one count stands against the
limit of the kind that comes last (assumption 116). -/
def consec (s : Block) (e j : Nat) (fault : Bool) : Block :=
  let s1 := s.sat TSK.TSK_STAT.CONSEC e j 1
  let lim := if fault then s1.rd TSK.TSK_LIMITS.FAULT_STOP e j else s1.rd TSK.TSK_LIMITS.OVR_STOP e j
  if lim != 0 && decide (s1.rd TSK.TSK_STAT.CONSEC e j ≥ lim) then
    (if (s1.scan e j).isSome then s1.wr HID.STOPPEND e j 1 else s1.stopSlot e j)
  else s1

/-- A slot's scan is gone: the engine is free of it, FIRST ends with the first scan that started (R64), and the slot
takes its state of rest, or STOPPED (R110, R120). -/
def goneScan (s : Block) (e j : Nat) (c : Scan) : Block :=
  let s1 := { s with scans := s.scans.del (scanKey e j) }
  let s2 :=
    if s1.on HID.EXECUTING e 0 && s1.rd ENG.ENG_STATE.CUR_SLOT e 0 == j then
      (s1.wr HID.EXECUTING e 0 0).wr ENG.ENG_STATE.STALL e 0 0
    else s1
  let s3 := if c.started && c.first then (s2.wr HID.FIRSTPEND e j 0).wr HID.WARMSTART e j 0 else s2
  let s4 := (s3.wr HID.WDOGAT e j 0).wr TSK.TSK_STAT.STATE e j 2
  if s4.on HID.STOPPEND e j then (s4.wr HID.STOPPEND e j 0).stopSlot e j else s4.settle e j

/-- TSK_EXEC_LAST and TSK_EXEC_MAX at the end of a scan that had started; the scan counts as ended (R144, R451). -/
def noteExec (s : Block) (e j : Nat) (c : Scan) : Block :=
  if c.started then
    let v := min c.cyc 0xFFFFFFFF
    let s1 := s.wr TSK.TSK_EXEC_LAST.EXEC_LAST e j v
    (s1.wr TSK.TSK_EXEC_MAX.EXEC_MAX e j (max v (s1.rd TSK.TSK_EXEC_MAX.EXEC_MAX e j))).perf 0x01A (some e) 1
  else s

/-- The program set in a bank. -/
def prog (s : Block) (e bank : Nat) : Option Prog := s.progs.find (e * 2 + bank)

/-- The CRC of the program in a bank, as a release record holds it. -/
def bankCrc (s : Block) (e bank : Nat) : Nat := ((s.prog e bank).map fun p => p.crc).getD 0

/-- The release record of a scan (R142). -/
def mkRec (s : Block) (e j : Nat) (c : Scan) (overrun fault : Bool) : RelRec :=
  { tick := c.rel, modId := s.g MOD.MOD_ID.MODULE_ID, eng := e, slot := j, bank := c.bank, event := c.ev,
    overrun := overrun, fault := fault, pubAbort := false, first := c.first, fire := c.fire, forced := c.forced,
    missed := s.rd HID.MISSEDREC e j, pdirect := min c.pd 65535, late := c.late, progCrc := s.bankCrc e c.bank,
    exec := min c.cyc 0xFFFFFFFF, forceGen := c.gen }

/-- Whether a release record is copied to history (R142). -/
def copiedRec (r : RelRec) : Bool := r.overrun || r.fault || r.pubAbort || r.pdirect != 0 || !r.late.isEmpty

/-- An item goes to history, whose writes stop at ladder stage 1 (R142, R436). -/
def histPut (s : Block) (x : HistItem) : Block :=
  if s.g PWR.PWR_STAT.LADDER < 1 then { s with hist := x :: s.hist } else s

/-- Write a release record to the log of 8,388,608 records, newest first, and to history where it is copied there (R142). -/
def logRec (s : Block) (r : RelRec) : Block :=
  let s1 := { s with relLog := (r :: s.relLog).take 8388608 }.wr HID.MISSEDREC r.eng r.slot 0
  if copiedRec r then s1.histPut (.release r) else s1

/-- The records of ended scans whose publication will not come (R25). -/
def logPend (s : Block) : List (Nat × RelRec) → Block
  | [] => s
  | (k, r) :: t => ({ s with relPend := s.relPend.del k }.logRec r).logPend t

/-- The entries of an engine's force table as history takes them (R127): those that are not empty. -/
def forceTable (s : Block) (e : Nat) : List (Nat × Nat × Nat × Nat) :=
  (List.range 256).filterMap fun k =>
    let t := s.rd TSK.FORCE_TGT.WORD e k + 2 ^ 16 * s.rd TSK.FORCE_TGT.AREA e k + 2 ^ 17 * s.rd TSK.FORCE_TGT.SLOT e k +
      2 ^ 30 * s.rd TSK.FORCE_TGT.FIRE_KEEP e k + 2 ^ 31 * s.rd TSK.FORCE_TGT.VALID e k
    let m := s.rd TSK.FORCE_MASK.MASK e k
    let v := s.rd TSK.FORCE_VAL.VALUE e k
    if t = 0 ∧ m = 0 ∧ v = 0 then none else some (k, t, m, v)

/-- An engine's force table, tagged with its generation, goes to history (R127). -/
def histForces (s : Block) (e : Nat) : Block := s.histPut (.forces e (s.rd TSK.FORCE_STAT.GEN e 0) (s.forceTable e))

/-- A record of the release log, or an item copied to history, counted from the newest. -/
def histItem (s : Block) (copied : Bool) (i : Nat) : Option HistItem :=
  if copied then s.hist[i]? else s.relLog[i]?.map fun r => .release r

/-- Whether a requester may read an item of history (R143): release records of slots of its own tin, or as tin 0 or 1. -/
def histAllows (s : Block) (r : Req) : HistItem → Bool
  | .release x => decide (s.tinOf r ≤ 1) || s.rd TSK.TSK_CFG.TIN x.eng x.slot == s.tinOf r
  | .forces _ _ _ => true

/-- A read of an address of history: ERR_CODE and the value (R143, R175). What history holds besides the records of R127
and R142 is a free value (assumptions 21, 115). -/
def histRead (s : Block) (r : Req) (a : Nat) : Block × Nat × Nat :=
  let free : Block × Nat × Nat := (s.takeFree.1, 0, Config.history s.takeFree.2 % 2 ^ 32)
  if a ≥ Config.historySize then (s, 0x08, 0)
  else
    match Config.historyWhat (a / 4) with
    | none => free
    | some (c, i, w) =>
      match s.histItem c i with
      | none => free
      | some x => if s.histAllows r x then (s, 0, x.words.getD w 0) else (s, 0x01, 0)

/-- Drop what the batch controller holds of a slot's output batch for a release (R94, R118). -/
def dropFixed (s : Block) (e j rel : Nat) : Block :=
  { s with fixed := s.fixed.filter fun b => !(decide (b.who = .slot e j) && b.rel == rel) }

/-- A scan ends with nothing carried forward (R94): its dirty lines fall back, nothing of it is staged, and its record
is written. -/
def loseScan (s : Block) (e j : Nat) (c : Scan) (overrun fault : Bool) : Block :=
  let s1 := (s.dropLines e j c.bank).dropFixed e j c.rel
  let s2 := s1.noteExec e j c
  let s3 := s2.logRec (s2.mkRec e j c overrun fault)
  s3.goneScan e j c

/-- Whether a slot's scan has overrun (R118). -/
def overran (s : Block) (e j : Nat) : Bool := s.rd TSK.TSK_STAT.STATE e j == 6

/-- A scan is aborted, or dropped before it started (R118). -/
def abortScan (s : Block) (e j : Nat) : Block :=
  match s.scan e j with
  | none => s
  | some c => s.loseScan e j c (s.overran e j) false

/-- A slot that still holds a scan at its deadline (R118): OVERRUN, and the scan is dropped, aborted, or runs on until
deadline + WDOG. -/
def overrun (s : Block) (e j : Nat) (c : Scan) : Block :=
  let s1 := (s.wr TSK.TSK_STAT.STATE e j 6).sat TSK.TSK_COUNT0.OVERRUNS e j 1
  let s2 := ((s1.taskAlert TSK.TSK_ALERT.OVERRUN e j).dropFixed e j c.rel).consec e j false
  if !c.started || s2.rd TSK.TSK_LIMITS.WDOG e j == 0 then s2.abortScan e j
  else s2.wr HID.WDOGAT e j (c.due + s2.rd TSK.TSK_LIMITS.WDOG e j)

/-- An overrunning scan reaches deadline + WDOG (R118). -/
def wdogExpire (s : Block) (e j n : Nat) : Block :=
  if s.overran e j && (s.scan e j).isSome && decide (s.rd HID.WDOGAT e j ≤ n) then s.abortScan e j else s

/-- The program fault of a scan (R95): the fault registers, PROG_FAULT, and the scan is lost with its record marked. A
fault of a scan that has already overrun counts no second time in CONSEC. -/
def scanFault (s : Block) (e j : Nat) (c : Scan) (code insn ea area : Nat) : Block :=
  let s1 := (s.wr ENG.ENG_FAULT.CODE e 0 code).wr ENG.ENG_FAULT.SLOT e 0 j
  let s2 := (s1.wr ENG.ENG_FAULT.BANK e 0 c.bank).wr ENG.ENG_FAULT.PC e 0 c.pc
  let s3 := (s2.wr ENG.ENG_FAULT.VALID e 0 1).wr ENG.ENG_FAULT_INSN.INSN e 0 insn
  let s4 := (s3.wr ENG.ENG_FAULT_EA.EA e 0 ea).wr ENG.ENG_FAULT_EA.EA_AREA e 0 area
  let s5 := (s4.fire (EV.ENG.PROG_FAULT e)).sat TSK.TSK_COUNT1.FAULTS e j 1
  let s6 := s5.taskAlert TSK.TSK_ALERT.FAULT e j
  let s7 := if s6.overran e j then s6 else s6.consec e j true
  s7.loseScan e j c (s.overran e j) true

/-- A scan ends normally by its deadline (R93, R110, R120): its lines are current, CONSEC clears, and its record waits
for the publication. -/
def endScan (s : Block) (e j : Nat) (c : Scan) : Block :=
  let l := s.slotLines e j c.bank
  let s0 := (s.setLines HID.LINE_END e 0 l).setLines HID.LINE_END e 1 (l.filter fun x => s.on HID.LINE_DIRTY e x)
  let s1 := (s0.commitLines e l).noteExec e j c
  let s2 := { s1 with relPend := s1.relPend.put (scanKey e j) (s1.mkRec e j c false false) }
  (s2.wr TSK.TSK_STAT.CONSEC e j 0).goneScan e j c

/-- The event word of a release, and the input cleared (R122). -/
def eventWord (s : Block) (e j : Nat) : Nat :=
  s.rd TSK.EV_STATE.COUNT e j + 256 * s.rd TSK.EV_STATE.MASK e j + 4096 * s.rd TSK.EV_STATE.OVF e j

/-- Clear an event input (R122, R123). -/
def clearInput (s : Block) (e j : Nat) : Block :=
  ((s.wr TSK.EV_STATE.COUNT e j 0).wr TSK.EV_STATE.MASK e j 0).wr TSK.EV_STATE.OVF e j 0 |>.wr TSK.EV_STATE.PEND e j 0

/-- Latch the event word of a release (R122); a word with OVF = 1 sets EV_OVF. -/
def latchEvent (s : Block) (e j : Nat) : Block :=
  let s1 := s.clearInput e j
  if s.on TSK.EV_STATE.OVF e j then s1.taskAlert TSK.TSK_ALERT.EV_OVF e j else s1

/-- A delivery lands on an event input (R121). -/
def landOne (s : Block) (d : Deliv) : Block :=
  let s1 := s.wr TSK.EV_STATE.PEND d.e d.j 1
  let c := s.rd TSK.EV_STATE.COUNT d.e d.j + d.n
  let s2 := s1.wr TSK.EV_STATE.COUNT d.e d.j (min c 255)
  let s3 := if c ≥ 255 then s2.wr TSK.EV_STATE.OVF d.e d.j 1 else s2
  s3.wr TSK.EV_STATE.MASK d.e d.j (s3.rd TSK.EV_STATE.MASK d.e d.j ||| d.mask)

/-- Every delivery of a list lands. -/
def landAll (s : Block) : List Deliv → Block
  | [] => s
  | d :: t => (s.landOne d).landAll t

/-- EVENT_DELIVERY_LAND at an engine's sample edge: all deliveries taken for its inputs land together (R121). -/
def landEngine (s : Block) (e : Nat) : Block :=
  ({ s with deliv := s.deliv.filter fun d => d.e != e }).landAll (s.deliv.filter fun d => d.e == e)

/-- The binding registers of a slot, by position. -/
def bindSrc (i : Nat) : Fld :=
  if i = 0 then TSK.EV_BIND0.SRC else if i = 1 then TSK.EV_BIND1.SRC else if i = 2 then TSK.EV_BIND2.SRC else TSK.EV_BIND3.SRC
def bindValid (i : Nat) : Fld :=
  if i = 0 then TSK.EV_BIND0.VALID else if i = 1 then TSK.EV_BIND1.VALID else if i = 2 then TSK.EV_BIND2.VALID else TSK.EV_BIND3.VALID

/-- The binding positions of a slot that name a source (R121). -/
def bindMask (s : Block) (e j n : Nat) : Nat :=
  ((List.range 4).map fun i => if s.on (bindValid i) e j && s.rd (bindSrc i) e j == n then 2 ^ i else 0).sum

/-- The deliveries of a source with count `c` to every task event input bound to it (R54). -/
def delivOf (s : Block) (n c : Nat) : List Deliv :=
  (List.range 128).filterMap fun q =>
    if s.bindMask (q / 8) (q % 8) n = 0 then none else some ⟨q / 8, q % 8, s.bindMask (q / 8) (q % 8) n, c⟩

/-- Whether a force entry is active (R127). -/
def forceActive (s : Block) (e k : Nat) : Bool := s.on TSK.FORCE_TGT.VALID e k && s.rd TSK.FORCE_MASK.MASK e k != 0

/-- The image map of a slot in a bank. -/
def imgMap (s : Block) (e j bank : Nat) : ImgMap := (s.maps.find (e * 16 + j * 2 + bank)).getD ⟨[], []⟩

/-- The tower addresses of the points that a word of a slot's I (area 0) or Q image reaches (R126). -/
def wordAddrs (s : Block) (e j area w : Nat) : List Nat :=
  let m := s.imgMap e j (s.slotBank e j)
  if area = 0 then (m.ins.filter fun i => i.word == w).map fun i => i.addr
  else (m.outs.filter fun o => o.word == w).map fun o => o.addr

/-- Whether the leaf of a tower address carries LS = 1; an address that does not translate has no leaf. -/
def addrLS (s : Block) (a : Nat) : Bool :=
  match s.leafFor a s.genNow none with
  | .leaf _ l _ => leafLS l
  | _ => false

/-- Whether a force entry reaches a class LS point (R126 to R128). -/
def forceLS (s : Block) (e k : Nat) : Bool :=
  (s.wordAddrs e (s.rd TSK.FORCE_TGT.SLOT e k) (s.rd TSK.FORCE_TGT.AREA e k) (s.rd TSK.FORCE_TGT.WORD e k)).any s.addrLS

/-- Whether an active entry is applied now (R127, R128): under MOD_FIRE an entry that reaches a class LS point is
applied only with FIRE_KEEP. -/
def forceApplied (s : Block) (e k : Nat) : Bool :=
  s.forceActive e k && (!s.on MOD.MOD_STATUS.FIRE 0 0 || s.on TSK.FORCE_TGT.FIRE_KEEP e k || !s.forceLS e k)

/-- The applied entries on a word of a slot's image, by rising index (R124). -/
def forcesOn (s : Block) (e j area w : Nat) : List Nat :=
  if s.rd TSK.FORCE_STAT.ACTIVE e 0 = 0 then []
  else (List.range 256).filter fun k =>
    s.forceApplied e k && s.rd TSK.FORCE_TGT.SLOT e k == j && s.rd TSK.FORCE_TGT.AREA e k == area &&
      s.rd TSK.FORCE_TGT.WORD e k == w

/-- One force on a word: (word & ¬M) ∨ (V & M) (R124). -/
def forceOne (v m x : Nat) : Nat :=
  ((BitVec.ofNat 32 v &&& ~~~(BitVec.ofNat 32 m)) ||| (BitVec.ofNat 32 x &&& BitVec.ofNat 32 m)).toNat

/-- The forces of a list of entries on a word, the higher index last (R124). -/
def forceWord (s : Block) (e v : Nat) : List Nat → Nat
  | [] => v
  | k :: t => s.forceWord e (forceOne v (s.rd TSK.FORCE_MASK.MASK e k) (s.rd TSK.FORCE_VAL.VALUE e k)) t

/-- The words of a slot's I or Q image that an active entry names. -/
def forcedWords (s : Block) (e j area : Nat) : List Nat :=
  if s.rd TSK.FORCE_STAT.ACTIVE e 0 = 0 then []
  else ((List.range 256).filter fun k =>
    s.forceApplied e k && s.rd TSK.FORCE_TGT.SLOT e k == j && s.rd TSK.FORCE_TGT.AREA e k == area).map fun k =>
      s.rd TSK.FORCE_TGT.WORD e k

/-- Input forces at a capture (R124): the words, and the late flag of a word forced whole. -/
def forceIn (s : Block) (e j : Nat) (w : Win) : List Nat → Block
  | [] => s
  | x :: t =>
    let l := s.forcesOn e j 0 x
    let s1 := s.setWinWord e w 0 x (s.forceWord e (s.winWord e w 0 x) l)
    (if l.any fun k => s.rd TSK.FORCE_MASK.MASK e k == 0xFFFFFFFF then s1.setLateFlag e w x false else s1).forceIn e j w t

/-- Clear an engine's force table (R132). -/
def clearForces (s : Block) (e : Nat) : List Nat → Block
  | [] => s
  | k :: t =>
    let s1 := ((s.wr TSK.FORCE_TGT.WORD e k 0).wr TSK.FORCE_TGT.AREA e k 0).wr TSK.FORCE_TGT.SLOT e k 0
    let s2 := (s1.wr TSK.FORCE_TGT.FIRE_KEEP e k 0).wr TSK.FORCE_TGT.VALID e k 0
    ((s2.wr TSK.FORCE_MASK.MASK e k 0).wr TSK.FORCE_VAL.VALUE e k 0).clearForces e t

/-- The number of active entries of an engine. -/
def activeForces (s : Block) (e : Nat) : Nat := ((List.range 256).filter fun k => s.forceActive e k).length

/-- Whether any engine has an active entry. -/
def anyForce (s : Block) : Bool := (List.range 16).any fun e => s.rd TSK.FORCE_STAT.ACTIVE e 0 != 0

/-- Whether a window and another share a line (R72). -/
def winMeet (a : Nat × Win) (b : Nat × Win) : Bool :=
  decide (a.2.base < b.2.base + b.2.occupied b.1) && decide (b.2.base < a.2.base + a.2.occupied a.1)

/-- The windows of a bank that have lines: area and window. -/
def bankWins (s : Block) (e bank : Nat) : List (Nat × Win) :=
  (List.range 64).filterMap fun q =>
    let w := s.win e (q / 8) bank (q % 8)
    if w.lines = 0 then none else some (q % 8, w)

/-- The windows of the banks now adopted, slot by slot. -/
def usedWins (s : Block) (e : Nat) : List (Nat × Win) :=
  (List.range 64).filterMap fun q =>
    let w := s.win e (q / 8) (s.slotBank e (q / 8)) (q % 8)
    if w.lines = 0 then none else some (q % 8, w)

/-- Whether any two windows of a list share a line. -/
def anyMeet : List (Nat × Win) → Bool
  | [] => false
  | a :: t => t.any (winMeet a) || anyMeet t

/-- The limit of R71 on the lines of an area. -/
def areaLimit (area : Nat) : Option Nat := if area = 4 then some 16 else if 5 ≤ area ∧ area ≤ 7 then some 128 else none

/-- Whether a slot table entry keeps R69. -/
def SlotEntOk (x : SlotEnt) : Bool :=
  !x.present || (decide (0x20 ≤ x.codeLo) && decide (x.codeLo < x.codeHi) && decide (x.codeHi ≤ 0x4000) &&
    decide (x.codeLo ≤ x.entry) && decide (x.entry < x.codeHi))

/-- The window and slot-table checks of a swap to a bank (R72). A journalled window is identical to one in use where area,
BASE and LINES are: one of the same lines but another area overlaps it in part (assumption 117). -/
def swapWinsOk (s : Block) (e bank : Nat) : Bool :=
  let l := s.bankWins e bank
  ((List.range 8).all fun j => SlotEntOk (s.slotEnt e bank j)) &&
    (l.all fun a => decide (a.2.base + a.2.occupied a.1 ≤ 2048)) && !anyMeet l &&
    ((List.range 8).all fun a =>
      match areaLimit a with
      | some m => decide (((l.filter fun x => x.1 == a).map fun x => x.2.lines).sum ≤ m)
      | none => true) &&
    (l.all fun a => (s.usedWins e).all fun b => !winMeet a b || (journalled a.1 && decide (a = b)))

/-- A walk that neither records nor counts: the end it would have. -/
def walkQuiet (s : Block) (tin : Nat) (holds : Bool) (x : Right) (addr : Nat) : Walked :=
  s.walkEnd addr tin holds x (s.leafFor addr s.genNow none)

/-- Whether an address translates for a slot's tin (R111). -/
def mapsTo (s : Block) (e j : Nat) (x : Right) (addr : Nat) : Option (Nat × Nat × Nat) :=
  match s.walkQuiet (s.rd TSK.TSK_CFG.TIN e j) true x addr with
  | .ok u _ k a _ _ _ => some (u, k, a / 4 * 4)
  | .fault _ _ _ _ => none

/-- Whether every entry of a bank's maps translates for its slot (R111). -/
def swapMapsOk (s : Block) (e bank : Nat) : Bool :=
  (List.range 8).all fun j =>
    !(s.slotEnt e bank j).present ||
      ((s.imgMap e j bank).ins.all fun i => (s.mapsTo e j .read i.addr).isSome) &&
      ((s.imgMap e j bank).outs.all fun o => (s.mapsTo e j .write o.addr).isSome)

/-- The output points a slot publishes from a bank, each with the bit of its word that a bit item drives. -/
def outPoints (s : Block) (e j bank : Nat) : List ((Nat × Nat × Nat) × Option Nat) :=
  if (s.slotEnt e bank j).present then
    (s.imgMap e j bank).outs.filterMap fun o => (s.mapsTo e j .write o.addr).map fun p => (p, o.bit.map fun _ => o.dstBit)
  else []

/-- Whether two lists of output points share one: the same word, unless they drive different bits of it. -/
def sharePoint (a b : List ((Nat × Nat × Nat) × Option Nat)) : Bool :=
  a.any fun x => b.any fun y => decide (x.1 = y.1) && (x.2.isNone || y.2.isNone || x.2 == y.2)

/-- Whether two slots are the source and the destination of a placement, and so one publisher (R369). -/
def onePublisher (s : Block) (a b : Nat) : Bool :=
  s.rd PEEL.PEEL_CFG.GROUP 0 a != 0 && s.rd PEEL.PEEL_CFG.GROUP 0 a == s.rd PEEL.PEEL_CFG.GROUP 0 b

/-- The bank whose maps are in force for a slot after a commit (R111): the one a SWAP that is pending, or commits with it,
brings, else the one it has adopted. -/
def bankAfter (s : Block) (f j : Nat) : Nat :=
  if s.on ENG.ENG_STATE.SWAP_PEND f 0 then s.rd HID.SWAPTO f 0
  else if s.on ENG.ENG_CTRL.SWAP f 0 then (s.freeBank f).getD (s.slotBank f j)
  else s.slotBank f j

/-- Whether two slots of the module would publish to one output point after engine `e` has gone to `bank` (R111). -/
def swapClash (s : Block) (e bank : Nat) : Bool :=
  let bankOf (f j : Nat) : Nat := if f = e then bank else s.bankAfter f j
  (List.range 8).any fun j => (List.range 128).any fun q =>
    q != scanKey e j && !s.onePublisher (scanKey e j) q && sharePoint (s.outPoints e j bank) (s.outPoints (q / 8) (q % 8) (bankOf (q / 8) (q % 8)))

/-- The code with which a committing SWAP fails validation (R72, R111, R137), 0 when it passes. -/
def swapCode (s : Block) (e : Nat) : Nat :=
  match s.freeBank e with
  | none => 0x0A
  | some b =>
    if !s.on HID.PROGCOPIED e 0 || s.on ENG.ENG_CTRL.PROG_OPEN e 0 then 0x0A
    else if !s.swapWinsOk e b then 0x08
    else if !s.swapMapsOk e b then 0x05
    else if s.swapClash e b then 0x03 else 0

/-- The lines of the journalled windows of a slot in a bank that are not identical to a window it now uses (R138). -/
def freshLines (s : Block) (e j bank : Nat) : List Nat :=
  (List.range 6).flatMap fun a =>
    let w := s.win e j bank (a + 1)
    if (s.bankWins e (1 - bank)).any fun u => decide (u = (a + 1, w)) then []
    else (List.range w.lines).map fun i => w.base + i

/-- Slot `j` adopts a bank (R67, R138, R139): the lines of fresh windows are current in copy 0, and FIRST is 1 in its
next scan. -/
def adopt (s : Block) (e j bank : Nat) : Block :=
  let s1 := s.setLines HID.LINE_CUR e 0 (s.freshLines e j bank)
  let s2 := s1.wr ENG.ENG_STATE.SLOT_BANK e 0 (putBit (s1.rd ENG.ENG_STATE.SLOT_BANK e 0) j (bank == 1))
  (s2.wr HID.FIRSTPEND e j 1).wr HID.WARMSTART e j 0

/-- The bank the slots are going to while SWAP_PEND is 1. -/
def swapTo (s : Block) (e : Nat) : Nat := s.rd HID.SWAPTO e 0

/-- The last slot has adopted (R139, R141): SWAP and SWAP_PEND clear, SWAP_DONE fires, and a snapshot is due. -/
def swapDone (s : Block) (e : Nat) : Block :=
  if s.on ENG.ENG_STATE.SWAP_PEND e 0 && s.rd ENG.ENG_STATE.SLOT_BANK e 0 == (if s.swapTo e = 1 then 255 else 0) then
    (((s.wr ENG.ENG_STATE.SWAP_PEND e 0 0).wr ENG.ENG_CTRL.SWAP e 0 0).fire (EV.ENG.SWAP_DONE e)).snapAsk
  else s

/-- Each slot of a list that has no task adopts the bank at the commit (R139). -/
def adoptIdle (s : Block) (e bank : Nat) : List Nat → Block
  | [] => s
  | j :: t => (if s.hasTask e j then s else s.adopt e j bank).adoptIdle e bank t

/-- The commit of SWAP (R139, R131): SWAP_PEND sets, the store's named set is this bank's, and slots without a task
adopt. -/
def swapCommit (s : Block) (e : Nat) : Block :=
  match s.freeBank e with
  | none => s
  | some b =>
    let s1 := ((s.wr ENG.ENG_CTRL.SWAP e 0 1).wr ENG.ENG_STATE.SWAP_PEND e 0 1).wr HID.SWAPTO e 0 b
    let s2 := match s1.prog e b with
      | some p => { s1 with progStore := s1.progStore.put e p }
      | none => s1
    (s2.adoptIdle e b (List.range 8)).swapDone e

/-- A slot adopts at its release, when a swap is pending and it has not (R139). -/
def adoptAtRelease (s : Block) (e j : Nat) : Block :=
  if s.on ENG.ENG_STATE.SWAP_PEND e 0 && s.slotBank e j != s.swapTo e then (s.adopt e j (s.swapTo e)).swapDone e else s

/-- A write of PROG_OPEN = 1 (R99). -/
def progOpenSet (s : Block) (r : Req) (e : Nat) : Block × Nat :=
  if s.on ENG.ENG_CTRL.SWAP e 0 || s.on ENG.ENG_STATE.SWAP_PEND e 0 then
    (s.refuse (0x010 + e) 0x0A r (0x010040 + 0x1000 * e), 0x0A)
  else (((s.wr ENG.ENG_CTRL.PROG_OPEN e 0 1).wr HID.PROGCOPIED e 0 0).wrap HID.PROGNO e 0 1, 0)

/-- Place words in a bank. -/
def placeWords (s : Block) (e bank : Nat) : List (Nat × Word) → Block
  | [] => s
  | (i, v) :: t => (s.setProgWord e bank (i % 16384) v.toNat).placeWords e bank t

/-- Place words in the data region. -/
def placeData (s : Block) (e : Nat) : List (Nat × Word) → Block
  | [] => s
  | (i, v) :: t => (s.setDataWord e (i / 16 % 2048) (i % 16) v.toNat).placeData e t

/-- Place image maps. -/
def placeMaps (s : Block) (e bank : Nat) : List (Nat × ImgMap) → Block
  | [] => s
  | (j, m) :: t => { s with maps := s.maps.put (e * 16 + j % 8 * 2 + bank) m }.placeMaps e bank t

/-- The bytes of a bank, by offset in the bank. -/
def bankBytes (s : Block) (e bank : Nat) : Memory :=
  let a := progAddr e bank 0
  (s.bench.filter fun c => decide (a ≤ c.1) && decide (c.1 < a + 0x10000)).map fun c => (c.1 - a, c.2)

/-- The windows of a bank, as AREA_WIN index, BASE and LINES. -/
def bankWinList (s : Block) (e bank : Nat) : List (Nat × Nat × Nat) :=
  (List.range 64).filterMap fun q =>
    let w := s.win e (q / 8) bank (q % 8)
    if w.lines = 0 ∧ w.base = 0 then none else some (winIdx (q / 8) (q % 8) bank, w.base, w.lines)

/-- The words of the P windows of a bank. -/
def bankPwin (s : Block) (e bank : Nat) : List (Nat × Nat × Nat) :=
  (List.range 8).flatMap fun j =>
    let w := s.win e j bank 7
    (List.range (16 * w.lines)).map fun i => (j, i, s.winWord e w 7 i)

/-- The program set of a bank as it now stands. -/
def bankSet (s : Block) (e bank : Nat) (kinit : List (Nat × Nat × Nat)) : Prog :=
  { code := s.bankBytes e bank, wins := s.bankWinList e bank, pwin := s.bankPwin e bank, kinit := kinit,
    maps := (List.range 8).map fun j => (j, s.imgMap e j bank), crc := 0 }

/-- The computation of ENG_PROG_CRC of the unadopted bank starts (R99, R100): it reads 0 until it is complete. -/
def crcStart (s : Block) (e : Nat) : Block := (s.wr ENG.ENG_PROG_CRC.CRC e 0 0).wr HID.CRCRUN e 0 1

/-- A write of PROG_OPEN = 0 (R99, R137): what the loader placed is in the bank, ENG_PROG_CRC is computed, and the copy to
the store runs. A write of 0 while PROG_OPEN is 0 only starts the computation: the bank has not changed, so the copy that
the store holds of it stands (assumption 118). -/
def progOpenClear (s : Block) (e : Nat) (l : ProgLoad) : Block :=
  if s.on ENG.ENG_CTRL.PROG_OPEN e 0 then
    match s.freeBank e with
    | none => s.wr ENG.ENG_CTRL.PROG_OPEN e 0 0
    | some b =>
      let s1 := ((s.placeWords e b l.words).placeData e l.data).placeMaps e b l.maps
      let old := ((s.prog e b).map fun p => p.kinit).getD []
      let k := if l.kinit.isEmpty then old else l.kinit.map fun x => (x.1, x.2.1, x.2.2.toNat)
      let s2 := { s1 with progs := s1.progs.put (e * 2 + b) (s1.bankSet e b k) }
      (((s2.wr ENG.ENG_CTRL.PROG_OPEN e 0 0).wr HID.PROGCOPIED e 0 0).wrap HID.PROGNO e 0 1).crcStart e
  else if (s.freeBank e).isSome then s.crcStart e else s

/-- The CRC of the unadopted bank is complete (R99, R100). -/
def progCrcDone (s : Block) (e : Nat) : Block :=
  if s.on HID.CRCRUN e 0 then
    match s.freeBank e with
    | none => s
    | some b =>
      let c := crc32c (s.bankBytes e b) 65536
      let s1 := match s.prog e b with
        | some p => { s with progs := s.progs.put (e * 2 + b) { p with crc := c } }
        | none => s
      ((s1.wr ENG.ENG_PROG_CRC.CRC e 0 c).wr HID.CRCRUN e 0 0).fire (EV.ENG.CRC_DONE e)
  else s

/-- A write of AREA_WIN through a requester's AREA_SEL (R99): the bank must be adopted by no slot and PROG_OPEN 1; LINES
is at most 2,048. -/
def areaWinWrite (s : Block) (r : Req) (e base lines : Nat) : Block × Nat :=
  let off := 0x010064 + 0x1000 * e
  let bank := s.own ENG.AREA_SEL.BANK e r
  let k := winIdx (s.own ENG.AREA_SEL.SLOT e r) (s.own ENG.AREA_SEL.AREA e r) bank
  if s.freeBank e ≠ some bank ∨ s.rd ENG.ENG_CTRL.PROG_OPEN e 0 = 0 then (s.refuse (0x010 + e) 0x0A r off, 0x0A)
  else if lines > 2048 then (s.refuse (0x010 + e) 0x08 r off, 0x08)
  else ((s.wr ENG.AREA_WIN.BASE e k base).wr ENG.AREA_WIN.LINES e k lines, 0)

/-- A write of 1 to ENG_FAULT.VALID clears the fault record (R95). -/
def engFaultClear (s : Block) (e : Nat) : Block :=
  let s1 := ((s.wr ENG.ENG_FAULT.CODE e 0 0).wr ENG.ENG_FAULT.SLOT e 0 0).wr ENG.ENG_FAULT.BANK e 0 0
  let s2 := ((s1.wr ENG.ENG_FAULT.PC e 0 0).wr ENG.ENG_FAULT.VALID e 0 0).wr ENG.ENG_FAULT_INSN.INSN e 0 0
  (s2.wr ENG.ENG_FAULT_EA.EA e 0 0).wr ENG.ENG_FAULT_EA.EA_AREA e 0 0

/-- TSK_CMD.RESUME on the requester's selected slot (R120): a session of tin 0 or of the slot's tin with the configure
right, and a slot that is STOPPED. -/
def tskResume (s : Block) (r : Req) (e : Nat) : Block × Nat :=
  let j := s.own TSK.SLOT_SEL.SLOT e r
  let off := 0x020054 + 0x1000 * e
  let okSes := match r with
    | .ses _ => (s.tinOf r == 0 || s.tinOf r == s.rd TSK.TSK_CFG.TIN e j) && s.holds r .configure
    | _ => false
  if !okSes then (s.refuse (0x020 + e) 0x01 r off, 0x01)
  else if s.rd TSK.TSK_STAT.STATE e j ≠ 7 then (s.refuse (0x020 + e) 0x0A r off, 0x0A)
  else (s.wr HID.RESUMEPEND e j 1, 0)

/-- A resumed slot is IDLE from the next boundary (R110, R120). -/
def resumeAt (s : Block) (e j : Nat) : Block :=
  if s.on HID.RESUMEPEND e j then
    let s1 := s.wr HID.RESUMEPEND e j 0
    if s1.rd TSK.TSK_STAT.STATE e j = 7 then (s1.wr TSK.TSK_STAT.STATE e j 2).settle e j else s1
  else s

/-- A missed release (R108). -/
def missRelease (s : Block) (e j : Nat) : Block :=
  ((s.sat TSK.TSK_COUNT0.MISSED e j 1).taskAlert TSK.TSK_ALERT.MISSED e j).sat HID.MISSEDREC e j 1 |>.consec e j false

/-- Whether a cyclic slot's release falls at tick n (R105, R106). -/
def cyclicDue (s : Block) (e j n : Nat) : Bool :=
  let p := s.rd TSK.TSK_PERIOD.PERIOD e j
  p != 0 && n % p == s.rd TSK.TSK_PHASE.PHASE e j && decide (s.rd HID.DEADLINE e j ≤ n)

/-- Whether a peel of a slot is between commit and hand-over (R371), and its hand-over tick. -/
def peeling (s : Block) (e j : Nat) : Bool :=
  s.rd PEEL.PEEL_STAT.STATE 0 (e * 8 + j) == 1 || s.rd PEEL.PEEL_STAT.STATE 0 (e * 8 + j) == 2
def peelTick (s : Block) (e j : Nat) : Nat :=
  s.rd PEEL.PEEL_HTICK_L.HTICK_L 0 (e * 8 + j) + 2 ^ 32 * s.rd PEEL.PEEL_HTICK_H.HTICK_H 0 (e * 8 + j)

/-- Whether an event slot may be released at tick n (R107); while it is being peeled, only when its release ends by the
hand-over tick (R370). R107 does not say whether its spacing counts across a restart: it does not, whatever TSK_REL keeps
(assumption 119). -/
def eventDue (s : Block) (e j n : Nat) : Bool :=
  let p := s.rd TSK.TSK_PERIOD.PERIOD e j
  let last := s.rd TSK.TSK_REL_L.REL_L e j + 2 ^ 32 * s.rd TSK.TSK_REL_H.REL_H e j
  s.on TSK.EV_STATE.PEND e j && p != 0 && (!s.on HID.RELEASED e j || decide (last + p ≤ n)) &&
    decide (s.rd HID.DEADLINE e j ≤ n) && (!s.peeling e j || decide (n + p ≤ s.peelTick e j))

/-- Whether the pages let the slots of an engine be released (R98, R144). -/
def engOn (s : Block) (e : Nat) : Bool :=
  s.on HDR.PAGE_CTRL.ENABLE (0x010 + e) 0 && s.on HDR.PAGE_CTRL.ENABLE (0x020 + e) 0

/-- The new scan of a release at tick n (R64, R65, R80, R88). -/
def newScan (s : Block) (e j n ev : Nat) : Scan :=
  { lb := false, bstk := [], acc := 0, x0 := 0, x1 := 0, x2 := 0, x3 := 0, cstk := [],
    pc := (s.slotEnt e (s.slotBank e j) j).entry, z := false, n := false, c := false, v := false, vs := false, dz := false,
    pf := false, fire := s.on MOD.MOD_STATUS.FIRE 0 0, first := s.on HID.FIRSTPEND e j, ev := ev, rel := n,
    due := n + s.rd TSK.TSK_PERIOD.PERIOD e j, bank := s.slotBank e j, gen := s.rd TSK.FORCE_STAT.GEN e 0,
    warmFirst := s.on HID.WARMSTART e j, eDone := [], started := false, ready := false, pd := 0, cyc := 0,
    walked := none, ans := none, late := [], forced := false, stalls := [], wait := 0 }

/-- A release at tick n, before its capture (R105, R107, R122, R139): the bank is adopted, the event word latched, and
the slot holds a scan. -/
def release (s : Block) (e j n : Nat) : Block :=
  let s1 := s.adoptAtRelease e j
  if !(s1.slotEnt e (s1.slotBank e j) j).present then s1.settle e j
  else
    let ev := s1.eventWord e j
    let s2 := (s1.latchEvent e j).putScan e j (s1.newScan e j n ev)
    let s3 := ((s2.wr HID.DEADLINE e j (n + s.rd TSK.TSK_PERIOD.PERIOD e j)).wr HID.RELEASED e j 1)
    (s3.wr TSK.TSK_REL_L.REL_L e j (n % 2 ^ 32)).wr TSK.TSK_REL_H.REL_H e j (n / 2 ^ 32)

/-- Whether a slot may be released at all at tick n (R101, R108, R109, R120). -/
def eligible (s : Block) (e j : Nat) : Bool :=
  let st := s.rd TSK.TSK_STAT.STATE e j
  st != 0 && st != 7 && s.on TSK.TSK_CFG.RUN e j &&
    (s.on TSK.TSK_CFG.LS e j || decide (s.g PWR.PWR_STAT.LADDER < 3))

/-- The release of a slot at tick n: released, missed, or neither (R105 to R109). The second result says whether the
slot was released and is to be captured. -/
def releaseSlot (s0 : Block) (e j n : Nat) : Block × Bool :=
  let s := s0.settle e j
  let held := (s.scan e j).isSome
  if !s.eligible e j then (s, false)
  else if s.rd TSK.TSK_CFG.KIND e j = 1 then
    if !s.cyclicDue e j n then (s, false)
    else if held || !s.engOn e then (s.missRelease e j, false)
    else (s.release e j n, ((s.release e j n).scan e j).isSome)
  else
    if held || !s.engOn e || !s.eventDue e j n then (s, false)
    else (s.release e j n, ((s.release e j n).scan e j).isSome)

/-- The capture of a slot ends and it becomes READY (R110, R115). -/
def makeReady (s : Block) (e j : Nat) : Block :=
  match s.scan e j with
  | none => s
  | some c => if c.ready then s else (s.putScan e j { c with ready := true }).wr TSK.TSK_STAT.STATE e j 3

/-- A slow capture ends (R115). -/
def captureDone (s : Block) (e j : Nat) : Block :=
  match s.scan e j with
  | none => s
  | some c =>
    if c.ready then s else ((s.makeReady e j).taskAlert TSK.TSK_ALERT.CAP_SLOW e j).perf 0x091 none 1

/-- The words below a retentive limit of a window (R133). -/
def retWords (s : Block) (e j area n : Nat) : List Nat :=
  let w := s.win e j (s.slotBank e j) area
  (List.range (min n (16 * w.lines))).map fun i => s.winCurWord e w i

/-- What a snapshot holds for a slot (R133). -/
def snapSlot (s : Block) (e j : Nat) : SnapSlot :=
  let b := s.slotBank e j
  { k := s.retWords e j 3 (16 * (s.win e j b 3).lines), t := s.retWords e j 5 (2 * s.rd TSK.RET_CFG.T_RET e j),
    c := s.retWords e j 6 (2 * s.rd TSK.RET_CFG.C_RET e j), crc := s.bankCrc e b,
    lines := (List.range 8).map fun a => (s.win e j b a).lines,
    tRet := s.rd TSK.RET_CFG.T_RET e j, cRet := s.rd TSK.RET_CFG.C_RET e j }

/-- A snapshot of every slot at tick n, with the RTC count (R133). -/
def snapNow (s : Block) (n rtc : Nat) : Snap :=
  ⟨n, rtc, (List.range 128).map fun q => (q, s.snapSlot (q / 8) (q % 8))⟩

/-- Whether a snapshot is taken at boundary n (R133, R141): retained content has changed and n is a multiple of 4,000,
or a snapshot has been asked for. -/
def snapDue (s : Block) (n rtc : Nat) : Bool :=
  (s.on HID.KRETDUE 0 0 && decide (s.g HID.KRETDUE ≤ n)) ||
    (n % 4000 == 0 &&
      match s.kretNew with
      | none => true
      | some k => decide (k.slots ≠ (s.snapNow n rtc).slots))

/-- Take the snapshot of boundary n (R133, R134): its content is fixed, and its lines are still to be read. -/
def takeSnap (s : Block) (n rtc : Nat) : Block :=
  let s1 := (s.p HID.KRETDUE 0).p HID.SNAPREAD 1
  { s1 with kretNew := some (s1.snapNow n rtc), cells := s1.cells.filter fun c => c.1.f != HID.SNAPGOT.code }

/-- The snapshot of boundary n, where one is due. -/
def snapStep (s : Block) (n rtc : Nat) : Block := if s.snapDue n rtc then s.takeSnap n rtc else s

/-- Every line of the snapshot has been read (R134). -/
def snapRead (s : Block) : Block := s.p HID.SNAPREAD 0

/-- Whether line `l` of a slot's window is one that a snapshot copies (R133). -/
def retLine (s : Block) (e j area l : Nat) : Bool :=
  area == 3 || (area == 5 && decide (8 * l < s.rd TSK.RET_CFG.T_RET e j)) ||
    (area == 6 && decide (8 * l < s.rd TSK.RET_CFG.C_RET e j))

/-- The lines that a scan's writes of words make it wait for (R134): it writes to them first, and the snapshot has not read
them yet. -/
def snapWaits (s : Block) (e j area : Nat) (w : Win) (l : List Nat) : List Nat :=
  if s.g HID.SNAPREAD = 0 then []
  else ((l.map fun x => x / 16).eraseDups).filterMap fun x =>
    if s.retLine e j area x && !s.on HID.LINE_DIRTY e (w.base + x) && !s.on HID.SNAPGOT e (w.base + x) then some (w.base + x)
    else none

/-- Write words into copy 0 of a journalled window and make copy 0 current (R132, R138). -/
def fillWin (s : Block) (e : Nat) (w : Win) (i : Nat) : List Nat → Block
  | [] => s
  | v :: t => (s.setDataWord e (w.base + i / 16) (i % 16) v).fillWin e w (i + 1) t

/-- Give a journalled window the listed words, and 0 in the rest (R132). -/
def setWin (s : Block) (e : Nat) (w : Win) (l : List Nat) : Block :=
  let lines := (List.range w.lines).map fun i => w.base + i
  let s1 := (s.setLines HID.LINE_CUR e 0 lines).setLines HID.LINE_DIRTY e 0 lines
  s1.fillWin e w 0 ((l ++ List.replicate (16 * w.lines - l.length) 0).take (16 * w.lines))

/-- The K initial values of a slot in a bank, as words. -/
def kinitWords (s : Block) (e j bank : Nat) : List Nat :=
  let l := ((s.prog e bank).map fun p => p.kinit).getD []
  (List.range (16 * (s.win e j bank 3).lines)).map fun w =>
    ((l.find? fun x => x.1 == j && x.2.1 == w).map fun x => x.2.2).getD 0

/-- Whether a slot's snapshot lets it restart warm (R130). -/
def snapFits (s : Block) (e j : Nat) : Option SnapSlot :=
  match s.kret with
  | none => none
  | some k =>
    match k.slots.find (scanKey e j) with
    | none => none
    | some x =>
      if x.crc = s.bankCrc e 0 ∧ x.lines.getD 3 0 = (s.win e j 0 3).lines ∧ x.tRet = s.rd TSK.RET_CFG.T_RET e j ∧
          x.cRet = s.rd TSK.RET_CFG.C_RET e j then some x else none

/-- The areas of a slot after a restart (R130, R132): `warm` asks for a warm restart. -/
def restartSlot (s : Block) (e j : Nat) (warm : Bool) : Block :=
  let want := warm && s.hasTask e j
  let snap := if want then s.snapFits e j else none
  let s1 := ((s.setWin e (s.win e j 0 1) []).setWin e (s.win e j 0 2) []).setWin e (s.win e j 0 4) []
  match snap with
  | some x =>
    let s2 := ((s1.setWin e (s1.win e j 0 3) x.k).setWin e (s1.win e j 0 5) x.t).setWin e (s1.win e j 0 6) x.c
    s2.wr HID.WARMSTART e j 1
  | none =>
    let s2 := ((s1.setWin e (s1.win e j 0 3) (s1.kinitWords e j 0)).setWin e (s1.win e j 0 5) []).setWin e (s1.win e j 0 6) []
    let s3 := s2.wr HID.WARMSTART e j 0
    if want then s3.taskAlert TSK.TSK_ALERT.COLD_FALLBACK e j else s3

/-- Place windows. -/
def placeWins (s : Block) (e : Nat) : List (Nat × Nat × Nat) → Block
  | [] => s
  | (k, b, l) :: t => ((s.wr ENG.AREA_WIN.BASE e (k % 256) b).wr ENG.AREA_WIN.LINES e (k % 256) l).placeWins e t

/-- Clear the windows of both banks. -/
def clearWins (s : Block) (e : Nat) : List Nat → Block
  | [] => s
  | q :: t =>
    let k := winIdx (q / 8 % 8) (q % 8) (q / 64)
    ((s.wr ENG.AREA_WIN.BASE e k 0).wr ENG.AREA_WIN.LINES e k 0).clearWins e t

/-- Place the words of the P windows of bank A. -/
def placePwin (s : Block) (e : Nat) : List (Nat × Nat × Nat) → Block
  | [] => s
  | (j, i, v) :: t =>
    let w := s.win e j 0 7
    (s.setDataWord e (w.base + i / 16) (i % 16) v).placePwin e t

/-- The program banks of an engine with no byte in them. -/
def clearBanks (s : Block) (e : Nat) : Block :=
  { s with bench := s.bench.filter fun c => !(decide (e * 0x40000 ≤ c.1) && decide (c.1 < e * 0x40000 + 0x20000)) }

/-- The bytes of a program set in bank A. -/
def placeCode (s : Block) (e : Nat) : Memory → Block
  | [] => s
  | (a, v) :: t => { s with bench := s.bench.write (e * 0x40000 + a) v }.placeCode e t

/-- Load the program set named by the last committed SWAP into bank A; bank B is empty, and every slot adopts bank A
(R131). -/
def reloadProg (s : Block) (e : Nat) : Block :=
  let s1 := (s.clearBanks e).clearWins e (List.range 128)
  let s2 := { s1 with maps := s1.maps.filter fun m => m.1 / 16 != e, progs := (s1.progs.del (e * 2)).del (e * 2 + 1) }
  let s3 := ((s2.wr ENG.ENG_STATE.SLOT_BANK e 0 0).wr ENG.ENG_STATE.SWAP_PEND e 0 0).wr ENG.ENG_CTRL.SWAP e 0 0
  match s3.progStore.find e with
  | none => s3
  | some p =>
    let s4 := (s3.placeCode e p.code).placeWins e p.wins
    let s5 := (s4.placePwin e p.pwin).placeMaps e 0 p.maps
    { s5 with progs := s5.progs.put (e * 2) p }

/-- The E bits of a warm-restarting slot, from its preload table (R84, R136). -/
def preloadBit (s : Block) (e j i : Nat) : Block :=
  let b := s.slotBank e j
  let w := s.progWord e b (((s.slotEnt e b j).preload + i) % 16384)
  if w.testBit 31 then s
  else
    let src := bits w 20 0
    let iw := s.win e j b 0
    let v := if src < iw.cap .bit then (s.winWord e iw 0 (src / 32)).testBit (src % 32) else false
    let ew := s.win e j b 4
    if i < ew.cap .bit then s.setWinWord e ew 4 (i / 32) (putBit (s.winWord e ew 4 (i / 32)) (i % 32) v) else s

/-- All E bits of a warm-restarting slot. -/
def preloadAll (s : Block) (e j : Nat) : List Nat → Block
  | [] => s
  | i :: t => (s.preloadBit e j i).preloadAll e j t

/-- A retentive timer entry resumes (R135). -/
def resumeTimer (s : Block) (e j n : Nat) (d : Int) (snapTick i : Nat) : Block :=
  let w := s.win e j (s.slotBank e j) 5
  let t := TEnt.ofWords (s.winWord e w 5 (2 * i)) (s.winWord e w 5 (2 * i + 1))
  if t.run then
    let el : Nat := (snapTick % 2 ^ 32 + 2 ^ 32 - t.base) % 2 ^ 32
    s.setWinWord e w 5 (2 * i) (uns 32 ((n : Int) - el - d))
  else s

/-- All retentive timers of a slot resume. -/
def resumeTimers (s : Block) (e j n : Nat) (d : Int) (snapTick : Nat) : List Nat → Block
  | [] => s
  | i :: t => (s.resumeTimer e j n d snapTick i).resumeTimers e j n d snapTick t

/-- What the first release of a warm-restarting slot does after its capture (R135, R136). `rtc` is the RTC count at the
release, `lost` whether the oscillator-stopped flag is set. -/
def firstRelease (s : Block) (e j n rtc : Nat) (lost : Bool) : Block :=
  match s.kret with
  | none => s
  | some k =>
    let d : Int := if lost then 0 else (((rtc : Int) - k.rtc) * 125).fdiv 1024
    let s1 := if lost then s.taskAlert TSK.TSK_ALERT.RTC_LOST e j else s
    let cap := (s1.win e j (s1.slotBank e j) 5).cap .entry
    let s2 := s1.resumeTimers e j n d k.tick (List.range (min (s1.rd TSK.RET_CFG.T_RET e j) cap))
    s2.preloadAll e j (List.range (s2.slotEnt e (s2.slotBank e j) j).eBits)

end Block
end Sys2Proof.Machine
end

