-- ==== Sys2Proof/Machine/Stores.lean ====
section
/-!
DEFINITION. The two-bank stores (R400 to R405), the event recorder (R406 to R411) and the Grigen images (R413 to R419).
A bank holds what its store is said to hold, as far as the module's state has it: register values, key material, the
message set, a snapshot. The program sets and the translation tables are held beside (assumption 24).
-/
namespace Sys2Proof.Machine

/-- Every register field. -/
def regFields : List Fld :=
  hdrFields ++ modFields ++ evrFields ++ engFields ++ tskFields ++ batFields ++ riseFields ++ xltFields ++
  tinFields ++ loopFields ++ dioFields ++ aioFields ++ capFields ++ audFields ++ zoneFields ++ metFields ++
  ringFields ++ rctlFields ++ segFields ++ svcFields ++ ptpFields ++ rtcFields ++ pairFields ++ peelFields ++
  keyFields ++ sesFields ++ stoFields ++ recFields ++ updFields ++ pwrFields ++ perfFields ++ lifeFields

/-- What each reset does to the field with a code; none for a code that no field has. -/
def clsOf (code : Nat) : Option Cls := ((regFields ++ hidFields).find? fun f => f.code == code).map fun f => f.cls

/-- Whether a class takes its value from the configuration store. -/
def Cls.stored : Cls → Bool
  | .cfg => true
  | .cfgCR => true
  | .cfgKeep => true
  | _ => false

/-- The fields of CFG_MAP: the domain table and the active-tin table (R400). -/
def mapFields : List Fld :=
  [XLT.XLT_DOM_DATA.KIND, XLT.XLT_DOM_DATA.MEMBER, XLT.XLT_DOM_EPOCH.EPOCH, TIN.TIN_ENTRY.TIN, TIN.TIN_ENTRY.VALID,
    HID.DOMNAMED]

/-- The fields that LIFE and UPDSTATE hold. -/
def lifeStoreFields : List Fld := [LIFE.LIFE_VAL.VALUE, LIFE.LIFE_STAT.REPLACE, LIFE.LIFE_STAT.WEAR_HIGH]
def updStoreFields : List Fld :=
  [UPD.UPD_STAT.BANK, UPD.UPD_STAT.TRIAL, UPD.UPD_STAT.PREV_VALID, UPD.UPD_RUN.RUN_VER, UPD.UPD_PREV.PREV_VER,
    UPD.UPD_ROLLBACK.RUN, UPD.UPD_FMT.FORMAT, HID.PREVROLL, HID.PREVFMT]

/-- Whether a field's code is one of a list's. -/
def codeIn (l : List Fld) (code : Nat) : Bool := l.any fun f => f.code == code

/-- Whether a store holds the register value under a key (R400, R383). -/
def storeHolds (id : Nat) (k : Key) : Bool :=
  if id = 0x01 then
    ((clsOf k.f).any Cls.stored && !codeIn mapFields k.f) || k.f == MOD.MOD_STATUS.FIRE.code
  else if id = 0x20 then codeIn mapFields k.f
  else if id = 0x22 then k.f == KEY.KEY_ATTR.ATTR.code && decide (k.k ≥ 16)
  else if id = 0x31 then codeIn lifeStoreFields k.f
  else if id = 0x33 then codeIn updStoreFields k.f
  else false

/-- The IDs of the stores (R400). -/
def storeIds : List Nat := 0x01 :: ((List.range 16).map fun e => 0x10 + e) ++ [0x20, 0x21, 0x22, 0x30, 0x31, 0x32, 0x33]

/-- The stores that together form the configuration store. -/
def cfgStoreIds : List Nat := storeIds.filter fun i => decide (i ≤ 0x22)

/-- A store that nothing has written since the state of reset: the configuration store then holds, in bank 0, the
configuration of that state; the other stores hold nothing (assumption 3). -/
def Store.initial (id : Nat) : Store :=
  { b0 := if id ≤ 0x22 then some ⟨0, 0, [], [], [], none, []⟩ else none, b1 := none, held := none, writing := none }

/-- Whether SEQ a is newer than SEQ b (R402). -/
def seqNewer (a b : Nat) : Bool :=
  let d := (a % 2 ^ 32 + 2 ^ 32 - b % 2 ^ 32) % 2 ^ 32
  decide (1 ≤ d) && decide (d ≤ 2 ^ 31 - 1)

/-- The bank in force (R402): the newest valid bank of a format that is supported; bank 0 when neither is newer. -/
def Store.cur (st : Store) (fmt : Nat) : Option (Bool × Bank) :=
  match st.b0.filter (fun b => decide (b.fmt ≤ fmt)), st.b1.filter (fun b => decide (b.fmt ≤ fmt)) with
  | none, none => none
  | some a, none => some (false, a)
  | none, some b => some (true, b)
  | some a, some b => if seqNewer b.seq a.seq then some (true, b) else some (false, a)

namespace Block

/-- A store. -/
def sto (s : Block) (id : Nat) : Store := (s.stores.find id).getD (Store.initial id)

/-- Give a store new contents. -/
def putSto (s : Block) (id : Nat) (st : Store) : Block := { s with stores := s.stores.put id st }

/-- The bank in force of a store for the running firmware. -/
def stoCur (s : Block) (id : Nat) : Option (Bool × Bank) := (s.sto id).cur (s.g UPD.UPD_FMT.FORMAT)

/-- The message set that flash holds (R259, R400). -/
def msgFlash (s : Block) : List (Nat × MsgInfo) := ((s.stoCur 0x21).map fun (x : Bool × Bank) => x.2.msgs).getD []

/-- What a write of a store would hold now (R400). -/
def stoContent (s : Block) (id seq : Nat) : Bank :=
  { seq := seq
    fmt := if id ≤ 0x22 then s.g UPD.UPD_FMT.FORMAT else 0
    cells := s.cells.filter fun c => storeHolds id c.1,
    mats := if id = 0x22 then s.keyMat.filter fun x => decide (x.1 ≥ 16) else [],
    msgs := if id = 0x21 then s.msgs else [],
    snap := if id = 0x30 then s.kretNew else none,
    map := if id = 0x20 then s.pmap else [] }

/-- The bank that a write goes to (R403, R404): not the one in force, and never the held one. -/
def stoTarget (s : Block) (id : Nat) : Bool :=
  match (s.sto id).held with
  | some h => !h
  | none => match s.stoCur id with
    | some (b, _) => !b
    | none => false

/-- A write of a store begins (R403): the bank it goes to is invalid until its header is complete. -/
def stoBegin (s : Block) (id : Nat) : Block :=
  let st := s.sto id
  let seq := ((s.stoCur id).map fun x => (x.2.seq + 1) % 2 ^ 32).getD 0
  let w := some (s.stoContent id seq)
  let s1 := if s.stoTarget id then s.putSto id { st with b1 := none, writing := w }
    else s.putSto id { st with b0 := none, writing := w }
  let s2 := s1.wr STO.STO_STAT.WRITING 0 id 1
  if 0x10 ≤ id ∧ id ≤ 0x1F then s2.wr HID.COPYNO (id - 0x10) 0 (s2.rd HID.PROGNO (id - 0x10) 0) else s2

/-- A write of a store is requested (R403): one that waits is replaced by the latest content. -/
def stoRequest (s : Block) (id : Nat) : Block :=
  if s.on STO.STO_STAT.WRITING 0 id then s.wr STO.STO_STAT.PENDING 0 id 1 else s.stoBegin id

/-- A changed tower point map goes to its store (R173, R403); `s0` held the map before. -/
def mapSave (s s0 : Block) : Block := if s.pmap = s0.pmap then s else s.stoRequest 0x20

/-- Writes of several stores are requested. -/
def stoRequests (s : Block) : List Nat → Block
  | [] => s
  | id :: t => (s.stoRequest id).stoRequests t

/-- The next write, if one waits. -/
def stoNext (s : Block) (id : Nat) : Block :=
  let s1 := (s.wr STO.STO_STAT.WRITING 0 id 0).wr HID.STORETRY 0 id 0
  if s1.on STO.STO_STAT.PENDING 0 id then (s1.wr STO.STO_STAT.PENDING 0 id 0).stoBegin id else s1

/-- What a completed write of a store brings with it: the copy of a program bank that was closed before the write began,
and LIFE's event (R137, R458). -/
def stoWritten (s : Block) (id : Nat) : Block :=
  if 0x10 ≤ id ∧ id ≤ 0x1F then
    (let e := id - 0x10
     if s.on ENG.ENG_CTRL.PROG_OPEN e 0 || s.rd HID.COPYNO e 0 != s.rd HID.PROGNO e 0 then s else s.wr HID.PROGCOPIED e 0 1)
  else if id = 0x31 then (s.p LIFE.LIFE_STAT.AGE 0).fire EV.LIFE.SAVED
  else s

/-- A write of a store ends (R403): the bank is valid, or a failed write is repeated once. -/
def stoDone (s : Block) (id : Nat) (ok : Bool) : Block :=
  if !s.on STO.STO_STAT.WRITING 0 id then s
  else
    match (s.sto id).writing with
    | none => s.stoNext id
    | some b =>
      if ok then
        let st := { s.sto id with writing := none }
        let s1 := if s.stoTarget id then s.putSto id { st with b1 := some b } else s.putSto id { st with b0 := some b }
        ((s1.wrap STO.STO_COUNT.WRITES 0 id 1).stoWritten id).stoNext id
      else
        let s1 := (s.sat STO.STO_COUNT.FAILS 0 id 1).fire EV.STO.WRITE_FAIL
        if s.on HID.STORETRY 0 id then (s1.putSto id { s.sto id with writing := none }).stoNext id
        else s1.wr HID.STORETRY 0 id 1

/-- Power fails (R403): the writes in progress are interrupted, and leave their banks invalid. -/
def stoInterrupt (s : Block) : List Nat → Block
  | [] => s
  | id :: t =>
    (if s.on STO.STO_STAT.WRITING 0 id then
      ((s.putSto id { s.sto id with writing := none }).wr STO.STO_STAT.WRITING 0 id 0).wr STO.STO_STAT.PENDING 0 id 0
    else s).stoInterrupt t

/-- Banks of stores are found damaged: the CRC of each does not match. -/
def stoDamage (s : Block) : List (Nat × Bool) → Block
  | [] => s
  | (id, b) :: t =>
    (if storeIds.contains id then
      (if b then s.putSto id { s.sto id with b1 := none } else s.putSto id { s.sto id with b0 := none }) else s).stoDamage t

/-- A read of a store's banks: BANK_INVALID fires for each that is invalid (R420). -/
def stoRead (s : Block) (id : Nat) : Block :=
  (s.fireIf (s.sto id).b0.isNone EV.STO.BANK_INVALID).fireIf (s.sto id).b1.isNone EV.STO.BANK_INVALID

/-- Whether some configuration store has no valid bank (R405). -/
def noCfgBank (s : Block) : Bool := cfgStoreIds.any fun id => (s.stoCur id).isNone

/-- HELD sets on every configuration store, on the bank in force (R418). -/
def stoHold (s : Block) : List Nat → Block
  | [] => s
  | id :: t =>
    (match s.stoCur id with
     | some (b, x) => (((s.putSto id { s.sto id with held := some b }).p UPD.UPD_FMT.HELD_FORMAT x.fmt).fire EV.STO.HOLD_SET)
     | none => s).stoHold t

/-- HELD clears on every store that is held (R418). -/
def stoRelease (s : Block) : List Nat → Block
  | [] => s.p UPD.UPD_FMT.HELD_FORMAT 0
  | id :: t =>
    (if (s.sto id).held.isSome then (s.putSto id { s.sto id with held := none }).fire EV.STO.HOLD_CLR else s).stoRelease t

/-- The register values that a restart takes from the bank in force of a store, where a class of fields is reloaded
(R459): the values held now under such fields give way to the bank's. A store without a valid bank leaves the fields
at their reset values. -/
def stoReload (s : Block) (id : Nat) (which : Nat → Bool) : Block :=
  let keep := s.cells.filter fun c => !(storeHolds id c.1 && which c.1.f)
  let put : Cells := ((s.stoCur id).map fun x => x.2.cells.filter fun c => which c.1.f).getD []
  { s with cells := put.foldl (fun a c => a.put c.1 c.2) keep }

/-! ### The event recorder -/

/-- The key of a record on chip: its slot (R406). -/
def recSlot (seq : Nat) : Nat := seq % 65536

/-- A record on chip, if that SEQ is held there. -/
def recAt (s : Block) (seq : Nat) : Option RecEnt := (s.recs.find (recSlot seq)).filter fun r => r.seq == seq

/-- A record in the spill area, if that SEQ is held there. -/
def spillAt (s : Block) (seq : Nat) : Option RecEnt := (s.spill.find (seq % 1048576)).filter fun r => r.seq == seq

/-- How far a SEQ lies behind the newest. -/
def recAge (s : Block) (seq : Nat) : Nat := (s.g REC.REC_NEWEST.NEWEST + 2 ^ 24 - seq) % 2 ^ 24

/-- REC_OLDEST: the oldest record held. -/
def recOldest (s : Block) : Nat :=
  (s.recs.map fun x => x.2.seq).foldl (fun a q => if s.recAge q > s.recAge a then q else a)
    ((s.spill.map fun x => x.2.seq).foldl (fun a q => if s.recAge q > s.recAge a then q else a) (s.g REC.REC_NEWEST.NEWEST))

/-- Put a record into a list of records, the oldest first. -/
def recInsert (s : Block) (r : RecEnt) : List RecEnt → List RecEnt
  | [] => [r]
  | x :: t => if s.recAge r.seq ≥ s.recAge x.seq then r :: x :: t else x :: s.recInsert r t

/-- The records not yet spilled, the oldest first. -/
def unspilled (s : Block) : List RecEnt :=
  ((s.recs.map fun x => x.2).filter fun r => !r.spilled).foldl (fun l r => s.recInsert r l) []

/-- The sixteen words of a record (R407). -/
def recWords (r : RecEnt) : List Nat :=
  let w0 := r.seq % 2 ^ 24 + r.upd % 256 * 2 ^ 24
  let w1 := r.src % 2048 + b2n r.ls * 2048 + r.snaps.length % 16 * 4096 + r.rep * 65536
  let w2 := r.denied % 256 + r.owner % 256 * 256 + r.firings * 65536
  let body := [w1, w2] ++ (r.snaps ++ List.replicate (8 - r.snaps.length) 0) ++ [0, 0, 0]
  w0 :: body ++ [crcWords body, w0]

/-- A delivery of `n` firings of source `src` reaches the recorder with the snapshots it takes (R410, R411): it updates
the newest record, or writes a new one. -/
def recDeliver (s : Block) (src n : Nat) (snaps : List Nat) (denied : Nat) : Block :=
  let newest := s.g REC.REC_NEWEST.NEWEST
  let mods := if src = EV.BAT.XMOD_SPLIT then s.splitIds else []
  let s0 := if src = EV.BAT.XMOD_SPLIT then { s with splitIds := [] } else s
  match (s.recAt newest).filter fun r => r.src == src && !r.spilled && decide (r.rep < 65535) && r.snaps == snaps && r.denied == denied with
  | some r =>
    let r1 := { r with rep := r.rep + 1, firings := min (r.firings + n) 65535, upd := (r.upd + 1) % 256, mods := r.mods ++ mods }
    { s0 with recs := s.recs.put (recSlot newest) r1 }.fireIf (r1.rep == 65535) EV.REC.REPEAT_SAT
  | none =>
    let q := (newest + 1) % 2 ^ 24
    let lost := (s.recs.find (recSlot q)).any fun r => !r.spilled
    let r : RecEnt := ⟨q, 0, src, s.on EVR.ROUTE_DATA.LS 0 src, s.rd EVR.ROUTE_DATA.OWNER_TIN 0 src, denied, snaps, 0,
      min n 65535, false, mods⟩
    let s1 := { s0 with recs := s.recs.put (recSlot q) r }.p REC.REC_NEWEST.NEWEST q
    if lost then (s1.sat REC.REC_COUNT.LOST 0 0 1).fire EV.REC.LOST else s1

/-- Records go to the spill area. -/
def spillAll (s : Block) : List RecEnt → Block
  | [] => s
  | r :: t =>
    let r1 := { r with spilled := true }
    { s with spill := s.spill.put (r.seq % 1048576) r1, recs := s.recs.put (recSlot r.seq) r1 }.spillAll t

/-- One block of the spill (R411): 512 records, or what is left while everything is to be spilled; a block that fails its
read-back stays unspilled. -/
def recSpill (s : Block) (ok : Bool) : Block :=
  let l := s.unspilled
  if l.isEmpty || (decide (l.length < 512) && !s.on HID.SPILLING 0 0) then s
  else if !ok then s.fire EV.REC.SPILL_FAIL
  else (s.spillAll (l.take 512)).stoRequest 0x32

/-- Every unspilled record is spilled, as at stage 4 (R411, R438). -/
def recSpillAll (s : Block) : Block :=
  if s.unspilled.isEmpty then s else (s.spillAll s.unspilled).stoRequest 0x32

/-- Both module supplies are lost (R406, R411): records on chip are lost, those not spilled count in LOST, and SEQ goes on
from the newest spilled record. -/
def recPowerLoss (s : Block) : Block :=
  let n := s.unspilled.length
  let top := (s.spill.map fun x => x.2.seq).foldl (fun (a : Option Nat) q =>
    match a with
    | none => some q
    | some b => if s.recAge q < s.recAge b then some q else some b) none
  { (s.sat REC.REC_COUNT.LOST 0 0 n) with recs := [] }.p REC.REC_NEWEST.NEWEST (top.getD 0)

/-- A write of REC_SEL (R412): a record that is only in the spill area must be fetched. -/
def recSel (s : Block) (r : Req) (seq : Nat) : Block :=
  match reqHeld r with
  | none => s
  | some q => (s.wr REC.REC_SEL.SEQ 0 q seq).wr HID.RECBUSY 0 q (b2n ((s.recAt seq).isNone && (s.spillAt seq).isSome))

/-- The record that a requester has selected. -/
def recOf (s : Block) (r : Req) : Option RecEnt :=
  match s.recAt (s.own REC.REC_SEL.SEQ 0 r) with
  | some x => some x
  | none => s.spillAt (s.own REC.REC_SEL.SEQ 0 r)

/-- REC_STAT for a requester (R412). -/
def recStat (s : Block) (r : Req) : Nat :=
  s.own HID.RECBUSY 0 r + 2 * b2n (s.recOf r).isNone + 4 * b2n (s.recAt (s.own REC.REC_SEL.SEQ 0 r)).isNone *
    b2n (s.recOf r).isSome

/-! ### Staging slots -/

/-- The fields of UPD_SLOT0 or UPD_SLOT1. -/
def updState (k : Nat) : Fld := if k = 0 then UPD.UPD_SLOT0.STATE else UPD.UPD_SLOT1.STATE
def updCodeF (k : Nat) : Fld := if k = 0 then UPD.UPD_SLOT0.CODE else UPD.UPD_SLOT1.CODE
def updSesF (k : Nat) : Fld := if k = 0 then UPD.UPD_SLOT0.SESSION else UPD.UPD_SLOT1.SESSION
def updVer (k : Nat) : Fld := if k = 0 then UPD.UPD_VER0.VERSION else UPD.UPD_VER1.VERSION

/-- The words a slot has received, in order. -/
def updWords (s : Block) (k : Nat) : List Nat := ((s.updImg.find k).getD []).reverse

/-- Word `i` of a slot's header. -/
def updHdr (s : Block) (k i : Nat) : Nat := ((s.updWords k)[i]?).getD 0

/-- Whether a slot is being loaded. -/
def updLoading (s : Block) (k : Nat) : Bool := s.g (updState k) == 1 || s.g (updState k) == 2

/-- A slot's load ends EMPTY or BAD, with a code (R415, R422). -/
def updFail (s : Block) (k st code : Nat) : Block :=
  (((s.p (updState k) st).p (updCodeF k) code).wr HID.UPDPROOF 0 k 0).fire EV.UPD.LOAD_ABORT

/-- A slot in HEADER or LOADING returns to EMPTY (R415). -/
def updDrop (s : Block) (k : Nat) : Block := if s.updLoading k then s.updFail k 0 0 else s

/-- Whether a committed or staged ACTIVATE names a slot (R415). -/
def updNamed (s : Block) (k : Nat) : Bool :=
  s.g HID.ACTSLOT == k + 1 ||
    s.batches.any fun b => b.2.entries.any fun e =>
      match e.tgt with
      | .reg off _ => off == 0x0D2040 && bitN e.val 0 == 1 && bitN e.val 1 == k
      | _ => false

/-- Why PARTNER = 1 is refused (R419). -/
def partnerCode (s : Block) : Nat :=
  if s.g MOD.MOD_ID.PAIRED = 1 ∧ s.g PAIR.PAIR_STAT.ROLE = 1 ∧ s.on PAIR.PAIR_STAT.LINK 0 0 then 0 else 0x0A

/-- Why the UPD page refuses a requester (R419, the UPD page). -/
def updReqCode (s : Block) (r : Req) : Nat := if reqKind r ≠ 3 then 0x0C else if s.tin0cfg r then 0 else 0x01

/-- The session entry of a requester. -/
def sesOf : Req → Nat
  | .ses n => n.val
  | _ => 0

/-- A refusal on UPD_CMD or UPD_DATA. -/
def updRefuse (s : Block) (r : Req) (off code : Nat) : Block × Nat := (s.refuse 0x0D2 code r off, code)

/-- UPD_CMD BEGIN (R415, R419). -/
def updBegin (s : Block) (r : Req) (k : Nat) (partner : Bool) : Block × Nat :=
  if s.updReqCode r ≠ 0 then s.updRefuse r 0x0D2044 (s.updReqCode r)
  else if !s.on HDR.PAGE_CTRL.ENABLE 0x0D2 0 || decide (s.g PWR.PWR_STAT.LADDER ≥ 1) ||
      (s.updLoading k && s.g (updSesF k) != sesOf r) || s.updNamed k || (partner && s.partnerCode != 0) then
    s.updRefuse r 0x0D2044 0x0A
  else
    let s1 := ((s.p (updState k) 1).p (updCodeF k) 0).p (updSesF k) (sesOf r)
    let s2 := ((s1.p (updVer k) 0).wr HID.UPDLEN 0 k 0).wr HID.UPDPROOF 0 k 0
    let s3 := (s2.wr HID.UPDPART 0 k (b2n partner)).wr HID.UPDSES 0 (sesOf r) (k + 1)
    ({ s3 with updImg := s3.updImg.put k [] }, 0)

/-- A refusal of a word: the slot shows its code (R415). -/
def updWordRefuse (s : Block) (r : Req) (k code : Nat) : Block × Nat := (s.p (updCodeF k) code).updRefuse r 0x0D2048 code

/-- A write of UPD_DATA (R415): 128 words of header, whose proof then runs, and then the payload. -/
def updData (s : Block) (r : Req) (w : Nat) : Block × Nat :=
  if s.updReqCode r ≠ 0 then s.updRefuse r 0x0D2048 (s.updReqCode r)
  else
    let k := s.rd HID.UPDSES 0 (sesOf r) - 1
    if s.rd HID.UPDSES 0 (sesOf r) = 0 || !s.updLoading k || s.g (updSesF k) != sesOf r then s.updRefuse r 0x0D2048 0x0A
    else if s.on HID.UPDPROOF 0 k then s.updWordRefuse r k 0x0A
    else if s.g (updState k) = 2 ∧ s.rd HID.UPDLEN 0 k ≥ 128 + s.updHdr k 8 / 4 then s.updWordRefuse r k 0x08
    else
      let s1 := { (s.wrap HID.UPDLEN 0 k 1) with updImg := s.updImg.put k (w :: (s.updImg.find k).getD []) }
      (s1.wr HID.UPDPROOF 0 k (b2n (s1.rd HID.UPDLEN 0 k == 128)), 0)

/-- The proof of a header (R414), as the code it fails with: `sigOk` is the verdict on the signature. -/
def proofCode (s : Block) (h : Nat → Nat) (sigOk : Bool) : Nat :=
  let zero (a b : Nat) : Bool := (List.range (b - a)).all fun i => h (a + i) == 0
  if h 0 != 0x4752474E || h 1 != 0x00010200 || bits (h 2) 15 1 != 0 || !zero 9 12 || !zero 24 104 then 0x0D
  else if bits (h 2) 31 16 != s.g MOD.MOD_HWTYPE.TYPE || decide (s.g MOD.MOD_HWTYPE.BOARD < bits (h 3) 31 24) ||
      decide (bits (h 3) 23 16 < s.g MOD.MOD_HWTYPE.BOARD) then 0x0D
  else if bitN (h 2) 0 = 1 ∧ (h 4 ≠ s.g MOD.MOD_SERIAL_H.SERIAL_H ∨ h 5 ≠ s.g MOD.MOD_SERIAL_L.SERIAL_L) then 0x08
  else if h 7 > 64 ∨ h 7 < s.g UPD.UPD_ROLLBACK.MIN then 0x08
  else if h 8 < 4 ∨ h 8 > 16777216 ∨ h 8 % 4 ≠ 0 then 0x08
  else if sigOk then 0 else 0x0B

/-- The proof of a slot's header ends (R414). -/
def updProof (s : Block) (k : Nat) (sigOk : Bool) : Block :=
  if !s.on HID.UPDPROOF 0 k || s.g (updState k) != 1 then s
  else
    let c := s.proofCode (s.updHdr k) sigOk
    if c = 0 then ((s.p (updState k) 2).p (updVer k) (s.updHdr k 6)).wr HID.UPDPROOF 0 k 0
    else (s.updFail k 4 c).fire EV.UPD.PROOF_FAIL

/-- UPD_CMD END (R415): `digestOk` is the verdict on the payload's digest. -/
def updEnd (s : Block) (r : Req) (k : Nat) (digestOk : Bool) : Block × Nat :=
  if s.updReqCode r ≠ 0 then s.updRefuse r 0x0D2044 (s.updReqCode r)
  else if !s.updLoading k || s.g (updSesF k) != sesOf r then s.updRefuse r 0x0D2044 0x0A
  else if s.g (updState k) != 2 || s.rd HID.UPDLEN 0 k != 128 + s.updHdr k 8 / 4 then (s.updFail k 4 0x08, 0)
  else if !digestOk then (s.updFail k 4 0x0B, 0)
  else ((s.p (updState k) 3).fire EV.UPD.STAGED, 0)

/-- UPD_CMD ABORT (R415). -/
def updAbort (s : Block) (r : Req) (k : Nat) : Block × Nat :=
  if s.updReqCode r ≠ 0 then s.updRefuse r 0x0D2044 (s.updReqCode r) else (s.updDrop k, 0)

/-- UPD_CMD CONFIRM (R417, R418, R419): the trial ends; MIN rises to the image's ROLLBACK; HELD clears. -/
def updConfirm (s : Block) (r : Req) (partner : Bool) : Block × Nat :=
  if s.updReqCode r ≠ 0 then s.updRefuse r 0x0D2044 (s.updReqCode r)
  else if partner then s.updRefuse r 0x0D2044 s.partnerCode
  else if !s.on UPD.UPD_STAT.TRIAL 0 0 then s.updRefuse r 0x0D2044 0x0A
  else
    let s1 := s.p UPD.UPD_STAT.TRIAL 0
    let s2 := if s1.g UPD.UPD_ROLLBACK.RUN > s1.g UPD.UPD_ROLLBACK.MIN then
      (s1.p UPD.UPD_ROLLBACK.MIN (s1.g UPD.UPD_ROLLBACK.RUN)).fire EV.UPD.ROLLBACK_RAISED else s1
    (((s2.fire EV.UPD.CONFIRMED).stoRelease cfgStoreIds).stoRequest 0x33, 0)

/-- UPD_CMD REVERT (R417, R419): at the next boundary. -/
def updRevert (s : Block) (r : Req) (partner : Bool) : Block × Nat :=
  if s.updReqCode r ≠ 0 then s.updRefuse r 0x0D2044 (s.updReqCode r)
  else if partner then s.updRefuse r 0x0D2044 s.partnerCode
  else if !s.on UPD.UPD_STAT.TRIAL 0 0 then s.updRefuse r 0x0D2044 0x0A
  else (s.p HID.UPDREVERT 1, 0)

/-- Why a commit of ACTIVATE fails validation (R416); `fireAt` says whether MOD_FIRE holds at the commit tick. -/
def actCode (s : Block) (k : Nat) (partner fireAt : Bool) : Nat :=
  if partner then s.partnerCode
  else if s.g (updState k) != 3 || s.on UPD.UPD_STAT.TRIAL 0 0 || s.on MOD.MOD_STATUS.FIRE 0 0 || fireAt ||
      decide (s.g PWR.PWR_STAT.LADDER ≥ 1) ||
      (s.g PAIR.PAIR_STAT.ROLE == 1 && s.g MOD.MOD_ID.PAIRED == 1 && s.on PAIR.PAIR_STAT.PARTNER 0 0) then 0x0A
  else 0

/-- The running image and the image in PREVIOUS change places (R417). -/
def bootSwap (s : Block) : Block :=
  let s1 := (s.p UPD.UPD_STAT.BANK (1 - s.g UPD.UPD_STAT.BANK)).p UPD.UPD_RUN.RUN_VER (s.g UPD.UPD_PREV.PREV_VER)
  let s2 := (s1.p UPD.UPD_PREV.PREV_VER (s.g UPD.UPD_RUN.RUN_VER)).p UPD.UPD_ROLLBACK.RUN (s.g HID.PREVROLL)
  let s3 := (s2.p HID.PREVROLL (s.g UPD.UPD_ROLLBACK.RUN)).p UPD.UPD_FMT.FORMAT (s.g HID.PREVFMT)
  s3.p HID.PREVFMT (s.g UPD.UPD_FMT.FORMAT)

/-- The starter has copied a staged image into the boot bank that is not current (R416, R417): it is CURRENT and on
trial, and the slot is EMPTY. -/
def bootTake (s : Block) (k : Nat) : Block :=
  let s1 := (s.p UPD.UPD_STAT.BANK (1 - s.g UPD.UPD_STAT.BANK)).p UPD.UPD_PREV.PREV_VER (s.g UPD.UPD_RUN.RUN_VER)
  let s2 := (s1.p HID.PREVROLL (s.g UPD.UPD_ROLLBACK.RUN)).p HID.PREVFMT (s.g UPD.UPD_FMT.FORMAT)
  let s3 := ((s2.p UPD.UPD_RUN.RUN_VER (s.updHdr k 6)).p UPD.UPD_ROLLBACK.RUN (s.updHdr k 7)).p UPD.UPD_FMT.FORMAT
    (bits (s.updHdr k 3) 15 0)
  let s4 := ((s3.p UPD.UPD_STAT.TRIAL 1).p UPD.UPD_STAT.PREV_VALID 1).sat UPD.UPD_COUNT.ACTIVATIONS 0 0 1
  { (s4.p (updState k) 0) with updImg := s4.updImg.del k }

/-- The module has fallen back to PREVIOUS (R417, R418): HELD clears. -/
def bootRevert (s : Block) : Block :=
  ((((s.p UPD.UPD_STAT.TRIAL 0).sat UPD.UPD_COUNT.REVERTS 0 0 1).fire EV.UPD.REVERTED).stoRelease cfgStoreIds).stoRequest
    0x33

end Block
end Sys2Proof.Machine
end

