-- ==== Sys2Proof/Machine/Pair.lean ====
section
/-!
DEFINITION. Pairs (R352 to R368): leases and the fence, takeover, epochs, swap, joint start, the drill, and what is
marked DESYNC. The lease clock is data of the commands (R354): each carries its reading in µs.
-/
namespace Sys2Proof.Machine

/-- The epoch after another (R358): 0 is left out. -/
def nextEpoch (e : Nat) : Nat := if (e + 1) % 2 ^ 32 = 0 then 1 else (e + 1) % 2 ^ 32

namespace Block

/-- Whether the module is paired (R352). -/
def paired (s : Block) : Bool := s.on MOD.MOD_ID.PAIRED 0 0

/-- PAIR_ROLE: 0 single, 1 active, 2 standby, 3 fenced. -/
def role (s : Block) : Nat := s.g PAIR.PAIR_STAT.ROLE

/-- The module's carrier position. -/
def posn (s : Block) : Nat := s.g MOD.MOD_ID.POSITION

/-- The pair epoch (R358). -/
def epoch (s : Block) : Nat := s.g PAIR.PAIR_EPOCH.EPOCH

/-- Every output of a list is switched off in hardware (R355). -/
def offAll (s : Block) : List Nat → Block
  | [] => s
  | c :: t => (s.switchOff c).offAll t

/-- The partner stops driving its terminals (R353, R355): its digital outputs are off, and its analog outputs drive nothing. -/
def stopDriving (s : Block) : Block :=
  (((s.p PAIR.PAIR_STAT.DRIVING 0).offAll (List.range 96)).analogMute (List.range 48))

/-- The lease of an active partner has lapsed (R355): 4.0 ms have passed since it sent the last renewal that was acknowledged. -/
def leaseLapsed (s : Block) : Bool :=
  s.paired && s.role == 1 && decide (s.g HID.LEASENOW - s.g HID.ACKEDAT ≥ 4000)

/-- The fence (R355). -/
def fenceNow (s : Block) : Block :=
  ((((s.stopDriving.p PAIR.PAIR_STAT.ROLE 3).p HID.DRILLAT 0).p HID.DRILLFROM 0).sat PAIR.PAIR_COUNT1.FENCES 0 0 1).fireHeld
    EV.PAIR.FENCED

/-- The lease clock reads `lc` (R354); it never runs back. An active partner whose lease has lapsed by then is fenced (R355). -/
def leaseAt (s : Block) (lc : Nat) : Block :=
  let s1 := s.p HID.LEASENOW (max lc (s.g HID.LEASENOW))
  if s1.leaseLapsed then s1.fenceNow else s1

/-- Lease-clock µs since a noted time. -/
def leaseSince (s : Block) (f : Fld) (k : Nat) : Nat := s.g HID.LEASENOW - s.rd f 0 k

/-- Whether a frame comes from the module's partner, and whether it comes from its witness. -/
def fromPartner (s : Block) (h : Hdr) : Bool := s.paired && h.src.val == s.selfId && b2n h.pos != s.posn
def fromWitness (s : Block) (h : Hdr) : Bool :=
  s.paired && s.g PAIR.PAIR_CFG.WITNESS != 0 && h.src.val == s.g PAIR.PAIR_CFG.WITNESS

/-- SYNCED as this partner reports it (R362, R363): not while a resynchronisation is asked for. -/
def syncedFlag (s : Block) : Bool := s.on PAIR.PAIR_STAT.SYNCED 0 0 && !s.on HID.RESYNC 0 0

/-- A LEASE frame of this partner for its own pair (R368). -/
def leaseFrame (s : Block) (kind seq way : Nat) (drill : Bool) : TxFrame :=
  ⟨.lease kind s.selfId (s.g PAIR.PAIR_CFG.WITNESS) (b2n s.syncedFlag + 2 * s.g PAIR.PAIR_STAT.DRIVING + 4 * b2n drill)
    s.epoch (seq % 2 ^ 32), 0xFF, 0, true, way⟩

/-- A LEASE frame of this module as the witness of pair `u` (R356). -/
def witFrame (s : Block) (kind u ep seq : Nat) : TxFrame :=
  ⟨.lease kind u s.selfId 0 (ep % 2 ^ 32) (seq % 2 ^ 32), 0xFF, 0, true, 1⟩

/-- A LEASE frame arrives (R301, R304, R368): counted, passed on, taken or not. -/
def leaseRx (s : Block) (h : Hdr) (lc : Nat) : Block × Bool :=
  match (s.leaseAt lc).receive h 0x0D true with
  | (s1, .taken) => (s1, true)
  | (s1, _) => (s1, false)

/-- A renewal or an ACK of the partner is seen (the PAIR page). -/
def notePartner (s : Block) : Block :=
  ((s.p PAIR.PAIR_STAT.PARTNER 1).p HID.PARTNERAT (s.g HID.LEASENOW)).fireIf (!s.on PAIR.PAIR_STAT.PARTNER 0 0)
    EV.PAIR.PARTNER_BACK

/-- An answer of the witness is seen (the PAIR page). -/
def noteWitness (s : Block) : Block := (s.p PAIR.PAIR_STAT.WITNESS_OK 1).p HID.WITNESSAT (s.g HID.LEASENOW)

/-! ### DESYNC -/

/-- PAIR_STAT.DESYNC and SYNCED follow the marks (R362). -/
def noteDesync (s : Block) : Block :=
  let n := ((List.range 128).filter fun k => s.on HID.DSLOT 0 k).length
  let s1 := s.p PAIR.PAIR_STAT.DESYNC n
  if n = 0 ∧ s.g HID.DLOOPS = 0 then s1 else s1.p PAIR.PAIR_STAT.SYNCED 0

/-- A state becomes DESYNC (R362, R374): counted and fired when it was not. -/
def desyncMark (s : Block) (f : Fld) (k : Nat) : Block :=
  if s.on f 0 k then s else ((s.wr f 0 k 1).noteDesync.sat PAIR.PAIR_COUNT1.DESYNCS 0 0 1).fire EV.PAIR.DESYNC

/-- Slot `j` of engine `e`, or the loops, become DESYNC. -/
def desyncSlot (s : Block) (e j : Nat) : Block := s.desyncMark HID.DSLOT (e * 8 + j)
def desyncLoops (s : Block) : Block := s.desyncMark HID.DLOOPS 0

/-- Set one field for every listed index. -/
def setAll (s : Block) (f : Fld) (v : Nat) : List Nat → Block
  | [] => s
  | k :: t => (s.wr f 0 k v).setAll f v t

/-- The whole standby becomes DESYNC (R362, R365). -/
def desyncAll (s : Block) : Block :=
  (((s.setAll HID.DSLOT 1 (List.range 128)).p HID.DLOOPS 1).noteDesync.sat PAIR.PAIR_COUNT1.DESYNCS 0 0 1).fire EV.PAIR.DESYNC

/-- A resynchronisation starts on this standby (R363). -/
def resyncStart (s : Block) : Block := (s.p HID.RESYNC 1).p HID.MODSTATE 0

/-- The last slot is adopted (R363, R365): SYNCED sets, and a fenced partner becomes standby. -/
def resyncDone (s : Block) : Block :=
  if s.on HID.RESYNC 0 0 && s.on HID.MODSTATE 0 0 && ((List.range 128).all fun k => !s.on HID.DSLOT 0 k) then
    let s1 := ((s.p HID.RESYNC 0).p HID.DLOOPS 0).noteDesync.p PAIR.PAIR_STAT.SYNCED 1
    (if s1.role = 3 then s1.p PAIR.PAIR_STAT.ROLE 2 else s1).fire EV.PAIR.SYNCED
  else s

/-- PAIR_CMD.RESYNC (R363, the PAIR page). -/
def pairResync (s : Block) (r : Req) : Block × Nat :=
  if s.role = 1 then (s.refuse 0x0B0 0x0A r 0x0B0048, 0x0A)
  else if s.paired then (s.resyncStart.desyncAll, 0) else (s, 0)

/-! ### The active role -/

/-- The domain entry of the pair names a position with an epoch (R352, R357). -/
def pairEntry (s : Block) (pos ep : Nat) : Block :=
  (s.wr XLT.XLT_DOM_EPOCH.EPOCH 0 s.selfId ep).wr XLT.XLT_DOM_DATA.MEMBER 0 s.selfId pos

/-- A new pair epoch, written to the configuration store (R358). -/
def setEpoch (s : Block) (ep : Nat) : Block := (s.p PAIR.PAIR_EPOCH.EPOCH ep).stoRequest 0x01

/-- The outputs of a list as a partner begins to drive at tick `k` (R357): an output whose logical state is 1 becomes
pending; a slice that is not in RUN drives its safe states. -/
def driveAll (s : Block) (k : Nat) : List Nat → Block
  | [] => s
  | c :: t =>
    (if !s.isOut c then s
     else if s.slState (c / 16) ≠ 0 then s.safeDigital c
     else if s.point (dchBase c) = 1 then s.rise c k else s).driveAll k t

/-- The analog outputs of a list as a partner begins to drive (R357): they take their logical states; those of a slice that is
not in RUN their safe states. -/
def driveAnalog (s : Block) : List Nat → Block
  | [] => s
  | c :: t => (if s.slState (6 + c / 16) = 0 then s.aFollow c else s.safeAnalog c).driveAnalog t

/-- The partner becomes active at boundary `k` with an epoch (R357). -/
def becomeActive (s : Block) (k ep : Nat) : Block :=
  let s1 := ((s.setEpoch ep).p PAIR.PAIR_STAT.ROLE 1).p PAIR.PAIR_STAT.DRIVING 1
  let s2 := ((s1.pairEntry s1.posn ep).driveAll k (List.range 96)).driveAnalog (List.range 48)
  let s3 := ((s2.p HID.ACKEDAT (s2.g HID.LEASENOW)).p HID.RENLAST 0).p HID.DAYAT k
  let s4 := ((((s3.p HID.GRANT 0).p HID.TAKEPEND 0).p HID.TAKELAPSE 0).p HID.JOINT 0).p HID.JOINTWAIT 0
  let s5 := ((((s4.p HID.LEAVING 0).p HID.RESYNC 0).p HID.FENCEAT 0).p HID.DRILLAT 0).p HID.DRILLFROM 0
  (s5.send (s5.leaseFrame 6 k 1 false)).fire EV.PAIR.TAKEOVER

/-- LEASE_FENCE (R355). -/
def leaseFence (s : Block) (lc : Nat) : Block := s.leaseAt lc

/-- The active partner sends a RENEW (R354), one in 1.0 ms: `hb` and `tk` say whether the heartbeat and the tick announcement
have come within the last 1.0 ms. -/
def renewSend (s0 : Block) (lc : Nat) (hb tk : Bool) : Block :=
  let s := s0.leaseAt lc
  if s.paired && s.role == 1 && !s.on HID.LEAVING 0 0 && hb && tk &&
      (s.g HID.RENLAST == 0 || decide (s.g HID.LEASENOW + 1 ≥ s.g HID.RENLAST + 1000)) then
    let q := (s.g HID.RENSEQ + 1) % 2 ^ 32
    let s1 := ((s.p HID.RENSEQ q).wr HID.RENAT 0 (q % 64) (s.g HID.LEASENOW)).p HID.RENLAST (s.g HID.LEASENOW + 1)
    s1.send (s1.leaseFrame 1 q 5 false)
  else s

/-- The number of pairs this module serves as witness. -/
def witCount (s : Block) : Nat := ((List.range 256).filter fun u => s.rd HID.WITEPOCH 0 u != 0).length

/-- The witness holds a position of pair `u` as active, with an epoch, seen now (R356). -/
def witHold (s : Block) (u ep pos : Nat) : Block :=
  let s1 := ((s.wr HID.WITEPOCH 0 u (ep % 2 ^ 32 + 1)).wr HID.WITPOS 0 u pos).wr HID.WITSEEN 0 u (s.g HID.LEASENOW)
  s1.p PAIR.PAIR_STAT.WITNESSING s1.witCount

/-- Whether the witness may serve pair `u` (R356: at most 8 pairs, not its own). -/
def witServes (s : Block) (u : Nat) : Bool :=
  u != s.selfId && (s.rd HID.WITEPOCH 0 u != 0 || decide (s.witCount < 8))

/-- A RENEW at the witness (R356). -/
def witRenew (s : Block) (h : Hdr) (l : LeaseIn) : Block :=
  let u := l.pair.val
  if l.wit.val ≠ s.selfId ∨ !s.witServes u then s
  else
    let held := s.rd HID.WITEPOCH 0 u
    let s1 := if held = 0 ∨ newer l.epoch (held - 1) then s.witHold u l.epoch (b2n h.pos) else s
    if s1.rd HID.WITEPOCH 0 u = l.epoch % 2 ^ 32 + 1 ∧ s1.rd HID.WITPOS 0 u = b2n h.pos then
      (s1.wr HID.WITSEEN 0 u (s1.g HID.LEASENOW)).send (s1.witFrame 2 u l.epoch l.seq)
    else s1

/-- A standby or fenced partner takes over the epoch of its partner (R365, R366): it stays fenced until SYNCED. The pair's
domain entry follows at the next boundary (R28). -/
def adoptEpoch (s : Block) (pos ep : Nat) : Block :=
  let s1 := (((s.setEpoch (ep % 2 ^ 32)).p HID.GRANT 0).p HID.TAKEPEND 0).p HID.TAKELAPSE 0
  let s2 := { s1 with domPend := s1.domPend.put s1.selfId (ep % 2 ^ 32, pos) }
  ((s2.p HID.JOINT 0).p HID.JOINTWAIT 0).resyncStart.desyncAll

/-- Whether this partner's role waits on its partner: standby or fenced. -/
def waiting (s : Block) : Bool := s.role == 2 || s.role == 3

/-- Whether a joint start is unsettled (R366). -/
def jointOpen (s : Block) : Bool := s.on HID.JOINT 0 0 || s.on HID.JOINTWAIT 0 0

/-- A RENEW at the partner (R354, R357, R365, R366): the partner that sends it is the one that drives (PAIR_AGE). -/
def partnerRenew (s : Block) (h : Hdr) (l : LeaseIn) : Block :=
  let s0 := s.notePartner.p HID.SEENAT (s.g HID.LEASENOW)
  if !s0.waiting then s0
  else
    let s1 := s0.p PAIR.PAIR_AGE.TEST_AGE 0
    let s2 := if newer l.epoch s1.epoch || s1.jointOpen then s1.adoptEpoch (b2n h.pos) l.epoch else s1
    if s2.epoch = l.epoch % 2 ^ 32 then s2.send (s2.leaseFrame 2 l.seq 5 false) else s2

/-- LEASE_RENEW (R354, R356, R365). -/
def leaseRenew (s : Block) (h : Hdr) (l : LeaseIn) : Block :=
  match s.leaseRx h l.lc with
  | (s1, true) => if s1.fromPartner h && l.pair.val == s1.selfId then s1.partnerRenew h l else s1.witRenew h l
  | (s1, false) => s1

/-- An ACK names a renewal (R354): the lease runs from the moment that renewal was sent. -/
def ackSeq (s : Block) (seq : Nat) : Block :=
  if (s.g HID.RENSEQ + 2 ^ 32 - seq % 2 ^ 32) % 2 ^ 32 < 64 ∧ s.role = 1 then
    s.p HID.ACKEDAT (max (s.g HID.ACKEDAT) (s.rd HID.RENAT 0 (seq % 64)))
  else s

/-- LEASE_ACK (R354, R363): an ACK of a partner that is not SYNCED starts the sending of the module state. -/
def leaseAck (s : Block) (h : Hdr) (l : LeaseIn) : Block :=
  match s.leaseRx h l.lc with
  | (s1, true) =>
    if l.pair.val ≠ s1.selfId then s1
    else if s1.fromPartner h then
      let s2 := s1.notePartner.ackSeq l.seq
      if s2.role = 1 then
        (s2.p PAIR.PAIR_STAT.SYNCED (b2n l.synced)).p HID.RESYNCTX
          (if l.synced then 0 else if s2.g HID.RESYNCTX = 0 then 1 else s2.g HID.RESYNCTX)
      else s2
    else if s1.fromWitness h then s1.noteWitness.ackSeq l.seq else s1
  | (s1, false) => s1

/-- LEASE_TAKE_REQ_TIMER (R357): from 5.0 ms after the last renewal seen, one request in 1.0 ms. -/
def takeReqTimer (s0 : Block) (lc : Nat) : Block :=
  let s := s0.leaseAt lc
  if s.paired && s.waiting && !s.jointOpen && s.g PAIR.PAIR_CFG.WITNESS != 0 && decide (s.leaseSince HID.SEENAT 0 ≥ 5000) &&
      decide (s.leaseSince HID.TREQAT 0 ≥ 1000) then
    (s.p HID.TREQAT (s.g HID.LEASENOW)).send (s.leaseFrame 3 0 1 false)
  else s

/-- LEASE_TAKE_REQ at the witness (R356). -/
def takeReq (s : Block) (h : Hdr) (l : LeaseIn) : Block :=
  match s.leaseRx h l.lc with
  | (s1, true) =>
    let u := l.pair.val
    if l.wit.val ≠ s1.selfId ∨ s1.rd HID.WITEPOCH 0 u = 0 then s1
    else
      let ep := nextEpoch (s1.rd HID.WITEPOCH 0 u - 1)
      if s1.leaseSince HID.WITSEEN u ≥ 6000 then
        (s1.witHold u ep (b2n h.pos)).send (s1.witFrame 4 u ep (b2n h.pos))
      else s1.send (s1.witFrame 5 u (s1.rd HID.WITEPOCH 0 u - 1) (b2n h.pos))
  | (s1, false) => s1

/-- LEASE_GRANT at the partner that asked (R357, R366). -/
def leaseGrant (s : Block) (h : Hdr) (l : LeaseIn) : Block :=
  match s.leaseRx h l.lc with
  | (s1, true) =>
    if l.pair.val ≠ s1.selfId ∨ !s1.fromWitness h then s1
    else
      let s2 := s1.noteWitness
      if !s2.waiting ∨ l.seq % 2 ≠ s2.posn then s2
      else if s2.on HID.JOINT 0 0 then (s2.p HID.TAKEPEND 1).p HID.TAKEEP l.epoch
      else s2.p HID.GRANT 1
  | (s1, false) => s1

/-- LEASE_REFUSE (R356): an answer of the witness that grants nothing. -/
def leaseRefuse (s : Block) (h : Hdr) (l : LeaseIn) : Block :=
  match s.leaseRx h l.lc with
  | (s1, true) => if l.pair.val = s1.selfId ∧ s1.fromWitness h then s1.noteWitness else s1
  | (s1, false) => s1

/-- Whether a standby or fenced partner takes over at this boundary (R357). -/
def lapseTakes (s : Block) : Bool :=
  !s.jointOpen && decide (s.leaseSince HID.SEENAT 0 ≥ 6000) && (s.g PAIR.PAIR_CFG.WITNESS == 0 || s.on HID.GRANT 0 0)

/-- PAIR_TAKEOVER (R357): once both conditions hold, the partner takes over at the next boundary. -/
def takeoverAsk (s0 : Block) (lc : Nat) : Block :=
  let s := s0.leaseAt lc
  if s.paired && s.waiting && !s.on HID.TAKEPEND 0 0 && s.lapseTakes then
    ((s.p HID.TAKEPEND 1).p HID.TAKEEP (nextEpoch s.epoch)).p HID.TAKELAPSE 1
  else s

/-- Step 1 of boundary `k`: the takeover of a standby or fenced partner (R357), or the activation that a joint start or
FORCE_TAKE granted (R366). -/
def pairTakeover (s0 : Block) (k lc : Nat) : Block :=
  let s := s0.takeoverAsk lc
  if s.paired && s.waiting && s.on HID.TAKEPEND 0 0 then
    (if s.on HID.TAKELAPSE 0 0 then s.sat PAIR.PAIR_COUNT0.TAKEOVERS 0 0 1 else s).becomeActive k (s.g HID.TAKEEP)
  else s

/-- A frame of the partner has carried a newer epoch (R365): a standby or fenced partner takes it at the boundary, unless a
joint start is to settle the epochs. -/
def epochHeard (s : Block) : Block :=
  if s.waiting && !s.jointOpen && s.rd HID.EPSEEN 0 s.selfId != 0 && newer (s.rd HID.EPSEEN 0 s.selfId - 1) s.epoch then
    s.adoptEpoch (1 - s.posn) (s.rd HID.EPSEEN 0 s.selfId - 1)
  else s

/-- A standby with DESYNC set asks for a resynchronisation as soon as a path to its partner is up (R363). -/
def desyncAsk (s : Block) : Block :=
  if s.role == 2 && !s.on HID.RESYNC 0 0 && (s.g PAIR.PAIR_STAT.DESYNC != 0 || s.on HID.DLOOPS 0 0) &&
      (s.on PAIR.PAIR_STAT.LINK 0 0 || s.g RCTL.RCTL_STAT.STATE != 0) then s.resyncStart else s

/-- LEASE_TAKEOVER (R359): the update of the domain entry is staged on receipt; the partner and the witness take the
epoch. -/
def leaseTakeover (s : Block) (h : Hdr) (l : LeaseIn) : Block :=
  match s.leaseRx h l.lc with
  | (s1, true) =>
    if s1.fromPartner h then (if s1.waiting && newer l.epoch s1.epoch then s1.adoptEpoch (b2n h.pos) l.epoch else s1)
    else if s1.rd HID.WITEPOCH 0 l.pair.val ≠ 0 && newer l.epoch (s1.rd HID.WITEPOCH 0 l.pair.val - 1) then
      s1.witHold l.pair.val l.epoch (b2n h.pos)
    else s1
  | (s1, false) => s1

/-! ### Joint start -/

/-- A claim of pair `u` enters the window (R366): the first stands, unless a rival within 2 ms carries a newer epoch, or
an equal epoch from the preferred position. -/
def claimIn (s : Block) (u ep pos prefer : Nat) : Block :=
  let put (a : Block) : Block := (a.wr HID.CLAIMEP 0 u ep).wr HID.CLAIMPOS 0 u pos
  if !s.on HID.CLAIMON 0 u then put ((s.wr HID.CLAIMON 0 u 1).wr HID.CLAIMAT 0 u (s.g HID.LEASENOW))
  else if s.leaseSince HID.CLAIMAT u > 2000 then s
  else if newer ep (s.rd HID.CLAIMEP 0 u) then put s
  else if ep % 2 ^ 32 = s.rd HID.CLAIMEP 0 u ∧ pos = prefer then put s
  else s

/-- LEASE_CLAIM at the witness, or at the partner when the witness cannot be reached (R366). -/
def leaseClaim (s : Block) (h : Hdr) (l : LeaseIn) : Block :=
  match s.leaseRx h l.lc with
  | (s1, true) =>
    if s1.fromPartner h then
      (if s1.jointOpen then s1.claimIn s1.selfId l.epoch (b2n h.pos) (s1.g PAIR.PAIR_CFG.PREFER) else s1)
    else if l.wit.val = s1.selfId ∧ s1.witServes l.pair.val then s1.claimIn l.pair.val l.epoch (b2n h.pos) (l.seq % 2)
    else s1
  | (s1, false) => s1

/-- JOINT_START_TIMEOUT (R366): no RENEW within 20 ms of step 6 of the start. -/
def jointTimeout (s0 : Block) (lc : Nat) : Block :=
  let s := s0.leaseAt lc
  if s.paired && s.on HID.JOINTWAIT 0 0 && decide (s.tick ≥ s.g HID.JOINTAT + 80) then
    let s1 := ((s.p HID.JOINTWAIT 0).p HID.JOINT 1).claimIn s.selfId s.epoch s.posn (s.g PAIR.PAIR_CFG.PREFER)
    s1.send (s1.leaseFrame 7 (s1.g PAIR.PAIR_CFG.PREFER) 5 false)
  else s

/-- CLAIM_WINDOW_END (R366), 2 ms after the first claim: the witness grants the winning claim of a pair; partners that cannot
reach the witness settle it between themselves over the pair link. -/
def claimEnd (s0 : Block) (u lc : Nat) : Block :=
  let s := s0.leaseAt lc
  if !s.on HID.CLAIMON 0 u ∨ s.leaseSince HID.CLAIMAT u < 2000 then s
  else
    let s1 := s.wr HID.CLAIMON 0 u 0
    let ep := nextEpoch (s.rd HID.CLAIMEP 0 u)
    let pos := s.rd HID.CLAIMPOS 0 u
    if u ≠ s.selfId then (s1.witHold u ep pos).send (s1.witFrame 4 u ep pos)
    else if s1.on HID.JOINT 0 0 && !s1.on PAIR.PAIR_STAT.WITNESS_OK 0 0 && s1.on PAIR.PAIR_STAT.LINK 0 0 && pos == s1.posn then
      (s1.p HID.TAKEPEND 1).p HID.TAKEEP ep
    else s1

/-- PAIR_CMD.FORCE_TAKE (R366). -/
def forceTake (s : Block) (r : Req) : Block × Nat :=
  if !s.tin01cfg r then (s.refuse 0x0B0 0x01 r 0x0B0048, 0x01)
  else if s.paired && s.waiting then ((s.p HID.TAKEPEND 1).p HID.TAKEEP (nextEpoch s.epoch), 0) else (s, 0)

/-! ### Swap and drill -/

/-- LEASE_PREPARE at the standby (R364): validation fails with 0x0A when it is not SYNCED. -/
def leasePrepare (s : Block) (h : Hdr) (l : LeaseIn) : Block :=
  match s.leaseRx h l.lc with
  | (s1, true) =>
    if !s1.fromPartner h || s1.role != 2 then s1
    else if !s1.syncedFlag then s1.err 0x0B0 0x0A 1 0 0x0B0044 none
    else
      let s2 := (s1.p HID.SWAPAT ((s1.tick + (l.seq + 2 ^ 32 - s1.tick % 2 ^ 32) % 2 ^ 32) + 1)).p HID.SWAPMINE 0
      (s2.p HID.SWAPGOT 0).p HID.SWAPDRILL (b2n l.drill)
  | (s1, false) => s1

/-- LEASE_PREPARED (R364): held for the commit of the swap in preparation. -/
def leasePrepared (s : Block) (h : Hdr) (l : LeaseIn) : Block :=
  match s.leaseRx h l.lc with
  | (s1, true) =>
    if s1.fromPartner h && s1.g HID.SWAPAT != 0 && (s1.g HID.SWAPAT - 1) % 2 ^ 32 == l.seq % 2 ^ 32 then s1.p HID.SWAPGOT 1 else s1
  | (s1, false) => s1

/-- The swap, or drill, that a batch due at tick `k` requests: bit 0 SWAP, bit 1 DRILL of its PAIR_CTRL entry. -/
def swapDue (s : Block) (k : Nat) : Option Nat :=
  (s.batches.filter fun b => (b.2.st == .requested || b.2.st == .prepared) && b.2.ctick == k).findSome? fun b =>
    b.2.entries.findSome? fun e =>
      match e.tgt with
      | .reg off _ => if off = 0x0B0044 ∧ e.val % 4 ≠ 0 then some (e.val % 4) else none
      | _ => none

/-- A swap at tick `k` is prepared by the active partner at `k` − 2 (R364). -/
def swapPrepare (s : Block) (k : Nat) (drill : Bool) : Block :=
  let s1 := ((s.p HID.SWAPAT (k + 1)).p HID.SWAPMINE 0).p HID.SWAPGOT 0
  let s2 := s1.p HID.SWAPDRILL (b2n drill)
  s2.send (s2.leaseFrame 8 k 5 drill)

/-- Boundary `n` = s − 2: the active partner sends PREPARE (R364, R367). -/
def swapAt2 (s : Block) (n : Nat) : Block :=
  if !s.paired || s.role != 1 then s
  else if s.g HID.BACKAT = n + 1 then (s.p HID.BACKAT 0).swapPrepare (n + 2) false
  else
    match s.swapDue (n + 2) with
    | some v => s.swapPrepare (n + 2) (v ≥ 2)
    | none => s

/-- Boundary `n` = s − 1: each partner sends PREPARED (R364). -/
def swapAt1 (s : Block) (n : Nat) : Block :=
  if s.g HID.SWAPAT = n + 2 ∧ (s.role = 1 ∨ s.role = 2) then
    (s.p HID.SWAPMINE 1).send (s.leaseFrame 9 (n + 1) 5 (s.on HID.SWAPDRILL 0 0))
  else s

/-- The new active partner of a swap at tick `n` (R364, R367). -/
def swapNew (s : Block) (n : Nat) : Block :=
  let s1 := ((s.becomeActive n (nextEpoch s.epoch)).sat PAIR.PAIR_COUNT0.SWAPS 0 0 1).p HID.SWAPDONE (n + 9)
  (if s.on HID.SWAPDRILL 0 0 then s1.p HID.DRILLFROM (n + 9) else s1).p PAIR.PAIR_AGE.TEST_AGE 0

/-- The old active partner leaves the active role at tick `n` (R364); `ok` when the other partner has prepared. -/
def swapOld (s : Block) (n : Nat) (ok : Bool) : Block :=
  let s1 := ((s.p HID.LEAVING 1).p HID.FENCEAT (n + 9)).p HID.FENCELC (s.g HID.LEASENOW + 2000)
  let s2 := (s1.p HID.SEENAT (s.g HID.LEASENOW)).p PAIR.PAIR_STAT.ROLE (if ok then 2 else 3)
  if ok then
    let s3 := (s2.setEpoch (nextEpoch s.epoch)).pairEntry (1 - s.posn) (nextEpoch s.epoch)
    ((s3.sat PAIR.PAIR_COUNT0.SWAPS 0 0 1).p HID.SWAPDONE (n + 9)).p PAIR.PAIR_AGE.TEST_AGE 0
  else s2

/-- Boundary `n` = s: the swap commits or is given up (R364). -/
def swapCommitAt (s : Block) (n : Nat) : Block :=
  if s.g HID.SWAPAT ≠ n + 1 then s
  else
    let s1 := s.p HID.SWAPAT 0
    if !s.on HID.SWAPMINE 0 0 then s1
    else if s.role = 1 then s1.swapOld n (s.on HID.SWAPGOT 0 0)
    else if s.role = 2 ∧ s.on HID.SWAPGOT 0 0 then s1.swapNew n
    else s1

/-- The old active partner fences at s + 8, or after 2.0 ms of its lease clock (R364). -/
def swapFence (s0 : Block) (n lc : Nat) : Block :=
  let s := s0.leaseAt lc
  if s.g HID.FENCEAT ≠ 0 ∧ (n + 1 ≥ s.g HID.FENCEAT ∨ s.g HID.LEASENOW ≥ s.g HID.FENCELC) then
    ((s.p HID.FENCEAT 0).p HID.LEAVING 0).stopDriving
  else s

/-- SWAP_DONE at s + 8 (R364). -/
def swapDoneAt (s : Block) (n : Nat) : Block :=
  if s.g HID.SWAPDONE = n + 1 then (s.p HID.SWAPDONE 0).fire EV.PAIR.SWAP_DONE else s

/-- The marks of the outputs that have been 1 since s + 8 (R367): set at s + 8, cleared at the first 0. -/
def drillKeep (s : Block) (first : Bool) : List Nat → Block
  | [] => s
  | c :: t =>
    (if first then s.wr HID.DRILLON 0 c (b2n (s.isOut c && s.point (dchBase c) == 1))
     else if s.point (dchBase c) = 0 then s.wr HID.DRILLON 0 c 0 else s).drillKeep first t

/-- Boundary `n` of a drill before its check, after the commits: at s the HOLD of the swap's own batch gives the tick of the
check, at s + 8 the outputs that are 1 are marked. -/
def drillTrack (s : Block) (n : Nat) : Block :=
  if s.g HID.DRILLFROM = 0 then s
  else if s.g HID.DRILLFROM = n + 9 then s.p HID.DRILLAT (n + 9 + s.g PAIR.PAIR_CTRL.HOLD)
  else if s.g HID.DRILLFROM = n + 1 then s.drillKeep true (List.range 96)
  else if s.g HID.DRILLFROM < n + 1 then s.drillKeep false (List.range 96) else s

/-- The outputs a drill tests (R367). -/
def drillSet (s : Block) : List Nat :=
  (List.range 96).filter fun c => s.on HID.DRILLON 0 c && s.isOut c && s.dch HID.DPEND c == 0 && !s.latched c

/-- The check of a drill at boundary `n` (R367). -/
def drillCheck (s : Block) (n : Nat) : Block :=
  if s.g HID.DRILLAT = 0 ∨ n + 1 < s.g HID.DRILLAT ∨ s.role ≠ 1 then s
  else
    let l := s.drillSet
    let bad := l.filter fun c => !s.phys c
    let s1 := (((s.p HID.DRILLAT 0).p HID.DRILLFROM 0).p PAIR.DRILL_RES.DONE 1).p PAIR.DRILL_RES.PASS (b2n bad.isEmpty)
    let s2 := (s1.p PAIR.DRILL_RES.TESTED l.length).p PAIR.DRILL_RES.FAILED bad.length
    let s3 := s2.p PAIR.DRILL_RES.FIRST (bad.head?.getD 0)
    let s4 := if s.on PAIR.PAIR_CTRL.BACK 0 0 || !bad.isEmpty then s3.p HID.BACKAT (s.g HID.DRILLAT + 6) else s3
    s4.fire (if bad.isEmpty then EV.PAIR.DRILL_PASS else EV.PAIR.DRILL_FAIL)

/-- A day in ticks. -/
def dayTicks : Nat := 345600000

/-- A day of the active role ends (R367, the PAIR page): TEST_AGE, and DRILL_DUE when it reaches DRILL_DAYS. -/
def drillDay (s : Block) : Block :=
  if s.paired && s.role == 1 && decide (s.tick ≥ s.g HID.DAYAT + dayTicks) then
    let s1 := (s.p HID.DAYAT (s.g HID.DAYAT + dayTicks)).sat PAIR.PAIR_AGE.TEST_AGE 0 0 1
    s1.fireIf (s1.g PAIR.PAIR_CFG.DRILL_DAYS != 0 && s1.g PAIR.PAIR_AGE.TEST_AGE == s1.g PAIR.PAIR_CFG.DRILL_DAYS)
      EV.PAIR.DRILL_DUE
  else s

/-- What a write of PAIR_CTRL fails with at staging (R364, R367, the PAIR page): SWAP or DRILL needs tin 0 or tin 1 with
the configure right, and the active partner. -/
def pairCtrlCode (s : Block) (r : Req) (v : Nat) : Nat :=
  if v % 4 = 0 then 0 else if !s.tin01cfg r then 0x01 else if s.role ≠ 1 then 0x0A else 0

/-- What the commit of a swap fails with (R364, in the manner of R161). -/
def pairSwapCode (s : Block) (v : Nat) : Nat := if v % 4 = 0 then 0 else if s.on HID.SWAPGOT 0 0 then 0 else 0x0E

/-- PARTNER_TIMEOUT and WITNESS_TIMEOUT (R374, the PAIR page). -/
def partnerTimeout (s0 : Block) (lc : Nat) : Block :=
  let s := s0.leaseAt lc
  if s.on PAIR.PAIR_STAT.PARTNER 0 0 && decide (s.leaseSince HID.PARTNERAT 0 ≥ 6000) then
    (s.p PAIR.PAIR_STAT.PARTNER 0).fire EV.PAIR.PARTNER_LOST else s
def witnessTimeout (s0 : Block) (lc : Nat) : Block :=
  let s := s0.leaseAt lc
  if s.on PAIR.PAIR_STAT.WITNESS_OK 0 0 && decide (s.leaseSince HID.WITNESSAT 0 ≥ 6000) then
    (s.p PAIR.PAIR_STAT.WITNESS_OK 0).fire EV.PAIR.WITNESS_LOST else s

/-- What the pair does at step 1 of boundary `n`, before the batches of `n` commit: a drill's check that is due, fence, epoch,
takeover, swap; and the phases of a coming swap (R357, R363 to R365, R367). -/
def pairBoundary (s : Block) (n lc : Nat) : Block :=
  if !s.paired then s.leaseAt lc
  else
    let s0 := s.drillCheck (n - 1)
    let s1 := (((s0.swapFence n lc).epochHeard).desyncAsk).pairTakeover n lc
    let s2 := ((s1.swapCommitAt n).swapAt1 n).swapAt2 n
    s2.swapDoneAt n

end Block
end Sys2Proof.Machine
end

