-- ==== Sys2Proof/Machine/Peel.lean ====
section
/-!
DEFINITION. Peel (R369 to R375): placed slots, the hand-over of a slot, output ownership, checkpoints and survival. A slot
named in a frame is engine + 16 * slot (R368); the cells of the PEEL page are indexed by engine * 8 + slot. The lines of a
slot are numbered in the order of its areas and windows (DESIGN CHOICE).
-/
namespace Sys2Proof.Machine

/-- A slot as frames name it (R368). -/
def slotNo (e j : Nat) : Nat := e + 16 * j

/-- The first release tick of a cyclic slot at or after a tick. -/
def firstRel (period phase t : Nat) : Nat :=
  if period = 0 then t else t + (phase % period + period - t % period) % period

namespace Block

/-- The journalled lines of a slot, with the window of each. -/
def lineHomes (s : Block) (e j : Nat) : List (Win × Nat) :=
  (List.range 6).flatMap fun a =>
    let w := s.win e j (s.slotBank e j) (a + 1)
    (List.range w.lines).map fun i => (w, w.base + i)

/-- The current copy of a line (R92): its data line. -/
def curLine (s : Block) (e : Nat) (x : Win × Nat) : Nat := x.2 + s.rd HID.LINE_CUR e x.2 * x.1.lines

/-- The sixteen words of a data line. -/
def lineWords (s : Block) (e l : Nat) : List Nat := (List.range 16).map fun w => s.dataWord e l w

/-- The retained state of a slot (R371): its lines in their current copies, numbered. -/
def retLines (s : Block) (e j : Nat) : List (Nat × List Nat) :=
  ((s.lineHomes e j).map fun x => s.lineWords e (s.curLine e x)).zipIdx.map fun x => (x.2, x.1)

/-- The digest of a slot's current journalled lines (R362). -/
def retDigest (s : Block) (e j : Nat) : Nat := crcWords ((s.retLines e j).flatMap fun x => x.2)

/-- Write the words of a data line, from word `i` on. -/
def putLine (s : Block) (e l i : Nat) : List Nat → Block
  | [] => s
  | w :: t => (s.setDataWord e l i w).putLine e l (i + 1) t

/-- Lines become the current content of a slot (R371, R373). -/
def loadLines (s : Block) (e j : Nat) : List (Nat × List Nat) → Block
  | [] => s
  | (i, ws) :: t =>
    (match (s.lineHomes e j)[i]? with
     | some x => (s.putLine e (s.curLine e x) 0 (ws.take 16)).wr HID.LINE_DIRTY e x.2 0
     | none => s).loadLines e j t

/-- The STATE_XFER frames that carry lines, at most 28 in each, and the END that closes them (R368). -/
def lineFrames (dst ep slot tick way : Nat) (ls : Bool) : Nat → List (Nat × List Nat) → List TxFrame
  | 0, _ => []
  | f + 1, l =>
    let items (x : List (Nat × List Nat)) : List Nat := x.flatMap fun y => y.1 :: y.2
    if l.isEmpty then [⟨.xfer 5 slot tick 0 [], dst, ep, ls, way⟩]
    else ⟨.xfer 4 slot tick (crcWords (items (l.take 28))) (items (l.take 28)), dst, ep, ls, way⟩ ::
      lineFrames dst ep slot tick way ls f (l.drop 28)

/-- The retained state of a slot is queued for a module, under the destination's slot and a tick. -/
def sendLines (s : Block) (e j dst slot tick way : Nat) : Block :=
  let l := s.retLines e j
  { s with txQ := s.txQ ++ lineFrames dst (s.domEntry dst).2.2 slot tick way (s.on TSK.TSK_CFG.LS e j) (l.length + 1) l }

/-- The placement alias of a slot; 0 when it is not placed (R369). -/
def group (s : Block) (e j : Nat) : Nat := s.rd PEEL.PEEL_CFG.GROUP 0 (scanKey e j)

/-- The placement epoch of an alias (R369). -/
def aliasEpoch (s : Block) (a : Nat) : Nat := (s.domEntry a).2.2

/-- The rules of R369 on a placed slot, as a commit would leave it. -/
def peelCfgCode (group auto ckpt kind period : Nat) : Nat :=
  if group = 0 then 0
  else if group < 0x100 ∨ group > 0xFFE then 0x08
  else if period < 4 then 0x08
  else if kind = 2 ∧ (auto ≠ 0 ∨ ckpt ≠ 0) then 0x08 else 0

/-- Whether a slot holds a program that could be parked: placed and not running (R370). -/
def parked (s : Block) (e j : Nat) : Bool :=
  s.group e j != 0 && s.hasTask e j && !s.on TSK.TSK_CFG.RUN e j

/-- Whether slot (`de`, `dj`) of this module is parked for slot (`e`, `j`) (R370). -/
def parkedFor (s : Block) (e j de dj : Nat) : Bool :=
  let same (f : Fld) : Bool := s.rd f e j == s.rd f de dj
  s.parked de dj && scanKey e j != scanKey de dj && s.group e j == s.group de dj &&
    s.bankCrc e (s.slotBank e j) == s.bankCrc de (s.slotBank de dj) && same TSK.TSK_PERIOD.PERIOD &&
    same TSK.TSK_PHASE.PHASE && same TSK.TSK_CFG.TIN && same TSK.TSK_CFG.LS && same TSK.TSK_CFG.KIND

/-- Why the commit of a peel fails (R370, R371, the PEEL page): `answered` says that a destination on another module
answered that it holds the slot parked. -/
def peelCode (s : Block) (e j dm de dj : Nat) (answered : Bool) : Nat :=
  if !s.on HDR.PAGE_CTRL.ENABLE 0x0B1 0 || s.group e j == 0 || s.peeling e j then 0x0A
  else if s.rd TSK.TSK_CFG.KIND e j = 2 ∧ dm ≠ s.selfId then 0x0D
  else if dm = s.selfId then (if s.parkedFor e j de dj then 0 else 0x0A)
  else if answered then 0 else 0x0A

/-- What a staging of PEEL_DST fails with (R370, R371): GO needs tin 0 or tin 1 with the configure right. -/
def peelStageCode (s : Block) (r : Req) (e j v : Nat) : Nat :=
  if !v.testBit 15 then 0 else if !s.tin01cfg r then 0x01
  else if s.rd TSK.TSK_CFG.KIND e j = 2 ∧ v % 256 ≠ s.selfId then 0x0D else 0

/-- A peel fails with a code (R371, R375). -/
def peelFail (s : Block) (e j code : Nat) : Block :=
  ((s.wr PEEL.PEEL_STAT.STATE 0 (scanKey e j) 4).wr PEEL.PEEL_STAT.CODE 0 (scanKey e j) code).fire EV.PEEL.PEEL_FAIL

/-- The destination of a slot's peel. -/
def peelDst (s : Block) (k : Nat) : Nat × Nat × Nat :=
  (s.rd PEEL.PEEL_DST.MODULE 0 k, s.rd PEEL.PEEL_DST.ENGINE 0 k, s.rd PEEL.PEEL_DST.SLOT 0 k)

/-- The snapshot goes to a destination on another module (R371), once the last release has ended; the bench movers serve
a destination on this module. -/
def peelSend (s : Block) (e j : Nat) : Block :=
  let k := scanKey e j
  let d := s.peelDst k
  if d.1 = s.selfId ∨ s.on HID.PEELSENT 0 k then s
  else (s.wr HID.PEELSENT 0 k 1).sendLines e j d.1 (slotNo d.2.1 d.2.2) (s.peelTick e j) 0

/-- The tick of a slot's last release. -/
def lastRel (s : Block) (e j : Nat) : Nat := s.rd TSK.TSK_REL_L.REL_L e j + 2 ^ 32 * s.rd TSK.TSK_REL_H.REL_H e j

/-- Whether the last release before the hand-over has been made, or can come no more, and its scan is gone (R371). -/
def peelQuiet (s : Block) (e j : Nat) : Bool :=
  let p := s.rd TSK.TSK_PERIOD.PERIOD e j
  (s.scan e j).isNone && (decide (s.lastRel e j + p ≥ s.peelTick e j) || decide (s.tick + p > s.peelTick e j))

/-- The snapshot is sent at the end of the last scan (R371). -/
def peelScanEnd (s : Block) (e j : Nat) : Block := if s.peeling e j && s.peelQuiet e j then s.peelSend e j else s

/-- The commit of a peel at tick `c` (R370, R371). -/
def peelStart (s : Block) (e j c : Nat) : Block :=
  let k := scanKey e j
  let h := if s.rd TSK.TSK_CFG.KIND e j = 2 then c + 8
    else firstRel (s.rd TSK.TSK_PERIOD.PERIOD e j) (s.rd TSK.TSK_PHASE.PHASE e j) (c + 8)
  let s1 := (s.wr PEEL.PEEL_STAT.STATE 0 k 1).wr PEEL.PEEL_STAT.CODE 0 k 0
  let s2 := (s1.wr PEEL.PEEL_HTICK_L.HTICK_L 0 k (h % 2 ^ 32)).wr PEEL.PEEL_HTICK_H.HTICK_H 0 k (h / 2 ^ 32)
  let s3 := (s2.wr HID.PEELC 0 k c).wr HID.PEELSENT 0 k 0
  let d := s3.peelDst k
  let s4 := if d.1 = s.selfId then (s3.wr HID.PEELWAIT 0 (scanKey d.2.1 d.2.2) 1).wr HID.SNAPHELD 0 (scanKey d.2.1 d.2.2) 0
    else s3
  s4.peelScanEnd e j

/-- A PLACE frame is announced and kept for its tick (R371). -/
def placeSend (s : Block) (p : Place) : Block :=
  { s.send ⟨.place p.epoch (p.tick % 2 ^ 32) p.als p.srcMod p.dstMod p.srcSlot p.dstSlot, 0xFF, 0, true, 1⟩ with
    places := s.places ++ [p] }

/-- A destination slot becomes READY when both its capture and the snapshot are complete (R371). -/
def readySlot (s : Block) (e j : Nat) : Block :=
  let k := scanKey e j
  if s.rd HID.PEELWAIT 0 k ≠ 0 ∧ s.rd HID.SNAPHELD 0 k = 0 then s.wr HID.PEELWAIT 0 k 2
  else ((s.makeReady e j).wr HID.PEELWAIT 0 k 0).wr HID.SNAPHELD 0 k 0

/-- The whole snapshot is held: the lines are the destination's retained state (R371). -/
def snapIn (s : Block) (e j us : Nat) (l : List (Nat × List Nat)) : Block :=
  let k := scanKey e j
  let s1 := (s.loadLines e j l).wr HID.SNAPHELD 0 k 1
  let s2 := (s1.wr PEEL.PEEL_XFER.LINES 0 k (min l.length 4095)).wr PEEL.PEEL_XFER.TIME 0 k (min us 65535)
  if s2.rd HID.PEELWAIT 0 k = 2 ∧ (s2.scan e j).isSome then s2.readySlot e j else s2

/-- The source on this module whose peel goes to a slot of this module. -/
def localSource (s : Block) (e j : Nat) : Option Nat :=
  (List.range 128).find? fun k =>
    let d := s.peelDst k
    d.1 == s.selfId && d.2.1 == e && d.2.2 == j && decide (s.peelTick (k / 8) (k % 8) ≠ 0) &&
      (s.peeling (k / 8) (k % 8) || s.rd PEEL.PEEL_STAT.STATE 0 k == 3) && decide (s.rd HID.PEELC 0 k ≤ s.tick) &&
      s.peelQuiet (k / 8) (k % 8)

/-- PEEL_SNAPSHOT_DONE (R371): the bench movers, or the frames received, have completed the snapshot. -/
def snapshotDone (s : Block) (e j us : Nat) : Block :=
  let k := scanKey e j
  if s.on HID.SNAPHELD 0 k then s
  else if s.rd HID.PEELWAIT 0 k ≠ 0 then
    match s.localSource e j with
    | some q =>
      let l := s.retLines (q / 8) (q % 8)
      let s1 := (s.wr PEEL.PEEL_XFER.LINES 0 q (min l.length 4095)).wr PEEL.PEEL_XFER.TIME 0 q (min us 65535)
      s1.snapIn e j us l
    | none =>
      match s.ckpt.find k with
      | some c => s.snapIn e j us c.lines
      | none => s
  else s

/-- The event input of a slot moves to another slot of the module (R370). -/
def moveInput (s : Block) (e j de dj : Nat) : Block :=
  let mv (a : Block) (f : Fld) : Block := (a.wr f de dj (a.rd f e j)).wr f e j f.rst
  let fs := [TSK.EV_BIND0.SRC, TSK.EV_BIND0.VALID, TSK.EV_BIND1.SRC, TSK.EV_BIND1.VALID, TSK.EV_BIND2.SRC,
    TSK.EV_BIND2.VALID, TSK.EV_BIND3.SRC, TSK.EV_BIND3.VALID, TSK.EV_STATE.PEND, TSK.EV_STATE.COUNT, TSK.EV_STATE.MASK,
    TSK.EV_STATE.OVF]
  let s1 := fs.foldl mv s
  let s2 := [HID.DEADLINE, HID.RELEASED, TSK.TSK_REL_L.REL_L, TSK.TSK_REL_H.REL_H].foldl (fun a f => a.wr f de dj (a.rd f e j)) s1
  { s2 with deliv := s2.deliv.map fun d => if d.e = e ∧ d.j = j then { d with e := de, j := dj } else d }

/-- The points of this module that a local slot publishes. -/
def ownPoints (s : Block) (e j : Nat) : List Nat :=
  (s.outPoints e j (s.slotBank e j)).filterMap fun x => if x.1.1 = s.selfId ∧ x.1.2.1 = 0 then some x.1.2.2 else none

/-- Ownership entries of points name a new publisher (R371, R372). -/
def ownAll (s : Block) (o : Owner) : List Nat → Block
  | [] => s
  | a :: t => { s with owners := s.owners.put a o }.ownAll o t

/-- The entries that name the source of a placement name its destination (R371): those of its alias, and those of the source
that a publication made under the alias's epoch before the placement, `was` (assumption 154). -/
def moveOwners (s : Block) (p : Place) (was : Nat) : Block :=
  { s with owners := s.owners.map fun x =>
      if x.2.modId = p.srcMod ∧ (x.2.als = some p.als ∨ (x.2.als = none ∧ x.2.epoch = was)) then
        (x.1, (⟨p.dstMod, p.dstSlot, p.epoch, some p.als⟩ : Owner)) else x }

/-- RUN of a slot changes by a placement; the slot takes its state (R371). -/
def setRun (s : Block) (e j v : Nat) : Block := ((s.wr TSK.TSK_CFG.RUN e j v).settle e j).stoRequest 0x01

/-- The slots of this module that another module's PLACE displaces (R373). -/
def displaceAll (s : Block) (p : Place) : List Nat → Block
  | [] => s
  | k :: t =>
    (if s.group (k / 8) (k % 8) == p.als && s.on TSK.TSK_CFG.RUN (k / 8) (k % 8) &&
        !(p.dstMod == s.selfId && slotNo (k / 8) (k % 8) == p.dstSlot) then
      (s.setRun (k / 8) (k % 8) 0).fire EV.PEEL.DISPLACED else s).displaceAll p t

/-- The source's side of a placement at its tick (R370, R371, R373). -/
def placeSrc (s : Block) (p : Place) : Block :=
  if p.srcMod ≠ s.selfId then s
  else
    let e := p.srcSlot % 16
    let j := p.srcSlot / 16
    if s.peeling e j && s.peelTick e j == p.tick && s.group e j == p.als then
      let s1 := s.ownAll ⟨p.dstMod, p.dstSlot, p.epoch, some p.als⟩ (s.ownPoints e j)
      let s2 := if s.rd TSK.TSK_CFG.KIND e j = 2 then s1.moveInput e j (p.dstSlot % 16) (p.dstSlot / 16) else s1
      let s3 := ((s2.setRun e j 0).wr PEEL.PEEL_STAT.STATE 0 (scanKey e j) 3).sat PEEL.PEEL_COUNT.OUT 0 0 1
      if p.dstMod = s.selfId then s3 else s3.fire EV.PEEL.PEEL_DONE
    else s.displaceAll p (List.range 128)

/-- The destination's side (R371, R373). -/
def placeDst (s : Block) (p : Place) : Block :=
  if p.dstMod ≠ s.selfId then s
  else
    let e := p.dstSlot % 16
    let j := p.dstSlot / 16
    let k := scanKey e j
    let s1 := (((s.setRun e j 1).wr HID.FIRSTPEND e j 0).wr HID.WARMSTART e j 0).sat PEEL.PEEL_COUNT.IN 0 0 1
    if s.rd HID.SURVAT 0 k = p.tick + 1 then
      let s2 := match s1.ckpt.find k with
        | some c => s1.loadLines e j c.lines
        | none => s1
      ((s2.wr HID.SURVAT 0 k 0).wr PEEL.PEEL_STAT.STATE 0 k 6).fire EV.PEEL.SURVIVAL
    else
      let s2 := if s1.rd HID.SNAPHELD 0 k = 0 ∧ s1.rd HID.PEELWAIT 0 k = 0 then s1.wr HID.PEELWAIT 0 k 1 else s1
      (s2.wr PEEL.PEEL_STAT.STATE 0 k 3).fire EV.PEEL.PEEL_DONE

/-- One placement commits (R371). -/
def placeOne (s : Block) (p : Place) : Block :=
  let s1 := (s.wr XLT.XLT_DOM_EPOCH.EPOCH 0 p.als p.epoch).wr XLT.XLT_DOM_DATA.MEMBER 0 p.als p.dstMod
  ((s1.moveOwners p (s.aliasEpoch p.als)).placeSrc p).placeDst p

/-- Several placements commit. -/
def placeAll (s : Block) : List Place → Block
  | [] => s
  | p :: t => (s.placeOne p).placeAll t

/-- One slot's peel at boundary `n` (R371): PLACE at h − 4; at h a scan still held is aborted and the mover starts. -/
def peelStep (s : Block) (n k : Nat) : Block :=
  let e := k / 8
  let j := k % 8
  if !s.peeling e j then s
  else if s.peelTick e j = n + 4 then
    let d := s.peelDst k
    let a := s.group e j
    (s.placeSend ⟨nextEpoch (s.aliasEpoch a), n + 4, a, s.selfId, d.1, slotNo e j, slotNo d.2.1 d.2.2⟩).wr
      PEEL.PEEL_STAT.STATE 0 k 2
  else if s.peelTick e j = n then
    let s1 := if (s.scan e j).isSome then (s.sat TSK.TSK_COUNT0.OVERRUNS e j 1).abortScan e j else s
    s1.peelSend e j
  else s

/-- A survival takeover that was asked for starts at boundary `n` (R373): PLACE for commit at n + 4. -/
def survStep (s : Block) (n k : Nat) : Block :=
  if !s.on HID.SURVREQ 0 k then s
  else
    let s1 := s.wr HID.SURVREQ 0 k 0
    match s.ckpt.find k with
    | none => s1
    | some c =>
      let a := s.group (k / 8) (k % 8)
      (s1.placeSend ⟨nextEpoch (s.aliasEpoch a), n + 4, a, c.src, s.selfId, 0, slotNo (k / 8) (k % 8)⟩).wr HID.SURVAT 0 k (n + 5)

/-- Every slot's step. -/
def peelSteps (s : Block) (n : Nat) : List Nat → Block
  | [] => s
  | k :: t => ((s.peelStep n k).survStep n k).peelSteps n t

/-- What peel does at step 1 of boundary `n` (R371, R373). -/
def peelBoundary (s : Block) (n : Nat) : Block :=
  let s1 := s.peelSteps n (List.range 128)
  let due := s1.places.filter fun p => p.tick == n
  { s1 with places := s1.places.filter fun p => decide (p.tick > n) }.placeAll due

/-- The full tick that a frame's [31:0] names, at or after the current tick. -/
def fullTick (s : Block) (t : Nat) : Nat := s.tick + (t % 2 ^ 32 + 2 ^ 32 - s.tick % 2 ^ 32) % 2 ^ 32

/-- LEASE_PLACE (R371): kept for its tick. -/
def leasePlace (s : Block) (h : Hdr) (p : Place) : Block :=
  match s.receive h 0x0D true with
  | (s1, .taken) => { s1 with places := s1.places ++ [{ p with tick := s1.fullTick p.tick }] }
  | (s1, _) => s1

/-- Whether a holder accepts a publication to a point (R372). -/
def ownerOk (s : Block) (a modId ep : Nat) : Bool :=
  match s.owners.find a with
  | some o => o.modId == modId && !newer o.epoch ep
  | none => true

/-- A first publication makes the entry of its point (DESIGN CHOICE: R372 does not say what makes it). -/
def ownerNote (s : Block) (a modId ep : Nat) : Block :=
  if (s.owners.find a).isSome then s else { s with owners := s.owners.put a ⟨modId, 0, ep, none⟩ }

/-- A publication is discarded (R372). -/
def peelLate (s : Block) : Block := (s.wrap PEEL.PEEL_LATE.PEEL_LATE 0 0 1).fire EV.PEEL.PEEL_LATE

/-- Why a survival takeover of a slot is refused (R373, the PEEL page). -/
def takeCode (s : Block) (e j : Nat) : Nat :=
  if !s.on HDR.PAGE_CTRL.ENABLE 0x0B1 0 || !s.parked e j || (s.ckpt.find (scanKey e j)).isNone then 0x0A else 0

/-- A survival takeover is asked for. -/
def survAsk (s : Block) (e j : Nat) : Block := s.wr HID.SURVREQ 0 (scanKey e j) 1

/-- PEEL_CMD.TAKE on the selected slot (R373, the PEEL page). -/
def peelTake (s : Block) (r : Req) : Block × Nat :=
  let e := s.own PEEL.PEEL_SEL.ENGINE 0 r
  let j := s.own PEEL.PEEL_SEL.SLOT 0 r
  if !s.tin01cfg r then (s.refuse 0x0B1 0x01 r 0x0B1068, 0x01)
  else if s.takeCode e j ≠ 0 then (s.refuse 0x0B1 (s.takeCode e j) r 0x0B1068, s.takeCode e j)
  else (s.survAsk e j, 0)

/-- Whether the source of a slot's checkpoint has sent no ring frame for 40 ticks while this module holds ring tokens (R373). -/
def sourceLost (s : Block) (e j : Nat) : Bool :=
  match s.ckpt.find (scanKey e j) with
  | none => false
  | some c => decide (s.rd HID.HEARD 0 c.src + 40 ≤ s.tick + 1) && s.g HID.TOKENAT != 0 && decide (s.g HID.TOKENAT ≥ s.tick)

/-- SURVIVAL_AUTO (R373): 40 ticks without a frame of the source, while AUTO is 1. -/
def survivalAuto (s : Block) (e j : Nat) : Block :=
  if s.takeCode e j = 0 && s.on PEEL.PEEL_CFG.AUTO 0 (scanKey e j) && s.sourceLost e j then s.survAsk e j else s

/-- CKPT_MISSED (R375), for a slot that is parked here, once a period has passed since the last checkpoint. -/
def ckptMissed (s : Block) (e j : Nat) : Block :=
  let late := match s.ckpt.find (scanKey e j) with
    | none => true
    | some c => decide (s.tick ≥ c.tick + s.rd TSK.TSK_PERIOD.PERIOD e j)
  if s.parked e j && late then s.fire EV.PEEL.CKPT_MISSED else s

/-- A checkpoint at every n-th release boundary (R373). -/
def ckptRelease (s : Block) (e j n : Nat) : Block :=
  let k := scanKey e j
  let m := s.rd PEEL.PEEL_CKPT.CKPT 0 k
  if m = 0 ∨ s.group e j = 0 then s
  else if s.rd HID.CKPTCNT 0 k + 1 < m then s.wr HID.CKPTCNT 0 k (s.rd HID.CKPTCNT 0 k + 1)
  else
    let dst := s.rd PEEL.PEEL_CFG.SURV_MOD 0 k
    let de := s.rd PEEL.PEEL_CFG.SURV_ENG 0 k
    let dj := s.rd PEEL.PEEL_CFG.SURV_SLOT 0 k
    let s1 := s.wr HID.CKPTCNT 0 k 0
    if dst = s.selfId then { s1 with ckpt := s1.ckpt.put (scanKey de dj) ⟨dst, n, s1.retLines e j⟩ }
    else s1.sendLines e j dst (slotNo de dj) n 0

/-! ### Lines received -/

/-- Whether a STATE_XFER frame arrives for this module (R368): from its partner, or from another module. -/
def xferRx (s : Block) (h : Hdr) : Block × Bool :=
  if s.fromPartner h then
    (if s.portUp h.port then (s.rxCount (netPort h.port) h.octets false, true) else (s, false))
  else
    match s.receive h 0x0E false with
    | (s1, .taken) => (s1, true)
    | (s1, _) => (s1, false)

/-- The key under which lines of a slot are gathered. -/
def xferKey (slot : Nat) : Nat := scanKey (slot % 16) (slot / 16 % 8)

/-- XFER_LINES (R371, R373): a frame whose CRC fails is dropped; for a snapshot the peel has failed. -/
def xferLines (s : Block) (h : Hdr) (slot tick : Nat) (crcOk : Bool) (l : List (Nat × List Nat)) : Block :=
  match s.xferRx h with
  | (s1, false) => s1
  | (s1, true) =>
    let k := xferKey slot
    if crcOk then { s1 with xfer := s1.xfer.put k ((s1.xfer.find k).getD [] ++ l) }
    else if s1.fromPartner h || decide (tick ≤ s1.tick) then { s1 with xfer := s1.xfer.del k }
    else { s1 with xfer := s1.xfer.del k }.peelFail (k / 8) (k % 8) 0x0B

/-- XFER_END of a slot's lines (R368): the transfer is whole when it holds every line of the slot. It is a checkpoint, or
the snapshot of a peel whose hand-over is at the tick of the frame; a resynchronised slot is adopted. -/
def xferEnd (s : Block) (h : Hdr) (slot tick us : Nat) : Block :=
  match s.xferRx h with
  | (s1, false) => s1
  | (s1, true) =>
    if slot = 0xFF then (if s1.fromPartner h && s1.waiting then s1.p HID.MODSTATE 1 else s1)
    else
      let k := xferKey slot
      let l := (s1.xfer.find k).getD []
      let s2 := { s1 with xfer := s1.xfer.del k }
      if l.length < (s2.lineHomes (k / 8) (k % 8)).length then s2
      else if s2.fromPartner h then
        (if s2.waiting && s2.on HID.RESYNC 0 0 then ((s2.loadLines (k / 8) (k % 8) l).wr HID.DSLOT 0 k 0).noteDesync.resyncDone else s2)
      else
        let s3 := { s2 with ckpt := s2.ckpt.put k ⟨h.src.val, tick, l⟩ }
        if s3.parked (k / 8) (k % 8) && decide (tick > s3.tick) || s3.rd HID.PEELWAIT 0 k != 0 then
          (if s3.rd HID.SNAPHELD 0 k = 0 then s3.snapIn (k / 8) (k % 8) us l else s3) else s3

/-! ### Digests -/

/-- This standby's digest of a slot, after the END of a release (R362), against the active partner's. -/
def digestOwn (s : Block) (e j rel : Nat) : Block :=
  let k := scanKey e j
  let s1 := (s.wr HID.OWNAT 0 k (rel + 1)).wr HID.OWNCRC 0 k (s.retDigest e j)
  if s1.rd HID.DIGAT 0 k = rel + 1 ∧ s1.rd HID.DIGCRC 0 k ≠ s1.rd HID.OWNCRC 0 k then s1.desyncSlot e j else s1

/-- The active partner's digest of a slot has not come by the deadline of its release (R362). -/
def digestMissing (s : Block) (e j : Nat) : Block :=
  let k := scanKey e j
  if s.rd HID.OWNAT 0 k ≠ 0 ∧ s.rd HID.DIGAT 0 k ≠ s.rd HID.OWNAT 0 k then s.desyncSlot e j else s

/-- The state of the loop engine (R362): every cell of the loop pages, as numbers. -/
def loopState (s : Block) : List Nat :=
  (s.cells.filter fun c => decide (c.1.f / 32 / 4096 = LOOP.LOOP_CFG.KIND.page)).flatMap fun c => [c.1.f, c.1.i, c.1.k, c.2]

/-- The digest of the loop engine's state (R362 gives no layout for it). -/
def loopDigest (s : Block) : Nat := Config.loopDigest s.loopState % 2 ^ 32

/-- XFER_DIGEST at the standby (R362): of a slot, or of the loops at this tick. -/
def xferDigest (s : Block) (h : Hdr) (slot tick crc : Nat) : Block :=
  match s.xferRx h with
  | (s1, false) => s1
  | (s1, true) =>
    if !s1.fromPartner h || s1.role != 2 then s1
    else if slot = 0xFF then
      let s2 := (s1.wr HID.DIGAT 0 128 (tick + 1)).wr HID.DIGCRC 0 128 crc
      if tick = s2.tick ∧ crc ≠ s2.loopDigest then s2.desyncLoops else s2
    else
      let k := xferKey slot
      let s2 := (s1.wr HID.DIGAT 0 k (tick + 1)).wr HID.DIGCRC 0 k crc
      if s2.rd HID.OWNAT 0 k = tick + 1 ∧ crc ≠ s2.rd HID.OWNCRC 0 k then s2.desyncSlot (k / 8) (k % 8) else s2

/-- Whether this module mirrors to a standby (R361): active, with the pair link up. -/
def mirrors (s : Block) : Bool := s.paired && s.role == 1 && s.on PAIR.PAIR_STAT.LINK 0 0

/-- Whether this module tracks an active partner over the pair link (R361). -/
def tracks (s : Block) : Bool := s.paired && s.role == 2 && s.on PAIR.PAIR_STAT.LINK 0 0

/-- The digest of a slot goes to the standby (R362). -/
def sendDigest (s : Block) (slot tick crc : Nat) : Block := s.queue ⟨.xfer 3 slot tick crc [], s.selfId, s.epoch, true, 4⟩

/-- What the pair does at the END of a scan (R361, R362). -/
def digestEnd (s : Block) (e j rel : Nat) : Block :=
  if s.mirrors then s.sendDigest (slotNo e j) rel (s.retDigest e j)
  else if s.tracks then s.digestOwn e j rel else s

end Block
end Sys2Proof.Machine
end

