-- ==== Sys2Proof/Machine/Sessions.lean ====
section
/-!
DEFINITION. Sessions (R388 to R396): the handshake, the acceptance of protected frames, lockouts, and the end of a
session. What cryptography finds is an operand of the frame; what it makes is a constant without a body of Config.
-/
namespace Sys2Proof.Machine

/-- The fields held once per requester (R39, R37), and what the model holds once per requester. -/
def reqFields : List Fld :=
  [HDR.BATCH_TAG.ID, HDR.BATCH_TAG.VALID, HDR.BATCH_TAG.ENDED, EVR.ROUTE_SEL.SOURCE, ENG.AREA_SEL.SLOT, ENG.AREA_SEL.AREA] ++
  [ENG.AREA_SEL.BANK, TSK.SLOT_SEL.SLOT, TSK.FORCE_SEL.ENTRY, BAT.BAT_CTICK_L.CTICK_L, BAT.BAT_CTICK_H.CTICK_H, BAT.BAT_SEL.ID] ++
  [BAT.BAT_RESULT.ID, BAT.BAT_RESULT.COMMITTED, BAT.BAT_RESULT.CODE, BAT.BAT_RESULT.PEER, RISE.RISE_CH_SEL.CH, XLT.XLT_DW_ADDR_L.ADDR_L] ++
  [XLT.XLT_DW_ADDR_H.ADDR_H, XLT.XLT_DOM_SEL.UNIT, TIN.TIN_SEL.ENTRY, LOOP.LOOP_SEL.LOOP, LOOP.LOOP_SEL.SET, LOOP.GRP_SEL.GROUP] ++
  [DIO.DIO_CH_SEL.CH, AIO.AIO_CH_SEL.CH, CAP.CAP_SEL.CH, AUD.SRC_SEL.SRC, AUD.TX_SEL.TX, ZONE.ZONE_SEL.ENTRY] ++
  [MET.MET_ARG0.ARG0, MET.MET_ARG1.ARG1, MET.MET_LOG_SEL.RECORD, MET.MET_TAMP_SEL.TAMPER, MET.MET_PAR_SEL.PARAM, RING.STAT_SEL.INDEX] ++
  [RCTL.SLOT_SEL.SLOT, RCTL.FIRE_SEL.FIRE_SEL, SEG.NODE_SEL.NODE, SEG.STAT_SEL.INDEX, SVC.STAT_SEL.INDEX, PAIR.STAT_SEL.INDEX] ++
  [PEEL.PEEL_SEL.ENGINE, PEEL.PEEL_SEL.SLOT, KEY.KEY_SEL.SLOT, KEY.KEY_NEWATTR.NEWATTR, SES.SES_SEL.SESSION, STO.STO_SEL.STORE] ++
  [REC.REC_SEL.SEQ, REC.REC_SRC_SEL.SOURCE, PERF.PERF_SEL.COUNTER, LIFE.LIFE_SEL.BIN, LIFE.LIFE_SEL.HIST, HID.HELDH] ++
  [HID.HELDHV, HID.SNAPH, HID.SNAPHV, HID.RDATA, HID.RECBUSY]

/-- A source of handshakes as a number (R394). -/
def srcNum : SesSrc → Nat
  | .svc _ => 0x10000
  | .ring h => h.src.val * 2 + b2n h.pos

/-- Ticks in a number of seconds (R20). -/
def secTicks (n : Nat) : Nat := 4000 * n

namespace Block

/-- A SESSION frame arrives (R332, R388): whether it is taken. One that the service port's mode does not take is unknown. -/
def sesRx (s : Block) (src : SesSrc) : Block × Bool :=
  match src with
  | .svc n =>
    if s.svcTakes then (s.rxCount .svc n false, true)
    else if s.on HDR.PAGE_CTRL.ENABLE 0x090 0 && s.on SVC.SVC_STAT.LINK 0 0 then (s.badFrame .svc (.unknown n), false)
    else (s, false)
  | .ring h =>
    match s.receive h 0x10 false with
    | (s1, .taken) => (s1, true)
    | (s1, _) => (s1, false)

/-- A frame goes out by the service port, or is queued for the ring (R310, R332). -/
def sesSendTo (s : Block) (src : SesSrc) (kind : Nat) (data : List Nat) : Block :=
  match src with
  | .svc _ =>
    let f : TxFrame := ⟨.session kind 0 0 data, 0xFF, 0, false, 6⟩
    ((s.stat .svc 19 1).statOct .svc 20 f.octets).send f
  | .ring h => s.queue ⟨.session kind 0 0 data, h.src.val, h.srcEpoch, false, 0⟩

/-- A frame to the client of a session (R388): its header carries the session's ID and, where the frame is protected, SEQ. -/
def sesSend (s : Block) (n kind : Nat) (data : List Nat) : Block :=
  let body : TxBody := .session kind (s.rd SES.SES_ID.SID 0 n)
    (if kind = 4 ∨ kind = 5 ∨ kind = 6 then s.rd HID.SESTX 0 n else 0) data
  if s.on SES.SES_STATE.SERVICE 0 n then
    let f : TxFrame := ⟨body, 0xFF, 0, false, 6⟩
    ((s.stat .svc 19 1).statOct .svc 20 f.octets).send f
  else
    let u := s.rd SES.SES_STATE.PEER_ID 0 n
    s.queue ⟨body, u, (s.domEntry u).2.2, false, 0⟩

/-- Whether a frame comes from the client of a session. -/
def sesFrom (s : Block) (n : Nat) (src : SesSrc) : Bool :=
  match src with
  | .svc _ => s.on SES.SES_STATE.SERVICE 0 n
  | .ring h => !s.on SES.SES_STATE.SERVICE 0 n && s.rd SES.SES_STATE.PEER_ID 0 n == h.src.val &&
      s.rd SES.SES_STATE.PEER_POS 0 n == b2n h.pos

/-- The source of a session's handshake as a number. -/
def sesSrcNum (s : Block) (n : Nat) : Nat :=
  if s.on SES.SES_STATE.SERVICE 0 n then 0x10000
  else s.rd SES.SES_STATE.PEER_ID 0 n * 2 + s.rd SES.SES_STATE.PEER_POS 0 n

/-- Whether a source is locked out (R394). -/
def lockedOut (s : Block) (src : Nat) : Bool := s.lockouts.any fun x => x.src == src && decide (s.tick < x.at_ + secTicks 60)

/-- The lockouts that have run 60 s end (R394). -/
def lockoutExpire (s : Block) : Block := { s with lockouts := s.lockouts.filter fun x => decide (s.tick < x.at_ + secTicks 60) }

/-- A failed handshake counts against its source (R394): the eighth within 60 s locks it out; a 17th source ends the
oldest lockout. -/
def authFail (s : Block) (src : Nat) : Block :=
  let s1 := (s.sat SES.SES_COUNT.AUTH_FAIL 0 0 1).fire EV.SES.AUTH_FAIL
  let l := (s1.sesFails.filter fun x => decide (s.tick < x.at_ + secTicks 60)) ++ [(⟨src, s.tick⟩ : SesMark)]
  if (l.filter fun x => x.src == src).length ≥ 8 then
    let k := s1.lockoutExpire.lockouts.filter fun x => x.src != src
    { s1 with
      sesFails := l.filter fun x => x.src != src
      lockouts := (if k.length ≥ 16 then k.drop 1 else k) ++ [(⟨src, s.tick⟩ : SesMark)] }.fire EV.SES.LOCKOUT
  else { s1 with sesFails := l }

/-- What a requester's copies held is released (R395): selectors, tag and halves return to their reset values. -/
def releaseCopies (s : Block) (q : Nat) : Block :=
  { s with
    cells := s.cells.filter fun c => !(c.1.k == q && codeIn reqFields c.1.f)
    keyData := s.keyData.del q
    keyOut := s.keyOut.del q
    keyOp := s.keyOp.map fun o => if reqHeld o.by_ = some q then { o with by_ := .pairBlk } else o }

/-- A session's entry is FREE (R390, R395): nothing of it is left, its keys are erased. -/
def sesFree (s : Block) (n : Nat) : Block :=
  let fs := [SES.SES_STATE.STATE, SES.SES_STATE.MODE, SES.SES_STATE.SERVICE, SES.SES_STATE.PEER_ID,
    SES.SES_STATE.PEER_POS, SES.SES_STATE.NO_DATES, SES.SES_STATE.TIN, SES.SES_STATE.RIGHTS, SES.SES_ID.SID, SES.SES_ID.CRED,
    HID.SESHELLO, HID.SESLAST, HID.SESREADY, HID.SESHI, HID.SESWIN, HID.SESTX, HID.SESTAGF, HID.UPDSES]
  { s with cells := s.cells.filter fun c => !(c.1.k == n && c.1.i == 0 && codeIn fs c.1.f)
           handshakes := s.handshakes.del n
           sesKeys := s.sesKeys.del n
           sesAns := s.sesAns.filter fun a => a.ses != n }

/-- The loads of a session end (R415). -/
def sesUpd (s : Block) (n : Nat) : Block :=
  let drop (a : Block) (k : Nat) : Block := if a.updLoading k && a.g (updSesF k) == n then a.updDrop k else a
  drop (drop s 0) 1

/-- A session ends (R395): its batches abort, what it held is released, its loads end, CLOSED fires; the module's CLOSE
carries a reason. -/
def sesEnd (s : Block) (n : Fin 64) (reason : Option Nat) : Block :=
  if s.rd SES.SES_STATE.STATE 0 n.val = 0 then s
  else
    let s1 := match reason with
      | some c => if s.rd SES.SES_STATE.STATE 0 n.val = 2 then (s.wrap HID.SESTX 0 n.val 1).sesSend n.val 6 [c] else s
      | none => s
    let s2 := (s1.abortAllOf (.ses n) 0x0C s1.batches).sesUpd n.val
    ((s2.releaseCopies (4 + n.val)).sesFree n.val).fire EV.SES.CLOSED

/-- Several sessions end. -/
def sesEndAll (s : Block) (reason : Option Nat) : List (Fin 64) → Block
  | [] => s
  | n :: t => (s.sesEnd n reason).sesEndAll reason t

/-- A handshake ends without READY (R388, R396): its entry is free and the failure counts; a code is sent with
REFUSE. -/
def handshakeEnd (s : Block) (n : Fin 64) (code : Option Nat) : Block :=
  let src := s.sesSrcNum n.val
  let s1 := match code with
    | some c => s.sesSend n.val 7 [c]
    | none => s
  (s1.sesFree n.val).authFail src

/-- The sessions and handshakes whose credential is one of the listed slots end (R395, R396). -/
def credGone (s : Block) (slots : List Nat) : List (Fin 64) → Block
  | [] => s
  | n :: t =>
    (if slots.contains (s.rd SES.SES_ID.CRED 0 n.val) then
      (if s.rd SES.SES_STATE.STATE 0 n.val = 2 then s.sesEnd n (some 4)
       else if s.rd SES.SES_STATE.STATE 0 n.val = 1 && s.on SES.SES_STATE.MODE 0 n.val then s.handshakeEnd n (some 0x0C)
       else s) else s).credGone slots t

/-- Every session entry. -/
def allSes : List (Fin 64) := List.finRange 64

/-- The check of a client's credential at HELLO (R391), as its code. -/
def credCode (s : Block) (h : HelloIn) : Nat :=
  if h.mode = 1 then
    let a := s.keyAttr h.slot.val
    if !a.testBit 0 then 0x0C
    else
      let c := s.useCode h.slot.val (fun t => t == 1 || t == 2) (some 8) h.tin.val
      if c ≠ 0 then c else if !a.testBit 12 then 0x0D else if bits a 20 13 ≠ h.tin.val then 0x01 else 0
  else if s.on KEY.KEY_STAT.ROOT 0 0 || !s.on HID.DEVCERT 0 0 then 0x0C
  else 0

/-- The lowest free session entry. -/
def freeSes (s : Block) : Option (Fin 64) := allSes.find? fun n => s.rd SES.SES_STATE.STATE 0 n.val == 0

/-- The checks of a HELLO in order (R388, R389, R391, R394, R396, the SES page), as the code of its REFUSE. -/
def helloCode (s : Block) (src : SesSrc) (h : HelloIn) : Nat :=
  if !s.on HDR.PAGE_CTRL.ENABLE 0x0C1 0 then 0x0A
  else if !h.wf || decide (h.mode > 1) then 0x08
  else if (if h.mode = 0 then !s.on SES.SES_CFG.CERT_EN 0 0 else !s.on SES.SES_CFG.PSK_EN 0 0) then 0x0D
  else if s.freeSes.isNone || decide (h.queued ≥ 8) then 0x0A
  else if s.on HID.UNCFG 0 0 && (decide (h.tin.val ≠ 0) || decide (srcNum src ≠ 0x10000)) then 0x01
  else if !s.tinActive h.tin.val then 0x01
  else s.credCode h

/-! ### The keys of a session (R390) -/

/-- The HELLO body: 136 octets (R389). -/
def helloBody (h : HelloIn) : List Nat := [h.mode % 256, h.tin.val, h.slot.val, 0] ++ h.nonce ++ h.key ++ [0, 0, 0]

/-- The HELLO_ACK body without its signature or MAC (R389): the module's nonce and ephemeral key, and in certificate mode the
device certificate, padded to a multiple of 4 octets. -/
def ackBody (mode : Nat) (nonce pub : List Nat) : List Nat :=
  let lc := if mode = 1 then 0 else min Config.certLen 1024
  nonce ++ pub ++ [0] ++ octs 2 lc ++ ((List.range lc).map fun i => Config.certOct i % 256) ++
    List.replicate ((4 - lc % 4) % 4) 0

/-- What the vault makes of a HELLO under a serial number (R390): `psk` is the pre-shared key, or 48 octets of zero, and `idKey`
the identity key that signs in certificate mode. -/
def makeHandshake (h : HelloIn) (psk idKey : List Nat) (serial : Nat) : Handshake :=
  let eph := secretOcts serial 0 48
  let z := ecdhX eph h.key
  let hash := sha384 (helloBody h ++ ackBody h.mode (secretOcts serial 48 32) (pubPoint eph))
  let prk := hmac384 psk z
  let fk := kdf prk (ascii "UNZAN-FIN") hash 384
  ⟨eph, z, prk, fk, hash, if h.mode = 1 then hmac384 fk (1 :: hash) else ecdsaSign idKey (ascii "UNZAN-MOD" ++ hash) serial⟩

/-- The session keys and salts of a handshake: 72 octets (R390). -/
def handshakeKeys (x : Handshake) : List Nat := kdf x.prk (ascii "UNZAN-SES") x.h 576

/-- h2 of a handshake and a FINISH (R390). -/
def handshakeH2 (x : Handshake) (f : FinishIn) : List Nat := sha384 (x.h ++ x.auth ++ f.body)

/-- Whether the client's proof verifies (R390, R391): in PSK mode its MAC, in certificate mode its signature over "UNZAN-CLI" and
h2, as the vault's verification finds it. -/
def clientProof (s : Block) (n : Nat) (f : FinishIn) : Bool :=
  if s.on SES.SES_STATE.MODE 0 n then
    match s.handshakes.find n with
    | some x => f.auth == hmac384 x.fk (2 :: handshakeH2 x f)
    | none => false
  else f.proof

/-- HELLO (R388, R390, R391, R394, R396). -/
def sesHello (s : Block) (src : SesSrc) (h : HelloIn) : Block :=
  match s.sesRx src with
  | (s1, false) => s1
  | (s1, true) =>
    if s1.lockedOut (srcNum src) then s1.sesSendTo src 7 [0x0A]
    else
      let c := s1.helloCode src h
      match s1.freeSes with
      | none => (((s1.sesSendTo src 7 [c]).fireIf (c == 0x0A && s1.on HDR.PAGE_CTRL.ENABLE 0x0C1 0) EV.SES.FULL)).authFail (srcNum src)
      | some n =>
        if c ≠ 0 then (s1.sesSendTo src 7 [c]).authFail (srcNum src)
        else
          let f := s1.takeFree
          let s2 := ((f.1.wr SES.SES_STATE.STATE 0 n.val 1).wr SES.SES_STATE.MODE 0 n.val h.mode).wr SES.SES_STATE.TIN 0 n.val h.tin.val
          let s3 := match src with
            | .svc _ => s2.wr SES.SES_STATE.SERVICE 0 n.val 1
            | .ring x => (s2.wr SES.SES_STATE.PEER_ID 0 n.val x.src.val).wr SES.SES_STATE.PEER_POS 0 n.val (b2n x.pos)
          let s4 := (s3.wr SES.SES_ID.SID 0 n.val (Config.sessionId f.2)).wr SES.SES_ID.CRED 0 n.val (if h.mode = 1 then h.slot.val else 0)
          let psk := if h.mode = 1 then wordOcts ((s1.keyMat.find h.slot.val).getD []) else List.replicate 48 0
          let x := makeHandshake h psk (wordOcts ((s1.keyMat.find 0).getD [])) f.2
          let s5 := { s4 with handshakes := s4.handshakes.put n.val x, sesKeys := s4.sesKeys.put n.val (handshakeKeys x) }
          (s5.wr HID.SESHELLO 0 n.val s.tick).sesSend n.val 2 (ackBody h.mode (secretOcts f.2 48 32) (pubPoint x.eph) ++ x.auth)

/-- The checks of a FINISH (R389, R391), as the code of its REFUSE. -/
def finishCode (s : Block) (n : Nat) (f : FinishIn) : Nat :=
  let tin := s.rd SES.SES_STATE.TIN 0 n
  if !f.wf then 0x08
  else if !s.tinActive tin then 0x01
  else if s.on SES.SES_STATE.MODE 0 n then (if s.clientProof n f then 0 else 0x0B)
  else if s.on KEY.KEY_STAT.ROOT 0 0 || !s.on HID.DEVCERT 0 0 then 0x0C
  else if !f.chain || !(s.keyAttr f.anchor.val).testBit 10 || s.useCode f.anchor.val (fun t => t == 4) none tin != 0 then 0x0C
  else if s.on PTP.PTP_STAT.TIME_VALID 0 0 && !f.dates then 0x0C
  else
    match f.ext with
    | none => 0x01
    | some (t, _) => if t ≠ tin then 0x01 else if s.clientProof n f then 0 else 0x0B

/-- The rights of a session (R391). -/
def sesRights (s : Block) (n : Nat) (f : FinishIn) : Nat :=
  if s.on SES.SES_STATE.MODE 0 n then bits (s.keyAttr (s.rd SES.SES_ID.CRED 0 n)) 27 24
  else Nat.land ((f.ext.map fun x => x.2).getD 0 % 16) (bits (s.keyAttr f.anchor.val) 27 24)

/-- READY is sent (R388, R390, R392): the session is OPEN, and what made its keys is erased. -/
def sesReady (s : Block) (n : Nat) (f : FinishIn) : Block :=
  let r := s.sesRights n f
  let s1 := (s.wr SES.SES_STATE.STATE 0 n 2).wr SES.SES_STATE.RIGHTS 0 n r
  let s2 := if s.on SES.SES_STATE.MODE 0 n then s1
    else (s1.wr SES.SES_ID.CRED 0 n f.anchor.val).wr SES.SES_STATE.NO_DATES 0 n (b2n (!s.on PTP.PTP_STAT.TIME_VALID 0 0))
  let s3 := ((s2.wr HID.SESREADY 0 n s.tick).wr HID.SESLAST 0 n s.tick).wr HID.SESTX 0 n 1
  let s4 := { s3 with handshakes := s3.handshakes.del n }
  (s4.sesSend n 4 [s.rd SES.SES_STATE.TIN 0 n, r, s.g SES.SES_CFG.IDLE, s.g SES.SES_CFG.LIFE]).fire EV.SES.OPENED

/-- FINISH (R388, R391). -/
def sesFinish (s : Block) (src : SesSrc) (n : Fin 64) (f : FinishIn) : Block :=
  match s.sesRx src with
  | (s1, false) => s1
  | (s1, true) =>
    if s1.rd SES.SES_STATE.STATE 0 n.val ≠ 1 || !s1.sesFrom n.val src then s1
    else if s1.finishCode n.val f ≠ 0 then s1.handshakeEnd n (some (s1.finishCode n.val f))
    else s1.sesReady n.val f

/-- A limit of R392 closes a session. -/
def sesLimit (s : Block) (n : Fin 64) : Block := (s.sesEnd n (some 3)).fire EV.SES.EXPIRED

/-- The acceptance of a protected frame (R392): whether it is accepted, and the session after it. -/
def sesAccept (s : Block) (n : Fin 64) (seq : Nat) (tagOk : Bool) : Block × Bool :=
  let hi := s.rd HID.SESHI 0 n.val
  let win := s.rd HID.SESWIN 0 n.val
  if !tagOk then
    let s1 := (s.sat SES.SES_COUNT.TAG_FAIL 0 0 1).sat HID.SESTAGF 0 n.val 1
    (if s1.rd HID.SESTAGF 0 n.val ≥ 16 then s1.sesLimit n else s1, false)
  else
    let s1 := s.wr HID.SESTAGF 0 n.val 0
    if seq > 2 ^ 32 then (s1.sesLimit n, false)
    else if seq = 0 then (s1, false)
    else if seq > hi then
      (((s1.wr HID.SESHI 0 n.val seq).wr HID.SESWIN 0 n.val (win * 2 ^ (seq - hi) + 1)).wr HID.SESLAST 0 n.val s.tick, true)
    else if hi - seq > 64 then (s1, false)
    else if win.testBit (hi - seq) then ((s1.sat SES.SES_COUNT.REPLAY 0 0 1).fire EV.SES.REPLAY, false)
    else ((s1.wr HID.SESWIN 0 n.val (setBit win (hi - seq))).wr HID.SESLAST 0 n.val s.tick, true)

/-- A DATA or CLOSE frame of an open session arrives (R392): whether it is accepted. -/
def sesFrame (s : Block) (src : SesSrc) (n : Fin 64) (seq : Nat) (tagOk : Bool) : Block × Bool :=
  match s.sesRx src with
  | (s1, false) => (s1, false)
  | (s1, true) =>
    if s1.rd SES.SES_STATE.STATE 0 n.val ≠ 2 || !s1.sesFrom n.val src then (s1, false) else s1.sesAccept n seq tagOk

/-- CLOSE from the client (R395). -/
def sesClose (s : Block) (src : SesSrc) (n : Fin 64) (seq : Nat) (tagOk : Bool) : Block :=
  match s.sesFrame src n seq tagOk with
  | (s1, true) => s1.sesEnd n none
  | (s1, false) => s1

/-- The module's next protected frame to a session (R392): the session closes when SEQ would pass 2^32. -/
def sesTx (s : Block) (n : Fin 64) (data : List Nat) : Block :=
  if s.rd HID.SESTX 0 n.val ≥ 2 ^ 32 then s.sesLimit n else (s.wrap HID.SESTX 0 n.val 1).sesSend n.val 5 data

/-- A handshake has not reached READY within 2.0 s of HELLO (R388). -/
def handshakeTimeout (s : Block) (n : Fin 64) : Block :=
  if s.rd SES.SES_STATE.STATE 0 n.val = 1 ∧ s.tick ≥ s.rd HID.SESHELLO 0 n.val + secTicks 2 then s.handshakeEnd n none else s

/-- The idle limit of a session has passed (R395). -/
def sesIdle (s : Block) (n : Fin 64) : Block :=
  if s.rd SES.SES_STATE.STATE 0 n.val = 2 ∧ s.tick ≥ s.rd HID.SESLAST 0 n.val + secTicks (s.g SES.SES_CFG.IDLE) then
    (s.sesEnd n (some 1)).fire EV.SES.EXPIRED
  else s

/-- The life of a session has passed (R395). -/
def sesLife (s : Block) (n : Fin 64) : Block :=
  if s.rd SES.SES_STATE.STATE 0 n.val = 2 ∧ s.tick ≥ s.rd HID.SESREADY 0 n.val + secTicks (3600 * s.g SES.SES_CFG.LIFE) then
    (s.sesEnd n (some 2)).fire EV.SES.EXPIRED
  else s

/-- What sessions owe to a tick boundary (R388, R394, R396): limits that have passed. -/
def sesTick (s : Block) : List (Fin 64) → Block
  | [] => s.lockoutExpire
  | n :: t => (((s.handshakeTimeout n).sesIdle n).sesLife n).sesTick t

/-- SES_CMD.CLOSE (R395, the SES page): tin 0 with the configure right, or the session itself. -/
def sesCloseCmd (s : Block) (r : Req) : Block × Nat :=
  let n := s.own SES.SES_SEL.SESSION 0 r
  let self := match r with
    | .ses k => k.val == n
    | _ => false
  if s.tin0cfg r || self then
    (if h : n < 64 then (if s.rd SES.SES_STATE.STATE 0 n = 1 then s.handshakeEnd ⟨n, h⟩ none else s.sesEnd ⟨n, h⟩ (some 5)) else s, 0)
  else (s.refuse 0x0C1 0x01 r 0x0C1058, 0x01)

/-- The attribute words of the slots. -/
def keyAttrs (s : Block) : List Nat := (List.range 64).map s.keyAttr

/-- A vault operation ends (R396, R397): its outcome, the blobs of changed user slots, and the sessions whose credential
is gone. -/
def keyOpDone (s : Block) (ok : Bool) (attr : Nat) : Block :=
  match s.keyOp with
  | none => s
  | some o =>
    let before := (List.range 64).filter fun k => (s.keyAttr k).testBit 0
    let e := { s with keyOp := none }.keyEffect o ok attr
    let s1 := (e.1.keyResult o.op e.2).noteFailed
    let s2 := if e.2 = 0 then s1 else (s1.refuse 0x0C0 e.2 o.by_ 0x0C0054).fire EV.KEY.CMD_REFUSED
    let gone := before.filter fun k => !(s2.keyAttr k).testBit 0
    let s3 := s2.credGone gone allSes
    if s3.keyAttrs != s.keyAttrs then s3.stoRequest 0x22 else s3

/-- The integrity check of listed slots fails (R382): INTEG_FAIL sets, and fires once for each. -/
def integFail (s : Block) : List Nat → Block
  | [] => s
  | k :: t =>
    (if (s.keyAttr k).testBit 0 && !(s.keyAttr k).testBit 29 then
      (s.wr KEY.KEY_ATTR.ATTR 0 k (setBit (s.keyAttr k) 29)).fire EV.KEY.INTEG_FAIL else s).integFail t

/-- An integrity sweep ends (R382, R398): the slots that failed; with none, SCRUB_DONE fires. -/
def integSweep (s : Block) (bad : List (Fin 64)) : Block :=
  let l := (bad.map fun k => k.val).filter fun k => (s.keyAttr k).testBit 0
  if l.isEmpty then s.fire EV.KEY.SCRUB_DONE
  else ((s.integFail l).noteFailed).credGone l allSes

end Block
end Sys2Proof.Machine
end

