-- ==== Sys2Proof/Machine/Mod.lean ====
section
/-!
DEFINITION. The module's own page and the event router: MOD_FIRE (R30 to R32, R59 to R61), MOD_CMD, the FAULT lamp
(R445, R446), and the router's rounds, routes and destinations (R53 to R58, R62).
-/
namespace Sys2Proof.Machine
namespace Block

/-! ### MOD_FIRE -/

/-- The fields of fire input entry `i` of 8: channel, and enable. -/
def fireInCh (s : Block) (i : Nat) : Nat :=
  if i < 4 then s.rd MOD.MOD_FIRE_IN0.CHANNEL 0 i else s.rd MOD.MOD_FIRE_IN1.CHANNEL 0 (i - 4)
def fireInEn (s : Block) (i : Nat) : Bool :=
  if i < 4 then s.on MOD.MOD_FIRE_IN0.EN 0 i else s.on MOD.MOD_FIRE_IN1.EN 0 (i - 4)

/-- Whether fire input entry `i` asserts (R60): enabled, an input, and the value its slice latched is 1. The latched
value of a channel's page carries no force, which acts on images alone (R124). -/
def fireInOn (s : Block) (i : Nat) : Bool :=
  s.fireInEn i && s.isIn (s.fireInCh i) && s.point (dchBase (s.fireInCh i)) % 2 == 1

/-- FIRE_INPUT_ASSERT: an entry that asserts is a fire source from now on (R30, R60). -/
def fireInput (s : Block) (i : Nat) : Block :=
  if s.fireInOn i then (s.p MOD.MOD_FIRE_SRC.LOCAL (setBit (s.g MOD.MOD_FIRE_SRC.LOCAL) i)).p HID.FIREASK 1 else s

/-- Every entry of a list, at the latch. -/
def fireInputs (s : Block) : List Nat → Block
  | [] => s
  | i :: t => (s.fireInput i).fireInputs t

/-- Whether a fire source is asserted still, a local input or the ring (R31). -/
def fireStill (s : Block) : Bool := (List.range 8).any s.fireInOn || s.on HID.RINGFIRE 0 0

/-- Whether MOD_FIRE holds. -/
def inFire (s : Block) : Bool := s.on MOD.MOD_STATUS.FIRE 0 0

/-- A refusal of MOD_CMD by the session whose command waited (R59). -/
def modCmdLate (s : Block) : Block :=
  let n := s.g HID.FIRECMDREQ - 1
  (s.err 0x000 0x0A 3 (s.rd SES.SES_STATE.TIN 0 n) 0x000048 none).fire EV.MOD.CMD_REFUSED

/-- Entry into MOD_FIRE at boundary `n` (R30, R32, R268): a restart command of the same tick is cancelled (R59). -/
def fireEnter (s : Block) (n : Nat) : Block :=
  let s1 := (((s.p MOD.MOD_STATUS.FIRE 1).p HID.FIREENT n).fire EV.MOD.FIRE_ENTER).stoRequest 0x01
  let s2 := s1.audFireEnter n
  if s2.g HID.CMDPEND = 0x10 ∨ s2.g HID.CMDPEND = 0x11 then (s2.p HID.CMDPEND 0).modCmdLate else s2

/-- MOD_FIRE is left at boundary `n` (R31, R32): what has asserted it clears. -/
def fireLeave (s : Block) (n : Nat) : Block :=
  let s1 := (((s.p MOD.MOD_STATUS.FIRE 0).p MOD.MOD_FIRE_SRC.LOCAL 0).p MOD.MOD_FIRE_SRC.RING 0).p MOD.MOD_FIRE_SRC.CMD 0
  ((s1.fire EV.MOD.FIRE_EXIT).stoRequest 0x01).audFireLeave n

/-- MOD_FIRE at step 1 of boundary `n` (R30, R31): entry when a source has asserted; a reset that waited is checked
when MOD_FIRE held before. -/
def modFireStep (s : Block) (n : Nat) : Block :=
  let reset := s.g HID.CMDPEND == 2
  let s1 := if s.g HID.CMDPEND ≤ 2 then s.p HID.CMDPEND 0 else s
  let s2 :=
    if !s.inFire then (if s.on HID.FIREASK 0 0 then s1.fireEnter n else s1)
    else if reset then
      (if s.on HID.FIREASK 0 0 || s.fireStill then s1.modCmdLate.fire EV.MOD.FIRE_RESET_REFUSED else s1.fireLeave n)
    else s1
  (s2.p HID.FIREASK 0).audIgnore n

/-- The codes of MOD_CMD (R59). -/
def modCodes : List Nat := [0x01, 0x02, 0x10, 0x11, 0x20]

/-- The checks of a write of MOD_CMD, in the order of R59: who writes, the right, a restart in a fire, CMD_PEND, the
code. -/
def modCmdCode (s : Block) (r : Req) (c : Nat) : Nat :=
  match r with
  | .ses n =>
    let tin := s.rd SES.SES_STATE.TIN 0 n.val
    let cfg := s.holds r .configure
    let right :=
      if c = 0x01 then tin == 1 || (tin == 0 && cfg)
      else if c = 0x02 then tin == 1 && cfg
      else if c = 0x10 ∨ c = 0x11 then tin == 0 && cfg
      else if c = 0x20 then tin == 0
      else true
    if !right then 0x01
    else if s.g HID.CMDPEND ≠ 0 ∨ (s.inFire ∧ (c = 0x10 ∨ c = 0x11)) then 0x0A
    else if modCodes.contains c then 0 else 0x0D
  | _ => 0x0C

/-- A write of MOD_CMD (R59). -/
def modCmd (s : Block) (r : Req) (c : Nat) : Block × Nat :=
  let code := s.modCmdCode r c
  if code ≠ 0 then
    (((s.refuse 0x000 code r 0x000048).fire EV.MOD.CMD_REFUSED).fireIf (c == 2) EV.MOD.FIRE_RESET_REFUSED, code)
  else if c = 0x20 then (s.p HID.LAMPTEST 1, 0)
  else
    let s1 := (s.p HID.CMDPEND c).p HID.FIRECMDREQ (match r with | .ses n => n.val + 1 | _ => 0)
    (if c = 0x01 then (s1.p MOD.MOD_FIRE_SRC.CMD 1).p HID.FIREASK 1 else s1, 0)

/-- The 2.0 s of a lamp test have passed (R59). -/
def lampTestEnd (s : Block) : Block := s.p HID.LAMPTEST 0

/-! ### Lamps -/

/-- The supply groups that digital slices use (R166, R430), as group numbers 1 to 3. -/
def usedGroups (s : Block) : List Nat := [1, 2, 3].filter fun g => (List.range 6).any fun d => s.fsGroup d == g

/-- The conditions of R446. Sensors count from their first sample on (DESIGN CHOICE: nothing is said of the time
before). -/
def faultHolds (s : Block) : Bool :=
  (List.range 9).any (fun sl => s.slState sl == 2) ||
  (List.range 64).any (fun k => (s.keyAttr k).testBit 29) || s.on HID.SELFFAIL 0 0 || s.on HID.NOBANK 0 0 ||
  (s.g HID.TSNUM != 0 && s.g PWR.PWR_STAT.SENS_VALID != 15) || s.on PWR.PWR_STAT.LOST 0 0 ||
  s.usedGroups.any (fun g => !(s.g PWR.PWR_STAT.FS_OK).testBit (g - 1)) || s.ptpState == 4 || s.g HID.PWRST == 1

/-- Whether the FAULT lamp is lit (R445, R446): steady, or flashing at ladder stages 1 to 3. -/
def faultLamp (s : Block) : Bool :=
  s.faultHolds || (decide (1 ≤ s.g PWR.PWR_STAT.LADDER) && decide (s.g PWR.PWR_STAT.LADDER ≤ 3))

/-- MOD_STATUS.FAULT follows the lamp, and its changes fire (R61). -/
def noteFault (s : Block) : Block :=
  if s.faultLamp == s.on MOD.MOD_STATUS.FAULT 0 0 then s
  else (s.p MOD.MOD_STATUS.FAULT (b2n s.faultLamp)).fireIf s.supPowered (if s.faultLamp then EV.MOD.FAULT_ON else EV.MOD.FAULT_OFF)

/-- MOD_LAMP as it reads (R445): a lamp that is steady or flashing reads 1. The DEBUG lamp is lit while debug is
active, the SEAL lamp always. -/
def lampWord (s : Block) : Nat :=
  b2n (s.g HID.PWRST == 0 && (s.on MOD.MOD_STATUS.RUN 0 0 || s.g HID.RESTART != 0 || s.on HID.UNCFG 0 0)) +
    2 * b2n (s.on MOD.MOD_STATUS.FORCED 0 0) + 4 * b2n (s.role != 0) + 8 * b2n s.inFire + 16 * b2n s.faultLamp + 32 +
    64 * b2n (s.on MOD.MOD_STATUS.DEBUG 0 0)

/-! ### The event router -/

/-- The route of a source (R52): SUP and REC of a fixed source read 1. -/
def routeSup (s : Block) (n : Nat) : Bool := fixedSrc n || s.on EVR.ROUTE_DATA.SUP 0 n
def routeRec (s : Block) (n : Nat) : Bool := fixedSrc n || s.on EVR.ROUTE_DATA.REC 0 n
def routeLS (s : Block) (n : Nat) : Bool := s.on EVR.ROUTE_DATA.LS 0 n
def routeOwner (s : Block) (n : Nat) : Nat := s.rd EVR.ROUTE_DATA.OWNER_TIN 0 n

/-- Whether the router serves a source at all now (R58). -/
def routeServed (s : Block) (n : Nat) : Bool := decide (s.g PWR.PWR_STAT.LADDER < 3) || s.routeLS n

/-- The place of a source in a round (R53): class LS first, then PRIO, then the number. -/
def roundKey (s : Block) (n : Nat) : Nat :=
  (if s.routeLS n then 0 else 16384) + 2048 * s.rd EVR.ROUTE_DATA.PRIO 0 n + n

/-- The sources that have something to deliver and may be served (R53, R56, R58). -/
def routeWaiting (s : Block) : List Nat :=
  (List.range 1152).filter fun n => (s.rd EVR.SRC_COUNT.COUNT 0 n != 0 || s.on HID.KEPTFLAG 0 n) && s.routeServed n

/-- The first of a list of sources in the order of a round. -/
def roundFirst (s : Block) : List Nat → Option Nat
  | [] => none
  | n :: t =>
    match s.roundFirst t with
    | none => some n
    | some m => if s.roundKey m < s.roundKey n then some m else some n

/-- The sources left of the round in progress. -/
def roundLeft (s : Block) : List Nat := (List.range 1152).filter fun n => s.on HID.INROUND 0 n && s.routeServed n

/-- A new round takes the sources that wait (R53). -/
def roundStart (s : Block) : Block := ((s.setAll HID.INROUND 0 (List.range 1152)).setAll HID.INROUND 1 s.routeWaiting)

/-- Notifications of a source go to the open sessions that R57 admits (R55): DATA frames with OP 3. -/
def notify (s : Block) (n c : Nat) : List (Fin 64) → Block
  | [] => s
  | x :: t =>
    let tin := s.rd SES.SES_STATE.TIN 0 x.val
    (if s.rd SES.SES_STATE.STATE 0 x.val == 2 && (tin == s.routeOwner n || tin == 0 || tin == 1) then s.sesTx x [3, n, c]
      else s).notify n c t

/-- The frames in the ring alarm queue (R56). -/
def alarmCount (s : Block) : Nat := (s.txQ.filter fun f => match f.body with | .alarm _ _ _ => true | _ => false).length

/-- The ring alarm frame of a source with count `c` (R55, R56). A full queue drops a class N frame, and keeps the count of
a class LS source. -/
def alarmFrame (s : Block) (n c : Nat) : Block :=
  if s.alarmCount < 64 then
    ((s.wr HID.KEPTFLAG 0 n 0).wr HID.KEPTRING 0 n 0).queue ⟨.alarm n (min c 65535) (s.routeOwner n), 0xFF, 0, s.routeLS n, 0⟩
  else if s.routeLS n then (s.wr HID.KEPTFLAG 0 n 1).wr HID.KEPTRING 0 n (min c 65535)
  else (((s.wr HID.KEPTFLAG 0 n 0).wr HID.KEPTRING 0 n 0).wrap EVR.RING_DROP.RING_DROP 0 0 1).fire EV.EVR.RING_DROP

/-- The destinations of a delivery of count `c` but the ring alarm frame (R54, R55). -/
def deliver (s : Block) (n c : Nat) : Block :=
  if c = 0 then s
  else
    let s1 := { s with deliv := s.deliv ++ s.delivOf n c }
    let s2 := if s1.routeSup n then
        (s1.p EVR.LINE_PEND.LINE_PEND (setBit (s1.g EVR.LINE_PEND.LINE_PEND) (s1.rd EVR.ROUTE_DATA.LINE 0 n))).notify n c allSes
      else s1
    if s2.routeRec n then { s2 with recQ := s2.recQ ++ [(n, c)] } else s2

/-- The service of a source (R54 to R56). -/
def serveSrc (s : Block) (n : Nat) : Block :=
  let c := s.rd EVR.SRC_COUNT.COUNT 0 n
  let kept := if s.on HID.KEPTFLAG 0 n then s.rd HID.KEPTRING 0 n else 0
  let s1 := (((s.wr EVR.SRC_COUNT.COUNT 0 n 0).wr HID.INROUND 0 n 0).wrap HID.ROUNDSERVED 0 0 1).perf 0x0B0 none 1
  let s2 := if s1.on EVR.ROUTE_DATA.RING 0 n then s1.alarmFrame n (c + kept)
    else (s1.wr HID.KEPTFLAG 0 n 0).wr HID.KEPTRING 0 n 0
  s2.deliver n c

/-- The round is over (R53): LAST_ROUND shows how many sources it served. -/
def roundEnd (s : Block) : Block :=
  if s.roundLeft.isEmpty then (s.p EVR.EVR_STAT.LAST_ROUND (s.g HID.ROUNDSERVED)).p HID.ROUNDSERVED 0 else s

/-- ROUTER_SERVE: the next source of the round, or the first of a new one (R53, R54). -/
def routerServe (s : Block) : Block :=
  if !s.supPowered then s else
  let s1 := if s.roundLeft.isEmpty then s.roundStart else s
  match s1.roundFirst s1.roundLeft with
  | none => s1
  | some n => (s1.serveSrc n).roundEnd

/-- The supervisor has served its lines (LINE_PEND). -/
def linesServed (s : Block) : Block := s.p EVR.LINE_PEND.LINE_PEND 0

/-- The router at a restart (R132). -/
def routerReset (s : Block) : Block :=
  let s1 := (((s.setAll EVR.SRC_COUNT.COUNT 0 (List.range 1152)).setAll HID.KEPTRING 0 (List.range 1152)).setAll HID.KEPTFLAG 0
    (List.range 1152)).setAll HID.INROUND 0 (List.range 1152)
  { (s1.p EVR.LINE_PEND.LINE_PEND 0).p HID.ROUNDSERVED 0 with
    deliv := [], txQ := s1.txQ.filter fun f => match f.body with | .alarm _ _ _ => false | _ => true }

/-- Staging of a route (ROUTE_DATA): only a session of tin 0 may change OWNER_TIN. -/
def routeStageCode (s : Block) (r : Req) (n v : Nat) : Nat :=
  let tin0 := match r with | .ses x => s.rd SES.SES_STATE.TIN 0 x.val == 0 | _ => false
  if bits v 23 16 ≠ s.routeOwner n ∧ !tin0 then 0x01 else 0

/-- Validation of a committing route (R57): a changed OWNER_TIN may not leave a bound task of another tin. `a` is the
state with the entries of the tick applied. -/
def routeCode (s a : Block) (n : Nat) : Nat :=
  let owner := a.routeOwner n
  let bad (e j : Nat) : Bool :=
    let t := a.rd TSK.TSK_CFG.TIN e j
    a.bindMask e j n != 0 && t != owner && t != 0 && t != 1
  if owner ≠ s.routeOwner n ∧ ((List.range 16).any fun e => (List.range 8).any fun j => bad e j) then 0x01 else 0

/-- Whether a task may bind an event input to a source (R57). -/
def bindCode (s : Block) (e j n : Nat) : Nat :=
  let t := s.rd TSK.TSK_CFG.TIN e j
  if n ≥ 1152 ∨ t = 0 ∨ t = 1 ∨ s.routeOwner n = t then 0 else 0x01

end Block
end Sys2Proof.Machine
end

