-- ==== Sys2Proof/Machine/Power.lean ====
section
/-!
DEFINITION. Supplies, power states, the board temperature and the fire-endurance ladder (R425 to R439, R447), and the
rows of the counters and of the life histograms that time and supplies drive (R450 to R455).
-/
namespace Sys2Proof.Machine
namespace Block

/-! ### Precise sampling and the life histograms -/

/-- One completed instruction of a scan under precise sampling (R452, R453): counted, and every N-th sampled. -/
def smpCount (s : Block) (e j insn pc bank stall lat rel : Nat) : Block :=
  if !(s.on PERF.SMP_CFG.EN 0 0 && s.on HDR.PAGE_CTRL.ENABLE 0x0E0 0 && s.g PERF.SMP_CFG.ENGINE == e &&
      (!s.on PERF.SMP_CFG.SLOT_EN 0 0 || s.g PERF.SMP_CFG.SLOT == j)) then s
  else if s.g HID.SMPCNT + 1 < s.g PERF.SMP_CFG.N then s.wrap HID.SMPCNT 0 0 1
  else
    let q := s.g HID.SMPSEQ
    let s1 := (s.p HID.SMPCNT 0).wrap HID.SMPSEQ 0 0 1
    if s1.smp.length ≥ 4096 then
      let s2 := s1.sat PERF.SMP_STAT.LOST 0 0 1
      if s2.on PERF.SMP_CFG.STOP_FULL 0 0 then s2.p PERF.SMP_CFG.EN 0 else s2
    else
      let w1 := pc % 16384 + 2 ^ 14 * (j % 8) + 2 ^ 17 * (bank % 2) + 2 ^ 18 * (e % 16) + 2 ^ 22 * (stall % 8)
      let s2 := { s1 with smp := s1.smp ++ [(insn, w1, min lat 65535 + 2 ^ 16 * (rel % 65536), q % 2 ^ 24 + 2 ^ 31)] }
      (s2.fireIf (s2.smp.length == 2048) EV.PERF.SMP_HALF).fireIf (s2.smp.length == 4096) EV.PERF.SMP_FULL

/-- SMP_POP: a read of SMP_W0 pops the oldest record, whose other words wait for the same requester (R453). -/
def smpPop (s : Block) (r : Req) : Block × Nat :=
  let x := s.smp.headD (0, 0, 0, 0)
  let s1 := { s with smp := s.smp.tail }
  let s2 := ((s1.setOwn HID.SMPW 1 r x.2.1).setOwn HID.SMPW 2 r x.2.2.1).setOwn HID.SMPW 3 r x.2.2.2
  (s2, x.1)

/-- COUNTER_OVERFLOW: a counter at its maximum counts once more (R450). -/
def counterOverflow (s : Block) (i : Nat) : Block :=
  if s.perfRunning && s.on PERF.PERF_CFG.EN 0 i && !s.perfChained i && s.perfVal i == 2 ^ 48 - 1 then s.perfAdd i 1 else s

/-- LIFE_CMD.SAVE (R455, the LIFE page). -/
def lifeSave (s : Block) (r : Req) : Block × Nat :=
  if !s.tin0cfg r then (s.refuse 0x0E1 0x01 r 0x0E104C, 0x01) else (s.stoRequest 0x31, 0)

/-- LIFE_HOURLY_WRITE (R455): a whole hour of RUN or HALT. -/
def lifeHourly (s : Block) : Block :=
  if s.g HID.PWRST ≤ 1 && s.on HID.LIFEDUE 0 0 then (s.p HID.LIFEDUE 0).stoRequest 0x31 else s

/-- A minute of a 60-minute count: the count, and when it is full the histogram bin, and the write of the store that is due
(R455). -/
def minuteOf (s : Block) (f : Fld) (bin : Nat) : Block :=
  if s.g f + 1 ≥ 60 then ((s.p f 0).lifeAdd 9 bin 1).p HID.LIFEDUE 1 else s.wrap f 0 0 1

/-- LIFE_MINUTE (R454): temperature, ladder stages and hours; AGE counts minutes. -/
def lifeMinute (s : Block) : Block :=
  if s.g HID.PWRST > 1 then s
  else
    let s1 := s.sat LIFE.LIFE_STAT.AGE 0 0 1
    let s2 := if s1.g PWR.PWR_STAT.SENS_VALID = 0 then s1
      else s1.lifeAdd 0 (tempBin ((sgn 32 (s1.g HID.BOARDSUM)).fdiv (10 * s1.g HID.BOARDCNT))) 1
    let s3 := if s2.g PWR.PWR_STAT.LADDER ≥ 2 then s2.lifeAdd 8 4 1 else s2
    let s4 := if s3.g PWR.PWR_STAT.LADDER ≥ 3 then s3.lifeAdd 8 5 1 else s3
    let s5 := s4.minuteOf HID.LIFEMIN 0
    if s5.g HID.PWRST = 1 then s5.minuteOf HID.HALTMIN 1 else s5

/-- SUPPLY_DIP_BEGIN (R454). -/
def dipBegin (s : Block) : Block := s.p HID.DIPON 1

/-- SUPPLY_DIP_END (R454): the dip is counted by its lowest voltage in mV and its duration in µs; a dip that ended in
OFF is counted at the next start. -/
def dipEnd (s : Block) (low us : Nat) : Block :=
  if !s.on HID.DIPON 0 0 then s
  else if s.g HID.PWRST ≤ 1 then (s.p HID.DIPON 0).lifeAdd 1 (dipBin low us) 1
  else (((s.p HID.DIPON 0).p HID.DIPOFF 1).p HID.DIPLOW (min low 65535)).p HID.DIPUS (min us (2 ^ 32 - 1))

/-- The dip that ended in OFF is counted at a start (R454). -/
def dipCount (s : Block) : Block :=
  if s.on HID.DIPOFF 0 0 then (s.p HID.DIPOFF 0).lifeAdd 1 (dipBin (s.g HID.DIPLOW) (s.g HID.DIPUS)) 1 else s

/-- ISLAND_CLOCK_LOSS (R9): island `k` of the table of islands stops; no other does. -/
def islandLoss (s : Block) (k : Nat) : Block :=
  let s1 := s.wr HID.ISLANDDOWN 0 k 1
  if 18 ≤ k ∧ k < 27 then s1.causeSet (k - 18) 2 else s1

/-- Whether island `k` runs. -/
def islandUp (s : Block) (k : Nat) : Bool := !s.on HID.ISLANDDOWN 0 k

/-- Whether the supervisor island runs: the functions that stop with it (R17) do nothing otherwise. -/
def supRuns (s : Block) : Bool := s.g HID.PWRST == 0 && s.islandUp 0

/-- Whether an island keeps its power in HALT (R427, R432): the slices, audio, metrology and the RTC domain. -/
def haltKeeps (k : Nat) : Bool := (decide (18 ≤ k) && decide (k < 27)) || k == 28 || k == 29 || k == 33

/-- Whether an island of the module runs with power: its row of the island table. -/
def islandRuns (s : Block) (k : Nat) : Bool := (s.g HID.PWRST == 0 || (s.g HID.PWRST == 1 && haltKeeps k)) && s.islandUp k

/-! ### Supplies -/

/-- The supplies as measured over a tick (the PWR page): inputs and field supplies in mV, module power in 0.1 W. A field
supply group that falls below 16.0 V fires FS_LOW. -/
def supplies (s : Block) (a b f1 f2 f3 pw : Nat) : Block :=
  let s1 := ((s.p PWR.PWR_VIN.VIN_A (min a 65535)).p PWR.PWR_VIN.VIN_B (min b 65535)).p PWR.PWR_VFS12.VFS1 (min f1 65535)
  let s2 := (s1.p PWR.PWR_VFS12.VFS2 (min f2 65535)).p PWR.PWR_VFS3.VFS3 (min f3 65535)
  let ok := b2n (decide (f1 > 16000)) + 2 * b2n (decide (f2 > 16000)) + 4 * b2n (decide (f3 > 16000))
  let fell := [0, 1, 2].any fun g => (s.g PWR.PWR_STAT.FS_OK).testBit g && !ok.testBit g
  let s3 := (s2.p PWR.PWR_STAT.FS_OK ok).fireIf fell EV.PWR.FS_LOW
  let s4 := (s3.p PWR.PWR_STAT.A_OK (b2n (decide (a > 18000)))).p PWR.PWR_STAT.B_OK (b2n (decide (b > 18000)))
  (s4.p PWR.PWR_POWER.POWER (min pw 4095)).p PWR.PWR_POWER.PEAK (max (s.g PWR.PWR_POWER.PEAK) (min pw 4095))

/-- INPUT_LOST (R425): with DUAL = 1 input A (`b` false) or B is lost. -/
def inputLost (s : Block) (b : Bool) : Block :=
  let s1 := s.p (if b then PWR.PWR_STAT.B_OK else PWR.PWR_STAT.A_OK) 0
  if !s.on PWR.PWR_CFG.DUAL 0 0 || s.g HID.PWRST > 1 || s.on PWR.PWR_STAT.LOST 0 0 then s1
  else ((s1.p PWR.PWR_STAT.LOST 1).fireHeld (if b then EV.PWR.INPUT_B_LOST else EV.PWR.INPUT_A_LOST)).noteFault

/-- INPUT_BACK (R425, R447): a lost input returns. -/
def inputBack (s : Block) (b : Bool) : Block :=
  let s1 := s.p (if b then PWR.PWR_STAT.B_OK else PWR.PWR_STAT.A_OK) 1
  if !s.on PWR.PWR_STAT.LOST 0 0 || s.on (if b then PWR.PWR_STAT.B_OK else PWR.PWR_STAT.A_OK) 0 0 then s1
  else ((s1.p PWR.PWR_STAT.LOST 0).fireHeld EV.PWR.INPUT_BACK).noteFault

/-- SUPPLY_WARN (R426, R32, R411, R455): a snapshot is due, the recorder spills, the MOD_FIRE state and the histograms
are written. -/
def supplyWarn (s : Block) : Block :=
  if s.on PWR.PWR_STAT.WARN 0 0 || s.g HID.PWRST > 1 then s
  else
    let s1 := (((s.p PWR.PWR_STAT.WARN 1).p HID.WARNAT s.tick).p PWR.PWR_STAT.A_OK 0).p PWR.PWR_STAT.B_OK 0
    let s2 := ((s1.sat PWR.PWR_COUNT.WARNINGS 0 0 1).fireHeld EV.PWR.SUPPLY_WARN).snapAsk
    (s2.p HID.SPILLING 1).stoRequests [0x01, 0x31]

/-- SUPPLY_OK (R426): input A (`b` false) or B has returned in time, and nothing restarts. -/
def supplyOk (s : Block) (b : Bool) : Block :=
  if !s.on PWR.PWR_STAT.WARN 0 0 || s.g HID.PWRST > 1 then s
  else
    let s1 := ((s.p PWR.PWR_STAT.WARN 0).p (if b then PWR.PWR_STAT.B_OK else PWR.PWR_STAT.A_OK) 1).fireHeld EV.PWR.SUPPLY_OK
    if s1.g PWR.PWR_STAT.LADDER = 4 then s1 else s1.p HID.SPILLING 0

/-- PWR_PEAK_CLR: PEAK takes POWER. -/
def peakClr (s : Block) : Block := s.p PWR.PWR_POWER.PEAK (s.g PWR.PWR_POWER.POWER)

/-- OVER_POWER (R447): the power averaged over the last second, in 0.1 W. -/
def overPower (s : Block) (pw : Nat) : Block :=
  let s1 := (s.p PWR.PWR_POWER.POWER (min pw 4095)).p PWR.PWR_POWER.PEAK (max (s.g PWR.PWR_POWER.PEAK) (min pw 4095))
  s1.fireIf (decide (pw > 780)) EV.PWR.OVER_POWER

/-- No output is driven (R429): digital outputs off, analog outputs at 0. -/
def outputsOff (s : Block) : Block := (s.offAll (List.range 96)).analogMute (List.range 48)

/-- Every link of the module goes down: ring, service port, pair link; it sends no tokens (R132, R427, R438). -/
def linksDown (s : Block) : Block := ((((s.ringDown 0).ringDown 1).svcDown).pairLink false).p RCTL.RCTL_STAT.MASTER 0

/-- Every scan is aborted (R438). -/
def abortScans (s : Block) : List (Nat × Nat) → Block
  | [] => s
  | (e, j) :: t => (s.abortScan e j).abortScans t

/-- Every engine and slot. -/
def allSlots : List (Nat × Nat) := (List.range 16).flatMap fun e => (List.range 8).map fun j => (e, j)

/-- No release goes on: scans are aborted, and every release has its record (R25), also one whose publication will not come
(assumption 120). -/
def endReleases (s : Block) : Block :=
  let s1 := s.abortScans allSlots
  { s1.logPend s1.relPend with engQ := [], loopQ := [], loopWait := [], fixed := [] }

/-- The cells of the audio island that its power keeps. -/
def audCells : List Fld :=
  [HID.REQF, HID.AUDIGN, HID.AUDIGNW, HID.AUDMUTE, HID.AUDCUT, HID.AUDPROMO, HID.AUDPROMOF, HID.FIREMP0, HID.MPST, HID.MPMSG,
    HID.MPREP, HID.MPGAP, HID.MPLEFT, HID.MPPOS, HID.TGPAT, HID.TGBLOCK, HID.TGHZ, HID.RXLATE, HID.RXOK, HID.ZCLASS,
    HID.ZCOUNT, HID.ZEARTHLO, HID.ZEARTHHI, HID.AUDMISS, HID.AUDEV, HID.AUDCUTMP, HID.ZFADE, HID.ZWIN, AUD.AUD_STAT.AUTONOMOUS]

/-- The audio island loses its power: its memory and all that it plays. -/
def audLost (s : Block) : Block :=
  { s with cells := s.cells.filter fun c => !codeIn audCells c.1.f, msgs := [], audQ := [], audRx := [] }

/-- Whether the hold-up time may have ended: 100 ms ± 5 ms after the warning (R426), as far as a grid of ticks measures it. -/
def holdupOver (s : Block) : Bool := s.g HID.PWRST != 0 || !s.islandUp 32 || decide (s.tick ≥ s.g HID.WARNAT + 380)

/-- HOLDUP_END (R426 to R429): the module enters OFF. Benches lose their contents, interrupted store writes leave
their banks invalid (R403), and records on chip are lost (R406). -/
def holdupEnd (s : Block) : Block :=
  if !s.on PWR.PWR_STAT.WARN 0 0 || s.g HID.PWRST > 1 || !s.holdupOver then s
  else
    let s1 := (s.endReleases.outputsOff.linksDown.stoInterrupt storeIds).recPowerLoss
    let s2 := (((s1.p MOD.MOD_STATUS.RUN 0).p HID.RESTART 0).p HID.PWRST 2).p HID.OFFRTC s1.rtcCount
    { s2.audLost.debugFollow with bench := [], shared := [] }

/-- The standby rail holds for at least 2.0 s after OFF is entered (R427), as the RTC domain counts them. -/
def railHolds (s : Block) : Bool := s.islandUp 33 && decide (s.rtcCount < s.g HID.OFFRTC + 2 * 2 ^ 15)

/-- STANDBY_RAIL_LOSS (R427, R428, R348): DARK; the RTC domain switches to VBAT. The next start rebuilds the translation
tables in LPDDR5 as they were (assumption 24); the release log that lay there is lost (R142). -/
def railLoss (s : Block) : Block :=
  if s.g HID.PWRST ≠ 2 ∨ s.railHolds = true then s else ({ s with relLog := [] }.p HID.PWRST 3).rtcSwitch true

/-! ### Board temperature -/

/-- A sensor's field. -/
def tsFld (i : Nat) : Fld :=
  if i = 0 then PWR.PWR_TS01.TS0 else if i = 1 then PWR.PWR_TS01.TS1 else if i = 2 then PWR.PWR_TS23.TS2 else PWR.PWR_TS23.TS3

/-- A sensor's reading in 0.1 °C. -/
def tsVal (s : Block) (i : Nat) : Int := sgn 16 (s.g (tsFld i))

/-- Twice the median of a rising list: of an even number the mean of the middle two. -/
def median2 (l : List Int) : Int := (l.getD ((l.length - 1) / 2) 0) + (l.getD (l.length / 2) 0)

/-- Put a number into a rising list. -/
def insertInt (x : Int) : List Int → List Int
  | [] => [x]
  | y :: t => if x ≤ y then x :: y :: t else y :: insertInt x t

/-- The valid sensors (R435): within −40 to +150 °C, and while three or more are, within 15 °C of their median. -/
def validSensors (s : Block) : List Nat :=
  let l := (List.range 4).filter fun i => decide (-400 ≤ s.tsVal i) && decide (s.tsVal i ≤ 1500)
  if l.length < 3 then l
  else
    let m := median2 ((l.map s.tsVal).foldr insertInt [])
    l.filter fun i => decide ((2 * s.tsVal i - m).natAbs ≤ 300)

/-- The sum of a sensor's last samples, at most 4 (R435). -/
def tsSum (s : Block) (i : Nat) : Int :=
  ((List.range (s.g HID.TSNUM)).map fun k => sgn 16 (s.rd HID.TSHIST i k)).foldl (· + ·) 0

/-- A mean of `n` samples as a register in 0.1 °C shows it; which way a fraction is rounded is left open (assumption 37). -/
def meanShown (sum : Int) (n : Nat) : Int :=
  if sum % n = 0 then sum / n else sum / n + (if Config.meanUp sum n then 1 else 0)

/-- A sample of sensor `i` enters its history. -/
def tsPush (s : Block) (i : Nat) (v : Int) : Block :=
  let s1 := ((s.wr HID.TSHIST i 3 (s.rd HID.TSHIST i 2)).wr HID.TSHIST i 2 (s.rd HID.TSHIST i 1)).wr HID.TSHIST i 1
    (s.rd HID.TSHIST i 0)
  (s1.wr HID.TSHIST i 0 (uns 16 v)).p (tsFld i) (uns 16 v)

/-- The highest of the listed sensors. -/
def hottest (s : Block) : List Nat → Option Nat
  | [] => none
  | i :: t =>
    match s.hottest t with
    | none => some i
    | some j => if s.tsVal j > s.tsVal i then some j else some i

/-- BOARD_TEMP_SAMPLE (R435), readings in 0.1 °C. With no valid sensor R435 gives board temperature no value: the register
shows a free value (assumption 37). -/
def boardTemp (s : Block) (t0 t1 t2 t3 : Int) : Block :=
  let s1 := (((s.tsPush 0 t0).tsPush 1 t1).tsPush 2 t2).tsPush 3 t3
  let s2 := s1.p HID.TSNUM (min (s.g HID.TSNUM + 1) 4)
  let v := s2.validSensors
  let old := (List.range 4).filter fun i => (s.g PWR.PWR_STAT.SENS_VALID).testBit i
  let s3 := s2.p PWR.PWR_STAT.SENS_VALID (v.foldl setBit 0)
  let s4 := match s3.hottest v with
    | none => (s3.takeFree.1).p PWR.PWR_BOARD.BOARD (Config.freeWord s3.takeFree.2 % 65536)
    | some i => ((s3.p HID.BOARDSUM (uns 32 (s3.tsSum i))).p HID.BOARDCNT (s3.g HID.TSNUM)).p PWR.PWR_BOARD.BOARD
        (uns 16 (meanShown (s3.tsSum i) (s3.g HID.TSNUM)))
  (if v.length < old.length then s4.fireHeld EV.PWR.SENSOR_FAIL else s4).noteFault

/-- Whether board temperature is at or above a limit in 0.1 °C. -/
def boardGe (s : Block) (t : Int) : Bool := decide (sgn 32 (s.g HID.BOARDSUM) ≥ t * s.g HID.BOARDCNT)

/-! ### The ladder -/

/-- The entry threshold of stage `k` and the threshold below which it is left (R436), in 0.1 °C. -/
def stageIn (k : Nat) : Int := if k = 1 then 850 else if k = 2 then 950 else if k = 3 then 1050 else 1150
def stageOut (k : Nat) : Int := if k = 1 then 800 else if k = 2 then 900 else 1000

/-- The stage the ladder moves to at a boundary, at most one away (R435 to R437). -/
def ladderNext (s : Block) : Nat :=
  let k := s.g PWR.PWR_STAT.LADDER
  if k ≥ 4 ∨ s.g HID.TSNUM = 0 then k
  else if s.g PWR.PWR_STAT.SENS_VALID = 0 then (if k < 2 then k + 1 else if k > 2 then k - 1 else k)
  else if s.boardGe (stageIn (k + 1)) then k + 1
  else if k > 0 ∧ s.boardGe (stageOut k) = false then k - 1
  else k

/-- Class N scans are aborted at entry into stage 3 (R437): they publish nothing and count as no overrun. -/
def shedScans (s : Block) : List (Nat × Nat) → Block
  | [] => s
  | (e, j) :: t =>
    (match s.scan e j with
     | some c => if s.on TSK.TSK_CFG.LS e j then s else s.loseScan e j c false false
     | none => s).shedScans t

/-- Each slice of a list goes to its safe states and is SAFE (R240). -/
def slicesSafe (s : Block) : List Nat → Block
  | [] => s
  | sl :: t => (if s.slState sl = 0 then (s.sliceSafe sl).slStop sl 1 else s.sliceSafe sl).slicesSafe t

/-- What a module at stage 4 or in HALT drives (R438, R439): its safe states; a partner of a pair only while it has seen no
renewal of its partner for 6.0 ms of its lease clock. -/
def haltDrive (s : Block) (lc : Nat) : Block :=
  if !s.paired then s.slicesSafe (List.range 9)
  else
    let s1 := s.leaseAt lc
    if s1.leaseSince HID.SEENAT 0 ≥ 6000 then (s1.p PAIR.PAIR_STAT.DRIVING 1).slicesSafe (List.range 9)
    else (s1.slicesSafe (List.range 9)).stopDriving

/-- A RENEW that the pair block sees in HALT (R439): the partner's outputs return to not driving. -/
def haltRenew (s : Block) (h : Hdr) (lc : Nat) : Block :=
  let s1 := s.leaseAt lc
  if s1.fromPartner h then (s1.p HID.SEENAT (s1.g HID.LEASENOW)).haltDrive lc else s1

/-- Entry into stage 4 at a boundary, after its batches have committed (R438). -/
def stage4 (s : Block) (lc : Nat) : Block :=
  let s1 := ((s.abortScans allSlots).haltDrive lc).audAlone
  (s1.snapAsk.p HID.SPILLING 1).recSpillAll.stoRequest 0x31

/-- What a stage that has just been entered from below sheds (R415, R432, R436, R437). -/
def stageUp (s : Block) (k lc : Nat) : Block :=
  let s1 := ((s.p PWR.PWR_STAT.LADDER k).fire EV.PWR.STAGE_UP).lifeAdd 8 (k - 1) 1
  if k = 1 then ((s1.p PERF.SMP_CFG.EN 0).updDrop 0).updDrop 1
  else if k = 2 then (s1.p XLT.XLT_STAT.PW_BUSY 0).p HID.PWLEFT 0
  else if k = 3 then (s1.shedScans allSlots).ringStage3
  else s1.stage4 lc

/-- The ladder at step 1 of a boundary (R437). -/
def ladderStep (s : Block) (lc : Nat) : Block :=
  let k := s.g PWR.PWR_STAT.LADDER
  let m := s.ladderNext
  if m = k then s
  else if m > k then s.stageUp m lc
  else
    let s1 := (s.p PWR.PWR_STAT.LADDER m).fire EV.PWR.STAGE_DOWN
    if m = 2 then s1.ringBelow3 else s1

/-- The stage the ladder takes at a start (R437): the highest whose entry threshold, less 5 °C, board temperature
reaches. -/
def ladderStart (s : Block) : Nat :=
  if s.g HID.TSNUM = 0 then 0
  else if s.g PWR.PWR_STAT.SENS_VALID = 0 then 2
  else ((List.range 5).filter fun k => k != 0 && s.boardGe (stageIn k - 50)).foldl max 0

/-- HALT_ENTER (R438, R447): the stop sequence of stage 4 has ended. -/
def haltEnter (s : Block) : Block :=
  if s.g PWR.PWR_STAT.LADDER ≠ 4 ∨ s.g HID.PWRST ≠ 0 then s
  else
    let s1 := (s.linksDown.p MOD.MOD_STATUS.RUN 0).p HID.PWRST 1
    (s1.wr HID.HELDEV 0 EV.PWR.THERMAL_STOP 1).noteFault

end Block
end Sys2Proof.Machine
end

