-- ==== Sys2Proof/Machine/Restart.lean ====
section
/-!
DEFINITION. Restarts and starts: their kinds and causes (R129 to R132), what each does to every block (R132), the
configuration it restores (R459, R405), start-up (R433, R434), activation and fall-back (R416 to R418).
-/
namespace Sys2Proof.Machine
namespace Block

/-- Whether a field keeps its value through a reset (R5): kind 0 is a power-on, 1 a cold restart, 2 a warm restart.
Fields that a store holds are given back by the store (R459). -/
def keepsValue (kind : Nat) (f : Nat) : Bool :=
  match clsOf f with
  | none => true
  | some .std => kind == 2
  | some .keep => kind != 0
  | some .zero => false
  | some .cfg => false
  | some .cfgCR => kind == 2
  | some .cfgKeep => kind != 0
  | some .rtc => true
  | some .hold => true

/-- Whether a restart of a kind reloads a field from its store (R5, R459): the MOD_FIRE state always (R132). -/
def reloads (kind : Nat) (f : Nat) : Bool := (!keepsValue kind f && (clsOf f).any Cls.stored) || f == MOD.MOD_STATUS.FIRE.code

/-- What a cold restart leaves although its register table gives it a reset value: the blocks that R132 calls not
affected or kept (key vault, metrology gateway's view but for the counters that its table clears, recorder, boot banks), and
slice outputs. -/
def keptBlocks (f : Nat) : Bool :=
  let page := f / 32 / 4096
  page == 0x0C0 || page == 0x0D1 || (page == 0x070 && !codeIn [MET.MET_LINK.CRC_ERR, MET.MET_LINK.GAPS] f) ||
    codeIn updStoreFields f ||
    codeIn [DIO.DIO_STAT.STATE, AIO.AIO_STAT.STATE, DIO.DIO_STAT.CAUSE, AIO.AIO_STAT.CAUSE, AUD.AUD_STAT.AUTONOMOUS, AIO.AIO_CH_VAL.VAL, HID.DTERM, HID.DFILT, HID.DWB] f

/-- The register values after a reset of a kind, before the stores give theirs. -/
def resetCells (s : Block) (kind : Nat) : Block :=
  { s with cells := s.cells.filter fun c => keepsValue kind c.1.f || (kind != 0 && keptBlocks c.1.f) }

/-! ### The beginning of a restart -/

/-- Outputs that are pending under the governor when a restart comes (R132). -/
def notePending (s : Block) : List Nat → Block
  | [] => s
  | c :: t => (if s.dch HID.DPEND c = 1 then (s.setDch HID.DPEND c 0).setDch HID.DREPEND c 1 else s).notePending t

/-- Every opened batch aborts (R132). -/
def abortOpen (s : Block) : List Nat → Block
  | [] => s
  | id :: t => (s.abortBatch id 0x0A 0).abortOpen t

/-- Every requester's tag is cleared (R132). -/
def clearTags (s : Block) : List Nat → Block
  | [] => s
  | q :: t => (((s.wr HDR.BATCH_TAG.ID 0 q 0).wr HDR.BATCH_TAG.VALID 0 q 0).wr HDR.BATCH_TAG.ENDED 0 q 0).clearTags t

/-- A restart begins (R59, R132, R416): nothing is released until it is complete, every release has its record (R25), sessions
close, opened batches abort, and no OUTCOME leaves (R164). `cause` as in PWR_START.CAUSE. -/
def restartBegin (s : Block) (cause : Nat) (warm : Bool) : Block :=
  let s1 := (s.endReleases.sesEndAll (some 6) allSes).abortOpen (AMap.keys s.batches)
  let s2 := ((s1.clearTags (List.range 68)).notePending (List.range 96)).linksDown
  let s3 := ((s2.p MOD.MOD_STATUS.RUN 0).p HID.CMDPEND 0).p HID.UPDREVERT 0
  let s4 := ((s3.p HID.RESTART (cause + 1)).p HID.RESTARTAT s.tick).p HID.RESTARTKIND (b2n warm)
  { s4 with commitQ := [] }

/-- The restart that MOD_CMD or UPD_CMD REVERT has asked for, at step 1 of a boundary (R59, R417). -/
def restartStep (s : Block) : Block :=
  if s.g HID.CMDPEND = 0x10 then s.restartBegin 3 true
  else if s.g HID.CMDPEND = 0x11 then s.restartBegin 2 false
  else if s.on HID.UPDREVERT 0 0 then s.restartBegin 5 true
  else s

/-- The commit of ACTIVATE of a staging slot (R416): the restart begins, and the snapshot of this boundary is taken. -/
def activate (s : Block) (k : Nat) : Block := ((s.restartBegin 4 true).p HID.ACTSLOT (k + 1)).p HID.KRETDUE s.tick

/-- Whether the start watchdog may have run out (R417, R434): 2.5 s, and START_WAIT, since the start began, as far as a grid of
ticks measures it. -/
def watchdogOver (s : Block) : Bool :=
  !s.islandUp 32 || decide (s.tick ≥ s.g HID.RESTARTAT + 10000 + 400 * s.g PTP.PTP_LIMITS.START_WAIT)

/-- TRIAL_WATCHDOG (R417): no release of a trial image within the start watchdog. An activation whose restart has not
completed has copied its image. -/
def trialWatchdog (s : Block) : Block :=
  if s.g HID.PWRST ≠ 0 ∨ s.watchdogOver = false then s
  else
    let s1 := if s.g HID.ACTSLOT ≠ 0 then (s.bootTake (s.g HID.ACTSLOT - 1)).p HID.ACTSLOT 0 else s
    if s1.on UPD.UPD_STAT.TRIAL 0 0 && s1.on HID.STARTPEND 0 0 || s.g HID.ACTSLOT != 0 then
      (s1.restartBegin 5 true).p HID.TRIALFAIL 1
    else s

/-- Slices as a wake from OFF or DARK finds them (R237, R429): SAFE, or in FAULT while a cause holds (R238). -/
def slicesWake (s : Block) : List Nat → Block
  | [] => s
  | sl :: t => (s.slStop sl (if s.slCause sl = 0 then 1 else 2)).slicesWake t

/-- The causes of slice faults that a restart decides (R238): DIS follows the ENABLE that the restart leaves, CFG whether there
is a configuration. -/
def slicesCheck (s : Block) : List Nat → Block
  | [] => s
  | sl :: t =>
    let s1 := if !s.on HDR.PAGE_CTRL.ENABLE (slPage sl) 0 then s.causeSet sl 4
      else if (s.slCause sl).testBit 4 then s.causeClear sl 4 else s
    (if s1.on HID.UNCFG 0 0 then s1.causeSet sl 3 else if (s1.slCause sl).testBit 3 then s1.causeClear sl 3 else s1).slicesCheck t

/-- No island has been woken yet in a start from OFF, DARK or HALT (R170). -/
def wakeNone (s : Block) : Block := (s.p RISE.RISE_WAKE.SLOTS 0).p RISE.RISE_WAKE.WOKEN 0

/-- SUPPLY_POWER_UP (R428, R433, R129): a start from OFF is warm after a brown-out, a start from DARK a power-on. Islands
that had no power clear their benches (R15). -/
def powerUp (s : Block) : Block :=
  if s.g HID.PWRST < 2 then s
  else
    let off := s.g HID.PWRST == 2
    let s1 := ((s.rtcSwitch false).p HID.PWRST 0).p PWR.PWR_STAT.WARN 0
    let s2 := { s1 with bench := [], shared := [], points := [] }.restartBegin (if off then 1 else 0) off
    let s3 := ((s2.setAll HID.DREPEND 0 (List.range 96)).slicesWake (List.range 9)).wakeNone
    (if off then s3.sat PWR.PWR_COUNT.BROWNOUTS 0 0 1 else s3).dipCount

/-- HALT_EXIT (R438): the module starts as after a brown-out once board temperature has fallen below 80 °C. -/
def haltExit (s : Block) : Block :=
  if s.g HID.PWRST ≠ 1 ∨ s.g PWR.PWR_STAT.SENS_VALID = 0 ∨ s.boardGe 800 = true then s
  else ({ (s.p HID.PWRST 0) with bench := [], shared := [] }.restartBegin 6 true).wakeNone

/-! ### The end of a restart -/

/-- What a start finds in the stores (R405, R420): invalid banks, stores with none. -/
def readStores (s : Block) : List Nat → Block
  | [] => s
  | id :: t =>
    let s1 := s.stoRead id
    (if (s.stoCur id).isNone then (s1.p HID.NOBANK 1).fireIf (decide (id ≤ 0x22)) EV.STO.NO_BANK else s1).readStores t

/-- The configuration that a restart restores (R459): each store's bank in force gives the fields that are reloaded. -/
def reloadAll (s : Block) (kind : Nat) : Block :=
  let s1 := (s.stoReload 0x01 (reloads kind)).stoReload 0x20 (reloads kind)
  let map := ((s1.stoCur 0x20).map fun (x : Bool × Bank) => x.2.map).getD []
  let s2 := s1.msgCopy s1.msgFlash
  if kind = 2 then s2 else { s2 with updImg := [], pmap := map }

/-- The tables of both roots as a start makes them from the tower point map (R173, assumption 133). -/
def mapTables (s : Block) : Block := (s.buildTables (s.g XLT.XLT_ROOT0.ROOT0)).buildTables (s.g XLT.XLT_ROOT1.ROOT1)

/-- What a start from OFF or DARK takes from the stores besides (R405, R383): user keys, the histograms, the boot banks,
the spill area. -/
def reloadPower (s : Block) : Block :=
  let s1 := ((s.stoReload 0x22 fun _ => true).stoReload 0x31 fun _ => true).stoReload 0x33 fun _ => true
  let s2 := { s1 with keyMat := ((s1.stoCur 0x22).map fun (x : Bool × Bank) => x.2.mats).getD [] }
  if (s2.stoCur 0x32).isNone then { s2 with spill := [] } else s2

/-- The verdict on an activation (R416): the staged header's proof, then the payload's digest. -/
def actVerdict (s : Block) (k : Nat) (x : StartIn) : Nat :=
  let c := s.proofCode (s.updHdr k) x.sigOk
  if c ≠ 0 then c else if x.digestOk then 0 else 0x0B

/-- The image a restart runs (R416, R417): its firmware reads the stores. -/
def bootImage (s : Block) (cause slot : Nat) (x : StartIn) : Block :=
  if cause = 5 then s.bootSwap
  else if cause = 4 ∧ slot ≠ 0 ∧ s.actVerdict (slot - 1) x = 0 then s.bootTake (slot - 1)
  else s

/-- What a restart into another image brings with it, once the stores are read (R416 to R418): `c` is the verdict on an
activation. A failed activation has booted the current image again; the slot becomes BAD. -/
def bootStep (s : Block) (cause slot : Nat) (trial : Bool) (c : Nat) : Block :=
  if cause = 5 then (s.fireIf trial EV.UPD.TRIAL_FAIL).bootRevert
  else if cause = 4 ∧ slot ≠ 0 then
    if c = 0 then (((s.p HID.JUSTACT 1).stoHold cfgStoreIds).stoRequests cfgStoreIds).stoRequest 0x33
    else
      let k := slot - 1
      let s1 := (s.p (updState k) 4).p (if k = 0 then UPD.UPD_SLOT0.CODE else UPD.UPD_SLOT1.CODE) c
      s1.fire EV.UPD.ACT_FAIL
  else s

/-- The program sets and the areas of every slot after a restart (R130 to R132). A power-on restarts a slot warm only
with RET_CFG.PO_WARM. -/
def restartSlots (s : Block) (warm po : Bool) : List (Nat × Nat) → Block
  | [] => s
  | (e, j) :: t =>
    let s1 := s.restartSlot e j (warm || (po && s.on TSK.RET_CFG.PO_WARM e j))
    ((s1.clearInput e j).settle e j).restartSlots warm po t

/-- Every engine's program set. -/
def reloadProgs (s : Block) : List Nat → Block
  | [] => s
  | e :: t => (s.reloadProg e).reloadProgs t

/-- The force tables after a restart (R132, R127), `s0` being the module before it: each is empty; at a warm restart that is a
change where it held a valid entry, and the empty table goes to history, at a cold one it goes there with generation 0. -/
def restartForces (s s0 : Block) (warm : Bool) : List Nat → Block
  | [] => s
  | e :: t =>
    let held := (List.range 256).any fun k => s0.on TSK.FORCE_TGT.VALID e k
    let s1 := (s.clearForces e (List.range 256)).wr TSK.FORCE_STAT.ACTIVE e 0 0
    (if !warm then (s1.wr TSK.FORCE_STAT.GEN e 0 0).histForces e
     else if held then (s1.wrap TSK.FORCE_STAT.GEN e 0 1).histForces e else s1).restartForces s0 warm t

/-- Every credit of the engines' queues is free again (R11). -/
def engCreditsFull (s : Block) : List Nat → Block
  | [] => s
  | e :: t => (s.wr ENG.ENG_BQ_CREDIT.CREDITS e 0 64).engCreditsFull t

/-- Every credit of the transmitters' queues is free again (R11). -/
def txCreditsFull (s : Block) : List Nat → Block
  | [] => s
  | x :: t => (s.wr AUD.RING_Q_CREDIT.CREDITS 0 x 4).txCreditsFull t

/-- The queues of R11, empty. -/
def creditsFull (s : Block) : Block :=
  let s1 := (s.engCreditsFull (List.range 16)).txCreditsFull (List.range 16)
  ((s1.p BAT.LOOP_Q_CREDIT.CREDITS 128).p RCTL.RX_Q_CREDIT.CREDITS 512).p XLT.IMG_Q_CREDIT.CREDITS 1024

/-- What a restart empties: queues, caches, frames, gathered transfers. -/
def emptyWork (s0 : Block) : Block :=
  let s := s0.creditsFull
  { s with sealed := false, remoteIn := [], batches := [], fixed := [], engQ := [], loopQ := [], scans := [], relPend := [],
           wcache := [], ucache := [], overlay := [], deliv := [], ftouch := [], loopWait := [], loopHist := [], capFifo := [],
           txQ := [], seen := [], rxBuf := [], domPend := [], alarms := [], segAns := [], places := [], xfer := [],
           ckpt := [], smp := [], asks := [], sesAns := [], xouts := [], commitQ := [], imgQ := [], imgWait := [], farLast := [],
           audQ := s.audQ.filter (fun a => match a.what with | .start _ _ _ _ _ => true | .stop _ => true | .stopFire => true | _ => false),
           audRx := [] }

/-- The pair at a start (R366): a paired module starts fenced and waits for a renewal of its partner. -/
def pairStart (s : Block) : Block :=
  if s.paired then ((s.stopDriving.p PAIR.PAIR_STAT.ROLE 3).p HID.JOINTWAIT 1).p HID.JOINTAT s.tick
  else (s.p PAIR.PAIR_STAT.ROLE 0).p PAIR.PAIR_STAT.DRIVING 0

/-- The limit of a start, in ms (R433), by its cause. -/
def startLimit (cause : Nat) : Nat :=
  if cause = 0 then 2500 else if cause = 1 ∨ cause = 6 then 600 else if cause = 4 then 80 else 400

/-- The module without a valid configuration (R405, R434). -/
def noteConfig (s : Block) : Block :=
  if s.noCfgBank then (s.p HID.UNCFG 1).p MOD.MOD_ID.MODULE_ID 0 else s.p HID.UNCFG 0

/-- The islands that a start has not woken yet wake before it completes (R170); a WAKE_DONE that the router held when the
configuration was loaded stands. `s0` is the module before. -/
def wakeRest (s s0 : Block) : Block :=
  ((s.p RISE.RISE_WAKE.SLOTS 8).p RISE.RISE_WAKE.WOKEN 31).fireIf
    (decide (s0.g RISE.RISE_WAKE.SLOTS < 8) || s0.rd EVR.SRC_COUNT.COUNT 0 EV.RISE.WAKE_DONE != 0) EV.RISE.WAKE_DONE

/-- What a start at a ladder stage finds shed (R315, R415, R436, R437). -/
def startShed (s : Block) (k : Nat) : Block :=
  let s1 := if k ≥ 1 then (s.updDrop 0).updDrop 1 else s
  if k ≥ 3 then s1.ringStage3 else (((s1.wr HID.RSTOP 0 0 0).wr HID.RSTOP 0 1 0).wr HID.RSLOW 0 0 0).wr HID.RSLOW 0 1 0

/-- RESTART_READY (R433, R434, R129 to R132): the restart in progress completes. A hot start waits; a start whose root
fuses cannot be read stops at step 2. -/
def restartReady (s0 : Block) (x : StartIn) : Block :=
  let cause := s0.g HID.RESTART - 1
  let power := cause == 0 || cause == 1 || cause == 6
  if s0.g HID.RESTART = 0 ∨ s0.g HID.PWRST ≠ 0 ∨ s0.on HID.VAULTSTOP 0 0 then s0
  else if power && s0.g HID.TSNUM != 0 && s0.g PWR.PWR_STAT.SENS_VALID != 0 && s0.boardGe 1100 then s0
  else if power && x.rootFail then ((s0.p HID.SELFFAIL 1).p HID.VAULTSTOP 1).noteFault
  else
    let warm := s0.on HID.RESTARTKIND 0 0
    let kind := if cause = 0 then 0 else if warm then 2 else 1
    let slot := s0.g HID.ACTSLOT
    let trial := s0.on HID.TRIALFAIL 0 0
    let ramp := s0.ladderStart
    let s1 := ((s0.stoDamage x.damaged).resetCells kind).emptyWork
    let verdict := s1.actVerdict (slot - 1) x
    let s2 := ((s1.routerReset.bootImage cause slot x).readStores storeIds).reloadAll kind
    let s3 := (if power then (s2.reloadPower.keyStart x.debug x.vaultFail).debugFollow else s2).mapTables
    let s4 := (s3.bootStep cause slot trial verdict).noteConfig.slicesCheck (List.range 9)
    let s5 := { s4 with kret := (s4.stoCur 0x30).bind fun (b : Bool × Bank) => b.2.snap }
    let s6 := (s5.reloadProgs (List.range 16)).restartSlots warm (cause == 0) allSlots
    let s7 := (if power then (fun (a : Block) => a.p HID.RESTARTAT (a.tick - 4 * x.ms)) s6.seedTick else s6).ptpStart
    let s8 := (((s7.startShed ramp).p PWR.PWR_STAT.LADDER ramp).p PWR.PWR_START.CAUSE cause).p MOD.MOD_STATUS.WARM (b2n warm)
    let s9 := (((s8.restartForces s0 warm (List.range 16)).p MOD.MOD_STATUS.FORCED 0).fireIf s0.anyForce EV.MOD.FORCE_OFF).p
      HID.STARTMS x.ms
    let s10 := ((s9.p HID.WAITLEFT (400 * s9.g PTP.PTP_LIMITS.START_WAIT)).lifeAdd 9 2 1).pairStart
    let s11 := if power then s10.wakeRest s0 else s10
    let s12 := if s11.on AUD.AUD_STAT.AUTONOMOUS 0 0 then s11 else s11.audReload
    let s13 := if s12.on RTC.RTC_STAT.OSF 0 0 then s12.wr HID.HELDEV 0 EV.RTC.OSF 1 else s12
    (s13.releaseHeld.p HID.RESTART 0).noteFault

/-- Whether the first release after a start is withheld at this boundary, because the clock is not locked and START_WAIT has
not passed (R340). -/
def withheld (s : Block) : Bool :=
  s.on HID.STARTPEND 0 0 && s.g HID.WAITLEFT != 0 && s.ptpState != 3 && s.ptpState != 5

/-- A boundary at which it is. -/
def withhold (s : Block) : Block := (s.p HID.WAITLEFT (s.g HID.WAITLEFT - 1)).sat HID.WAITED 0 0 1

/-- The first boundary of a start at which tasks may be released (R61, R422, R434): START_MS is set, with the time that the
lock wait added, RESTART_DONE fires, START_SLOW beyond the limit that START_WAIT extends, and ACTIVATED for a trial image. -/
def firstBoundary (s : Block) : Block :=
  if !s.on HID.STARTPEND 0 0 then s
  else
    let ms := s.g HID.STARTMS + s.g HID.WAITED / 4
    let lim := startLimit (s.g PWR.PWR_START.CAUSE) + 100 * s.g PTP.PTP_LIMITS.START_WAIT
    let s0 := ((s.p HID.STARTPEND 0).p PWR.PWR_START.START_MS (min ms 4095)).fire EV.MOD.RESTART_DONE
    let s1 := (s0.p HID.WAITLEFT 0).fireIf (decide (ms > lim)) EV.PWR.START_SLOW
    (s1.fireIf (s.on HID.JUSTACT 0 0) EV.UPD.ACTIVATED).p HID.JUSTACT 0

/-- Whether tasks may be released at all (R108, R434, R438, R416): the module runs, no restart is in progress, it is
configured, and the ladder is below stage 4. -/
def mayRelease (s : Block) : Bool :=
  s.g HID.PWRST == 0 && s.g HID.RESTART == 0 && !s.on HID.UNCFG 0 0 && s.g PWR.PWR_STAT.LADDER != 4

end Block
end Sys2Proof.Machine
end

