-- ==== Sys2Proof/Machine/Regs.lean ====
section
/-!
DEFINITION. The register window as it reads (R1, R34 to R39, R44): which page an offset lies on, which index a
selector picks, the fields that show other state, PAGE_STAT, and reads that have an effect (R37, FIFO pops).
-/
namespace Sys2Proof.Machine

/-- The instance and the fields of a page by its index (R35); none for an index that the map does not assign. -/
def pageKind (p : Nat) : Option (Nat × List Fld) :=
  if p = 0x000 then some (0, modFields) else if p = 0x001 then some (0, evrFields)
  else if p = 0x002 then some (0, batFields) else if p = 0x003 then some (0, riseFields)
  else if 0x010 ≤ p ∧ p < 0x020 then some (p - 0x010, engFields)
  else if 0x020 ≤ p ∧ p < 0x030 then some (p - 0x020, tskFields)
  else if 0x030 ≤ p ∧ p < 0x040 then some (p - 0x030, loopFields)
  else if p = 0x040 then some (0, xltFields) else if p = 0x041 then some (0, tinFields)
  else if 0x050 ≤ p ∧ p < 0x056 then some (p - 0x050, dioFields)
  else if 0x058 ≤ p ∧ p < 0x05B then some (p - 0x058, aioFields)
  else if p = 0x05C then some (0, capFields) else if p = 0x060 then some (0, audFields)
  else if 0x061 ≤ p ∧ p < 0x065 then some (p - 0x061, zoneFields)
  else if p = 0x070 then some (0, metFields)
  else if p = 0x080 ∨ p = 0x081 then some (p - 0x080, ringFields)
  else if p = 0x082 then some (0, rctlFields)
  else if 0x088 ≤ p ∧ p < 0x090 then some (p - 0x088, segFields)
  else if p = 0x090 then some (0, svcFields) else if p = 0x0A0 then some (0, ptpFields)
  else if p = 0x0A1 then some (0, rtcFields) else if p = 0x0B0 then some (0, pairFields)
  else if p = 0x0B1 then some (0, peelFields) else if p = 0x0C0 then some (0, keyFields)
  else if p = 0x0C1 then some (0, sesFields) else if p = 0x0D0 then some (0, stoFields)
  else if p = 0x0D1 then some (0, recFields) else if p = 0x0D2 then some (0, updFields)
  else if p = 0x0E0 then some (0, perfFields) else if p = 0x0E1 then some (0, lifeFields)
  else if p = 0x0F0 then some (0, pwrFields) else none

/-- The instance and the fields of the register at an offset of the module window, the header's included (R38); no
fields for a reserved offset (R2, R34). -/
def regAt (off : Nat) : Nat × List Fld :=
  match pageKind (off / 4096) with
  | none => (0, [])
  | some (i, l) =>
    if off % 4096 < 0x040 then (off / 4096, hdrFields.filter fun f => f.off == off % 4096)
    else (i, l.filter fun f => f.off == off % 4096)

/-- Whether PAGE_CTRL.ENABLE of a page is fixed at 1 (R38). -/
def enableFixed (p : Nat) : Bool :=
  [0x000, 0x001, 0x040, 0x041, 0x060, 0x070, 0x082, 0x0A0, 0x0A1, 0x0B0, 0x0C0, 0x0D0, 0x0D1, 0x0E1, 0x0F0].contains p

/-- A number for each requester, for what R37 holds per requester: those of `reqHeld`, then tasks, ring peers, loops and
the two blocks. -/
def holdKey : Req → Nat
  | .fw c => c.val
  | .ses n => 4 + n.val
  | .task e j => 68 + 8 * e.val + j.val
  | .peer id _ _ _ => 196 + id % 256
  | .loop n => 452 + n.val
  | .pairBlk => 708
  | .peelBlk => 709

/-- The fields of a register with their values, as one word. -/
def packWord : List (Fld × Nat) → Nat
  | [] => 0
  | (f, v) :: t => v % 2 ^ f.w * 2 ^ f.lo + packWord t

namespace Block

/-- The index that a requester's own selector picks for a field on page `i` of its kind (R44); a requester without
selectors reads as if they held 0 (R462). -/
def selOwn (s : Block) (r : Req) (i : Nat) (f : Fld) : Nat :=
  match f.sel with
  | .none => 0
  | .req => 0
  | .route => s.own EVR.ROUTE_SEL.SOURCE 0 r
  | .area => winIdx (s.own ENG.AREA_SEL.SLOT i r) (s.own ENG.AREA_SEL.AREA i r) (s.own ENG.AREA_SEL.BANK i r)
  | .slot => s.own TSK.SLOT_SEL.SLOT i r
  | .force => s.own TSK.FORCE_SEL.ENTRY i r
  | .bat => s.own BAT.BAT_SEL.ID 0 r
  | .riseCh => s.own RISE.RISE_CH_SEL.CH 0 r
  | .dom => s.own XLT.XLT_DOM_SEL.UNIT 0 r
  | .tin => s.own TIN.TIN_SEL.ENTRY 0 r
  | .loop => s.own LOOP.LOOP_SEL.LOOP i r
  | .loopSet => s.own LOOP.LOOP_SEL.LOOP i r + 16 * s.own LOOP.LOOP_SEL.SET i r
  | .grp => s.own LOOP.GRP_SEL.GROUP 0 r
  | .dioCh => s.own DIO.DIO_CH_SEL.CH i r
  | .aioCh => s.own AIO.AIO_CH_SEL.CH i r
  | .capCh => s.own CAP.CAP_SEL.CH 0 r
  | .src => s.own AUD.SRC_SEL.SRC 0 r
  | .tx => s.own AUD.TX_SEL.TX 0 r % 8
  | .zone => s.own ZONE.ZONE_SEL.ENTRY i r % 4
  | .rslot => s.own RCTL.SLOT_SEL.SLOT 0 r
  | .rfire => s.own RCTL.FIRE_SEL.FIRE_SEL 0 r
  | .node => s.own SEG.NODE_SEL.NODE i r
  | .stat =>
    if f.page = 0x080 then s.own RING.STAT_SEL.INDEX i r
    else if f.page = 0x088 then s.own SEG.STAT_SEL.INDEX i r
    else if f.page = 0x090 then s.own SVC.STAT_SEL.INDEX 0 r
    else s.own PAIR.STAT_SEL.INDEX 0 r
  | .peel => scanKey (s.own PEEL.PEEL_SEL.ENGINE 0 r) (s.own PEEL.PEEL_SEL.SLOT 0 r)
  | .key => s.own KEY.KEY_SEL.SLOT 0 r
  | .ses => s.own SES.SES_SEL.SESSION 0 r
  | .sto => s.own STO.STO_SEL.STORE 0 r
  | .recSrc => s.own REC.REC_SRC_SEL.SOURCE 0 r
  | .perf => s.own PERF.PERF_SEL.COUNTER 0 r
  | .life => 32 * s.own LIFE.LIFE_SEL.HIST 0 r + s.own LIFE.LIFE_SEL.BIN 0 r

/-- The index that picks the object of a field for an access: the requester's selector, or the index that a peer's STAGE
frame carries (R303). -/
def selIdx (s : Block) (r : Req) (i : Nat) (f : Fld) : Nat :=
  match r with
  | .peer _ _ _ _ => if f.sel = .none ∨ f.sel = .req then 0 else s.g HID.PEERSEL
  | _ => s.selOwn r i f

/-- The page instance under which a requester's copy of a field is held: BATCH_TAG and GRP_SEL are one on all pages (R39,
R221). -/
def reqInst (f : Fld) (i : Nat) : Nat := if f.page = 0 ∨ f = LOOP.GRP_SEL.GROUP then 0 else i

/-- The page instance under which a field is held: GRP_STAT is one table on all LOOP pages. -/
def instOf (f : Fld) (i : Nat) : Nat := if f.sel = .grp then 0 else i

/-- The index that a requester's selector picks for the register at an offset. -/
def selAt (s : Block) (r : Req) (off : Nat) : Nat :=
  match (regAt off).2 with
  | [] => 0
  | f :: _ => s.selIdx r (regAt off).1 f

/-- Fields that show other state and have a reset value: `extra` gives them. -/
def shownFlds : List Fld := [BAT.BAT_POOL.FREE_ENTRIES, BAT.BAT_POOL.FREE_IDS, CAP.CAP_STAT.FLAGS, CAP.CAP_FIFO_L.TS_L]

/-- What a field that is held in cells reads as (R1): WO fields read 0. ZONE_STAT.LINE shows OFF and UNSUPERVISED besides
the declared states, and every page shows the one copy of BATCH_TAG (R39). -/
def fieldAt (s : Block) (r : Req) (i k : Nat) (f : Fld) : Nat :=
  if f.acc = .wo ∨ shownFlds.contains f then 0
  else if f.sel = .req then s.own f (reqInst f i) r
  else if f = ZONE.ZONE_STAT.LINE then s.zoneLine (4 * i + k)
  else s.rd f (instOf f i) k

/-- The word of a fire input register: four entries of 8 bits (R60). -/
def fireWord (s : Block) (hi : Nat) : Nat :=
  ((List.range 4).map fun j => (s.fireInCh (4 * hi + j) + 128 * b2n (s.fireInEn (4 * hi + j))) * 256 ^ j).sum

/-- BAT_STATE.STATE of a batch (R148). -/
def stCode : BState → Nat
  | .opened => 1 | .doomed => 2 | .requested => 3 | .sealed => 4 | .prepared => 5

/-- Whether an engine holds a scan that executes or is preempted (ENG_STATE.BUSY). -/
def engBusy (s : Block) (e : Nat) : Bool := (List.range 8).any fun j => (s.scan e j).any fun c => c.started

/-- A bit for each of a list's indices that has a property. -/
def maskBits (p : Nat → Bool) (n : Nat) : Nat := ((List.range n).map fun k => if p k then 2 ^ k else 0).sum

/-- The fields of BAT_STATE and BAT_STICK that the selected batch shows (R148). -/
def batWord (s : Block) (id o : Nat) : Nat :=
  match s.batches.find id with
  | none => 0
  | some b =>
    let t := match b.st with | .opened => 0 | .doomed => 0 | _ => b.ctick
    if o = 0x054 then
      stCode b.st + 8 * b2n b.xmod + 16 * b2n b.ls + 32 * b2n b.remote + 256 * (b.tin % 256) + 65536 * countEntries b.entries
    else if o = 0x058 then t % 2 ^ 32
    else t / 2 ^ 32 % 2 ^ 32

/-- The bank in force of a store as STO_STAT and STO_SEQ show it. -/
def stoWord (s : Block) (id o : Nat) : Nat :=
  let st := s.sto id
  let cur := s.stoCur id
  if !storeIds.contains id then 0
  else if o = 0x044 then
    b2n st.b0.isSome + 2 * b2n st.b1.isSome + 4 * b2n (cur.any fun x => x.1) + 8 * b2n st.held.isSome +
      65536 * ((cur.map fun x => x.2.fmt).getD 0 % 65536)
  else (cur.map fun x => x.2.seq).getD 0 % 2 ^ 32

/-- A word of the record a requester has selected (R412): 0 where it is gone; what it reads as while the record is
fetched is open (assumption 26). -/
def recWord (s : Block) (r : Req) (w : Nat) : Nat :=
  if s.own HID.RECBUSY 0 r = 1 then Config.freeWord (s.g HID.SERIALNO) % 2 ^ 32
  else match s.recOf r with
    | none => 0
    | some x => ((recWords x)[w]?).getD 0

/-- What the fields that show other state add to the register at an offset of a page; their cells hold 0. -/
def extra (s : Block) (r : Req) (i k p o : Nat) : Nat :=
  if p = 0x000 then
    (if o = 0x044 then 16 * s.g PWR.PWR_STAT.LADDER + 256 * s.role
     else if o = 0x04C then s.tick % 2 ^ 32 else if o = 0x050 then s.tick / 2 ^ 32 % 2 ^ 32
     else if o = 0x060 then s.lampWord else 0)
  else if p = 0x001 then
    (if o = 0x040 then 2 * b2n (decide (s.alarmCount ≥ 64))
     else if o = 0x04C ∧ fixedSrc k then
       256 * (1 - s.rd EVR.ROUTE_DATA.SUP 0 k) + 512 * (1 - s.rd EVR.ROUTE_DATA.REC 0 k) else 0)
  else if p = 0x002 then
    (if o = 0x054 ∨ o = 0x058 ∨ o = 0x05C then s.batWord k o
     else if o = 0x064 then s.freeEntries + 65536 * s.freeIds
     else if o = 0x06C ∧ s.g BAT.LOOP_Q_CREDIT.CREDITS = 0 then 2 ^ 31 else 0)
  else if p = 0x003 then
    (if o = 0x054 then 65536 * s.dch HID.DPEND k else if o = 0x058 then s.pendingCount else 0)
  else if 0x010 ≤ p ∧ p < 0x020 then
    (if o = 0x044 then 8 * b2n (s.engBusy i)
     else if o = 0x048 ∧ s.rd ENG.ENG_BQ_CREDIT.CREDITS i 0 = 0 then 2 ^ 31 else 0)
  else if 0x030 ≤ p ∧ p < 0x040 then (if o = 0x0B8 then s.grpWord k else 0)
  else if 0x020 ≤ p ∧ p < 0x030 then
    (if o = 0x058 then 8 * s.slotBank i k + 16 * s.rd HID.FIRSTPEND i k else 0)
  else if p = 0x040 then
    (if o = 0x044 then 4096 * min s.overlay.length 64
     else if (o = 0x078 ∨ o = 0x07C) ∧ s.rd HID.DOMNAMED 0 k = 0 then
       (let d := s.domEntry k
        if o = 0x078 then d.1 + 16 * d.2.1 else d.2.2)
     else if o = 0x0A0 ∧ s.g XLT.IMG_Q_CREDIT.CREDITS = 0 then 2 ^ 31 else 0)
  else if p = 0x041 then (if o = 0x044 ∧ k < 2 then 256 + k else 0)
  else if 0x050 ≤ p ∧ p < 0x056 then
    (let c := 16 * i + k
     if o = 0x048 then putBit (s.dStatus c % 512) 0 (s.dch HID.DFILT c == 1)
     else if o = 0x054 then 2 ^ 15 * (s.fsGroup i)
     else if o = 0x064 then maskBits (fun k => s.isIn (16 * i + k) && s.dch HID.DFILT (16 * i + k) == 1) 16
     else if o = 0x068 then
       maskBits (fun k => s.isOut (16 * i + k) && s.point (dchBase (16 * i + k)) % 2 == 1) 16 +
         65536 * maskBits (fun k => s.isOut (16 * i + k) && s.phys (16 * i + k)) 16
     else 0)
  else if 0x058 ≤ p ∧ p < 0x05B then (if o = 0x058 then s.aStatus (16 * i + k) % 1024 else 0)
  else if p = 0x05C then
    (let off := !s.on HDR.PAGE_CTRL.ENABLE 0x05C 0 || s.rd CAP.CAP_CFG.MODE 0 k == 0
     if o = 0x04C then (if off then 1 else s.capFlags k) + 256 * (s.capFifoOf k).length
     else if o = 0x050 then (if off then 0 else uns 32 (s.capSpeed k (s.tick * 25000)))
     else if o = 0x054 then s.rd HID.CAPPOS 0 k else if o = 0x058 then s.capFifoLow k else 0)
  else if p = 0x060 then
    (if o = 0x044 then 16 * maskBits s.mpOn 4
     else if o = 0x050 then b2n (s.srcActive k)
     else if o = 0x058 ∧ 4 ≤ k ∧ k < 8 then s.rd HID.MPPOS 0 (k - 4)
     else if o = 0x064 ∧ s.rd AUD.RING_Q_CREDIT.CREDITS 0 k = 0 then 2 ^ 31 else 0)
  else if p = 0x070 then
    (if 0x074 ≤ o ∧ o ≤ 0x080 then s.metLogWord r ((o - 0x074) / 4)
     else if o = 0x088 ∨ o = 0x08C then s.metTampWord r ((o - 0x088) / 4)
     else if o = 0x094 then s.metParWord r else 0)
  else if p = 0x082 then (if o = 0x060 ∧ s.g RCTL.RX_Q_CREDIT.CREDITS = 0 then 2 ^ 31 else 0)
  else if p = 0x0B0 then
    (if o = 0x054 ∧ s.paired then
       min 65535 (s.leaseSince HID.ACKEDAT 0) + 65536 * min 65535 (s.leaseSince HID.SEENAT 0) else 0)
  else if p = 0x0B1 then
    (if o = 0x050 ∧ s.rd PEEL.PEEL_STAT.STATE 0 k = 0 ∧ s.parked (k / 8) (k % 8) then 5 else 0)
  else if p = 0x0C0 then
    (if o = 0x058 then (s.keyOutOf r).headD 0 % 2 ^ 32
     else if o = 0x05C then min 255 (s.keyOutOf r).length else 0)
  else if p = 0x0C1 then
    (if o = 0x050 ∧ s.rd SES.SES_STATE.STATE 0 k = 2 then
       min 65535 ((s.tick - s.rd HID.SESLAST 0 k) / 4000) + 65536 * min 65535 ((s.tick - s.rd HID.SESREADY 0 k) / 240000)
     else if o = 0x054 then (match r with | .ses n => n.val + 64 | _ => 0)
     else if o = 0x060 then (s.lockouts.filter fun x => decide (s.tick < x.at_ + 240000)).length else 0)
  else if p = 0x0D0 then (if o = 0x044 ∨ o = 0x048 then s.stoWord k o else 0)
  else if p = 0x0D1 then
    (if o = 0x044 then s.recStat r else if o = 0x04C then s.recOldest % 2 ^ 24
     else if o = 0x050 then 65536 * min 65535 s.unspilled.length
     else if 0x080 ≤ o ∧ o < 0x0C0 then s.recWord r ((o - 0x080) / 4) else 0)
  else if p = 0x0E0 then
    (if o = 0x068 then s.smp.length
     else if o = 0x06C then (s.smp.headD (0, 0, 0, 0)).1 % 2 ^ 32
     else if 0x070 ≤ o ∧ o < 0x07C then s.own HID.SMPW ((o - 0x06C) / 4) r else 0)
  else 0

/-- PAGE_STAT.BLOCK_STAT of a page, as its chapter defines it. -/
def blockStat (s : Block) (p : Nat) : Nat :=
  if p = 0x000 then b2n (s.g HID.CMDPEND != 0)
  else if p = 0x002 then b2n (!s.batches.isEmpty)
  else if p = 0x003 then b2n (s.pendingCount != 0)
  else if 0x010 ≤ p ∧ p < 0x020 then b2n (s.engBusy (p - 0x010)) + 2 * s.rd ENG.ENG_STATE.SWAP_PEND (p - 0x010) 0
  else if 0x020 ≤ p ∧ p < 0x030 then
    maskBits (fun j => tskFields.any fun f => f.off == 0x05C && s.rd f (p - 0x020) j != 0) 8 +
      256 * b2n (s.rd TSK.FORCE_STAT.ACTIVE (p - 0x020) 0 != 0)
  else if 0x030 ≤ p ∧ p < 0x040 then
    maskBits (fun j => (List.range 8).any fun b => s.rd (loopAlertBit b) (p - 0x030) j != 0) 16
  else if p = 0x040 then s.g XLT.XLT_STAT.HOLD_OLD + 2 * s.g XLT.XLT_STAT.PW_BUSY
  else if p = 0x041 then 2 + ((List.range 62).filter fun k => s.on TIN.TIN_ENTRY.VALID 0 (k + 2)).length
  else if 0x050 ≤ p ∧ p < 0x056 then s.slState (p - 0x050)
  else if 0x058 ≤ p ∧ p < 0x05B then s.slState (p - 0x052)
  else if p = 0x05C then
    ((List.range 48).filter fun c => !s.on HDR.PAGE_CTRL.ENABLE 0x05C 0 || s.rd CAP.CAP_CFG.MODE 0 c == 0 ||
      (s.capFlags c).testBit 0).length
  else if p = 0x060 then s.g AUD.AUD_STAT.AUTONOMOUS
  else if 0x061 ≤ p ∧ p < 0x065 then maskBits (fun j => s.zoneLine (4 * (p - 0x061) + j) != 0) 4
  else if p = 0x070 then s.g MET.MET_SEAL.STATE
  else if p = 0x080 ∨ p = 0x081 then s.rd RING.PORT_STAT.LINK (p - 0x080) 0
  else if p = 0x082 then s.g RCTL.RCTL_STAT.STATE
  else if 0x088 ≤ p ∧ p < 0x090 then s.segOk (p - 0x088)
  else if p = 0x090 then s.g SVC.SVC_STAT.LINK
  else if p = 0x0A0 then s.g PTP.PTP_STAT.STATE
  else if p = 0x0A1 then s.g RTC.RTC_STAT.OSF + 2 * s.g RTC.RTC_STAT.ON_VBAT
  else if p = 0x0B0 then s.role
  else if p = 0x0B1 then b2n ((List.range 128).any fun k => s.peeling (k / 8) (k % 8))
  else if p = 0x0C0 then s.g KEY.KEY_RESULT.BUSY
  else if p = 0x0C1 then ((List.range 64).filter fun n => s.rd SES.SES_STATE.STATE 0 n != 0).length
  else if p = 0x0D0 then b2n (storeIds.any fun id => s.on STO.STO_STAT.WRITING 0 id)
  else if p = 0x0D1 then b2n (s.on HID.SPILLING 0 0 || decide (s.unspilled.length ≥ 512))
  else if p = 0x0D2 then s.g UPD.UPD_STAT.TRIAL
  else if p = 0x0E0 then s.g PERF.PERF_CTRL.RUN + 2 * s.g PERF.SMP_CFG.EN
  else if p = 0x0E1 then s.g LIFE.LIFE_STAT.REPLACE
  else if p = 0x0F0 then s.g PWR.PWR_STAT.LADDER
  else 0

/-- The page that an entry's target lies on, for a register. -/
def tgtPage : Target → Option Nat
  | .reg off _ => some (off / 4096)
  | .regBit off _ => some (off / 4096)
  | _ => none

/-- PAGE_STAT (R38): STAGED while an open batch holds an entry that targets the page. -/
def pageStat (s : Block) (p : Nat) : Nat :=
  let staged := s.batches.any fun b => b.2.entries.any fun e => tgtPage e.tgt == some p
  s.blockStat p % 2 ^ 29 + 2 ^ 29 * b2n (s.rd HDR.EV_PEND.EV_PEND p 0 != 0) +
    2 ^ 30 * b2n (s.rd HDR.ERR_CODE.CODE p 0 != 0) + 2 ^ 31 * b2n staged

/-- The EV_ENABLE bits of a page's fixed sources (R52). -/
def fixedMask (p : Nat) : Nat := maskBits (fun k => fixedSrc ((pageEvents p).1 + k)) (pageEvents p).2

/-- The header registers that show other state (R38); none where the cells hold the register. -/
def headerWord (s : Block) (p o : Nat) : Option Nat :=
  if o = 0x000 then some ((pageBlock p).1 * 2 ^ 24 + (pageBlock p).2 * 65536 + 0x0100)
  else if o = 0x004 then some ((pageEvents p).1 + 65536 * (pageEvents p).2)
  else if o = 0x00C then some (s.pageStat p)
  else if o = 0x014 then some (Nat.lor (s.rd HDR.EV_ENABLE.EV_ENABLE p 0) (fixedMask p))
  else if o = 0x01C then some (s.rd HDR.EV_PEND.EV_PEND p 0)
  else none

/-- What a register reads as for a requester, with no effect of the read (R1, R2, R462). -/
def regVal (s : Block) (r : Req) (off : Nat) : Nat :=
  let p := off / 4096
  let o := off % 4096
  let x := regAt off
  let k := s.selAt r off
  if (pageKind p).isNone then 0
  else if o < 0x040 then (s.headerWord p o).getD (packWord (x.2.map fun f => (f, s.fieldAt r x.1 0 f)))
  else if p = 0x000 ∧ (o = 0x058 ∨ o = 0x05C) then s.fireWord ((o - 0x058) / 4)
  else if p = 0x0A0 ∧ 0x054 ≤ o ∧ o ≤ 0x060 then
    (if o = 0x054 then s.ptpNow (Config.freeWord (s.g HID.SERIALNO)) % 1000000000
     else if o = 0x058 then s.ptpNow 0 / 1000000000 % 2 ^ 32
     else if o = 0x05C then s.ptpNow 0 / 1000000000 / 2 ^ 32 % 65536
     else Config.freeWord (s.g HID.SERIALNO) % 65536)
  else packWord (x.2.map fun f => (f, s.fieldAt r x.1 k f)) + s.extra r x.1 k p o

/-! ### Rights on what a selector names -/

/-- The owner tin of the object that the selector of the register at an offset names (R194); none for a register that
names no such object. -/
def selOwner (s : Block) (r : Req) (off : Nat) : Option Nat :=
  let i := (regAt off).1
  let k := s.selAt r off
  match (regAt off).2 with
  | [] => none
  | f :: _ =>
    match f.sel with
    | .slot => some (s.rd TSK.TSK_CFG.TIN i k)
    | .force => some (s.rd TSK.TSK_CFG.TIN i (s.rd TSK.FORCE_TGT.SLOT i k))
    | .area => some (s.rd TSK.TSK_CFG.TIN i (k % 8))
    | .loop => some (s.rd LOOP.LOOP_CFG.TIN i k)
    | .loopSet => some (s.rd LOOP.LOOP_CFG.TIN i (k % 16))
    | .route => some (s.routeOwner k)
    | .recSrc => some (s.routeOwner k)
    | .dioCh => some (s.chanOwner (dchBase (16 * i + k)))
    | .aioCh => some (s.chanOwner (achBase (16 * i + k)))
    | .capCh => some (s.chanOwner (dchBase (k / 8 * 16 + k % 8)))
    | .riseCh => some (s.chanOwner (dchBase k))
    | .peel => some (s.rd TSK.TSK_CFG.TIN (k / 8) (k % 8))
    | _ => none

/-- The second check of R194: a requester that is not of tin 0 or tin 1 reaches an object of its own tin only. -/
def selOk (s : Block) (r : Req) (x : Right) (off : Nat) : Bool :=
  match s.selOwner r off with
  | none => true
  | some t => s.tinOf r == 0 || s.tinOf r == 1 || (t == s.tinOf r && s.holds r x)

/-- Whether a word of the selected record is denied to a requester (R412). -/
def recDenied (s : Block) (r : Req) (off : Nat) : Bool :=
  0x0D1080 ≤ off && decide (off < 0x0D10C0) && s.tinOf r != 0 && s.tinOf r != 1 &&
    ((s.recOf r).any fun x => x.owner != s.tinOf r)

/-! ### Reads with an effect -/

/-- What a read of a register does besides (R37, R242, R397, R412, R453): a FIFO pops, and an _L half takes the
snapshot of its _H half. -/
def readEffect (s : Block) (r : Req) (off : Nat) : Block :=
  let s1 :=
    if off = 0x05C058 then s.capPop (s.own CAP.CAP_SEL.CH 0 r)
    else if off = 0x0C0058 then s.keyOutPop r
    else if off = 0x0E006C then (s.smpPop r).1
    else if off = 0x0A0054 then
      s.takeFree.1.ptpNsRead (holdKey r) (Config.freeWord (s.g HID.SERIALNO)) (Config.freeWord (s.g HID.SERIALNO))
    else if 0x0A0058 ≤ off ∧ off ≤ 0x0A0060 then s.wr HID.SNAPHV off (holdKey r) 0
    else s
  if isLow off then (s1.wr HID.SNAPH off (holdKey r) (s1.regVal r (off + 4))).wr HID.SNAPHV off (holdKey r) 1
  else if isHigh off ∧ s1.on HID.SNAPHV (off - 4) (holdKey r) then s1.wr HID.SNAPHV (off - 4) (holdKey r) 0
  else s1

/-- The value that a read of a register returns (R37): an _H half from its snapshot, a FIFO its oldest entry. -/
def readValue (s : Block) (r : Req) (off : Nat) : Nat :=
  if isHigh off ∧ s.on HID.SNAPHV (off - 4) (holdKey r) then s.rd HID.SNAPH (off - 4) (holdKey r)
  else if 0x0A0058 ≤ off ∧ off ≤ 0x0A0060 ∧ s.on HID.SNAPHV off (holdKey r) then s.rd HID.SNAPH off (holdKey r)
  else s.regVal r off

/-- A read of the register at an offset by a requester, once translation has passed (R194, R412): the state after, the
code and the value. -/
def readReg (s : Block) (r : Req) (off : Nat) : Block × Nat × Nat :=
  if !s.selOk r .read off || s.recDenied r off then (s.selectorDenied r .read off (s.g HID.SELLEVEL) (s.g HID.SELHOPS) none, 0x01, 0)
  else (s.readEffect r off, 0, s.readValue r off)

/-- The checks of R36 on an access of `size` bytes, as a code: width before alignment. -/
def widthCode (off size : Nat) : Nat := if size ≠ 4 then 0x0D else if off % 4 ≠ 0 then 0x08 else 0

end Block
end Sys2Proof.Machine
end

