-- ==== Sys2Proof/Machine/Access.lean ====
section
/-!
DEFINITION. Writes of registers (R1 to R3, R36 to R45, R460, R461): the header registers, the fields that act at once,
the commands of the WO fields, and the checks of a staging in the order of R461.
-/
namespace Sys2Proof.Machine

/-- The bits of a written word that a field takes. -/
def Fld.of (f : Fld) (w : Nat) : Nat := w / 2 ^ f.lo % 2 ^ f.w

/-- Whether a written word carries, for a field of an access code, a value outside the field's range (R460). -/
def badRange (l : List Fld) (a : Acc) (w : Nat) : Bool :=
  l.any fun f => f.acc == a && (decide (f.of w < f.mn) || decide (f.of w > f.mx))

/-- The bits of a word that lie in fields staged as RWS. -/
def stagedBits (l : List Fld) (w : Nat) : Nat := packWord ((l.filter fun f => f.acc == .rws).map fun f => (f, f.of w))

/-- Whether a register holds a field of an access code. -/
def hasAcc (l : List Fld) (a : Acc) : Bool := l.any fun f => f.acc == a

/-- Whether every field of a register is RO (R3). -/
def allRo (l : List Fld) : Bool := l.all fun f => f.acc == .ro

namespace Block

/-! ### The fields that act at once (R1) -/

/-- A write of one field that is not staged. -/
def writeFld (s : Block) (r : Req) (i k w : Nat) (f : Fld) : Block :=
  match f.acc with
  | .rw => if f.sel = .req then s.setOwn f (reqInst f i) r (f.of w) else s.wr f (instOf f i) k (f.of w)
  | .rwl => s.wr f (instOf f i) k (f.of w)
  | .w1c => s.wr f (instOf f i) k (Nat.land (s.rd f (instOf f i) k) (2 ^ f.w - 1 - f.of w))
  | .w1s => s.wr f (instOf f i) k (Nat.lor (s.rd f (instOf f i) k) (f.of w))
  | _ => s

/-- A write of every field of a register that is not staged. -/
def writeFlds (s : Block) (r : Req) (i k w : Nat) : List Fld → Block
  | [] => s
  | f :: t => (s.writeFld r i k w f).writeFlds r i k w t

/-- Whether a page is locked. -/
def locked (s : Block) (p : Nat) : Bool := s.on HDR.PAGE_CTRL.LOCK p 0

/-- Whether a written word differs from the current value of an RWL field (R1, R3). -/
def rwlDiffers (s : Block) (i k w : Nat) (l : List Fld) : Bool :=
  l.any fun f => f.acc == .rwl && f.of w != s.rd f (instOf f i) k

/-- A write of a register with fields that act at once: RWL fields only while the page is unlocked (R1, R3), and
nothing where a value lies outside its range (R460). -/
def directWrite (s : Block) (r : Req) (off v : Nat) : Block × Nat :=
  let x := regAt off
  let k := s.selAt r off
  if s.locked (off / 4096) && hasAcc x.2 .rwl then
    let s1 := s.writeFlds r x.1 k v (x.2.filter fun f => f.acc != .rwl)
    if s.rwlDiffers x.1 k v x.2 then (s1.refuse (off / 4096) 0x02 r off, 0x02) else (s1, 0)
  else if badRange x.2 .rw v || badRange x.2 .rwl v then (s.refuse (off / 4096) 0x08 r off, 0x08)
  else (s.writeFlds r x.1 k v x.2, 0)

/-- A fire input register: four entries of 8 bits (R60). Only an entry with EN = 1 that names an output records 0x08: the
model's choice (assumption 112). -/
def fireInWrite (s : Block) (r : Req) (hi v : Nat) : Block × Nat :=
  let off := 0x058 + 4 * hi
  let ch := if hi = 0 then MOD.MOD_FIRE_IN0.CHANNEL else MOD.MOD_FIRE_IN1.CHANNEL
  let en := if hi = 0 then MOD.MOD_FIRE_IN0.EN else MOD.MOD_FIRE_IN1.EN
  let b (j : Nat) : Nat := v / 256 ^ j % 256
  let l := List.range 4
  if s.locked 0 then
    (if l.any fun j => b j != s.rd ch 0 j + 128 * s.rd en 0 j then (s.refuse 0 0x02 r off, 0x02) else (s, 0))
  else if l.any fun j => decide (b j % 128 ≥ 96) then (s.refuse 0 0x08 r off, 0x08)
  else
    let s1 := l.foldl (fun (a : Block) j => (a.wr ch 0 j (b j % 128)).wr en 0 j (b j / 128)) s
    if l.any fun j => decide (b j ≥ 128) && s1.isOut (b j % 128) then (s1.refuse 0 0x08 r off, 0x08) else (s1, 0)

/-! ### The header (R38) -/

/-- EV_CLEAR: each 1 clears the bit in EV_RAW and in EV_PEND. -/
def evClear (s : Block) (p v : Nat) : Block :=
  let keep := 2 ^ 32 - 1 - v % 2 ^ 32
  (s.wr HDR.EV_RAW.EV_RAW p 0 (Nat.land (s.rd HDR.EV_RAW.EV_RAW p 0) keep)).wr HDR.EV_PEND.EV_PEND p 0
    (Nat.land (s.rd HDR.EV_PEND.EV_PEND p 0) keep)

/-- EV_ENABLE: writes to the bits of fixed sources are ignored, bits beyond EV_COUNT are reserved (R38, R52). -/
def evEnable (s : Block) (p v : Nat) : Block :=
  let own := maskBits (fun k => !fixedSrc ((pageEvents p).1 + k)) (pageEvents p).2
  s.wr HDR.EV_ENABLE.EV_ENABLE p 0 (Nat.land v own)

/-- ERR_CODE.CLEAR (R38). -/
def errClear (s : Block) (p : Nat) : Block :=
  let s1 := ((s.wr HDR.ERR_CODE.CODE p 0 0).wr HDR.ERR_CODE.REQ p 0 0).wr HDR.ERR_CODE.TIN p 0 0
  let s2 := (s1.wr HDR.ERR_CODE.COUNT p 0 0).wr HDR.ERR_ADDR.OFFSET p 0 0
  (s2.wr HDR.ERR_ADDR.BATCH p 0 0).wr HDR.ERR_ADDR.BATCH_VALID p 0 0

/-- A write of BATCH_TAG (R39 to R41, R43): the copy is the same on every page. Any batch that has not ended and that the
requester opened, or the module for it, counts as open by it: the model's choice (assumption 113). -/
def tagWrite (s : Block) (r : Req) (p v : Nat) : Block × Nat :=
  match reqHeld r with
  | none => (s, 0)
  | some _ =>
    if v.testBit 8 && !(s.batches.find (v % 64)).any fun b => decide (b.opener = r) then
      (s.refuse p 0x08 r (p * 4096 + 0x020), 0x08)
    else (s.setTag r (v % 64) (bitN v 8), 0)

/-- Whether a confirmed part targets a page (R163). -/
def preparedOn (s : Block) (p : Nat) : Bool :=
  s.batches.any fun b => b.2.confirmed && b.2.entries.any fun e => tgtPage e.tgt == some p

/-- PAGE_CTRL.LOCK becomes 1 (R45, R61). -/
def lockPage (s : Block) (p : Nat) : Block :=
  if s.locked p then s else (s.wr HDR.PAGE_CTRL.LOCK p 0 1).fire EV.MOD.PAGE_LOCKED

/-! ### Staging -/

/-- A refused staging of a register (R152, R460, R461): recorded on its page, and the tagged batch is doomed. A task's
staged write fails by itself. -/
def refuseStage (s : Block) (r : Req) (off c : Nat) : Block × Nat :=
  ((s.errR (off / 4096) c r off (s.tagNow r)).stageRefused r c, c)

/-- Stage the targets of one write; a refusal is recorded on the page of the register. -/
def stageAll (s : Block) (r : Req) (off : Nat) (l : List (Target × Nat)) : Block × Nat :=
  match s.stageFor r l 0 none with
  | (s1, 0) => (s1, 0)
  | (s1, c) => (s1.errR (off / 4096) c r off (s.tagNow r), c)

/-- Whether the staged word of an I or Q word may be forced by a requester (R126): the force right on the leaf of every
point that the word reaches, and tin 0 or tin 1 for class LS. The supervisor firmware, which acts as tin 0 (R186), may
force too: the model's choice (assumption 114). -/
def forceOk (s : Block) (r : Req) (e j area w : Nat) : Bool :=
  let l := s.wordAddrs e j area w
  let held (a : Nat) : Bool :=
    match s.walkEnd a (s.tinOf r) (s.holds r .force) .force (s.leafFor a s.genNow none) with
    | .fault _ _ _ _ => false
    | .ok _ _ _ _ _ _ _ => true
  match r with
  | .ses _ => l.all held && (s.tinOf r == 0 || s.tinOf r == 1 || !l.any s.addrLS)
  | .fw _ => l.all held
  | _ => false

/-- The FORCE_TGT of an entry as the batch the requester tags would leave it (R124, R126). -/
def forceTgtOf (s : Block) (r : Req) (e k : Nat) : Nat :=
  let now := s.rd TSK.FORCE_TGT.SLOT e k * 2 ^ 17 + s.rd TSK.FORCE_TGT.AREA e k * 2 ^ 16 + s.rd TSK.FORCE_TGT.WORD e k
  match (s.tagNow r).bind s.batches.find with
  | some b => ((b.entries.filter fun (x : Entry) => decide (x.tgt = .reg (0x020094 + 0x1000 * e) k)).getLast?.map
      fun (x : Entry) => x.val).getD now
  | none => now

/-- A staging of an entry's FORCE_TGT, FORCE_MASK or FORCE_VALUE is judged on the target as it leaves it (R126). -/
def forceStageOk (s : Block) (r : Req) (e k o v : Nat) : Bool :=
  let t := if o = 0x094 then v else s.forceTgtOf r e k
  s.forceOk r e (bits t 19 17) (bitN t 16) (t % 2 ^ 15)

/-- Whether a requester may stage a channel's configuration (R225, R194): the configure right, and for a change of
MODE or LS on a channel whose leaf is class LS tin 0 or tin 1. -/
def chanStageOk (s : Block) (r : Req) (a : Nat) (changes : Bool) : Bool :=
  (s.tinOf r == 0 || s.tinOf r == 1 || s.chanOwner a == s.tinOf r) && s.holds r .configure &&
    (!changes || !s.chanLS a || s.tinOf r == 0 || s.tinOf r == 1)

/-- The offsets of a TSK page that R104 keeps for sessions of tin 0 with the configure right. -/
def tskCfgReg (o : Nat) : Bool := [0x044, 0x048, 0x04C, 0x050, 0x078, 0x07C, 0x080, 0x084, 0x08C].contains o

/-- Whether a requester has what the register's chapter asks of a staging beyond translation (step 3 of R461). -/
def stageRight (s : Block) (r : Req) (off k v : Nat) : Bool :=
  let p := off / 4096
  let o := off % 4096
  let i := (regAt off).1
  if 0x060 ≤ p ∧ p ≤ 0x064 then s.holds r .configure
  else if o < 0x040 then true
  else if p = 0x001 then s.routeStageCode r k v == 0
  else if 0x020 ≤ p ∧ p < 0x030 then
    (if tskCfgReg o then s.tin0cfg r
     else if 0x094 ≤ o ∧ o ≤ 0x09C then s.forceStageOk r i k o v else true)
  else if 0x030 ≤ p ∧ p < 0x040 then
    (if loopNeedsCfg o then s.tin0cfg r else if o = 0x064 then s.loopClassCode r (16 * i + k) == 0 else true)
  else if p = 0x040 then
    (if o = 0x078 ∨ o = 0x07C then s.tin0cfg r || r == .pairBlk || r == .peelBlk
     else if o = 0x06C ∨ o = 0x070 then s.tin01cfg r else true)
  else if p = 0x041 then s.tin0cfg r
  else if 0x050 ≤ p ∧ p < 0x056 then
    (if o = 0x044 then
       let c := 16 * i + k
       s.chanStageOk r (dchBase c) (v % 8 != s.dch DIO.DIO_CH_CFG.MODE c || bitN v 3 != s.dch DIO.DIO_CH_CFG.LS c)
     else true)
  else if 0x058 ≤ p ∧ p < 0x05B then
    (if 0x044 ≤ o ∧ o ≤ 0x050 then
       let c := 16 * i + k
       s.chanStageOk r (achBase c)
         (o == 0x044 && (v % 16 != s.dch AIO.AIO_CH_CFG.MODE c || bitN v 7 != s.dch AIO.AIO_CH_CFG.LS c))
     else true)
  else if p = 0x0A1 then s.tin0cfg r
  else if p = 0x0B0 then s.pairCtrlCode r v != 1
  else if p = 0x0B1 then (if o = 0x04C then s.peelStageCode r (k / 8) (k % 8) v != 1 else true)
  else if p = 0x0D1 then s.tin0cfg r
  else if p = 0x0D2 then s.tin0cfg r
  else true

/-- Whether LOCK refuses a staging of a register (R45): ENABLE, or a register with an RWS field locked by LOCK. -/
def stageLocked (s : Block) (off : Nat) : Bool :=
  s.locked (off / 4096) && (off % 4096 == 0x008 || (regAt off).2.any fun f => f.acc == .rws && f.lock)

/-- What the tagged batch of a requester already holds. -/
def tagEntries (s : Block) (r : Req) : List Entry := ((s.tagged r).map fun b => b.2.entries).getD []

/-- The state of the target at a staging, step 5 of R461: 0x09 or 0x0A. -/
def stageState (s : Block) (r : Req) (off k v : Nat) : Nat :=
  let p := off / 4096
  let o := off % 4096
  let i := (regAt off).1
  if o < 0x040 then (if o = 0x008 ∧ 0x061 ≤ p ∧ p < 0x065 ∧ v % 2 = 0 ∧ s.inFire then 0x0A else 0)
  else if 0x010 ≤ p ∧ p < 0x020 ∧ o = 0x040 then
    (if v.testBit 0 && (s.on ENG.ENG_CTRL.SWAP i 0 || s.on ENG.ENG_STATE.SWAP_PEND i 0) then 0x0A else 0)
  else if 0x030 ≤ p ∧ p < 0x040 then
    (if s.loopStageCode r (16 * i + k % 16) o (s.regVal r off) v (s.tagEntries r) = 0x09 then 0x09 else 0)
  else if 0x061 ≤ p ∧ p < 0x065 ∧ 0x048 ≤ o ∧ o < 0x068 then
    (if s.reqStageCode ((o - 0x048) / 4) v = 0x0A then 0x0A else 0)
  else if p = 0x0B0 then (if s.pairCtrlCode r v = 0x0A then 0x0A else 0)
  else if p = 0x0D2 then (if s.on HDR.PAGE_CTRL.ENABLE 0x0D2 0 then 0 else 0x0A)
  else 0

/-- The events a performance counter may count (R451). -/
def perfEventOk (ev : Nat) : Bool :=
  ([0x000, 0x001, 0x060, 0x061, 0x062, 0x070, 0x080, 0x081, 0x090, 0x091, 0x092, 0x0A0, 0x0A1, 0x0B0].contains ev) ||
    (decide (0x010 ≤ ev) && decide (ev ≤ 0x01E)) || (decide (0x040 ≤ ev) && decide (ev ≤ 0x043))

/-- The value at a staging, step 6 of R461: 0x08 or 0x0D. -/
def stageValue (s : Block) (r : Req) (off k v : Nat) : Nat :=
  let p := off / 4096
  let o := off % 4096
  let i := (regAt off).1
  let l := (regAt off).2
  if o < 0x040 then (if o = 0x008 ∧ enableFixed p then 0x0D else 0)
  else if 0x050 ≤ p ∧ p < 0x056 ∧ o = 0x044 ∧ v % 8 > 4 then 0x0D
  else if 0x058 ≤ p ∧ p < 0x05B ∧ o = 0x044 ∧ v % 16 > 6 then 0x0D
  else if badRange l .rws v then 0x08
  else if p = 0x003 ∧ o = 0x040 ∧ (List.range 6).any (fun d => bits v (2 * d + 17) (2 * d + 16) == 3) then 0x08
  else if 0x020 ≤ p ∧ p < 0x030 then
    (if o = 0x044 ∧ !s.tinActive (bits v 15 8) then 0x08
     else if 0x078 ≤ o ∧ o ≤ 0x084 ∧ v.testBit 15 then
       (if v % 2048 ≥ 1152 ∨ (796 ≤ v % 2048 ∧ v % 2048 ≤ 799) then 0x08 else s.bindCode i k (v % 2048))
     else 0)
  else if 0x030 ≤ p ∧ p < 0x040 then
    (if o = 0x064 ∧ bits v 5 4 = 2 ∧ s.lp LOOP.LOOP_CFG.KIND (16 * i + k) = 1 then 0x08 else 0)
  else if p = 0x040 ∧ (o = 0x078 ∨ o = 0x07C) then
    (if k > 0xFFF ∨ unitReserved k then 0x08
     else if o = 0x078 then
       (if v % 4 = 1 ∧ ¬ (1 ≤ k ∧ k ≤ 0xFE) then 0x08 else if v % 4 = 2 ∧ ¬ (1 ≤ k ∧ k ≤ 0xFE) then 0x08 else 0)
     else 0)
  else if p = 0x041 then
    (if k < 2 then (if v % 512 = 256 + k then 0 else 0x0D)
     else if v.testBit 8 && ((v % 256) < 2 || (List.range 62).any fun n =>
         n + 2 != k && s.on TIN.TIN_ENTRY.VALID 0 (n + 2) && s.rd TIN.TIN_ENTRY.TIN 0 (n + 2) == v % 256) then 0x08 else 0)
  else if 0x061 ≤ p ∧ p < 0x065 ∧ 0x048 ≤ o ∧ o < 0x068 then s.reqStageCode ((o - 0x048) / 4) v
  else if p = 0x060 ∧ o = 0x054 ∧ ¬ (4 ≤ k ∧ k < 8) then 0x08
  else if p = 0x0B1 ∧ o = 0x04C then s.peelStageCode r (k / 8) (k % 8) v
  else if p = 0x0E0 ∧ o = 0x048 then
    (if !perfEventOk (v % 1024) || (decide (16 ≤ bits v 14 10) && decide (bits v 14 10 ≤ 30)) then 0x08 else 0)
  else 0

/-- The checks of a staging before its batch, in the order of R461 (steps 3 to 6). -/
def stageCheck (s : Block) (r : Req) (off k v : Nat) : Nat :=
  if !s.stageRight r off k v then 0x01
  else if s.stageLocked off then 0x02
  else if s.stageState r off k v ≠ 0 then s.stageState r off k v
  else s.stageValue r off k v

/-- The value of a dual write's leaf address and leaf, as its staged target and value (R190). -/
def dualTarget (s : Block) (r : Req) (low high : Nat) : Target × Nat :=
  (.reg 0x04006C (s.own XLT.XLT_DW_ADDR_L.ADDR_L 0 r + 2 ^ 20 * s.own XLT.XLT_DW_ADDR_H.ADDR_H 0 r), low + 2 ^ 32 * high)

/-- What the _H half of a pair holds for a write of its _L half (R37): the held value, or none. -/
def heldHigh (s : Block) (r : Req) (off : Nat) : Option Nat :=
  if s.on HID.HELDHV off (holdKey r) then some (s.rd HID.HELDH off (holdKey r)) else none

/-- The entries that a write of an RWS register stages (R37, R44, R190, R344). -/
def stageList (s : Block) (r : Req) (off k v : Nat) : List (Target × Nat) :=
  let h := s.heldHigh r off
  if off = 0x04006C then [s.dualTarget r v (h.getD (s.g XLT.XLT_DW_LEAF_H.LEAF_H))]
  else if off = 0x0A1048 then [(.reg off 0, v + 2 ^ 32 * h.getD (s.g RTC.RTC_SEC_H.SEC_H))]
  else
    match isLow off, h with
    | true, some w => [(.reg (off + 4) k, w), (.reg off k, stagedBits (regAt off).2 v)]
    | _, _ => [(.reg off k, stagedBits (regAt off).2 v)]

/-- A restated fixed entry of the active-tin table, and a fixed source's SUP and REC staged as 0, change nothing and
record no error (R52, R192). -/
def stagesNothing (off k : Nat) (v : Nat) : Bool := off == 0x041044 && decide (k < 2) && v % 512 == 256 + k

/-- The checks of a staging; a write of an _L half that applies a held _H half checks both (R37, R461). -/
def stageCheckPair (s : Block) (r : Req) (off k v : Nat) : Nat :=
  if s.stageCheck r off k v ≠ 0 then s.stageCheck r off k v
  else
    match isLow off, s.heldHigh r off with
    | true, some w => s.stageCheck r (off + 4) k w
    | _, _ => 0

/-- Walks with the force right of a list of addresses: those that fault are recorded (R126, R182). -/
def walksForce (s : Block) (r : Req) : List Nat → Block
  | [] => s
  | a :: t => (s.walk r .force a s.genNow none).1.walksForce r t

/-- The walks behind a refused staging of a force entry (R126): one for each point that its word reaches. -/
def forceWalks (s : Block) (r : Req) (off k v : Nat) : Block :=
  let o := off % 4096
  if 0x020 ≤ off / 4096 ∧ off / 4096 < 0x030 ∧ 0x094 ≤ o ∧ o ≤ 0x09C then
    (let t := if o = 0x094 then v else s.forceTgtOf r (off / 4096 - 0x020) k
     s.walksForce r (s.wordAddrs (off / 4096 - 0x020) (bits t 19 17) (bitN t 16) (t % 2 ^ 15)))
  else s

/-- A write of the RWS fields of a register (R1, R37, R42, R461); an _H half is held. A task's write passes the same
checks at its deadline and acts there (R43, R90); the commit gives its fields their values. -/
def stageWrite (s : Block) (r : Req) (off v : Nat) : Block × Nat :=
  let k := s.selAt r off
  if !s.selOk r .write off then ((s.selectorDenied r .write off (s.g HID.SELLEVEL) (s.g HID.SELHOPS) (s.tagNow r)).stageRefused r 0x01, 0x01)
  else if isHigh off then
    ((s.wr HID.HELDH (off - 4) (holdKey r) v).wr HID.HELDHV (off - 4) (holdKey r) 1, 0)
  else if s.stageCheckPair r off k v ≠ 0 then
    ((s.wr HID.HELDHV off (holdKey r) 0).forceWalks r off k v).refuseStage r off (s.stageCheckPair r off k v)
  else if stagesNothing off k v then (s, 0)
  else
    if s.on HID.ATDEADLINE 0 0 then (s, 0)
    else
      match r with
      | .task _ _ => (s, 0)
      | _ => (s.wr HID.HELDHV off (holdKey r) 0).stageAll r off (s.stageList r off k v)

/-- A write of PAGE_CTRL (R38, R45, R163): LOCK first, then ENABLE where the bit differs from its committed value. -/
def ctrlWrite (s : Block) (r : Req) (p v : Nat) : Block × Nat :=
  let off := p * 4096 + 0x008
  if v.testBit 1 && !s.locked p && s.preparedOn p then (s.refuse p 0x0A r off, 0x0A)
  else
    let s1 := if v.testBit 1 then s.lockPage p else s
    if bitN v 0 = s1.rd HDR.PAGE_CTRL.ENABLE p 0 then (s1, 0) else s1.stageWrite r off (v % 2)

/-- A write of a header register. -/
def headerWrite (s : Block) (r : Req) (off v : Nat) : Block × Nat :=
  let p := off / 4096
  let o := off % 4096
  if o = 0x000 ∨ o = 0x004 ∨ o = 0x00C ∨ o = 0x010 ∨ o = 0x018 ∨ o = 0x028 then (s.refuse p 0x0D r off, 0x0D)
  else if o = 0x008 then s.ctrlWrite r p v
  else if o = 0x014 then (s.evEnable p v, 0)
  else if o = 0x01C then (s.evClear p v, 0)
  else if o = 0x020 then s.tagWrite r p v
  else if o = 0x024 then (if v.testBit 31 then s.errClear p else s, 0)
  else (s, 0)

/-! ### Commands and registers with a rule of their own -/

/-- A write of MET_CMD by its code (R293): the operations of the island, with the requester's arguments. -/
def metCmdWrite (s : Block) (r : Req) (c : Nat) : Block × Nat :=
  let a := s.metArg0 r
  if c = 0x01 then s.metCmd r c fun x => (x.resync, 0)
  else if c = 0x10 then s.metCmd r c fun x => x.paramWrite a (s.metArg1 r)
  else if c = 0x20 then s.metCmd r c fun x => x.lrfBegin a
  else if c = 0x21 then s.metCmd r c fun x => x.lrfEnd
  else if c = 0x22 then s.metCmd r c fun x => x.lrfAbort
  else if c = 0x30 then s.metCmd r c fun x => x.batCfg a
  else if s.metCmdCode r = 0 ∨ s.metCmdCode r = 0x0A then
    (if s.metCmdCode r = 0 then s.metRefuse r 0x0D else s.metRefuse r 0x0A)
  else s.metRefuse r (s.metCmdCode r)

/-- A write of UPD_CMD by its operation (R415 to R419). The digest's verdict at END is open to the register's write
alone: it is a free value. -/
def updCmdWrite (s : Block) (r : Req) (v : Nat) : Block × Nat :=
  let op := v % 16
  let k := bitN v 4
  let pa := v.testBit 5
  if op = 1 then s.updBegin r k pa
  else if op = 2 then
    let x := s.takeFree
    x.1.updEnd r k (Config.freeWord x.2 % 2 == 1)
  else if op = 3 then s.updAbort r k
  else if op = 4 then s.updConfirm r pa
  else if op = 5 then s.updRevert r pa
  else s.updRefuse r 0x0D2044 (if s.updReqCode r ≠ 0 then s.updReqCode r else 0x0D)

/-- A write of TSK_CMD (R120). -/
def tskCmdWrite (s : Block) (r : Req) (e v : Nat) : Block × Nat :=
  let s1 := if v.testBit 1 then s.wr TSK.TSK_EXEC_MAX.EXEC_MAX e (s.own TSK.SLOT_SEL.SLOT e r) 0 else s
  if v.testBit 0 then s1.tskResume r e else (s1, 0)

/-- ENG_LOAD.PEAK_CLR. -/
def engPeakClr (s : Block) (e : Nat) : Block := s.wr ENG.ENG_LOAD.PEAK e 0 (s.rd ENG.ENG_LOAD.LOAD e 0)

/-- A new message set, which a session of tin 1 has placed through the firmware, is reloaded (R259): once accepted it is
also written to its store (R400). -/
def msgReplace (s : Block) (r : Req) (set : List (Nat × MsgInfo)) : Block × Nat :=
  if s.tinOf r ≠ 1 then (s.refuse 0x060 0x01 r 0x06006C, 0x01) else
  match s.msgReload r set with
  | (s1, 0) => ((if set == s.msgFlash then s1 else s1.stoRequest 0x21), 0)
  | x => x

/-- A write of PROG_OPEN = 0 (R99, R137, R400): the bank closes with what the loader placed, and its copy to the store of
the engine's program sets is requested. -/
def progClose (s : Block) (e : Nat) (l : ProgLoad) : Block :=
  if s.on ENG.ENG_CTRL.PROG_OPEN e 0 then (s.progOpenClear e l).stoRequest (0x10 + e) else s.progOpenClear e l

/-- A write of ENG_CTRL (R99, R137): PROG_OPEN acts at once, SWAP and DET_STRICT are staged. -/
def engCtrlWrite (s : Block) (r : Req) (e off v : Nat) : Block × Nat :=
  let x : Block × Nat :=
    if !v.testBit 1 then (s.progClose e ⟨[], [], [], []⟩, 0)
    else if s.on ENG.ENG_CTRL.PROG_OPEN e 0 then (s, 0) else s.progOpenSet r e
  if x.2 ≠ 0 then (x.1.stageRefused r x.2, x.2) else x.1.stageWrite r off v

/-- A write of XLT_CTRL (R187, R188, R191): SHADOW_OPEN and PW_START act at once, SWAP is staged. -/
def xltCtrlWrite (s : Block) (r : Req) (v : Nat) : Block × Nat :=
  let x : Block × Nat := if v.testBit 1 == s.on XLT.XLT_CTRL.SHADOW_OPEN 0 0 then (s, 0) else s.shadowOpen r (bitN v 1) []
  let y : Block × Nat := if x.2 ≠ 0 then x else if v.testBit 2 then x.1.pwStart r else x
  if y.2 ≠ 0 then (y.1.stageRefused r y.2, y.2) else y.1.stageWrite r 0x040040 v

/-- A write of PAIR_CMD (R363, R366). -/
def pairCmdWrite (s : Block) (r : Req) (v : Nat) : Block × Nat :=
  let x : Block × Nat := if v.testBit 0 then s.forceTake r else (s, 0)
  if x.2 = 0 ∧ v.testBit 1 then x.1.pairResync r else x

/-- Whether a session selects a session entry that it may not (R194, R395). -/
def sesSelDenied (s : Block) (r : Req) (v : Nat) : Bool :=
  match r with
  | .ses n => s.tinOf r != 0 && s.tinOf r != 1 && v % 64 != n.val
  | _ => false

/-- Whether a selector refuses a value of its own (R55, R194, R400). -/
def selRefused (s : Block) (r : Req) (off v : Nat) : Nat :=
  if off = 0x001048 ∧ 796 ≤ v % 2048 ∧ v % 2048 ≤ 799 then 0x08
  else if off = 0x0C1044 ∧ s.sesSelDenied r v then 0x01
  else if off = 0x0D0040 ∧ !storeIds.contains (v % 256) then 0x08
  else if off = 0x0E1040 ∧ (bits v 11 8 ≥ 12 ∨ v % 32 ≥ histBins (bits v 11 8)) then 0x08
  else 0

/-- A write of both halves of a pair of RW registers (R37): an _H half is held, an _L half applies both. -/
def pairRw (s : Block) (r : Req) (off v : Nat) : Block × Nat :=
  if isHigh off then ((s.wr HID.HELDH (off - 4) (holdKey r) v).wr HID.HELDHV (off - 4) (holdKey r) 1, 0)
  else
    match s.heldHigh r off with
    | some h => ((s.wr HID.HELDHV off (holdKey r) 0).directWrite r off v).1.directWrite r (off + 4) h
    | none => s.directWrite r off v

/-- The registers whose write is a command, or has a rule of its own; none for every other register. -/
def cmdWrite (s : Block) (r : Req) (off v : Nat) : Option (Block × Nat) :=
  let p := off / 4096
  let o := off % 4096
  let i := (regAt off).1
  if p = 0x000 then
    (if o = 0x048 then some (s.modCmd r (v % 256))
     else if o = 0x058 ∨ o = 0x05C then some (s.fireInWrite r ((o - 0x058) / 4) v) else none)
  else if p = 0x002 then
    (if o = 0x040 then some (if v.testBit 0 then s.batOpen r (v.testBit 1) else (s, 0))
     else if o = 0x044 then some (s.batCmd r (v % 8))
     else if o = 0x048 ∨ o = 0x04C then some (s.pairRw r off v) else none)
  else if 0x010 ≤ p ∧ p < 0x020 then
    (if o = 0x040 then some (s.engCtrlWrite r i off v)
     else if o = 0x050 then some (if v.testBit 31 then s.engFaultClear i else s, 0)
     else if o = 0x05C then some (if v.testBit 31 then s.engPeakClr i else s, 0)
     else if o = 0x064 then some (s.areaWinWrite r i (v % 2048) (bits v 23 12)) else none)
  else if 0x020 ≤ p ∧ p < 0x030 then (if o = 0x054 then some (s.tskCmdWrite r i v) else none)
  else if 0x030 ≤ p ∧ p < 0x040 then (if o = 0x068 then some (s.loopCmd r i (v.testBit 0)) else none)
  else if p = 0x040 then
    (if o = 0x040 then some (s.xltCtrlWrite r v)
     else if o = 0x048 ∨ o = 0x04C then some (s.tblWrite r (o == 0x04C) (v % 2 ^ 28))
     else if o = 0x050 ∨ o = 0x054 then some (s.rootWrite r ((o - 0x050) / 4) (v % 2 ^ 28))
     else if o = 0x064 ∨ o = 0x068 then some (s.pairRw r off v)
     else if o = 0x080 then some (if v.testBit 31 then s.wfClear else s, 0) else none)
  else if p = 0x041 then (if o = 0x048 then some (s.grantWrite r v) else none)
  else if 0x050 ≤ p ∧ p < 0x056 then
    (if o = 0x04C then some (if v.testBit 0 then s.dioClr r i else (s, 0))
     else if o = 0x05C then some (if v.testBit 0 then s.sliceRearm r i else (s, 0)) else none)
  else if 0x058 ≤ p ∧ p < 0x05B then
    (if o = 0x06C then some (if v.testBit 0 then s.sliceRearm r (6 + i) else (s, 0)) else none)
  else if p = 0x060 then (if o = 0x06C then some (if v.testBit 0 then s.msgReload r s.msgFlash else (s, 0)) else none)
  else if 0x061 ≤ p ∧ p < 0x065 then (if o = 0x07C then some (if v.testBit 0 then s.zoneCommission r i else (s, 0)) else none)
  else if p = 0x070 then
    (if o = 0x058 then some (s.metCmdWrite r (v % 256))
     else if o = 0x068 then some (s.lrfData r (BitVec.ofNat 32 v)) else none)
  else if p = 0x0A0 then
    (if o = 0x06C then some (s.ptpAdj r v)
     else if !s.tin0cfg r && hasAcc (regAt off).2 .rwl then some (s.refuse 0x0A0 0x01 r off, 0x01) else none)
  else if p = 0x0B0 then
    (if o = 0x048 then some (s.pairCmdWrite r v)
     else if o = 0x040 ∧ !s.locked 0x0B0 ∧ v % 256 = s.selfId then some (s.refuse 0x0B0 0x08 r off, 0x08) else none)
  else if p = 0x0B1 then (if o = 0x068 then some (if v.testBit 0 then s.peelTake r else (s, 0)) else none)
  else if p = 0x0C0 then
    (if o = 0x050 then some (s.keyDataWrite r v)
     else if o = 0x054 then some (s.keyCmd r (v % 16) (bits v 13 8) (bits v 21 16)) else none)
  else if p = 0x0C1 then (if o = 0x058 then some (if v.testBit 0 then s.sesCloseCmd r else (s, 0)) else none)
  else if p = 0x0D1 then (if o = 0x040 then some (s.recSel r (v % 2 ^ 24), 0) else none)
  else if p = 0x0D2 then
    (if o = 0x044 then some (s.updCmdWrite r v) else if o = 0x048 then some (s.updData r v) else none)
  else if p = 0x0E0 then (if o = 0x05C ∨ o = 0x060 then some (s.pairRw r off v) else none)
  else if p = 0x0E1 then (if o = 0x04C then some (if v.testBit 0 then s.lifeSave r else (s, 0)) else none)
  else if p = 0x0F0 then (if o = 0x050 then some (if v.testBit 31 then s.peakClr else s, 0) else none)
  else none

/-- A write of a block's own register. -/
def blockWrite (s : Block) (r : Req) (off v : Nat) : Block × Nat :=
  let l := (regAt off).2
  if allRo l then (s.refuse (off / 4096) 0x0D r off, 0x0D)
  else
    match s.cmdWrite r off v with
    | some y => y
    | none =>
      if hasAcc l .rws then s.stageWrite r off v
      else if s.selRefused r off v ≠ 0 then (s.refuse (off / 4096) (s.selRefused r off v) r off, s.selRefused r off v)
      else s.directWrite r off v

/-- A write of the register at an offset of the window by a requester, once translation has passed (R1 to R3, R461).
Reserved offsets and pages ignore it (R2, R34). -/
def regWrite (s : Block) (r : Req) (off v : Nat) : Block × Nat :=
  let p := off / 4096
  let l := (regAt off).2
  if (pageKind p).isNone then (s, 0)
  else if 0x060 ≤ p ∧ p ≤ 0x064 ∧ !s.holds r .configure ∧ (off % 4096 < 0x040 ∨ !l.isEmpty) then
    ((if hasAcc l .rws then s.refuseStage r off 0x01 else (s.refuse p 0x01 r off, 0x01)))
  else if off % 4096 < 0x040 then s.headerWrite r off v
  else if l.isEmpty then (s, 0)
  else if !s.selOk r .write off then
    ((if hasAcc l .rws then (s.selectorDenied r .write off (s.g HID.SELLEVEL) (s.g HID.SELHOPS) (s.tagNow r)).stageRefused r 0x01 else s.selectorDenied r .write off (s.g HID.SELLEVEL) (s.g HID.SELHOPS) none), 0x01)
  else s.blockWrite r off v

/-- REGISTER_WRITE: an access of a width, its alignment, and the write (R36, R461). -/
def regWriteAcc (s : Block) (r : Req) (off size v : Nat) : Block × Nat :=
  let c := widthCode off size
  if c ≠ 0 then
    (if hasAcc (regAt (off / 4 * 4)).2 .rws then s.refuseStage r off c else (s.refuse (off / 4096) c r off, c))
  else s.regWrite r off v

end Block
end Sys2Proof.Machine
end

