-- ==== Sys2Proof/Machine/Image.lean ====
section
/-!
DEFINITION. Image capture (R112 to R115), publication (R116, R124, R125), the words that go to other modules (R369),
and the acceptance of entries from the producers' queues into their fixed batches (R146, R153, R157).
-/
namespace Sys2Proof.Machine
namespace Block

/-! ### Points -/

/-- The word of a point of this module's store as a direct read or a capture takes it: the node and meter pages show
words of their own. -/
def pointWord (s : Block) (a : Nat) : Nat :=
  match nodeOf a with
  | some (g, j, off) => s.nodeWord g j off
  | none => if 0x1A0000 ≤ a ∧ a < 0x1B0000 then s.meterPage ((a - 0x1A0000) / 0x1000) (a % 0x1000) else s.point a

/-- The value that a resolved target of this module shows to an image: a point's word, a register's value without the
effects of reading it, or a word of history; none where the holder refuses the address (R143, R175). -/
def shown (s : Block) (r : Req) (kind a : Nat) : Block × Option Nat :=
  if kind = 0 then (s, if a ≥ 0x1000000 then none else some (s.pointWord (a / 4 * 4)))
  else if kind = 1 then (s, some (s.regVal r (a / 4 * 4)))
  else
    match s.histRead r a with
    | (s1, 0, v) => (s1, some v)
    | (s1, _, _) => (s1, none)

/-- A remote value latched at tick `t`, if it has arrived (R22, R113). -/
def remoteVal (s : Block) (addr t : Nat) : Option Nat :=
  (s.remoteIn.find? fun v => v.addr == addr && v.tick == t).map fun v => v.val

/-! ### Capture -/

/-- The value that a resolved item has for a capture at tick `n`; none when it is late (R22, R112 to R114): the slot counts its
late remote inputs (assumption 106). A fenced partner makes no access to its own points (R180). -/
def itemFrom (s : Block) (e : Fin 16) (j : Fin 8) (n : Nat) (i : InItem) : Walked → Block × Option Nat
  | .fault _ _ _ _ => (s, none)
  | .ok u _ kind a lv h _ =>
    if s.isOwn u then
      if kind = 1 ∧ !s.selOk (.task e j) .read (a / 4 * 4) then
        (s.selectorDenied (.task e j) .read (a / 4 * 4) lv h none, none)
      else
      s.shown (.task e j) kind a
    else if u = s.selfId then (s, none)
    else if n < i.ticks then (s.sat HID.LATEIN e.val j.val 1, none)
    else
      match s.remoteVal i.addr (n - i.ticks) with
      | some v => (s, some v)
      | none => (s.sat HID.LATEIN e.val j.val 1, none)

/-- The value of an input item at a capture at tick `n`, after its walk (R112 to R114); `prev` is the address of the item
before. A walk that fails is recorded. -/
def inItem (s : Block) (e : Fin 16) (j : Fin 8) (n : Nat) (prev : Option Nat) (i : InItem) : Block × Option Nat :=
  let x := s.walkRun (.task e j) .read prev i.addr
  x.1.itemFrom e j n i x.2

/-- Take one item into the I window: its word or bit, or the late flag (R112). -/
def captureItem (s : Block) (e : Fin 16) (j : Fin 8) (n : Nat) (w : Win) (prev : Option Nat) (i : InItem) : Block :=
  if i.word ≥ 16 * w.lines then s
  else
    match s.inItem e j n prev i with
    | (s1, none) => s1.setLateFlag e.val w i.word true
    | (s1, some v) =>
      match i.bit with
      | none => s1.setWinWord e.val w 0 i.word v
      | some b => s1.setWinWord e.val w 0 i.word (putBit (s1.winWord e.val w 0 i.word) b (v.testBit i.srcBit))

/-- Take the items of an image. -/
def captureItems (s : Block) (e : Fin 16) (j : Fin 8) (n : Nat) (w : Win) (prev : Option Nat) : List InItem → Block
  | [] => s
  | i :: t => (s.captureItem e j n w prev i).captureItems e j n w (some i.addr) t

/-- Clear the late flags of words. -/
def clearLate (s : Block) (e : Nat) (w : Win) : List Nat → Block
  | [] => s
  | x :: t => (s.setLateFlag e w x false).clearLate e w t

/-- The words of an I image that its items fill, each once. -/
def inWords (m : ImgMap) : List Nat := (m.ins.map fun i => i.word).eraseDups

/-- Note in the release what its capture found: the late words and whether a force applied (R25, R142). -/
def noteCapture (s : Block) (e j : Nat) (late : List Nat) (forced : Bool) : Block :=
  match s.scan e j with
  | none => s
  | some c => ((s.putScan e j { c with late := late, forced := forced }).perf 0x090 none 1).perf 0x092 none late.length

/-- The capture of a slot released at tick `n` (R112 to R114, R124). -/
def capture (s : Block) (e : Fin 16) (j : Fin 8) (n : Nat) : Block :=
  match s.scan e.val j.val with
  | none => s
  | some c =>
    let w := s.win e.val j.val c.bank 0
    let m := s.imgMap e.val j.val c.bank
    let ws := (inWords m).filter fun x => decide (x < 16 * w.lines)
    let s1 := (s.clearLate e.val w ws).captureItems e j n w none m.ins
    let f := ((s1.forcedWords e.val j.val 0).eraseDups).filter fun x => decide (x < 16 * w.lines)
    let s2 := s1.forceIn e.val j.val w f
    s2.noteCapture e.val j.val (ws.filter fun x => s2.lateFlag e.val w x) (!f.isEmpty)

/-! ### Publication -/

/-- A word of a slot's Q image in its current copy (R93). -/
def qWord (s : Block) (e j bank w : Nat) : Nat := s.winCurWord e (s.win e j bank 1) w

/-- The word as it is published, with the output forces on it (R124). -/
def qForced (s : Block) (e j w v : Nat) : Nat := s.forceWord e v (s.forcesOn e j 1 w)

/-- The local point that an output item drives; none for a point that another module holds. -/
def outLocal (s : Block) (e j : Nat) (o : OutItem) : Option Nat :=
  match s.walkQuiet (s.rd TSK.TSK_CFG.TIN e j) true .write o.addr with
  | .ok u _ kind a _ _ _ => if s.isOwn u = true ∧ kind = 0 then some (a / 4 * 4) else none
  | .fault _ _ _ _ => none

/-- The value that an item gives its point's word, which held `old`. -/
def outValue (o : OutItem) (q old : Nat) : Nat :=
  match o.bit with
  | none => q
  | some b => putBit old o.dstBit (q.testBit b)

/-- The target that an output item drives: its point's word, or one bit of it (R88, R111). -/
def outTarget (o : OutItem) (a : Nat) : Target := match o.bit with | none => .point a | some _ => .pointBit a o.dstBit

/-- The value that an output item gives its target, from its Q word. -/
def itemValue (o : OutItem) (q : Nat) : Nat := match o.bit with | none => q | some b => b2n (q.testBit b)

/-- The local targets of a slot's published image with their values (R116), with the force tables that `f` holds (R125). -/
def imageWrites (s f : Block) (e j bank : Nat) (l : List OutItem) : List (Target × Nat) :=
  l.filterMap fun o => (s.outLocal e j o).map fun a => (outTarget o a, itemValue o (f.qForced e j o.word (s.qWord e j bank o.word)))

/-- The words of a Q image that are published, each once. -/
def outWordsOf (m : ImgMap) : List Nat := (m.outs.map fun o => o.word).eraseDups

/-- Keep what a slot last published, without forces (R125). -/
def notePub (s : Block) (e j bank : Nat) : List Nat → Block
  | [] => s
  | w :: t => ((s.wr HID.PUBQ (scanKey e j) w (s.qWord e j bank w)).wr HID.PUBBY (scanKey e j) w 1).notePub e j bank t

/-- Whether an output force applies to a slot's image (R142). -/
def outForced (s : Block) (e j : Nat) : Bool := !(s.forcedWords e j 1).isEmpty

/-! ### Words for other modules (R369) -/

/-- What one word of another module gets: its unit, its epoch, its tower address, and its value. -/
structure FarWord where
  unit : Nat
  epoch : Nat
  addr : Nat
  val : Nat
deriving DecidableEq, Repr

/-- The word that this module sent last to an address of another module; 0 before the first. Bits of such a word that a bit
store or a bit item does not name stand as sent last (assumption 107). -/
def farOld (s : Block) (a : Nat) : Nat := (s.farLast.find a).getD 0

/-- Merge a word into a list, keeping its other bits. -/
def farPut (s : Block) (l : List FarWord) (u ep a : Nat) (f : Nat → Nat) : List FarWord :=
  match l with
  | [] => [⟨u, ep, a, f (s.farOld a)⟩]
  | x :: t => if x.addr = a then ⟨u, ep, a, f x.val⟩ :: t else x :: s.farPut t u ep a f

/-- The unit and epoch of an output item's point, where another module holds it. -/
def outFar (s : Block) (e j : Nat) (o : OutItem) : Option (Nat × Nat) :=
  match s.walkQuiet (s.rd TSK.TSK_CFG.TIN e j) true .write o.addr with
  | .ok u ep kind _ _ _ _ => if u = s.selfId ∨ kind ≠ 0 then none else some (u, ep)
  | .fault _ _ _ _ => none

/-- The words of other modules that a list of a slot's output items drives; `q` gives the value of a Q word. -/
def farWords (s : Block) (e j : Nat) (q : Nat → Nat) (acc : List FarWord) : List OutItem → List FarWord
  | [] => acc
  | o :: t =>
    match s.outFar e j o with
    | some (u, ep) => s.farWords e j q (s.farPut acc u ep (o.addr / 4 * 4) (outValue o (q o.word))) t
    | none => s.farWords e j q acc t

/-- The words that one IMAGE frame of a class takes (R297, R303, R308): 12 octets each, in a frame of at most 2,000 octets that
the largest image slot of the class holds. -/
def farMax (s : Block) (ls : Bool) : Nat :=
  let slot := ((List.range 16).map fun k =>
    if s.rd RCTL.SLOT_CFG.KIND 0 k = 2 ∧ s.on RCTL.SLOT_CFG.LS 0 k = ls then s.rd RCTL.SLOT_CFG.OCTETS 0 k else 0).foldl max 0
  max 1 ((min 2000 (slot - 20) - 50) / 12)

/-- Queue the IMAGE frames of the words for one unit. -/
def farFrames (s : Block) (due u ep : Nat) (ls : Bool) : Nat → List FarWord → Block
  | 0, _ => s
  | f + 1, m =>
    if m.isEmpty then s
    else (s.queue ⟨.image due ((m.take (s.farMax ls)).map fun x => (x.addr, [x.val])), u, ep, ls, 0⟩).farFrames due u ep ls f
      (m.drop (s.farMax ls))

/-- Queue the IMAGE frames of words for a tick, those of one unit together: a placed slot's carry its placement epoch. -/
def farQueue (s : Block) (due : Nat) (place : Option Nat) (ls : Bool) (l : List FarWord) : List Nat → Block
  | [] => s
  | u :: t =>
    let m := l.filter fun x => x.unit == u
    (s.farFrames due u (place.getD ((m.head?.map fun x => x.epoch).getD 0)) ls m.length m).farQueue due place ls l t

/-- Keep the words sent. -/
def farKeep (s : Block) (l : List FarWord) : Block :=
  { s with farLast := l.foldl (fun (m : AMap Nat) x => m.put x.addr x.val) s.farLast }

/-- Queue words for other modules. -/
def farSend (s : Block) (due : Nat) (place : Option Nat) (ls : Bool) (l : List FarWord) : Block :=
  (s.farQueue due place ls l (l.map fun x => x.unit).eraseDups).farKeep l

/-- What END sends to other modules (R369): the words of the image, in frames for the deadline tick. The standby
partner sends none. -/
def endFar (s : Block) (e j bank due : Nat) : Block :=
  if s.role = 2 ∨ s.role = 3 then s
  else
    let g := s.group e j
    s.farSend due (if g = 0 then none else some (s.aliasEpoch g)) (s.on TSK.TSK_CFG.LS e j)
      (s.farWords e j (fun w => s.qForced e j w (s.qWord e j bank w)) [] (s.imgMap e j bank).outs)

/-! ### Acceptance of entries (R146, R153, R157) -/

/-- The bank of the ended scan whose output batch a slot waits to publish. -/
def pendBank (s : Block) (e j : Nat) : Nat := ((s.relPend.find (scanKey e j)).map fun r => r.bank).getD (s.slotBank e j)

/-- The points that the image entry of a slot's output batch drives (R116, R153). -/
def imageTargets (s : Block) (who : Producer) : List Target :=
  match who with
  | .slot e j => ((s.imgMap e j (s.pendBank e j)).outs.filterMap fun o => (s.outLocal e j o).map fun a => outTarget o a).eraseDups
  | _ => []

/-- The targets of a queue entry (R153). -/
def qTargets (s : Block) (q : QEnt) : List Target :=
  match q.ent with
  | some x => [x.tgt]
  | none => s.imageTargets q.who

/-- Put an accepted entry into its fixed batch (R146, R157); an image entry comes with the points it drives. -/
def addFixed (l : List FBatch) (q : QEnt) (img : List Target) : List FBatch :=
  match l with
  | [] => [{ who := q.who, ctick := q.due, image := q.ent.isNone, img := img, ls := q.ls, tin := q.tin,
             entries := q.ent.toList, rel := q.rel, fails := [] }]
  | b :: t =>
    if b.who = q.who ∧ b.ctick = q.due then
      { b with image := b.image || q.ent.isNone, img := b.img ++ img, ls := b.ls || q.ls,
               entries := b.entries ++ q.ent.toList } :: t
    else b :: addFixed t q img

/-- Whether the release an entry belongs to still stands (R94, R118): its scan is held and has not overrun, or has
ended in time and waits for its deadline. Entries of loops and of remote tasks always stand. -/
def liveRel (s : Block) (q : QEnt) : Bool :=
  match q.who with
  | .slot e j =>
    ((s.scan e j).any fun c => c.rel == q.rel && s.rd TSK.TSK_STAT.STATE e j != 6) ||
      ((s.relPend.find (scanKey e j)).any fun r => r.tick == q.rel)
  | _ => true

/-- Whether the batch controller keeps an entry that it takes from a queue: an entry of a scan that has overrun or faulted
since, or whose boundary has passed, is discarded (R10, R94, R203). -/
def keepsEnt (s : Block) (q : QEnt) : Bool := decide (q.due > s.tick) && s.liveRel q

/-- The batch controller takes an entry for its fixed batch: opened batches that hold its target are doomed (R153). -/
def takeEnt (s : Block) (q : QEnt) : Block :=
  let s1 := s.doomHoldersAll (s.qTargets q)
  { s1 with fixed := addFixed s1.fixed q (if q.ent.isNone then s.imageTargets q.who else []) }.poolEvent s

end Block
end Sys2Proof.Machine
end

