-- ==== Sys2Proof/Machine/Commit.lean ====
section
/-!
DEFINITION. Validation of batches (R155, R158 and the rules of the blocks that apply at commit), and what the commit of
a register's staged value does (R12, R20).
-/
namespace Sys2Proof.Machine
namespace Block

/-! ### Values as they are staged -/

/-- Give the staged fields of a register the values of a word. -/
def rawFlds (s : Block) (i sel v : Nat) : List Fld → Block
  | [] => s
  | f :: t => (if f.acc = .rws then s.wr f (instOf f i) sel (f.of v) else s).rawFlds i sel v t

/-- A committing value with the bits of fixed fields as they are fixed: HO_TIMEOUT of a LIFE-SAFETY set is 0, and a staging of
another value leaves it so (R218, assumption 136). -/
def fixedBits (off sel v : Nat) : Nat :=
  if 0x030 ≤ off / 4096 ∧ off / 4096 < 0x040 ∧ off % 4096 = 0x080 ∧ 16 ≤ sel then v % 2 ^ 16 else v

/-- Give a register its committed value. -/
def rawReg (s : Block) (off sel v : Nat) : Block := s.rawFlds (regAt off).1 sel (fixedBits off sel v) (regAt off).2

/-- A domain entry named for the first time starts from what it has shown (R179). -/
def domInit (s : Block) (u : Nat) : Block :=
  if s.on HID.DOMNAMED 0 u then s
  else
    (s.wr XLT.XLT_DOM_DATA.KIND 0 u (s.domEntry u).1).wr HID.DOMNAMED 0 u 1

/-- The slice whose watchdog a register kicks (R235). -/
def kickOf (off : Nat) : Option Nat :=
  if 0x050 ≤ off / 4096 ∧ off / 4096 < 0x056 ∧ off % 4096 = 0x058 then some (off / 4096 - 0x050)
  else if 0x058 ≤ off / 4096 ∧ off / 4096 < 0x05B ∧ off % 4096 = 0x068 then some (off / 4096 - 0x052) else none

/-- A register's value as a commit would leave it, for the rules that look at a state after the commit. -/
def rawEntry (s : Block) (e : Entry) : Block :=
  match e.tgt with
  | .reg off sel =>
    if off = 0x04006C ∨ off = 0x0A1048 ∨ off = 0x040040 ∨ (kickOf off).isSome then s
    else if off = 0x040078 ∨ off = 0x04007C then (s.domInit sel).rawReg off sel e.val
    else s.rawReg off sel e.val
  | _ => s

/-- The registers of a list of entries as they would stand. -/
def rawAll (s : Block) : List Entry → Block
  | [] => s
  | e :: t => (s.rawEntry e).rawAll t

/-- The entries of the batches that are SEALED or PREPARED for a tick, lowest ID first (R192). -/
def sealedFor (s : Block) (k : Nat) : List Entry :=
  (s.batches.filter fun b => (b.2.st == .sealed || b.2.st == .prepared) && b.2.ctick == k).flatMap fun b => b.2.entries

/-! ### Rules of the blocks at commit (R158) -/

/-- The capacity of a slot's window in an area, in a unit (R73). -/
def slotCap (s : Block) (e j area : Nat) (u : NUnit) : Nat := (s.win e j (s.slotBank e j) area).cap u

/-- ENG_CTRL (R72, R98, R111). -/
def engCode (s a : Block) (e v : Nat) : Nat :=
  if !v.testBit 0 then 0
  else if s.on ENG.ENG_CTRL.SWAP e 0 || s.on ENG.ENG_STATE.SWAP_PEND e 0 then 0x0A else a.swapCode e

/-- The rules on a slot's configuration as it would stand (R57, R104 to R106, R192, R369). -/
def slotCode (s a : Block) (e j o : Nat) : Nat :=
  let k := scanKey e j
  let diff (f : Fld) : Bool := a.rd f e j != s.rd f e j
  if o = 0x044 ∧ s.on TSK.TSK_CFG.RUN e j = true ∧ a.on TSK.TSK_CFG.RUN e j = true ∧
      (diff TSK.TSK_CFG.KIND || diff TSK.TSK_CFG.LS || diff TSK.TSK_CFG.TIN) = true then 0x0A
  else if o = 0x044 ∧ a.tinActive (a.rd TSK.TSK_CFG.TIN e j) = false then 0x08
  else if o = 0x044 ∧ diff TSK.TSK_CFG.TIN = true ∧
      (List.range 4).any (fun i => a.on (bindValid i) e j && a.bindCode e j (a.rd (bindSrc i) e j) != 0) = true then 0x01
  else if a.rd TSK.TSK_PHASE.PHASE e j ≥ a.rd TSK.TSK_PERIOD.PERIOD e j ∧ (o = 0x048 ∨ o = 0x04C) then 0x08
  else peelCfgCode (a.rd PEEL.PEEL_CFG.GROUP 0 k) (a.rd PEEL.PEEL_CFG.AUTO 0 k) (a.rd PEEL.PEEL_CKPT.CKPT 0 k)
    (a.rd TSK.TSK_CFG.KIND e j) (a.rd TSK.TSK_PERIOD.PERIOD e j)

/-- The rules of a TSK page (R57, R126, R133). -/
def tskCode (s a : Block) (e k o v : Nat) : Nat :=
  if o = 0x044 ∨ o = 0x048 ∨ o = 0x04C then s.slotCode a e k o
  else if 0x078 ≤ o ∧ o ≤ 0x084 then (if v.testBit 15 then a.bindCode e k (v % 2048) else 0)
  else if o = 0x08C then
    (if v % 2048 > a.slotCap e k 5 .entry ∨ bits v 26 16 > a.slotCap e k 6 .entry then 0x08 else 0)
  else if o = 0x094 then
    (if decide (v % 2 ^ 15 ≥ a.slotCap e (bits v 19 17) (bitN v 16) .word) then 0x08 else 0)
  else 0

/-- LOOP_CFG of a loop as it would stand, as one word. -/
def loopCfgWord (s : Block) (n : Nat) : Nat :=
  packWord ((loopFields.filter fun f => f.off == 0x044).map fun f => (f, s.lp f n))

/-- The rules of a LOOP page on loop `n` (R199, R200, R206, R210, R211, R214, R216). -/
def loopCode (a : Block) (n k o old v : Nat) : Nat :=
  let cfg := a.loopCfgWord n
  let set (f : Fld) : Nat := a.rd f (n / 16) k
  if loopCoef o old v && a.lp LOOP.LOOP_CTRL.CLOSED n == 1 then 0x09
  else if o = 0x044 then
    (let c := a.loopCfgCode cfg (a.loopPv n) (a.loopOutA n) (a.loopOutB n)
     if c ≠ 0 then c
     else if cfg.testBit 7 = true ∧ grpOk a.loopCfgWord (bits cfg 12 8) = false then 0x08
     else if bits cfg 1 0 = 1 ∧ a.lp LOOP.LOOP_CTRL.MAN_OUT n = 2 then 0x08
     else if bits cfg 1 0 = 1 ∧ ((List.range 2).any fun x => a.lpSet LOOP.LOOP_PLAUS.SAFE_OUT n x == 2) = true then 0x08
     else 0)
  else if o = 0x048 then
    (if a.lp LOOP.LOOP_PERIOD.PHASE n ≥ a.lp LOOP.LOOP_PERIOD.PERIOD n then 0x08 else 0)
  else if o = 0x064 then
    (if a.lp LOOP.LOOP_CTRL.MAN_OUT n = 2 ∧ bits cfg 1 0 = 1 then 0x08 else 0)
  else if 0x070 ≤ o ∧ o ≤ 0x098 then
    loopSetCode (bits cfg 1 0) (set LOOP.LOOP_SP_MIN.SP_MIN) (set LOOP.LOOP_SP_MAX.SP_MAX)
      (set LOOP.LOOP_BAND.BAND_LO + 2 ^ 16 * set LOOP.LOOP_BAND.BAND_HI)
      (2 ^ 28 * set LOOP.LOOP_PLAUS.SAFE_OUT) (set LOOP.LOOP_RET.RET)
  else 0

/-- Whether anything on the module is of a tin (R192). -/
def tinUsed (s : Block) (t : Nat) : Bool :=
  ((List.range 128).any fun q => s.rd TSK.TSK_CFG.KIND (q / 8) (q % 8) != 0 && s.rd TSK.TSK_CFG.TIN (q / 8) (q % 8) == t) ||
    ((List.range 256).any fun n => s.lp LOOP.LOOP_CFG.KIND n != 0 && s.lp LOOP.LOOP_CFG.TIN n == t) ||
    ((List.range 64).any fun n => s.rd SES.SES_STATE.STATE 0 n == 2 && s.rd SES.SES_STATE.TIN 0 n == t)

/-- TIN_ENTRY (R192): no tin twice, and none removed that something still has. -/
def tinCode (s a : Block) (k : Nat) : Nat :=
  let t := a.rd TIN.TIN_ENTRY.TIN 0 k
  let old := s.rd TIN.TIN_ENTRY.TIN 0 k
  if a.on TIN.TIN_ENTRY.VALID 0 k && (decide (t < 2) || (List.range 62).any fun n =>
      n + 2 != k && a.on TIN.TIN_ENTRY.VALID 0 (n + 2) && a.rd TIN.TIN_ENTRY.TIN 0 (n + 2) == t) then 0x08
  else if s.on TIN.TIN_ENTRY.VALID 0 k && !a.tinActive old && a.tinUsed old then 0x0A else 0

/-- The capture rules on the channels that a digital channel's mode or a capture channel's mode touches (R241). -/
def capAround (a : Block) (c : Nat) : Nat :=
  let dm (x : Nat) : Nat := a.dch DIO.DIO_CH_CFG.MODE x
  let cm (x : Nat) : Nat := a.rd CAP.CAP_CFG.MODE 0 x
  if ([c, c + 1, c - 1].filter fun x => decide (x < 48)).any fun x => capCode dm cm x != 0 then 0x08 else 0

/-- SLICE_CFG.TIMEOUT of a slice with an output must not be 0 (R235). -/
def sliceCode (a : Block) (sl : Nat) : Nat := if a.slTimeout sl = 0 ∧ a.hasOutput sl = true then 0x08 else 0

/-- The digital slices' registers. -/
def dioCode (a : Block) (d k o : Nat) : Nat :=
  if o = 0x044 then
    (if a.sliceCode d ≠ 0 then 0x08 else if k < 8 then a.capAround (8 * d + k) else 0)
  else if o = 0x054 then a.sliceCode d else 0

/-- The analog slices' registers (R248). -/
def aioCode (a : Block) (d k o : Nat) : Nat :=
  if o = 0x044 ∨ o = 0x064 then a.sliceCode (6 + d)
  else if o = 0x04C ∨ o = 0x050 then
    (if sgn 32 (a.rd AIO.AIO_LIM_LO.LIM_LO d k) > sgn 32 (a.rd AIO.AIO_LIM_HI.LIM_HI d k) then 0x08 else 0)
  else 0

/-- The number of enabled ring audio transmitters. -/
def txOn (a : Block) : Nat := ((List.range 16).filter fun x => a.on AUD.TX_CFG.EN 0 x).length

/-- The audio island's registers (R260, R264, R268). The registers tie no ring audio channel to a slot: the slots reserved for the
module's channels are its audio slots, which must hold a frame of each enabled transmitter (assumption 144). -/
def audCode (a : Block) (o v : Nat) : Nat :=
  if o = 0x054 then a.mpCode v
  else if o = 0x040 then (if v.testBit 0 && (a.msgLen (bits v 15 8)).isNone then 0x08 else 0)
  else if o = 0x060 then
    (let l := (List.range 16).filter fun k => a.rd RCTL.SLOT_CFG.KIND 0 k == 3
     if v.testBit 14 && decide ((l.map fun k => a.rd RCTL.SLOT_CFG.OCTETS 0 k).sum < 106 * a.txOn) then 0x08 else 0)
  else 0

/-- The ring's registers (R322). -/
def ringCode (a : Block) (o : Nat) : Nat :=
  if o = 0x044 ∨ o = 0x05C then
    slotCfgCode (a.rd RCTL.SLOT_CFG.KIND 0) (a.rd RCTL.SLOT_CFG.LS 0) (a.rd RCTL.SLOT_CFG.OFFSET 0)
      (a.rd RCTL.SLOT_CFG.OCTETS 0) (a.g RCTL.RCTL_QUOTA.EXP_QUOTA) a.txOn
  else 0

/-- A segment's registers (R330). -/
def segPageCode (a : Block) (g o : Nat) : Nat :=
  if o = 0x040 ∨ o = 0x044 ∨ o = 0x04C then
    segCode (a.rd SEG.NODE_CFG.VALID g) (a.rd SEG.NODE_CFG.OUT_WORDS g) (a.rd SEG.SEG_PLCA.NODE_COUNT g 0)
      (a.rd SEG.SEG_CFG.PERIOD g 0) (a.rd SEG.SEG_CFG.PHASE g 0)
  else 0

/-- The alarms of the real-time clock (R347). -/
def rtcCode (a : Block) (o : Nat) : Nat :=
  if o = 0x058 ∨ o = 0x05C then
    almCode (a.g RTC.ALM0_H.EN) (a.g RTC.ALM0_H.CMP_SUB) (a.g RTC.ALM0_H.CMP_SLO) (a.g RTC.ALM0_H.CMP_SHI)
  else if o = 0x060 ∨ o = 0x064 then
    almCode (a.g RTC.ALM1_H.EN) (a.g RTC.ALM1_H.CMP_SUB) (a.g RTC.ALM1_H.CMP_SLO) (a.g RTC.ALM1_H.CMP_SHI)
  else 0

/-- Peel's registers (R369 to R371); `ans` lists the slots whose peel's destination on another module has answered. -/
def peelPageCode (s a : Block) (ans : List Nat) (k o v : Nat) : Nat :=
  let e := k / 8
  let j := k % 8
  if o = 0x044 ∧ a.group e j ≠ s.group e j ∧ a.on TSK.TSK_CFG.RUN e j = true then 0x0A
  else if o = 0x044 ∨ o = 0x048 then
    peelCfgCode (a.group e j) (a.rd PEEL.PEEL_CFG.AUTO 0 k) (a.rd PEEL.PEEL_CKPT.CKPT 0 k) (a.rd TSK.TSK_CFG.KIND e j)
      (a.rd TSK.TSK_PERIOD.PERIOD e j)
  else if o = 0x04C ∧ v.testBit 15 = true then a.peelCode e j (v % 256) (bits v 11 8) (bits v 14 12) (ans.contains k)
  else 0

/-- A header's ENABLE (R268). -/
def enableCode (s : Block) (p v : Nat) : Nat :=
  if 0x061 ≤ p ∧ p < 0x065 ∧ v % 2 = 0 ∧ s.inFire = true then 0x0A else 0

/-- The code with which an entry for a register fails a rule of its block at commit (R158); `s` is the state now, `a` the
state with the entries of the tick applied. -/
def regCode (s a : Block) (ans : List Nat) (off k v : Nat) : Nat :=
  let p := off / 4096
  let o := off % 4096
  let i := (regAt off).1
  if o < 0x040 then s.enableCode p v
  else if p = 0x001 then (if o = 0x04C then s.routeCode a k else 0)
  else if 0x010 ≤ p ∧ p < 0x020 then (if o = 0x040 then s.engCode a i v else 0)
  else if 0x020 ≤ p ∧ p < 0x030 then s.tskCode a i k o v
  else if 0x030 ≤ p ∧ p < 0x040 then a.loopCode (16 * i + k % 16) k o (s.loopCfgWord (16 * i + k % 16)) v
  else if p = 0x040 then
    (if o = 0x040 then (if v.testBit 0 then a.xltSwapCode else 0)
     else if o = 0x06C then (if (a.dualLevels (k * 4096)).isNone then 0x05 else 0) else 0)
  else if p = 0x041 then (if o = 0x044 then s.tinCode a k else 0)
  else if 0x050 ≤ p ∧ p < 0x056 then a.dioCode i k o
  else if 0x058 ≤ p ∧ p < 0x05B then a.aioCode i k o
  else if p = 0x05C then (if o = 0x044 then a.capAround k else 0)
  else if p = 0x060 then a.audCode o v
  else if p = 0x082 then a.ringCode o
  else if 0x088 ≤ p ∧ p < 0x090 then a.segPageCode i o
  else if p = 0x0A1 then a.rtcCode o
  else if p = 0x0B0 then (if o = 0x044 then s.pairSwapCode v else 0)
  else if p = 0x0B1 then s.peelPageCode a ans k o v
  else if p = 0x0D2 then
    (if o = 0x040 ∧ v.testBit 0 = true then a.actCode (bitN v 1) (v.testBit 2) (s.on HID.FIREASK 0 0) else 0)
  else 0

/-! ### Validation of a batch (R158) -/

/-- The position of a failing check in the table of R158, for the code that is recorded on BAT. -/
def checkRank : Check → Nat
  | .lock => 1
  | .slice => 2
  | .xlate => 3
  | .block => 4
  | .epoch => 5

/-- Whether a point staged at a tower address still translates to it for the batch's tin (R158). -/
def stillThere (s : Block) (tin : Nat) (e : Entry) : Bool :=
  match e.addr with
  | none => true
  | some t =>
    match s.walkQuiet tin true .write t, e.tgt with
    | .ok u _ _ a _ _ _, .point x => u == s.selfId && a / 4 * 4 == x / 4 * 4
    | .ok u _ _ a _ _ _, .pointBit x _ => u == s.selfId && a / 4 * 4 == x / 4 * 4
    | .ok _ _ _ _ _ _ _, _ => true
    | .fault _ _ _ _, _ => false

/-- Whether the epoch an entry was resolved with is older than the current one (R28, R158). -/
def staleEntry (s : Block) (e : Entry) : Bool :=
  match e.tgt with
  | .remote u _ => newer (s.domEntry u).2.2 e.epoch
  | _ => s.paired && e.epoch != 0 && newer s.epoch e.epoch

/-- The code with which a point of this module refuses a write, 0 for none: beyond the point store (R175), whose end no rule
gives and lies here at 0x100_0000 (assumption 127), or a word that takes no write (R224, R285, R326). -/
def pointCode (s : Block) (a : Nat) : Nat :=
  if a ≥ 0x1000000 then 0x08
  else
    match nodeOf a with
    | some (g, j, off) => s.nodeWriteCode g j off
    | none => if 0x1A0000 ≤ a ∧ a < 0x1B0000 then 0x0D else s.chanWriteCode a

/-- The check that an entry of a batch of a tin fails, with its code. -/
def entryCheck (s a : Block) (ans : List Nat) (tin : Nat) (e : Entry) : Option (Check × Nat) :=
  match e.tgt with
  | .reg off k =>
    if s.stageLocked off then some (.lock, 0x02)
    else if s.regCode a ans off k e.val ≠ 0 then some (.block, s.regCode a ans off k e.val)
    else if s.staleEntry e then some (.epoch, 0x07) else none
  | .point x =>
    if s.chanFault x then some (.slice, 0x0A)
    else if !s.stillThere tin e then some (.xlate, 0x05)
    else if s.pointCode x ≠ 0 then some (.block, s.pointCode x)
    else if s.staleEntry e then some (.epoch, 0x07) else none
  | .pointBit x _ =>
    if s.chanFault x then some (.slice, 0x0A) else if !s.stillThere tin e then some (.xlate, 0x05) else none
  | .regBit off _ => if s.stageLocked off then some (.lock, 0x02) else none
  | .remote _ _ => if s.staleEntry e then some (.epoch, 0x07) else none

/-- The register at which a failing entry is recorded on its page; a point has no page of its own (R47). -/
def entryOff (e : Entry) : Option Nat :=
  match e.tgt with
  | .reg off _ => some off
  | .regBit off _ => some off
  | _ => none

/-- The failing entries of a batch, each with its check and code. -/
def failing (s a : Block) (ans : List Nat) (tin : Nat) (l : List Entry) : List (Entry × Check × Nat) :=
  l.filterMap fun e => (s.entryCheck a ans tin e).map fun c => (e, c.1, c.2)

/-- Where a failure stands among those of one cycle: the one recorded last on a page has the lowest offset, then the
highest code (R48). -/
def failBefore (x y : Entry × Check × Nat) : Bool :=
  let a := (entryOff x.1).getD 0
  let b := (entryOff y.1).getD 0
  decide (a > b) || (decide (a = b) && decide (x.2.2 ≤ y.2.2))

/-- Insert a failure in that order. -/
def failInsert (x : Entry × Check × Nat) : List (Entry × Check × Nat) → List (Entry × Check × Nat)
  | [] => [x]
  | y :: t => if failBefore x y then x :: y :: t else y :: failInsert x t

/-- Each failing entry is recorded on its own page with its own code (R47, R158). -/
def recordEach (s : Block) (id : Option Nat) (tin : Nat) : List (Entry × Check × Nat) → Block
  | [] => s
  | (e, _, c) :: t =>
    (match entryOff e with
     | some off => s.err (off / 4096) c 5 tin off id
     | none => s).recordEach id tin t

/-- The failures of a batch, recorded together. -/
def recordFails (s : Block) (id : Option Nat) (tin : Nat) (l : List (Entry × Check × Nat)) : Block :=
  s.recordEach id tin (l.foldr failInsert [])

/-- The first failure in the order of the table. -/
def firstFail : List (Entry × Check × Nat) → Option (Entry × Check × Nat)
  | [] => none
  | x :: t =>
    match firstFail t with
    | some y => if checkRank y.2.1 < checkRank x.2.1 then some y else some x
    | none => some x

/-- The dual writes among entries. -/
def duals (l : List Entry) : List Entry := l.filter fun e => match e.tgt with | .reg off _ => off == 0x04006C | _ => false

/-- The failure of the dual writes of a batch, with those of earlier batches, that are more for one tick than the overlay takes
(R190), a rule of the XLT block. -/
def dualFail (b : Batch) (earlier : List Entry) : List (Entry × Check × Nat) :=
  if (duals b.entries).length + (duals earlier).length > 64 then (duals b.entries).map fun e => (e, .block, 0x0A) else []

/-- The failures of the entries with which a batch stages START and STOP of one player together (R260). -/
def mpFail (l : List Entry) : List (Entry × Check × Nat) :=
  let at_ (e : Entry) (b : Nat) (k : Nat) : Bool := e.tgt == .reg 0x060054 k && e.val.testBit b
  l.filterMap fun e =>
    match e.tgt with
    | .reg 0x060054 k =>
      if (e.val.testBit 24 && l.any fun x => at_ x 25 k) || (e.val.testBit 25 && l.any fun x => at_ x 24 k) then
        some (e, .block, 0x08) else none
    | _ => none

/-- The code and the offset with which the batch itself fails validation on BAT; 0 when it passes. -/
def batchCode (s : Block) (b : Batch) (fails : List (Entry × Check × Nat)) : Nat × Nat :=
  match firstFail fails with
  | some (e, _, c) => (c, (entryOff e).getD 0)
  | none =>
    if !b.ls && decide (s.g PWR.PWR_STAT.LADDER ≥ 3) then (0x0A, 0)
    else if (b.xmod || b.remote) && s.on MOD.MOD_STATUS.GRID_FREE 0 0 then (0x0E, 0)
    else (0, 0)

/-- A walk that a validation makes for a tin (R158, R177): the caches, and the fault that it ends in (R182). -/
def tinWalk (s : Block) (r : Req) (tin : Nat) (x : Right) (addr : Nat) : Block :=
  let l := s.leafFor addr s.genNow none
  let s1 := s.walkSeen addr s.genNow l
  match s1.walkEnd addr tin true x l with
  | .ok _ _ _ _ _ _ _ => s1
  | .fault c lv h p => s1.walkFault addr s.genNow c lv h p r x

/-- The walks for the points of a slot's image map (R111). -/
def mapWalks (s : Block) (e : Fin 16) (j : Fin 8) : List (Right × Nat) → Block
  | [] => s
  | (x, a) :: t => (s.tinWalk (.task e j) (s.rd TSK.TSK_CFG.TIN e.val j.val) x a).mapWalks e j t

/-- The walks of a program swap's validation: every point of the maps of the bank that it brings (R111). -/
def swapWalks (s : Block) (e : Fin 16) (bank : Nat) : List (Fin 8) → Block
  | [] => s
  | j :: t =>
    let m := s.imgMap e.val j.val bank
    let l := (m.ins.map fun i => (Right.read, i.addr)) ++ m.outs.map fun o => (Right.write, o.addr)
    (if (s.slotEnt e.val bank j.val).present then s.mapWalks e j l else s).swapWalks e bank t

/-- The walks of the validation of a LOOP_CFG, with the values of `a` (R199). -/
def loopWalks (s a : Block) (n : Nat) : Block :=
  let r := Req.loop (finMod 256 n)
  let tin := a.lp LOOP.LOOP_CFG.TIN n
  let s1 := (s.tinWalk r tin .read (a.loopPv n)).tinWalk r tin .write (a.loopOutA n)
  if a.lp LOOP.LOOP_CFG.KIND n = 2 then s1.tinWalk r tin .write (a.loopOutB n) else s1

/-- The walks of a batch's validation (R158, R184): for each point staged at a tower address, for a program swap and for a
loop's configuration; `a` holds the values as they would stand. -/
def entryWalks (s a : Block) (tin : Nat) : List Entry → Block
  | [] => s
  | e :: t =>
    let s1 := match e.addr, e.tgt with
      | some a, _ => s.tinWalk e.by_ tin .write a
      | none, .reg off sel =>
        let n := finMod 16 (off / 4096)
        (match (if 0x010 ≤ off / 4096 ∧ off / 4096 < 0x020 ∧ off % 4096 = 0x040 ∧ e.val % 2 = 1 then s.freeBank n.val else none) with
         | some b => s.swapWalks n b (List.finRange 8)
         | none => if 0x030 ≤ off / 4096 ∧ off / 4096 < 0x040 ∧ off % 4096 = 0x044 then s.loopWalks a (16 * n.val + sel % 16) else s)
      | none, _ => s
    s1.entryWalks a tin t

/-- Validation of a batch at its seal point, or when PREPARE arrives (R158): the failures recorded, and the code. -/
def validate (s : Block) (id : Nat) (b : Batch) (ans : List Nat) : Block × Nat :=
  let earlier := s.sealedFor b.ctick
  let a := s.rawAll (earlier ++ b.entries)
  let fails := s.failing a ans b.tin b.entries ++ dualFail b earlier ++ mpFail b.entries
  let c := s.batchCode b fails
  let s1 := s.entryWalks a b.tin b.entries
  if c.1 = 0 then (s1, 0)
  else ((s1.recordFails (some id) b.tin fails).err 0x002 c.1 5 b.tin c.2 (some id), c.1)

/-- A batch that is REQUESTED for a tick is validated (R148, R155): SEALED, or aborted with COMMIT_FAIL. -/
def sealBatch (s : Block) (ans : List Nat) (id : Nat) (b : Batch) : Block :=
  match s.validate id b ans with
  | (s1, 0) => s1.putBatch id { b with st := .sealed }
  | (s1, c) => (s1.abortBatch id c 0).fire EV.BAT.COMMIT_FAIL

/-- The seal point of tick `k` (R155, R158): the batches REQUESTED for it, lowest ID first. Cross-module parts are
validated in their prepare. -/
def sealAll (s : Block) (k : Nat) (ans : List Nat) : List (Nat × Batch) → Block
  | [] => s
  | (id, b) :: t =>
    (if b.ctick ≠ k ∨ b.xmod = true ∨ b.remote = true then s
     else if b.st = .requested then s.sealBatch ans id b
     else if b.st = .doomed then
       ((s.err 0x002 b.code 5 b.tin 0 (some id)).abortBatch id b.code b.peer).fire EV.BAT.COMMIT_FAIL
     else s).sealAll k ans t

/-- SEAL_POINT: the seal point of the next tick has been reached (R155, R156). -/
def sealPoint (s : Block) (ans : List Nat) : Block :=
  if s.sealed then s else { s.sealAll (s.tick + 1) ans s.batches with sealed := true }

end Block
end Sys2Proof.Machine
end

