-- ==== Sys2Proof/Machine/Boundary.lean ====
section
/-!
DEFINITION. Commits at a tick boundary (R20 step 1): what a committed register value does, the commit of opened batches
(R155), of fixed batches (R154, R157), overruns (R118), and forces (R125 to R128).
-/
namespace Sys2Proof.Machine
namespace Block

/-! ### The commit of a register's value -/

/-- PAGE_CTRL.ENABLE commits: a ring port, the service port, a slice (cause DIS of R238), the capture channels. -/
def commitEnable (s : Block) (p v n : Nat) : Block :=
  let s1 := s.wr HDR.PAGE_CTRL.ENABLE p 0 v
  if p = 0x080 then s1.ringEnable 0
  else if p = 0x081 then s1.ringEnable 1
  else if p = 0x090 then (if v % 2 = 0 then s1.svcDown else s1)
  else if 0x050 ≤ p ∧ p < 0x056 then
    (if v % 2 = 0 then s1.causeSet (p - 0x050) 4 else (s1.causeClear (p - 0x050) 4).wr HID.SLCLEAR 0 (p - 0x050) n)
  else if 0x058 ≤ p ∧ p < 0x05B then
    (if v % 2 = 0 then s1.causeSet (p - 0x052) 4 else (s1.causeClear (p - 0x052) 4).wr HID.SLCLEAR 0 (p - 0x052) n)
  else if p = 0x05C ∧ v % 2 = 0 then s1.capOff (List.range 48)
  else s1

/-- The word of a slot's Q window that an active force entry names, if it names one (R125). -/
def forceTouch (s : Block) (e k : Nat) : List FTouch :=
  if s.forceActive e k && s.on TSK.FORCE_TGT.AREA e k then
    [⟨e, s.rd TSK.FORCE_TGT.SLOT e k, s.rd TSK.FORCE_TGT.WORD e k, s.rd TSK.FORCE_MASK.MASK e k⟩]
  else []

/-- A force entry's register commits (R125, R127). -/
def commitForce (s : Block) (e off k v : Nat) : Block :=
  let s1 := s.rawReg off k v
  if s1.cells = s.cells then s
  else { s1.wr HID.FORCEBUMP e 0 1 with ftouch := s1.ftouch ++ s.forceTouch e k ++ s1.forceTouch e k }

/-- LOOP_CTRL commits (R209, R212). -/
def commitLoopCtrl (s : Block) (n off k v : Nat) : Block :=
  let was := s.lp LOOP.LOOP_CTRL.CLOSED n
  let man := s.lp LOOP.LOOP_CTRL.MAN_OUT n
  let s1 := s.rawReg off k v
  let s2 := s1.setLp LOOP.LOOP_STAT.CLOSED n (v % 2)
  if was = 1 ∧ v % 2 = 0 then
    (if bits v 5 4 = man then s2.setLp LOOP.LOOP_CTRL.MAN_OUT n (s.loopCur n) else s2)
  else if was = 0 ∧ v % 2 = 1 then s2.plausReset n else s2

/-- SRC_CFG commits (R261 to R263): without PHANTOM a talkback input is not OPEN. -/
def commitSrc (s : Block) (off k v n : Nat) : Block :=
  let s1 := if k < 4 ∧ v.testBit 5 = false then s.wr AUD.SRC_STAT.OPEN 0 k 0 else s
  (if 8 ≤ k ∧ k < 12 then s1.commitTone k (bits v 19 16) n else s1).rawReg off k v

/-- The staged fields of a register commit at tick `n`, with what the commit does. -/
def commitReg (s : Block) (off k v n : Nat) : Block :=
  let p := off / 4096
  let o := off % 4096
  let i := (regAt off).1
  if o < 0x040 then (if o = 0x008 then s.commitEnable p v n else s)
  else if 0x010 ≤ p ∧ p < 0x020 ∧ o = 0x040 then
    (let s1 := s.wr ENG.ENG_CTRL.DET_STRICT i 0 (bitN v 2)
     if v.testBit 0 then s1.swapCommit i else s1)
  else if 0x020 ≤ p ∧ p < 0x030 then
    (if o = 0x044 then (s.rawReg off k v).settle i k
     else if 0x078 ≤ o ∧ o ≤ 0x084 then
       (let s1 := s.rawReg off k v
        if s1.cells = s.cells then s else s1.clearInput i k)
     else if 0x094 ≤ o ∧ o ≤ 0x09C then s.commitForce i off k v
     else s.rawReg off k v)
  else if 0x030 ≤ p ∧ p < 0x040 ∧ o = 0x064 then s.commitLoopCtrl (16 * i + k % 16) off k v
  else if 0x030 ≤ p ∧ p < 0x040 ∧ o = 0x044 then
    (s.rawReg off k v).loopCfgDone (16 * i + k % 16) (s.lp LOOP.LOOP_CFG.PLAUS_EN (16 * i + k % 16))
  else if p = 0x040 then
    (if o = 0x040 then (if v.testBit 0 then s.xltSwap else s)
     else if o = 0x06C then
       ((s.dualCommit (k * 4096) v).p XLT.XLT_DW_LEAF_L.LEAF_L (v % 2 ^ 32)).p XLT.XLT_DW_LEAF_H.LEAF_H (v / 2 ^ 32 % 2 ^ 32)
     else if o = 0x078 ∨ o = 0x07C then (s.domInit k).rawReg off k v
     else s.rawReg off k v)
  else if 0x050 ≤ p ∧ p < 0x056 then
    (if o = 0x044 then
       (let c := 16 * i + k
        (s.rawReg off k v).dioMode c (s.dch DIO.DIO_CH_CFG.MODE c) (v % 8))
     else if o = 0x058 then s.refresh i n else s.rawReg off k v)
  else if 0x058 ≤ p ∧ p < 0x05B then
    (if o = 0x044 then
       (let c := 16 * i + k
        (s.rawReg off k v).aioMode c (s.dch AIO.AIO_CH_CFG.MODE c) (v % 16))
     else if o = 0x068 then s.refresh (6 + i) n else s.rawReg off k v)
  else if p = 0x05C ∧ o = 0x044 then
    (let s1 := s.rawReg off k v
     if s1.cells = s.cells then s else s1.capReset k)
  else if p = 0x060 then
    (if o = 0x04C then s.commitSrc off k v n else if o = 0x054 then s.commitMp k v n else s.rawReg off k v)
  else if 0x061 ≤ p ∧ p < 0x065 ∧ 0x048 ≤ o ∧ o < 0x068 then s.commitReq (4 * i + k) ((o - 0x048) / 4) v n
  else if 0x088 ≤ p ∧ p < 0x090 ∧ o = 0x04C then (s.rawReg off k v).nodeCfgCommit i k
  else if p = 0x090 ∧ o = 0x040 then (s.rawReg off k v).svcCfgCommit
  else if p = 0x0A1 ∧ o = 0x048 then s.rtcCommit v
  else if p = 0x0B0 ∧ o = 0x044 then ((s.rawReg off k v).p PAIR.PAIR_CTRL.SWAP 0).p PAIR.PAIR_CTRL.DRILL 0
  else if p = 0x0B1 ∧ o = 0x04C then
    (let s1 := (s.rawReg off k v).wr PEEL.PEEL_DST.GO 0 k 0
     if v.testBit 15 then s1.peelStart (k / 8) (k % 8) n else s1)
  else if p = 0x0D2 ∧ o = 0x040 then
    (let s1 := (s.rawReg off k v).p UPD.UPD_ACT.GO 0
     if v.testBit 0 && !v.testBit 2 then s1.p HID.ACTGO (bitN v 1 + 1) else s1)
  else if p = 0x0E0 ∧ o = 0x040 then s.perfCommit v
  else if p = 0x0E0 ∧ o = 0x064 then
    (let s1 := s.rawReg off k v
     if s.g PWR.PWR_STAT.LADDER != 0 then s1.p PERF.SMP_CFG.EN 0
     else if v.testBit 4 && !s.on PERF.SMP_CFG.EN 0 0 then (s1.p HID.SMPSEQ 0).p HID.SMPCNT 0 else s1)
  else s.rawReg off k v

/-! ### What a commit notes -/

/-- Whether some staged field of a register that satisfies `q` differs between two states. -/
def fieldsDiffer (s a : Block) (off k : Nat) (q : Fld → Bool) : Bool :=
  (regAt off).2.any fun f => f.acc == .rws && q f && s.rd f (instOf f (regAt off).1) k != a.rd f (instOf f (regAt off).1) k

/-- Whether entries have changed configured values that satisfy `q`. -/
def entriesDiffer (s a : Block) (q : Fld → Bool) (l : List Entry) : Bool :=
  l.any fun e => match e.tgt with | .reg off k => s.fieldsDiffer a off k q | _ => false

/-- Whether a field is held by the tower map's store, or by the configuration store (R400). -/
def isMap (f : Fld) : Bool := codeIn mapFields f.code
def isCfg (f : Fld) : Bool := Cls.stored f.cls && !isMap f

/-- The stores are asked for what a commit has changed (R403, R459). -/
def saveCommit (s0 s : Block) (l : List Entry) : Block :=
  let s1 := if s0.entriesDiffer s isCfg l then s.stoRequest 0x01 else s
  if s0.entriesDiffer s isMap l then s1.stoRequest 0x20 else s1.mapSave s0

/-- Whether entries write a register at an offset of a page. -/
def writesReg (l : List Entry) (o : Nat) : Bool := l.any fun e => match e.tgt with | .reg off _ => off == o | _ => false

/-- Whether entries have changed a route, or the active-tin table (R62, R198). -/
def routesDiffer (s0 s : Block) (l : List Entry) : Bool := s0.entriesDiffer s (fun _ => true) (l.filter fun e => writesReg [e] 0x00104C)
def tinsDiffer (s0 s : Block) (l : List Entry) : Bool := s0.entriesDiffer s (fun _ => true) (l.filter fun e => writesReg [e] 0x041044)

/-- The events that fire once for a batch: a changed route, and the active-tin table (R12, R62, R198). -/
def commitEvents (s0 s : Block) (l : List Entry) : Block :=
  (s.fireIf (s0.routesDiffer s l) EV.EVR.ROUTE_COMMIT).fireIf (s0.tinsDiffer s l) EV.TIN.TIN_CHANGE

/-! ### Opened batches (R155) -/

/-- An entry takes effect at tick `n`. -/
def commitEntry (s : Block) (n : Nat) (e : Entry) : Block :=
  match e.tgt with
  | .reg off k => s.commitReg off k e.val n
  | .point a => s.commitPoint a e.val n
  | .pointBit a b => s.commitPointBit a b e.val n
  | .regBit _ _ => s
  | .remote _ _ => s

/-- BAT_COUNT1.COLLIDE and COLLIDE (R153, R154). -/
def collide (s : Block) : Block := (s.sat BAT.BAT_COUNT1.COLLIDE 0 0 1).fire EV.BAT.COLLIDE

/-- What is left of an entry where other batches write to its target too (R153, R154): nothing where they write all of it;
of a word of which they write bits, the word with those bits as they are (assumption 109). -/
def giveWay (s : Block) (l : List Target) (e : Entry) : Option Entry :=
  match e.tgt with
  | .point a =>
    if l.contains (.point a) then none
    else
      let keep (v : Nat) (t : Target) : Nat :=
        match t with
        | .pointBit x b => if x = a then putBit v b ((s.point a).testBit b) else v
        | _ => v
      some { e with val := l.foldl keep e.val }
  | t => if l.any fun x => Target.meets x t then none else some e

/-- The entries of a batch take effect; one whose target a fixed batch of the tick writes too gives way to it (R153). -/
def commitEntries (s : Block) (n : Nat) (skip : List Target) : List Entry → Block
  | [] => s
  | e :: t =>
    let s1 := if skip.any fun x => Target.meets x e.tgt then s.collide else s
    (match s1.giveWay skip e with
     | none => s1
     | some x => s1.commitEntry n x).commitEntries n skip t

/-- The final check of an opened batch at its boundary (R155): the failing entries. A part of a cross-module batch that is
confirmed, the coordinator's own among them, is not checked again (R163). -/
def finalCheck (s : Block) (b : Batch) : List (Entry × Check × Nat) :=
  if b.confirmed then [] else
  b.entries.filterMap fun e =>
    match e.tgt with
    | .reg off _ => if s.stageLocked off then some (e, .lock, 0x02) else none
    | .point x => if s.chanFault x = true then some (e, .slice, 0x0A) else none
    | _ => none

/-- A batch commits at tick `n` (R12, R155). -/
def commitOpened (s : Block) (n id : Nat) (b : Batch) (skip : List Target) : Block :=
  let s1 := s.wrap HID.COMMITNO 0 0 1
  let s2 := s1.commitEntries n skip b.entries
  let s3 := s1.saveCommit (s1.commitEvents s2 b.entries) b.entries
  let s4 := (s3.perf 0x060 none 1).perf 0x061 none (countEntries b.entries)
  (s4.sat BAT.BAT_COUNT0.COMMITS 0 0 1).endBatch id b true 0 0

/-- A batch due at tick `n` commits, or aborts whole when a flag of the final check fails an entry (R155). -/
def boundaryBatch (s : Block) (n id : Nat) (b : Batch) (skip : List Target) : Block :=
  match firstFail (s.finalCheck b) with
  | none => s.commitOpened n id b skip
  | some (e, _, c) =>
    let s1 := (s.recordFails (some id) b.tin (s.finalCheck b)).err 0x002 c 5 b.tin ((entryOff e).getD 0) (some id)
    (s1.abortBatch id c 0).fire EV.BAT.COMMIT_FAIL

/-- Whether every participant of a cross-module batch has sent PREPARED (R161); a participant counts itself. -/
def allPrepared (s : Block) (b : Batch) : Bool := b.parts.all fun m => b.okFrom.contains m || (b.remote && m == s.selfId)

/-- The first participant whose PREPARED is missing (R148, R161); 0 for none. -/
def unconfirmed (s : Block) (b : Batch) : Nat :=
  (b.parts.find? fun m => !(b.okFrom.contains m || (b.remote && m == s.selfId))).getD 0

/-- The SEALED and PREPARED batches of tick `n`, lowest ID first. A cross-module batch that lacks a PREPARED aborts with
0x0E and the module whose confirmation is missing (R161), and so does a part that knows its tick from the others'
confirmations but got no PREPARE (R165). -/
def boundaryBatches (s : Block) (n : Nat) (skip : List Target) : List (Nat × Batch) → Block
  | [] => s
  | (id, b) :: t =>
    (if b.ctick = n ∧ (b.st = .sealed ∨ b.st = .prepared) then
      (if s.allPrepared b then s.boundaryBatch n id b skip else s.abortBatch id 0x0E (s.unconfirmed b))
     else if b.ctick = n ∧ b.remote = true then s.abortBatch id 0x0E s.selfId
     else s).boundaryBatches n skip t

/-! ### Overruns (R118) -/

/-- The boundary at which a scan overruns: its deadline, two ticks earlier for a placed slot (R369). -/
def overrunTick (s : Block) (e j : Nat) (c : Scan) : Nat := if s.group e j = 0 then c.due else c.due - 2

/-- A slot that still holds a scan at its deadline, and one that runs on, at boundary `n`. -/
def deadline (s : Block) (e j n : Nat) : Block :=
  match s.scan e j with
  | none => s
  | some c =>
    if s.overran e j then s.wdogExpire e j n
    else if s.overrunTick e j c ≤ n then s.overrun e j c else s

/-- Every slot's deadline. -/
def deadlines (s : Block) (n : Nat) : List (Nat × Nat) → Block
  | [] => s
  | (e, j) :: t => (s.deadline e j n).deadlines n t

/-- The lines that an END made current go back (R94). -/
def revertLines (s : Block) (e : Nat) : List Nat → Block
  | [] => s
  | l :: t =>
    (if s.on HID.LINE_END e l then (s.wr HID.LINE_CUR e l (1 - s.rd HID.LINE_CUR e l)).wr HID.LINE_END e l 0 else s).revertLines
      e t

/-- A scan that ended, but whose image entry has not reached the batch controller by its deadline, has overrun (R157). -/
def lateImage (s : Block) (e j : Nat) (r : RelRec) : Block :=
  let s1 := { (s.revertLines e (s.slotLines e j r.bank)).dropFixed e j r.tick with relPend := s.relPend.del (scanKey e j) }
  let s2 := (s1.sat TSK.TSK_COUNT0.OVERRUNS e j 1).taskAlert TSK.TSK_ALERT.OVERRUN e j
  (s2.consec e j false).logRec { r with overrun := true }

/-- Whether the image entry of a slot's output batch for tick `n` has been accepted. -/
def imageIn (s : Block) (e j n : Nat) : Bool := (s.findFixed (.slot e j) n).any fun b => b.image

/-- The ended scans whose image entries are late at boundary `n`. -/
def lateImages (s : Block) (n : Nat) : List (Nat × RelRec) → Block
  | [] => s
  | (_, r) :: t =>
    (if s.rd HID.DEADLINE r.eng r.slot ≤ n ∧ s.imageIn r.eng r.slot n = false then s.lateImage r.eng r.slot r else s).lateImages n t

/-- The loops of queue entries due at a boundary that have not reached the batch controller (R203). -/
def lateLoops (l : List QEnt) (n : Nat) : List Nat :=
  (l.filterMap fun q =>
    if q.due ≤ n then (q.ent.bind fun e => match e.by_ with | .loop x => some x.val | _ => none) else none).eraseDups

/-- LOOP_ALERT bits of several loops. -/
def loopAlerts (s : Block) (b : Nat) : List Nat → Block
  | [] => s
  | n :: t => (s.loopAlert n b).loopAlerts b t

/-- Whether a loop of a list has made an entry. -/
def madeBy (l : List Nat) (e : Entry) : Bool := match e.by_ with | .loop x => l.contains x.val | _ => false

/-- Loop entries that miss their commit are discarded, and with them what the batch controller already holds of the same
loops' outputs, which stand (R203). -/
def dropLateLoops (s : Block) (n : Nat) : Block :=
  let l := lateLoops (s.loopQ ++ s.loopWait) n
  let cut (b : FBatch) : FBatch :=
    if b.who = .loops ∧ b.ctick ≤ n then { b with entries := b.entries.filter fun e => !madeBy l e } else b
  { s.loopAlerts 5 l with
    loopWait := s.loopWait.filter fun q => decide (q.due > n)
    fixed := if l.isEmpty then s.fixed else (s.fixed.map cut).filter fun b => !(decide (b.who = .loops) && b.entries.isEmpty) }

/-! ### Fixed batches (R154, R157) -/

/-- The place of a producer in the order of R154. -/
def rankOf : Producer → Nat
  | .loops => 0
  | .slot e j => 1 + scanKey e j
  | .remoteTask id => 1000 + id
  | .mirror => 2000

/-- Insert a fixed batch in that order. -/
def fixInsert (x : FBatch) : List FBatch → List FBatch
  | [] => [x]
  | y :: t => if rankOf x.who ≤ rankOf y.who then x :: y :: t else y :: fixInsert x t

/-- The fixed batches due at tick `n`, in the order of R154. -/
def fixedDue (s : Block) (n : Nat) : List FBatch := (s.fixed.filter fun b => b.ctick == n).foldr fixInsert []

/-- The points that a slot's published image drives, as entries (R116), with the force tables that `f` holds. -/
def imageEntries (s f : Block) (e j : Nat) : List Entry :=
  (s.imageWrites f e j (s.pendBank e j) (s.imgMap e j (s.pendBank e j)).outs).map fun x =>
    { tgt := x.1, val := x.2, by_ := .fw 0, epoch := 0, addr := none }

/-- The entries of a fixed batch, its image's points among them (R116), with the force tables that `f` holds (R125). -/
def fixedEntries (s f : Block) (b : FBatch) : List Entry :=
  match b.who with
  | .slot e j => if b.image then b.entries ++ s.imageEntries f e j else b.entries
  | _ => b.entries

/-- Of the entries for one point the last stands; entries for registers act one after another. -/
def lastWrites : List Entry → List Entry
  | [] => []
  | e :: t =>
    match e.tgt with
    | .reg _ _ => e :: lastWrites t
    | .regBit _ _ => e :: lastWrites t
    | _ => if t.any fun x => decide (x.tgt = e.tgt) then lastWrites t else e :: lastWrites t

/-- The class of an entry of a fixed batch (R154, R202). -/
def entryLS (s : Block) (b : FBatch) (e : Entry) : Bool :=
  match e.by_ with
  | .loop n => s.lp LOOP.LOOP_CFG.LS n.val == 1
  | _ => b.ls

/-- Whether an entry of a fixed batch carries an epoch that is too old (R28, R158): the pair's or unit's for entries of this
module's slots, the placement's for those of a task placed elsewhere (R372). -/
def fixedStale (s : Block) (b : FBatch) (e : Entry) : Bool :=
  match b.who, e.tgt with
  | .slot _ _, _ => s.staleEntry e
  | .remoteTask src, .point a => !s.ownerOk a src e.epoch
  | _, _ => false

/-- The tin for which an entry of a fixed batch translates: its loop's, else the batch's. -/
def entryTin (s : Block) (b : FBatch) (e : Entry) : Nat :=
  match e.by_ with
  | .loop n => s.tinOf (.loop n)
  | _ => b.tin

/-- The check that a point of a fixed batch fails at its arrival, in the order of R158. -/
def fixedPoint (s : Block) (b : FBatch) (e : Entry) (x : Nat) : Option (Check × Nat) :=
  if s.chanFault x then some (.slice, 0x0A)
  else if !s.stillThere (s.entryTin b e) e then some (.xlate, 0x05)
  else if !s.entryLS b e && s.pointLS x then some (.block, 0x01)
  else if s.pointCode x ≠ 0 then some (.block, s.pointCode x)
  else if s.fixedStale b e then some (.epoch, 0x07) else none

/-- The bits of a register that a write changes only where it names them with 1: W1C, W1S and WO fields. -/
def pulseBits (l : List Fld) : Nat :=
  packWord ((l.filter fun f => f.acc == .w1c || f.acc == .w1s || f.acc == .wo).map fun f => (f, 2 ^ f.w - 1))

/-- The word that a bit store writes to a register (R88, R90): the named bit, every other bit as it stands, and 0 where
writing 1 would act. -/
def bitWord (s : Block) (r : Req) (off b : Nat) (v : Bool) : Nat :=
  let w := s.regVal r off
  putBit (w - Nat.land w (pulseBits (regAt off).2)) b v

/-- The rules of its block, then the epoch, for a register of a fixed batch (R157, R158). -/
def fixedReg (s a : Block) (b : FBatch) (e : Entry) (off k v : Nat) : Option (Check × Nat) :=
  if hasAcc (regAt off).2 .rws && s.regCode a [] off k v != 0 then some (.block, s.regCode a [] off k v)
  else if s.fixedStale b e then some (.epoch, 0x07) else none

/-- The check that an entry of a fixed batch fails when it reaches the batch controller (R29, R157, R158). -/
def fixedCheck (s a : Block) (b : FBatch) (e : Entry) : Option (Check × Nat) :=
  match e.tgt with
  | .reg off k =>
    if s.stageLocked off then some (.lock, 0x02) else s.fixedReg a b e off k e.val
  | .regBit off x =>
    if s.stageLocked off then some (.lock, 0x02) else s.fixedReg a b e off 0 (a.bitWord e.by_ off x (e.val % 2 == 1))
  | .point x => s.fixedPoint b e x
  | .pointBit x _ => s.fixedPoint b e x
  | .remote u _ => if u = 0 then some (.xlate, 0x05) else if s.fixedStale b e then some (.epoch, 0x07) else none

/-- An entry that stands for no register and no local point. -/
def noEntry : Entry := { tgt := .remote 0 0, val := 0, by_ := .fw 0, epoch := 0, addr := none }

/-- The items of a slot's output image that no longer translate for its tin with the write right (R158). -/
def lostItems (s : Block) (e j : Nat) : List (Entry × Check × Nat) :=
  ((s.imgMap e j (s.pendBank e j)).outs.filter fun o =>
    match s.walkQuiet (s.rd TSK.TSK_CFG.TIN e j) true .write o.addr with
    | .ok _ _ _ _ _ _ _ => false
    | .fault _ _ _ _ => true).map fun _ => (noEntry, .xlate, 0x05)

/-- What fails of an entry when it reaches the batch controller (R157, R158), in a batch that has taken it: of the image
entry every point, and the translation of every item. At ladder stage 3 and above class N fails as a whole. -/
def arrivalFails (s : Block) (b : FBatch) (q : QEnt) : List (Entry × Check × Nat) :=
  let a := s.rawAll b.entries
  let es : List Entry := match q.ent, q.who with
    | some x, _ => [x]
    | none, .slot e j => s.imageEntries s e j
    | none, _ => []
  let lost := match q.ent, q.who with
    | none, .slot e j => s.lostItems e j
    | _, _ => []
  let shed := decide (s.g PWR.PWR_STAT.LADDER ≥ 3) && !(match q.ent with | some x => s.entryLS b x | none => b.ls)
  (es.filterMap fun e => (s.fixedCheck a b e).map fun c => (e, c.1, c.2)) ++ lost ++
    (if shed then [(noEntry, .epoch, 0x0A)] else [])

/-- The walks that the arrival of an image entry makes for its items (R158, R177, R182). -/
def itemWalks (s : Block) (r : Req) : List OutItem → Block
  | [] => s
  | o :: t => (s.walk r .write o.addr s.genNow none).1.itemWalks r t

/-- What fails is kept with the batch until its boundary. -/
def noteFails (s : Block) (q : QEnt) : List FBatch → List FBatch
  | [] => []
  | b :: t =>
    if b.who = q.who ∧ b.ctick = q.due then { b with fails := b.fails ++ s.arrivalFails b q } :: t else b :: s.noteFails q t

/-- An entry reaches the batch controller (R10, R157): it is taken and validated, or discarded. -/
def acceptEnt (s : Block) (q : QEnt) : Block :=
  if s.keepsEnt q then
    let s1 := s.takeEnt q
    let s2 := { s1 with fixed := s1.noteFails q s1.fixed }
    match q.ent, q.who with
    | none, .slot e j => s2.itemWalks (.task (finMod 16 e) (finMod 8 j)) (s.imgMap e j (s.pendBank e j)).outs
    | _, _ => s2
  else s

/-- BATCH_ENTRY_ACCEPT from an engine's queue (R147, R157): the oldest entry, while one is free to fixed batches. -/
def acceptEng (s : Block) (e : Nat) : Block :=
  match s.engQueue e with
  | [] => s
  | q :: t => if s.fixedFree then { s with engQ := s.engQ.put e t }.acceptEnt q else s

/-- BATCH_ENTRY_ACCEPT from the loop engine's queue. -/
def acceptLoop (s : Block) : Block :=
  match s.loopQ with
  | [] => s
  | q :: t => if s.fixedFree then { s with loopQ := t }.acceptEnt q else s

/-- The final check of an entry of a fixed batch at its boundary (R155, R157): the lock, and the slice fault. -/
def finalFixed (s : Block) (e : Entry) : Option (Check × Nat) :=
  match e.tgt with
  | .reg off _ => if s.stageLocked off then some (.lock, 0x02) else none
  | .regBit off _ => if s.stageLocked off then some (.lock, 0x02) else none
  | .point x => if s.chanFault x then some (.slice, 0x0A) else none
  | .pointBit x _ => if s.chanFault x then some (.slice, 0x0A) else none
  | .remote _ _ => none

/-- The failing entries of a fixed batch at its boundary: those of its validation, else of the final check. What the
active partner mirrors it has validated. -/
def fixedFails (s : Block) (b : FBatch) (l : List Entry) : List (Entry × Check × Nat) :=
  if b.who = .mirror then []
  else if b.fails ≠ [] then b.fails
  else l.filterMap fun e => (s.finalFixed e).map fun c => (e, c.1, c.2)

/-- The loops of a fixed batch. -/
def loopsOf (l : List Entry) : List Nat := (l.filterMap fun e => match e.by_ with | .loop x => some x.val | _ => none).eraseDups

/-- A fixed batch aborts whole (R117, R203): the failures recorded, and what its producer notes. -/
def fixedAbort (s : Block) (b : FBatch) (fails : List (Entry × Check × Nat)) : Block :=
  let c := (firstFail fails).getD (⟨.remote 0 0, 0, .fw 0, 0, none⟩, .lock, 0)
  let s1 := (s.recordFails none b.tin fails).err 0x002 c.2.2 5 b.tin ((entryOff c.1).getD 0) none
  let s2 := s1.perf 0x062 none 1
  match b.who with
  | .slot e j =>
    let s3 := (s2.sat TSK.TSK_COUNT1.PUB_ABORTS e j 1).taskAlert TSK.TSK_ALERT.PUB_ABORT e j
    (match s3.relPend.find (scanKey e j) with
     | none => s3
     | some r => { s3 with relPend := s3.relPend.del (scanKey e j) }.logRec { r with pubAbort := true })
  | .loops => s2.loopAlerts 4 (loopsOf b.entries)
  | _ => s2

/-- Split the fixed batches of a tick: those that pass come back, the others abort. -/
def fixedPass (s : Block) : List FBatch → Block × List FBatch
  | [] => (s, [])
  | b :: t =>
    match s.fixedFails b (s.fixedEntries s b) with
    | [] =>
      let x := s.fixedPass t
      (x.1, b :: x.2)
    | fails => (s.fixedAbort b fails).fixedPass t

/-- The entries of the surviving fixed batches with their class and the place of their batch. -/
def fixedItems (s f : Block) (i : Nat) : List FBatch → List (Bool × Nat × Entry)
  | [] => []
  | b :: t => ((lastWrites (s.fixedEntries f b)).map fun e => (s.entryLS b e, i, e)) ++ s.fixedItems f (i + 1) t

/-- A task's write of a register acts at its deadline (R43, R90): every field of it, whatever its access code. -/
def taskReg (s : Block) (r : Req) (off v n : Nat) : Block :=
  let k := s.selAt r off
  let l := s.stageList r off k v
  let h := isHigh off
  match (s.p HID.ATDEADLINE 1).regWrite r off v with
  | (s1, 0) =>
    let s2 := s1.p HID.ATDEADLINE 0
    if !hasAcc (regAt off).2 .rws || h then s2
    else
      let es := l.map fun x => ({ tgt := x.1, val := x.2, by_ := r, epoch := 0, addr := none } : Entry)
      s2.saveCommit ((s2.wr HID.HELDHV off (holdKey r) 0).commitEntries n [] es) es
  | (s1, _) => s1.p HID.ATDEADLINE 0

/-- An entry of a fixed batch takes effect. -/
def fixedEntry (s : Block) (n : Nat) (e : Entry) : Block :=
  if e.by_ = .pairBlk then s.commitEntry n e
  else match e.tgt with
  | .reg off _ => s.taskReg e.by_ off e.val n
  | .regBit off b => s.taskReg e.by_ off (s.bitWord e.by_ off b (e.val % 2 == 1)) n
  | _ => s.commitEntry n e

/-- An entry of the fixed batch at place `i` takes effect, and it is noted whether it changed a route or the active-tin
table. -/
def fixedOne (s : Block) (n base i : Nat) (e : Entry) : Block :=
  let s1 := (s.p HID.COMMITNO (base + 1 + i)).fixedEntry n e
  let es : List Entry := match e.tgt with | .regBit off _ => [{ e with tgt := .reg off 0 }] | _ => [e]
  let s2 := if s.routesDiffer s1 es then s1.wr HID.EVMARK 0 i 1 else s1
  if s.tinsDiffer s1 es then s2.wr HID.EVMARK 1 i 1 else s2

/-- Fixed entries take effect in the order of R154; the first entry for a target wins over those of other batches. -/
def fixedApply (s : Block) (n base : Nat) (taken : List (Target × Nat)) : List (Bool × Nat × Entry) → Block
  | [] => s
  | (_, i, e) :: t =>
    let l := (taken.filter fun x => x.2 != i).map fun x => x.1
    let s1 := if l.any fun x => Target.meets x e.tgt then s.collide else s
    match s1.giveWay l e with
    | none => s1.fixedApply n base taken t
    | some x => (s1.fixedOne n base i x).fixedApply n base ((e.tgt, i) :: taken) t

/-- ROUTE_COMMIT and TIN_CHANGE fire once for each of a list of fixed batches that has changed the table (R62, R198). -/
def fixedEvents (s : Block) : List Nat → Block
  | [] => s
  | i :: t =>
    let s1 := (s.fireIf (s.on HID.EVMARK 0 i) EV.EVR.ROUTE_COMMIT).fireIf (s.on HID.EVMARK 1 i) EV.TIN.TIN_CHANGE
    ((s1.wr HID.EVMARK 0 i 0).wr HID.EVMARK 1 i 0).fixedEvents t

/-- The slices whose outputs a batch carries (R235). -/
def slicesOf (l : List Entry) : List Nat :=
  (l.filterMap fun e => match e.tgt with | .point a => pointSlice a | .pointBit a _ => pointSlice a | _ => none).eraseDups

/-- Each slice of a list is refreshed. -/
def refreshAll (s : Block) (n : Nat) : List Nat → Block
  | [] => s
  | sl :: t => (s.refresh sl n).refreshAll n t

/-- The output that a loop's entries in a batch stand for (R199). -/
def sentCode (s : Block) (n : Nat) (l : List Entry) : Nat :=
  let vs := (l.filter fun e => match e.by_ with | .loop x => x.val == n | _ => false).map fun e => e.val
  if s.lp LOOP.LOOP_CFG.KIND n = 1 then vs.headD 0 % 2
  else if vs.headD 0 ≠ 0 ∧ vs.getD 1 0 = 0 then 2 else if vs.headD 0 = 0 ∧ vs.getD 1 0 ≠ 0 then 0 else 1

/-- Loops take what has been committed for them. -/
def loopsCommitted (s : Block) (n : Nat) (es : List Entry) : List Nat → Block
  | [] => s
  | x :: t => (s.loopCommitted x n (s.sentCode x es)).loopsCommitted n es t

/-- ACTIVE of each engine's force table as it stands after the commits of the boundary, for what looks at the new table
(R125). -/
def activeNow (s : Block) : List Nat → Block
  | [] => s
  | e :: t => (if s.on HID.FORCEBUMP e 0 then s.wr TSK.FORCE_STAT.ACTIVE e 0 (s.activeForces e) else s).activeNow t
def forcesNow (s : Block) : Block := s.activeNow (List.range 16)

/-- The generation of an engine's force table in force at a publication (R125, R127, R142): a change that commits at the
same boundary is counted already (assumption 36). -/
def forceGenNow (s : Block) (e : Nat) : Nat := (s.rd TSK.FORCE_STAT.GEN e 0 + s.rd HID.FORCEBUMP e 0) % 65536

/-- What a fixed batch that has committed leaves: the refresh of its slices, the slot's release record and published
words, the loops' outputs. -/
def fixedDone (s : Block) (n : Nat) (b : FBatch) (es : List Entry) : Block :=
  let s1 := ((s.refreshAll n (slicesOf es)).perf 0x060 none 1).perf 0x061 none (b.entries.length + b2n b.image)
  match b.who with
  | .slot e j =>
    (match s1.relPend.find (scanKey e j) with
     | none => s1
     | some r =>
       let s2 := s1.notePub e j r.bank (outWordsOf (s1.imgMap e j r.bank))
       let s3 := s2.setLines HID.LINE_END e 0 (s2.slotLines e j r.bank)
       { s3 with relPend := s3.relPend.del (scanKey e j) }.logRec
         { r with forced := r.forced || s3.forcesNow.outForced e j, forceGen := s3.forceGenNow e })
  | .loops => s1.loopsCommitted n es (loopsOf es)
  | _ => s1

/-- The same for each batch; `es` are their entries before the commit. -/
def fixedDones (s : Block) (n : Nat) : List (FBatch × List Entry) → Block
  | [] => s
  | (b, es) :: t => (s.fixedDone n b es).fixedDones n t

/-- The batches of boundary `n` take effect (R20 step 1, R153 to R157): overruns first, opened batches, fixed batches, whose
images take the force tables that the opened batches leave (R125). Of the fixed entries only those that `keep` admits. -/
def commitAll (s : Block) (n : Nat) (keep : Entry → Bool) : Block :=
  let s1 := ((s.deadlines n allSlots).lateImages n s.relPend).dropLateLoops n
  let x := s1.fixedPass (s1.fixedDue n)
  let s2 := { x.1 with fixed := x.1.fixed.filter fun b => decide (b.ctick > n) }
  let skip := (s1.fixedItems s1 0 x.2).map fun i => i.2.2.tgt
  let s3 := s2.boundaryBatches n skip s2.batches
  let f := s3.forcesNow
  let items := (s1.fixedItems f 0 x.2).filter fun i => keep i.2.2
  let base := s3.g HID.COMMITNO
  let s4 := (s3.fixedApply n base [] ((items.filter fun i => i.1) ++ items.filter fun i => !i.1)).fixedEvents
    (List.range x.2.length)
  (s4.p HID.COMMITNO (base + x.2.length)).fixedDones n (x.2.map fun b => (b, s1.fixedEntries f b))

/-! ### Bits set and cleared at one boundary (R4) -/

/-- The W1C fields and the event registers: bits that hardware sets and a write clears. -/
def eventFlds : List Fld :=
  [HDR.EV_RAW.EV_RAW, HDR.EV_PEND.EV_PEND, EVR.EVR_STAT.MERGE_OVF, TSK.TSK_ALERT.OVERRUN, TSK.TSK_ALERT.FAULT,
    TSK.TSK_ALERT.MISSED, TSK.TSK_ALERT.STOPPED] ++
  [TSK.TSK_ALERT.PUB_ABORT, TSK.TSK_ALERT.CAP_SLOW, TSK.TSK_ALERT.COLD_FALLBACK, TSK.TSK_ALERT.RTC_LOST,
    TSK.TSK_ALERT.EV_OVF, LOOP.LOOP_ALERT.PLAUS_FAULT, LOOP.LOOP_ALERT.HANDOVER_END, LOOP.LOOP_ALERT.HO_TIMEOUT] ++
  [LOOP.LOOP_ALERT.PV_LATE, LOOP.LOOP_ALERT.OUT_FAULT, LOOP.LOOP_ALERT.OUT_LATE, LOOP.LOOP_ALERT.AT_END,
    LOOP.LOOP_ALERT.SP_CLAMPED, DIO.DIO_CH_ALERT.ALERT, AIO.AIO_CH_ALERT.ALERT, CAP.CAP_STAT.OVF] ++
  [ZONE.ZONE_ALERT.OPEN, ZONE.ZONE_ALERT.SHORT, ZONE.ZONE_ALERT.EARTH, ZONE.ZONE_ALERT.DRIFT, ZONE.ZONE_ALERT.AMP_FAIL,
    ZONE.ZONE_ALERT.CUT, ZONE.ZONE_ALERT.COMM_DONE, RING.STAT_HALF.HALF] ++
  [SEG.STAT_HALF.HALF, SVC.STAT_HALF.HALF, PAIR.STAT_HALF.HALF, RTC.RTC_STAT.ALM0, RTC.RTC_STAT.ALM1, PAIR.DRILL_RES.DONE,
    PERF.PERF_OVF_L.OVF_L, PERF.PERF_OVF_H.OVF_H]

/-- The fields of an error record (R48). -/
def errFlds : List Fld :=
  [HDR.ERR_CODE.CODE, HDR.ERR_CODE.REQ, HDR.ERR_CODE.TIN, HDR.ERR_CODE.COUNT, HDR.ERR_ADDR.OFFSET, HDR.ERR_ADDR.BATCH,
    HDR.ERR_ADDR.BATCH_VALID]

/-- Whether an entry of a fixed batch clears such bits when it acts: a write of a register with a W1C field, of EV_CLEAR, or
of ERR_CODE. -/
def clearsBits (e : Entry) : Bool :=
  match e.tgt with
  | .reg off _ => hasAcc (regAt off).2 .w1c || off % 4096 == 0x01C || off % 4096 == 0x024
  | .regBit off _ => hasAcc (regAt off).2 .w1c || off % 4096 == 0x01C || off % 4096 == 0x024
  | _ => false

/-- The state with no such bit set and no error recorded. -/
def bitsClear (s : Block) : Block :=
  { s with cells := s.cells.filter fun c => !codeIn eventFlds c.1.f && !codeIn errFlds c.1.f }

/-- The bits that another state has set, set in this one too; the errors that it has recorded stand here. -/
def bitsFrom (s a : Block) : Block :=
  let or_ (c : Cells) (x : Key × Nat) : Cells := if codeIn eventFlds x.1.f then c.put x.1 (Nat.lor x.2 ((c.find x.1).getD 0)) else c
  let errs := a.cells.filter fun x => codeIn errFlds x.1.f
  let page (x : Key × Nat) : Bool := codeIn errFlds x.1.f && errs.any fun y => y.1.i == x.1.i
  let c1 := (s.cells.filter fun x => !page x)
  { s with cells := errs.foldl (fun (c : Cells) x => c.put x.1 x.2) (a.cells.foldl or_ c1) }

/-- An operation of a boundary whose fixed entries may clear bits that the same boundary sets: such a bit ends set (R4), and
an error recorded there stands (R48). `op` takes the entries that it is to let act. -/
def keepSet (s : Block) (n : Nat) (op : Block → (Entry → Bool) → Block) : Block :=
  if (s.fixed.filter fun b => b.ctick == n).any fun b => b.entries.any clearsBits then
    (op s fun _ => true).bitsFrom (op s.bitsClear fun e => !clearsBits e)
  else op s fun _ => true

/-! ### Forces at a boundary (R125 to R128) -/

/-- One item of a slot's output image takes what the forces and the last publication give it. -/
def reforceItem (s : Block) (e j w mask n : Nat) (o : OutItem) : Block :=
  let pub := s.on HID.PUBBY (scanKey e j) w
  let l := s.forcesOn e j 1 w
  let fm := l.foldl (fun (a : Nat) k => Nat.lor a (s.rd TSK.FORCE_MASK.MASK e k)) 0
  let held (m : Nat) : Bool := match o.bit with | none => m != 0 | some b => m.testBit b
  match s.outLocal e j o with
  | none => s
  | some a =>
    if o.word ≠ w ∨ held mask = false ∨ (pub = false ∧ held fm = false) then s
    else
      let base := if pub then s.rd HID.PUBQ (scanKey e j) w else (match o.bit with | none => s.point a | some _ => 0)
      let v := outValue o (s.forceWord e base l) (s.point a)
      if v = s.point a then s else s.commitPoint a v n

/-- The items of a word whose force has changed. -/
def reforceItems (s : Block) (t : FTouch) (n : Nat) : List OutItem → Block
  | [] => s
  | o :: r => (s.reforceItem t.e t.j t.word t.mask n o).reforceItems t n r

/-- The words of other modules that follow a changed force (R125): they leave at boundary `n` in IMAGE frames for the next
tick, with the forces on what the slot published last (assumption 110). The standby partner sends none. -/
def reforceFar (s : Block) (t : FTouch) (n : Nat) (l : List OutItem) : Block :=
  if s.role = 2 ∨ s.role = 3 then s
  else
    let held (o : OutItem) : Bool := o.word == t.word && (match o.bit with | none => t.mask != 0 | some b => t.mask.testBit b)
    let q (w : Nat) : Nat := s.forceWord t.e (s.rd HID.PUBQ (scanKey t.e t.j) w) (s.forcesOn t.e t.j 1 w)
    let ws := s.farWords t.e t.j q [] (l.filter held)
    if ws.isEmpty then s else s.farSend (n + 1) none (s.on TSK.TSK_CFG.LS t.e t.j) ws

/-- The words whose force has changed at boundary `n` (R125). -/
def reforceAll (s : Block) (n : Nat) : List FTouch → Block
  | [] => s
  | t :: r =>
    let l := (s.imgMap t.e t.j (s.slotBank t.e t.j)).outs
    ((s.reforceItems t n l).reforceFar t n l).reforceAll n r

/-- FORCE_STAT of the engines whose table has changed, and the new table in history (R127). -/
def forceStats (s : Block) : List Nat → Block
  | [] => s
  | e :: t =>
    (if s.on HID.FORCEBUMP e 0 then
       (((s.wr HID.FORCEBUMP e 0 0).wrap TSK.FORCE_STAT.GEN e 0 1).wr TSK.FORCE_STAT.ACTIVE e 0 (s.activeForces e)).histForces e
     else s).forceStats t

/-- Every active output force that MOD_FIRE suspends or lets apply again (R128). -/
def fireTouches (s : Block) : List FTouch :=
  (List.range 16).flatMap fun e =>
    if s.rd TSK.FORCE_STAT.ACTIVE e 0 = 0 then []
    else (List.range 256).flatMap fun k =>
      if s.on TSK.FORCE_TGT.FIRE_KEEP e k || !s.forceLS e k then [] else s.forceTouch e k

/-- The force tables at boundary `n`, after the commits; `fireWas` says whether MOD_FIRE held before it (R125 to R128). -/
def forceBoundary (s : Block) (n : Nat) (fireWas : Bool) : Block :=
  let was := s.anyForce
  let s1 := s.forceStats (List.range 16)
  let s2 := s1.p MOD.MOD_STATUS.FORCED (b2n s1.anyForce)
  let s3 := (s2.fireIf (!was && s1.anyForce) EV.MOD.FORCE_ON).fireIf (was && !s1.anyForce) EV.MOD.FORCE_OFF
  let l := s3.ftouch ++ (if fireWas == s3.inFire then [] else s3.fireTouches)
  { s3 with ftouch := [] }.reforceAll n l

end Block
end Sys2Proof.Machine
end

