-- ==== Sys2Proof/Machine/Tower.lean ====
section
/-!
DEFINITION. Accesses by tower address: the walk, the access to a target of this module, and the REQUEST and STAGE frames
for a target of another module (R180, R193, R160, R393).
-/
namespace Sys2Proof.Machine
namespace Block

/-! ### Frames that wait for an answer -/

/-- Take a TAG for a frame to `dst`, whose answer somebody waits for. -/
def askTag (s : Block) (dst : Nat) (who : Asker) (batch : Option Nat) : Block × Nat :=
  let t := s.g HID.TAGNO
  ({ s.wrap HID.TAGNO 0 0 1 with asks := s.asks ++ [⟨t, dst, who, batch⟩] }, t)

/-- A local address in a frame: the leaf's KIND stands above the 32 bits of the address (assumption 28). -/
def frameAddr (kind a : Nat) : Nat := kind * 2 ^ 32 + a % 2 ^ 32

/-- Registers whose write configures channels, loops, routes, slots, tins, audio or zones: they also need the configure
right on the register-window leaf (R195); of the AUD and ZONE pages every register does (R258). -/
def configures (off : Nat) : Bool :=
  let p := off / 4096
  let o := off % 4096
  (p == 0x001 && o == 0x04C) || (decide (0x020 ≤ p ∧ p < 0x030) && tskCfgReg o) ||
    (decide (0x030 ≤ p ∧ p < 0x040) && loopNeedsCfg o) || (p == 0x041 && o == 0x044) ||
    (decide (0x050 ≤ p ∧ p < 0x056) && o == 0x044) || (decide (0x058 ≤ p ∧ p < 0x05B) && decide (0x044 ≤ o ∧ o ≤ 0x050)) ||
    (decide (0x060 ≤ p ∧ p ≤ 0x064) && (decide (o < 0x040) || !(regAt off).2.isEmpty))

/-- The rights that the walks behind a write at a local address have needed, which a ring request carries (R186): write, and
configure or force where the register takes them (R126, R195, assumption 135). -/
def writeRights (kind a : Nat) : Nat :=
  if kind = 1 ∧ configures (a % 2 ^ 24) then 0xA
  else if kind = 1 ∧ 0x020 ≤ a % 2 ^ 24 / 4096 ∧ a % 2 ^ 24 / 4096 < 0x030 ∧ 0x094 ≤ a % 4096 ∧ a % 4096 ≤ 0x09C then 0x6
  else 0x2

/-- Send a REQUEST for an access to another module (R180, R303). -/
def sendRequest (s : Block) (r : Req) (write : Bool) (u epoch kind a v : Nat) (who : Asker) : Block :=
  let x := s.askTag u who none
  let right := if write then writeRights kind a else 1
  x.1.queue ⟨.request (if write then 2 else 1) (reqKind r) right (s.tinOf r) (frameAddr kind a) x.2 v, u, epoch, s.reqLS r, 0⟩

/-- Send a STAGE for a target of another module (R160): the module joins the participants of the batch, of which there
are at most 32, the coordinator itself not counted (assumption 126). -/
def sendStage (s : Block) (r : Req) (id : Nat) (b : Batch) (u epoch kind a v : Nat) (who : Asker) : Block × Nat :=
  if !b.xmod then ((s.doomBatch id 0x0D 0), 0x0D)
  else if b.st = .doomed then (s, b.code)
  else if b.st = .sealed ∨ b.st = .prepared then (s, 0x0A)
  else if !b.parts.contains u && decide (b.parts.length ≥ 32) then ((s.doomBatch id 0x04 0), 0x04)
  else
    let s1 := s.putBatch id { b with parts := if b.parts.contains u then b.parts else b.parts ++ [u] }
    let x := s1.askTag u who (some id)
    let off := a % 2 ^ 24
    let sel := if kind = 1 ∧ (regAt off).2.any (fun f => f.sel != .none && f.sel != .req) then s.selAt r off else 0xFFFFFFFF
    (x.1.queue ⟨.stage id b.tin x.2 (frameAddr kind a) v sel, u, epoch, b.ls, 0⟩, 0)

/-! ### Accesses to this module -/

/-- Whether a local address is the lower word of a 64-bit register of a meter page, or the upper word of one (R284). -/
def meterLow (a : Nat) : Bool := decide (0x1A0000 ≤ a) && decide (a < 0x1B0000) && decide (0x10 ≤ a % 4096) && decide (a % 4096 < 0xD0) && a % 8 == 0
def meterHigh (a : Nat) : Bool := decide (4 ≤ a) && meterLow (a - 4)

/-- What a read of a point leaves (R37, R284): the lower word of a meter's register snapshots its upper word for the requester, whose
next read of that word takes the snapshot. -/
def pointSnap (s : Block) (r : Req) (a : Nat) : Block :=
  if meterLow a then (s.wr HID.SNAPH (2 ^ 24 + a) (holdKey r) (s.pointWord (a + 4))).wr HID.SNAPHV (2 ^ 24 + a) (holdKey r) 1
  else if meterHigh a then s.wr HID.SNAPHV (2 ^ 24 + a - 4) (holdKey r) 0 else s

/-- What a read of a point gives: of the upper word of a meter's register the snapshot, where one stands (R37, R284). -/
def pointRead (s : Block) (r : Req) (a : Nat) : Nat :=
  if meterHigh a && s.on HID.SNAPHV (2 ^ 24 + a - 4) (holdKey r) then s.rd HID.SNAPH (2 ^ 24 + a - 4) (holdKey r) else s.pointWord a

/-- An access to the local address that a walk or a frame names: `k` is the leaf's KIND. The result is ERR_CODE and the
value. -/
def localRead (s : Block) (r : Req) (k a : Nat) : Block × Nat × Nat :=
  if k = 0 then (if a ≥ 0x1000000 then (s, 0x08, 0) else (s.pointSnap r (a / 4 * 4), 0, s.pointRead r (a / 4 * 4)))
  else if k = 1 then s.readReg r (a % 2 ^ 24)
  else s.histRead r a

/-- A point of this module is staged (R152, R393). A refusal at this point has no page (R47) and is only answered. -/
def stagePoint (s : Block) (r : Req) (a v epoch : Nat) (addr : Option Nat) : Block × Nat :=
  if s.pointCode (a / 4 * 4) ≠ 0 then (s.stageRefused r (s.pointCode (a / 4 * 4)), s.pointCode (a / 4 * 4))
  else s.stageFor r [(.point (a / 4 * 4), v)] epoch addr

/-- A write to the local address that a walk or a frame names. History is read-only (R175). -/
def localWrite (s : Block) (r : Req) (k a v epoch : Nat) (addr : Option Nat) : Block × Nat :=
  if k = 0 then s.stagePoint r a v epoch addr
  else if k = 1 then s.regWrite r (a % 2 ^ 24) v
  else ((s.errR 0x040 0x0D r 0 (s.tagNow r)).stageRefused r 0x0D, 0x0D)

/-- Level and hops of the walk to a register, for the record of R194. -/
def noteWalk (s : Block) (level hops : Nat) : Block := (s.p HID.SELLEVEL level).p HID.SELHOPS hops

/-- A misaligned access is refused before its walk (R36, R461). In the module's own window it is recorded on the page of
the register. -/
def misaligned (s : Block) (r : Req) (write : Bool) (addr v : Nat) : Block :=
  match s.windowOff addr with
  | some o => if write then (s.regWriteAcc r o 4 v).1 else s.refuse (o / 4096) 0x08 r o
  | none => if write then s.stageRefused r 0x08 else s

/-- A standby or fenced partner refuses an access to itself (R180). -/
def idleRefusal (s : Block) (r : Req) (write : Bool) (kind a : Nat) : Block :=
  let s1 := if kind = 1 then s.errR (a % 2 ^ 24 / 4096) 0x07 r (a % 2 ^ 24) (s.tagNow r) else s
  if write then s1.stageRefused r 0x07 else s1

/-- A read by tower address (R177, R180): ERR_CODE and value, or none while a REQUEST is on its way. -/
def towerRead (s : Block) (r : Req) (addr : Nat) (who : Asker) : Block × Option (Nat × Nat) :=
  if addr % 4 ≠ 0 then (s.misaligned r false addr 0, some (0x08, 0))
  else
    match s.walk r .read addr s.genNow none with
    | (s1, .fault c _ _ _) => (s1, some (faultErr c, 0))
    | (s1, .ok u ep k a lv h _) =>
      if s1.isSelf u then
        let x := (s1.noteWalk lv h).localRead r k a
        (x.1.noteWalk 0 0, some x.2)
      else if s1.isIdleSelf u then (s1.idleRefusal r false k a, some (0x07, 0))
      else (s1.sendRequest r false u ep k a 0 who, none)

/-- A write that configures is refused where the leaf does not give the configure right (R195). -/
def configDenied (s : Block) (r : Req) (addr k a : Nat) : Option Block :=
  if k = 1 ∧ configures (a % 2 ^ 24) then
    match s.walkOf r .configure addr s.genNow (s.leafFor addr s.genNow none) with
    | (s1, .fault _ _ _ _) => some s1
    | (_, .ok _ _ _ _ _ _ _) => none
  else none

/-- A write to another module (R160, R180): points and RWS registers are staged there, other registers are written by a
REQUEST. A requester without a tag stages in a single-entry batch, which spans no modules (0x0D). -/
def remoteWrite (s : Block) (r : Req) (u ep k a v : Nat) (who : Asker) : Block × Option (Nat × Nat) :=
  if k = 0 ∨ a % 4096 = 0x008 ∨ hasAcc (regAt (a % 2 ^ 24)).2 .rws then
    match s.tagged r with
    | some (id, b) =>
      (match s.sendStage r id b u ep k a v who with
       | (s1, 0) => (s1, none)
       | (s1, c) => (s1, some (c, 0)))
    | none => (s, some ((if s.own HDR.BATCH_TAG.ENDED 0 r = 1 then 0x08 else 0x0D), 0))
  else (s.sendRequest r true u ep k a v who, none)

/-- A write by tower address (R177, R180, R393): ERR_CODE, or none while a frame is on its way. -/
def towerWrite (s : Block) (r : Req) (addr v : Nat) (who : Asker) : Block × Option (Nat × Nat) :=
  if addr % 4 ≠ 0 then (s.misaligned r true addr v, some (0x08, 0))
  else
    match s.walk r .write addr s.genNow none with
    | (s1, .fault c _ _ _) => (s1.stageRefused r (faultErr c), some (faultErr c, 0))
    | (s1, .ok u ep k a lv h _) =>
      if k ≥ 2 then ((s1.localWrite r k a v ep none).1, some (0x0D, 0))
      else
        match s1.configDenied r addr k a with
        | some s2 => (s2.stageRefused r 0x01, some (0x01, 0))
        | none =>
          if s1.isSelf u then
            let x := (s1.noteWalk lv h).localWrite r k a v ep (some addr)
            (x.1.noteWalk 0 0, some (x.2, 0))
          else if s1.isIdleSelf u then (s1.idleRefusal r true k a, some (0x07, 0))
          else s1.remoteWrite r u ep k a v who

/-! ### DATA frames of sessions (R393) -/

/-- The operations of a DATA frame in order, as long as the session stays open. -/
def sesOps (s : Block) (n : Fin 64) (num : Nat) (acc : List (Nat × Option (Nat × Nat))) : List SesOp → Block × List (Nat × Option (Nat × Nat))
  | [] => (s, acc)
  | o :: t =>
    if s.rd SES.SES_STATE.STATE 0 n.val ≠ 2 then (s, acc)
    else
      let who := Asker.ses num acc.length
      let x := if o.write then s.towerWrite (.ses n) (o.addr % 2 ^ 48) o.val.toNat who
        else s.towerRead (.ses n) (o.addr % 2 ^ 48) who
      x.1.sesOps n num (acc ++ [(o.tag, x.2)]) t

/-- The words of an answer: the operation count, then TAG, ERR_CODE and value of each. -/
def answerWords (l : List (Nat × Option (Nat × Nat))) : List Nat :=
  l.length :: l.flatMap fun (x : Nat × Option (Nat × Nat)) => [x.1, (x.2.getD (0, 0)).1, (x.2.getD (0, 0)).2]

/-- An answer leaves when every operation has its result. -/
def sesReply (s : Block) (a : SesAns) : Block :=
  if a.items.all fun x => x.2.isSome then
    let s1 := { s with sesAns := s.sesAns.filter fun x => x.num != a.num }
    if h : a.ses < 64 then s1.sesTx ⟨a.ses, h⟩ (answerWords a.items) else s1
  else { s with sesAns := (s.sesAns.filter fun x => x.num != a.num) ++ [a] }

/-- SES_DATA (R393). -/
def sesData (s : Block) (src : SesSrc) (n : Fin 64) (seq : Nat) (tagOk : Bool) (ops : List SesOp) : Block :=
  match s.sesFrame src n seq tagOk with
  | (s1, false) => s1
  | (s1, true) =>
    if ops.isEmpty || decide (ops.length > 64) then s1
    else
      let num := s1.g HID.ANSNO
      let x := (s1.wrap HID.ANSNO 0 0 1).sesOps n num [] ops
      if x.1.rd SES.SES_STATE.STATE 0 n.val = 2 then x.1.sesReply ⟨n.val, num, x.2⟩ else x.1

/-! ### Answers to REQUEST and STAGE -/

/-- Put a result at a position of a list of results. -/
def setItem (i : Nat) (v : Nat × Nat) : List (Nat × Option (Nat × Nat)) → List (Nat × Option (Nat × Nat))
  | [] => []
  | x :: t => match i with
    | 0 => (x.1, some v) :: t
    | k + 1 => x :: setItem k v t

/-- The one who waits takes the answer (R89, R91, R393): a refused direct read reads 0 and sets PF. -/
def answer (s : Block) (who : Asker) (code val : Nat) : Block :=
  match who with
  | .nobody => s
  | .ses num i =>
    match s.sesAns.find? fun a => a.num == num with
    | none => s
    | some a => s.sesReply { a with items := setItem i (code, val) a.items }
  | .scan e j rel =>
    match s.scan e j with
    | none => s
    | some c =>
      if c.rel ≠ rel then s
      else if code = 0 then s.putScan e j { c with ans := some val }
      else s.putScan e j { c with walked := some .lost }

/-- The frame that an answer belongs to. -/
def askOf (s : Block) (src tag : Nat) (stage : Bool) : Option Ask :=
  s.asks.find? fun a => a.tag == tag && a.dst == src && (a.batch.isSome == stage)

/-- RING_RESPONSE (R303). -/
def responseRx (s : Block) (src tag code val : Nat) : Block :=
  match s.askOf src tag false with
  | none => s
  | some a => { s with asks := s.asks.erase a }.answer a.who code val

/-- RING_STAGE_ANS (R160): a refusal dooms the coordinator's batch with the participant's code and module. -/
def stageAnsRx (s : Block) (src tag code : Nat) : Block :=
  match s.askOf src tag true with
  | none => s
  | some a =>
    let s1 := { s with asks := s.asks.erase a }
    let s2 := match a.batch with
      | some id => if code ≠ 0 then s1.doomBatch id code src else s1
      | none => s1
    s2.answer a.who code 0

/-! ### Frames that ask this module -/

/-- Whether the epoch with which the sender resolved this module is older than the current one (R28, R180, R305). -/
def staleTarget (s : Block) (h : Hdr) : Bool :=
  h.dstEpoch != 0 && newer (if s.paired then s.epoch else (s.domEntry s.selfId).2.2) h.dstEpoch

/-- The holder checks tin and right again, against the owner tin and the LS bit of the page reached (R193). -/
def pageAllows (s : Block) (r : Req) (x : Right) (k a : Nat) : Bool :=
  s.allowed (s.tinOf r) (s.holds r x) x (s.pageOwner k a) true (s.pageLS k a)

/-- A refusal under R193. -/
def peerDenied (s : Block) (r : Req) (k a : Nat) : Block :=
  let s1 := (s.sat RCTL.RCTL_COUNT1.DENIED 0 0 1).denyCount (s.tinOf r) (List.range 64)
  let s2 := if k = 1 then s1.errR (a % 2 ^ 24 / 4096) 0x01 r (a % 2 ^ 24) (s.tagNow r) else s1
  s2.fire EV.TIN.DENIED

/-- What a peer's access meets before it is made, as a code: its epoch, then every right that it needs (R193). -/
def peerCode (s : Block) (h : Hdr) (r : Req) (x : Right) (k a : Nat) : Nat :=
  let cfg := x == .write && (writeRights k a).testBit 3
  if s.staleTarget h then 0x07
  else if s.pageAllows r x k a && (!cfg || s.pageAllows r .configure k a) then 0 else 0x01

/-- An access that a REQUEST asks for (R193): the code and the value. Its alignment is judged first (R461). -/
def peerAccess (s : Block) (h : Hdr) (r : Req) (write : Bool) (k a v : Nat) : Block × Nat × Nat :=
  let c := s.peerCode h r (if write then .write else .read) k a
  if a % 4 ≠ 0 then
    ((if k = 1 then (if write then (s.regWriteAcc r (a % 2 ^ 24) 4 v).1 else s.refuse (a % 2 ^ 24 / 4096) 0x08 r (a % 2 ^ 24)) else s), 0x08, 0)
  else if c = 0x07 then (s.idleRefusal r write k a, 0x07, 0)
  else if c ≠ 0 then (s.peerDenied r k a, c, 0)
  else if write then
    let x := s.localWrite r k a v (if s.paired then s.epoch else 0) none
    (x.1, x.2, 0)
  else s.localRead r k a

/-- The RESPONSE to a REQUEST. -/
def sendResponse (s : Block) (h : Hdr) (tag code val : Nat) : Block :=
  s.queue ⟨.response tag code val, h.src.val, s.newestEpoch h.src.val, h.ls, 0⟩

/-- RING_REQUEST (R193, R303): performed or refused, and answered. -/
def requestRx (s : Block) (h : Hdr) (op right tin addr tag val : Nat) : Block :=
  let x := s.peerAccess h (.peer h.src.val tin right h.ls) (op == 2) (addr / 2 ^ 32) (addr % 2 ^ 32) val
  x.1.sendResponse h tag x.2.1 x.2.2

/-- This module's part of a coordinator's batch (R160). -/
def partOf (s : Block) (coord id : Nat) : Option (Nat × Batch) :=
  s.batches.find? fun (b : Nat × Batch) => b.2.remote && b.2.coord == (coord, id)

/-- The part of a coordinator's batch, opened by its first STAGE (R160). -/
def openPart (s : Block) (h : Hdr) (r : Req) (id : Nat) : Block × Option Nat :=
  match s.partOf h.src.val id with
  | some (n, _) => (s, some n)
  | none =>
    let b := { s.newBatch r false false true with ls := h.ls, coord := (h.src.val, id) }
    match s.openBatch b with
    | none => (s, none)
    | some (n, s1) => (s1, some n)

/-- A staging that a STAGE frame carries, in the part opened for it; its alignment is judged first (R461). -/
def stagePart (s : Block) (h : Hdr) (r : Req) (n k a v sel : Nat) : Block × Nat :=
  let s1 := (s.p HID.PEERTAG (n + 1)).p HID.PEERSEL (if sel = 0xFFFFFFFF then 0 else sel)
  let c := s1.peerCode h r .write k a
  let x :=
    if a % 4 ≠ 0 then
      (if k = 1 then s1.regWriteAcc r (a % 2 ^ 24) 4 v else (s1.stageRefused r 0x08, 0x08))
    else if c = 0x07 then ((s1.idleRefusal r true k a).fire EV.BAT.REMOTE_STALE, 0x07)
    else if c ≠ 0 then ((s1.peerDenied r k a).stageRefused r c, c)
    else s1.localWrite r k a v (if s.paired then s.epoch else 0) none
  ((x.1.p HID.PEERTAG 0).p HID.PEERSEL 0, x.2)

/-- RING_STAGE (R160): the participant opens or adds to its part and answers. A part that no ID is free for is refused
with 0x04 (R147). -/
def stageRx (s : Block) (h : Hdr) (id tin tag addr val sel : Nat) : Block :=
  let r := Req.peer h.src.val tin (writeRights (addr / 2 ^ 32) (addr % 2 ^ 32)) h.ls
  let ans (b : Block) (code n : Nat) : Block :=
    b.queue ⟨.stageAns tag code n, h.src.val, b.newestEpoch h.src.val, h.ls, 0⟩
  match s.openPart h r id with
  | (s1, none) => ans s1 0x04 0
  | (s1, some n) =>
    let x := s1.stagePart h r n (addr / 2 ^ 32) (addr % 2 ^ 32) val sel
    ans x.1 x.2 n

end Block
end Sys2Proof.Machine
end

