-- ==== Sys2Proof/Machine/RingRx.lean ====
section
/-!
DEFINITION. Frames for translation as they arrive (R318): IMAGE, REQUEST, RESPONSE, STAGE and STAGE_ANS, the ring-receive
queue and its buffer, and the credits that consumers return (R10, R11).
-/
namespace Sys2Proof.Machine
namespace Block

/-! ### IMAGE frames -/

/-- Where a tower address leads without regard to rights: unit, KIND and local address. -/
def locate (s : Block) (addr : Nat) : Option (Nat × Nat × Nat) :=
  match s.leafFor addr s.genNow none with
  | .fault _ _ _ => none
  | .leaf lv e _ =>
    match s.resolve 10 (leafHolder e) 0 with
    | .unit u _ _ => some (u, leafKind e, leafOffset e + addr % leafSpan lv)
    | .fault _ _ => none

/-- The words of the runs of an IMAGE frame, each with its tower address. -/
def runWords (runs : List (Nat × List Nat)) : List (Nat × Nat) :=
  runs.flatMap fun (r : Nat × List Nat) => r.2.zipIdx.map fun (x : Nat × Nat) => (r.1 + 4 * x.2, x.1)

/-- A value that reaches the image builder (R22); one of the same point and tick is replaced. -/
def remoteArrives (s : Block) (addr tick v : Nat) : Block :=
  { s with remoteIn := ⟨addr, tick, v⟩ :: s.remoteIn.filter fun x => !(x.addr == addr && x.tick == tick) }

/-- A word that a placed slot of another module publishes to a point of this module (R369, R372): staged in a fixed batch
for its tick, or discarded. -/
def publishRx (s : Block) (h : Hdr) (tick a v : Nat) : Block :=
  if !s.ownerOk a h.src.val h.dstEpoch then s.peelLate
  else if tick ≤ s.tick then s.sat PEEL.PEEL_PUB.REMOTE_LATE 0 0 1
  else
    let e : Entry := { tgt := .point a, val := v, by_ := .peer h.src.val 0 0xF h.ls, epoch := h.dstEpoch, addr := none }
    (s.ownerNote a h.src.val h.dstEpoch).acceptEnt
      { who := .remoteTask h.src.val, due := tick, rel := 0, ls := h.ls, tin := 0, ent := some e }

/-- A word that a task of another module writes to a register of this module (R43, R90): it acts at its tick, with the
fixed batches (assumption 108). -/
def registerRx (s : Block) (h : Hdr) (tick off v : Nat) : Block :=
  if tick ≤ s.tick then s.sat PEEL.PEEL_PUB.REMOTE_LATE 0 0 1
  else
    let e : Entry := { tgt := .reg off 0, val := v, by_ := .peer h.src.val 0 0xF h.ls, epoch := h.dstEpoch, addr := none }
    s.acceptEnt { who := .remoteTask h.src.val, due := tick, rel := 0, ls := h.ls, tin := 0, ent := some e }

/-- A point record enters the queue from translation to the image builder, for a credit (R10, R11, R197). -/
def imgPush (s : Block) (x : RVal) : Block :=
  let c := s.g XLT.IMG_Q_CREDIT.CREDITS
  ({ s with imgQ := s.imgQ ++ [x] }.p XLT.IMG_Q_CREDIT.CREDITS (c - 1)).fireIf (c == 1) EV.XLT.IMG_Q_EMPTY

/-- One word of an IMAGE frame: a publication to a point or a register of this module, or a value of another module's point
for the image builder; none where that queue has no credit. -/
def imageWord (s : Block) (x : ImgHeld) : Option Block :=
  match s.locate x.addr with
  | some (u, k, a) =>
    if u = s.selfId then
      some (if k = 0 then s.publishRx x.h x.tick (a / 4 * 4) x.val
            else if k = 1 then s.registerRx x.h x.tick (a % 2 ^ 24 / 4 * 4) x.val else s)
    else if s.g XLT.IMG_Q_CREDIT.CREDITS = 0 then none else some (s.imgPush ⟨x.addr, x.tick, x.val⟩)
  | none => some s

/-- Words in order: the first that finds no credit waits in translation, with all after it (R10). -/
def imageWords (s : Block) : List ImgHeld → Block
  | [] => { s with imgWait := [] }
  | x :: t =>
    match s.imageWord x with
    | some s1 => s1.imageWords t
    | none => { s with imgWait := x :: t }

/-- The words of a frame; those that already wait stay before them. -/
def imageFrame (s : Block) (h : Hdr) (tick : Nat) (l : List (Nat × Nat)) : Block :=
  s.imageWords (s.imgWait ++ l.map fun x => ⟨h, tick, x.1, x.2⟩)

/-- Values that no image can still take are dropped: the bound is at most 16 ticks (R22). -/
def ageRemote (s : Block) (n : Nat) : Block := { s with remoteIn := s.remoteIn.filter fun v => decide (v.tick + 17 ≥ n) }

/-! ### The ring-receive queue -/

/-- A frame reaches translation (R318). -/
def xlateTake (s : Block) (x : RxHeld) : Block :=
  match x.body with
  | .image tick runs => s.imageFrame x.h tick (runWords runs)
  | .request op _ right tin addr tag val => s.requestRx x.h op right tin addr tag val
  | .response tag code val => s.responseRx x.h.src.val tag code val
  | .stage id tin tag addr val sel => s.stageRx x.h id tin tag addr val sel
  | .stageAns tag code _ => s.stageAnsRx x.h.src.val tag code

/-- The TYPE of a frame for translation (R303). -/
def RxBody.type : RxBody → Nat
  | .image _ _ => 0x03
  | .request _ _ _ _ _ _ _ => 0x07
  | .response _ _ _ => 0x08
  | .stage _ _ _ _ _ _ => 0x09
  | .stageAns _ _ _ => 0x0A

/-- A REQUEST or STAGE refused for its sender's epoch is answered with 0x07 (R305). -/
def answerStale (s : Block) (x : RxHeld) : Block :=
  match x.body with
  | .request _ _ _ _ _ tag _ => s.sendResponse x.h tag 0x07 0
  | .stage _ _ tag _ _ _ =>
    (s.queue ⟨.stageAns tag 0x07 0, x.h.src.val, s.newestEpoch x.h.src.val, x.h.ls, 0⟩).fire EV.BAT.REMOTE_STALE
  | _ => s

/-- A frame for translation arrives (R304, R305, R318): it takes a credit of the queue, or waits in the buffer. -/
def xlateFrame (s : Block) (x : RxHeld) : Block :=
  match s.receive x.h (RxBody.type x.body) x.h.ls with
  | (s1, .taken) => if s1.rxDirect then s1.takeRxCredit.xlateTake x else s1.hold x
  | (s1, .refused) => s1.answerStale x
  | (s1, _) => s1

/-- An AUDIO frame arrives (R264, R303 to R305, R318). -/
def ringAudioRx (s : Block) (h : Hdr) (ch t : Nat) : Block :=
  match s.receive h 0x04 true with
  | (s1, .taken) => s1.ringAudio ch t
  | (s1, _) => s1

/-! ### Credits (R10, R11) -/

/-- A queue of R11 whose consumer returns a credit. -/
def engReturn (s : Block) (e : Nat) : Block :=
  let c := s.rd ENG.ENG_BQ_CREDIT.CREDITS e 0
  if c + (s.engQueue e).length < 64 then
    let s1 := s.wr ENG.ENG_BQ_CREDIT.CREDITS e 0 (c + 1)
    if s1.rd ENG.ENG_STATE.STALL e 0 = 3 then s1.wr ENG.ENG_STATE.STALL e 0 0 else s1
  else s

/-- Entries that wait in the loop engine take the credit at once (R203). -/
def loopReturn (s : Block) : Block :=
  let c := s.g BAT.LOOP_Q_CREDIT.CREDITS
  if c + s.loopQ.length < 128 then
    match s.loopWait with
    | [] => s.p BAT.LOOP_Q_CREDIT.CREDITS (c + 1)
    | q :: t => { s with loopWait := t, loopQ := s.loopQ ++ [q] }
  else s

/-- Translation returns a credit of the ring-receive queue: the MAC releases the next frame it holds (R318). While translation
waits for the image builder it returns none (R10). -/
def rxReturn (s : Block) : Block :=
  let c := s.g RCTL.RX_Q_CREDIT.CREDITS
  if c < 512 ∧ s.imgWait = [] then
    let s1 := s.p RCTL.RX_Q_CREDIT.CREDITS (c + 1)
    match s1.rxNext with
    | none => s1
    | some x => (s1.rxTake x).xlateTake x
  else s

/-- The MAC returns a credit of a transmitter's queue. -/
def txReturn (s : Block) (x : Nat) : Block :=
  let c := s.rd AUD.RING_Q_CREDIT.CREDITS 0 x
  if c < 4 then s.wr AUD.RING_Q_CREDIT.CREDITS 0 x (c + 1) else s

/-- The image builder takes the oldest point record and returns its credit; translation goes on with the words that waited
(R10, R22). -/
def imgReturn (s : Block) : Block :=
  match s.imgQ with
  | [] => s
  | x :: t =>
    let s1 := ({ s with imgQ := t }.remoteArrives x.addr x.tick x.val).p XLT.IMG_Q_CREDIT.CREDITS
      (min 1024 (s.g XLT.IMG_Q_CREDIT.CREDITS + 1))
    s1.imageWords s1.imgWait

/-- CREDIT_RETURN (R10). -/
def creditReturn (s : Block) (q : CreditQ) : Block :=
  match q with
  | .eng e => s.engReturn e.val
  | .loop => s.loopReturn
  | .rx => s.rxReturn
  | .img => s.imgReturn
  | .tx x => s.txReturn x.val

end Block
end Sys2Proof.Machine
end

