-- ==== Sys2Proof/Machine/Xmod.lean ====
section
/-!
DEFINITION. Cross-module batches (R160 to R165): the two phases at the coordinator and at a participant, and the outcomes.
-/
namespace Sys2Proof.Machine
namespace Block

/-- A record of the commit slot, for the boundary of tick `k` (R161, R164): it goes to all nodes in both directions. -/
def commitAt (s : Block) (k kind code coord id tick : Nat) (parts : List Nat) : Block :=
  { s with commitQ := s.commitQ ++ [(k, ⟨.commit kind code coord id (tick % 2 ^ 32) parts, 0xFF, 0, true, 1⟩)] }

/-- Send the records due in the commit slot of tick `n`, one in a frame, as many as the commit slot holds; the others wait for
the next cycle's (R303, R306, R308, assumption 150). -/
def commitSlot (s : Block) (n : Nat) : Block :=
  let l : List (Nat × TxFrame) := s.commitQ.filter fun (x : Nat × TxFrame) => decide (x.1 ≤ n)
  let a := fitOctets (s.slotOct 1 true + s.slotOct 1 false) (l.map fun (x : Nat × TxFrame) => x.2)
  { s with commitQ := (a.2.map fun f => (n, f)) ++ s.commitQ.filter fun (x : Nat × TxFrame) => decide (x.1 > n) }.sendAll a.1

/-! ### The coordinator -/

/-- The coordinator prepares a batch for tick `n + 2` (R161): its own part is validated and sealed, and PREPARE leaves. Where
its own part fails it tells nobody, since no frame is named for that; PREPARE lists the other modules, and the coordinator
sends no PREPARED (assumptions 123 and 124). -/
def prepareOne (s : Block) (n id : Nat) (b : Batch) : Block :=
  match s.validate id b [] with
  | (s1, 0) =>
    let s2 := s1.putBatch id { b with st := .sealed }
    if b.parts.isEmpty then s2
    else
      let x : XOut := { id := id, tick := b.ctick, own := none, parts := b.parts, outs := [] }
      { s2 with xouts := s2.xouts ++ [x] }.commitAt n 1 0 s2.selfId id b.ctick b.parts
  | (s1, c) => (s1.abortBatch id c 0).fire EV.BAT.COMMIT_FAIL

/-- The cross-module batches of this coordinator that are due two ticks after `n`. A doomed one aborts. -/
def prepareAll (s : Block) (n : Nat) : List (Nat × Batch) → Block
  | [] => s
  | (id, b) :: t =>
    (if !b.xmod || b.remote || b.ctick != n + 2 then s
     else if b.st = .requested then s.prepareOne n id b
     else if b.st = .doomed then
       ((s.err 0x002 b.code 5 b.tin 0 (some id)).abortBatch id b.code b.peer).fire EV.BAT.COMMIT_FAIL
     else s).prepareAll n t

/-- A split outcome (R164, R165): counted, fired, and the module IDs go to the source's event record. -/
def splitNote (s : Block) (ids : List Nat) : Block :=
  ({ s with splitIds := s.splitIds ++ ids }.sat BAT.BAT_COUNT1.SPLITS 0 0 1).fire EV.BAT.XMOD_SPLIT

/-- The participants whose outcome differs from the coordinator's. -/
def XOut.differ (x : XOut) : List Nat := (x.outs.filter fun (o : Nat × Bool) => x.own != some o.2).map fun o => o.1

/-- COMMIT_OUTCOME at the coordinator (R164): when every participant has reported, differing outcomes are a split. -/
def outcomeRx (s : Block) (src id : Nat) (committed : Bool) : Block :=
  match s.xouts.find? fun x => x.id == id && x.parts.contains src with
  | none => s
  | some x =>
    let y := { x with outs := (x.outs.filter fun (o : Nat × Bool) => o.1 != src) ++ [(src, committed)] }
    if y.own.isSome && y.parts.all fun m => y.outs.any fun (o : Nat × Bool) => o.1 == m then
      let s1 := { s with xouts := s.xouts.erase x }
      if (XOut.differ y).isEmpty then s1 else s1.splitNote (XOut.differ y)
    else { s with xouts := y :: s.xouts.erase x }

/-- One batch whose outcomes are not complete at the boundary of k + 2 (R165): the missing modules, and those that differ. -/
def outcomeMissing (s : Block) (x : XOut) : Block :=
  s.splitNote ((x.parts.filter fun m => !x.outs.any fun (o : Nat × Bool) => o.1 == m) ++ XOut.differ x)

/-- Those of a list. -/
def outcomesMissing (s : Block) : List XOut → Block
  | [] => s
  | x :: t => (s.outcomeMissing x).outcomesMissing t

/-- XMOD_OUTCOME_TIMEOUT (R165). -/
def outcomeTimeout (s : Block) (n : Nat) : Block :=
  { s with xouts := s.xouts.filter fun (x : XOut) => decide (x.tick + 2 > n) }.outcomesMissing
    (s.xouts.filter fun (x : XOut) => decide (x.tick + 2 ≤ n))

/-! ### A participant -/

/-- The part is refused: it aborts at once, REFUSED leaves in the commit slot of k − 1, OUTCOME in that of k (R161, R164). -/
def refusePart (s : Block) (src id n k code : Nat) (b : Batch) : Block :=
  let s1 := s.putBatch n { b with st := .doomed, ctick := k, code := code, peer := 0 }
  (s1.abortBatch n code 0).commitAt (max (k - 1) (s.tick + 1)) 3 code src id k []

/-- A PREPARE that names this module (R161, R162): the part is validated and becomes PREPARED, or is refused. A module that
holds no part of the batch refuses with 0x08, and reports that it has not committed (assumption 29). -/
def preparePart (s : Block) (src id k : Nat) (parts : List Nat) : Block :=
  if k ≤ s.tick then s
  else
    match s.partOf src id with
    | none =>
      let s1 := s.commitAt (max (k - 1) (s.tick + 1)) 3 0x08 src id k []
      { s1 with commitQ := s1.commitQ ++ [(k, ⟨.commit 5 0x08 src id (k % 2 ^ 32) [], src, 0, true, 1⟩)] }
    | some (n, b) =>
      if b.st = .prepared then s
      else if b.st = .doomed then s.refusePart src id n k b.code b
      else
        match s.validate n { b with ctick := k } [] with
        | (s1, 0) =>
          (s1.putBatch n { b with st := .prepared, ctick := k, parts := parts, okFrom := [] }).commitAt
            (max (k - 1) (s.tick + 1)) 2 0 src id k []
        | (s1, c) =>
          ((s1.fireIf (c == 0x07) EV.BAT.REMOTE_STALE).fire EV.BAT.COMMIT_FAIL).refusePart src id n k c b

/-- COMMIT_PREPARE: the record arrives (R303, R304). -/
def prepareRx (s : Block) (h : Hdr) (id tick : Nat) (parts : List Nat) : Block :=
  match s.receive h 0x05 true with
  | (s1, .taken) => if parts.contains s1.selfId then s1.preparePart h.src.val id (s1.fullTick tick) parts else s1
  | (s1, _) => s1

/-- This module's batch that a record names: the coordinator's own, or a participant's part. -/
def recordBatch (s : Block) (coord id : Nat) : Option (Nat × Batch) :=
  if coord = s.selfId then
    ((s.batches.find id).filter fun (b : Batch) => b.xmod && !b.remote && b.st == .sealed).map fun b => (id, b)
  else s.partOf coord id

/-- COMMIT_PREPARED (R161): recorded towards the commit. A part that got no PREPARE learns its commit tick from it: the frame
comes in the cycle before it (R165, assumption 125). -/
def preparedRx (s : Block) (h : Hdr) (coord id : Nat) : Block :=
  match s.receive h 0x05 true with
  | (s1, .taken) =>
    (match s1.recordBatch coord id with
     | some (n, b) =>
       s1.putBatch n { b with
         okFrom := h.src.val :: b.okFrom.erase h.src.val,
         ctick := if b.remote && b.ctick == 0 then s1.tick + 1 else b.ctick }
     | none => s1)
  | (s1, _) => s1

/-- COMMIT_REFUSED (R161): the part aborts at once, with the code that the record carries. -/
def refusedRx (s : Block) (h : Hdr) (coord id code : Nat) : Block :=
  match s.receive h 0x05 true with
  | (s1, .taken) =>
    (match s1.recordBatch coord id with
     | some (n, b) => (s1.putBatch n { b with code := code }).abortBatch n code h.src.val
     | none => s1)
  | (s1, _) => s1

/-- COMMIT_OUTCOME (R164). -/
def outcomeFrame (s : Block) (h : Hdr) (id : Nat) (committed : Bool) : Block :=
  match s.receive h 0x05 true with
  | (s1, .taken) => s1.outcomeRx h.src.val id committed
  | (s1, _) => s1

end Block
end Sys2Proof.Machine
end

