-- ==== Sys2Proof/Machine/LoopRun.lean ====
section
/-!
DEFINITION. What the loop engine does at a tick (R200 to R204, R215): the process values, the samples, the groups, and the
entries it pushes for the loop output batch.
-/
namespace Sys2Proof.Machine
namespace Block

/-- The process value of a loop at tick `t` (R201, R462); none when it is late. A walk that fails is recorded. -/
def loopPvAt (s0 : Block) (n : Fin 256) (t : Nat) : Block × Option Int :=
  let r := Req.loop n
  let addr := s0.loopPv n.val
  match s0.walk r .read addr s0.genNow none with
  | (s, .fault _ _ _ _) => (s, none)
  | (s, .ok u _ k a lv h _) =>
    if u = s.selfId ∧ s.isOwn u = false then (s, none)
    else if u = s.selfId then
      if k = 1 ∧ !s.selOk r .read (a / 4 * 4) then (s.selectorDenied r .read (a / 4 * 4) lv h none, none)
      else
        let x := s.shown r k a
        (x.1, x.2.map (sgn 32))
    else
      let b := s.lp LOOP.LOOP_PV_H.BOUND n.val
      (s, if t < b then none else (s.remoteVal addr (t - b)).map (sgn 32))

/-- An entry of the loop engine goes to the batch controller's queue while a credit is left; else it waits (R11, R203). -/
def loopPush (s : Block) (q : QEnt) : Block :=
  let c := s.g BAT.LOOP_Q_CREDIT.CREDITS
  if c = 0 then { s with loopWait := s.loopWait ++ [q] }
  else ({ s with loopQ := s.loopQ ++ [q] }.p BAT.LOOP_Q_CREDIT.CREDITS (c - 1)).fireIf (c == 1) EV.BAT.LOOP_Q_EMPTY

/-- The output addresses of a loop with the values that an output code gives them (R199). -/
def loopPoints (s : Block) (n out : Nat) : List (Nat × Nat) :=
  if s.lp LOOP.LOOP_CFG.KIND n = 1 then [(s.loopOutA n, b2n (out == 1))]
  else [(s.loopOutA n, b2n (out == 2)), (s.loopOutB n, b2n (out == 0))]

/-- The target of an output address of a loop; unit 0 marks one that no longer translates (R158, R203). -/
def loopTarget (s : Block) (n : Fin 256) (addr : Nat) : Block × Target × Nat :=
  match s.walk (.loop n) .write addr s.genNow none with
  | (s1, .fault _ _ _ _) => (s1, .remote 0 addr, 0)
  | (s1, .ok u ep k a _ _ _) => if s1.isOwn u = true ∧ k = 0 then (s1, .point (a / 4 * 4), ep) else (s1, .remote u addr, ep)

/-- Push the entries of a loop's output; a word of another module leaves in an IMAGE frame for the same tick. -/
def loopPushAll (s : Block) (n : Fin 256) (t : Nat) : List (Nat × Nat) → Block
  | [] => s
  | (addr, v) :: l =>
    let x := s.loopTarget n addr
    let ls := s.lp LOOP.LOOP_CFG.LS n.val == 1
    let e : Entry := { tgt := x.2.1, val := v, by_ := .loop n, epoch := x.2.2, addr := some addr }
    let s1 := x.1.loopPush { who := .loops, due := t + 1, rel := t, ls := ls, tin := 0, ent := some e }
    (match x.2.1 with
     | .remote u a => if u = 0 then s1 else s1.farSend (t + 1) none ls [⟨u, x.2.2, a / 4 * 4, v⟩]
     | _ => s1).loopPushAll n t l

/-- A loop stages its output at a sample (R202), unless an output lies on a slice in fault (R203). -/
def loopStage (s : Block) (n : Fin 256) (out t : Nat) : Block :=
  let l := s.loopPoints n.val out
  let bad := l.any fun (x : Nat × Nat) => match (s.loopTarget n x.1).2.1 with | .point a => s.chanFault a | _ => false
  if bad then s.loopAlert n.val 4 else s.loopPushAll n t l

/-- The process value that a loop samples: its own, or on the standby the one that came with the mirrored images (R361). -/
def loopPvFor (s : Block) (n : Fin 256) (t : Nat) (pvs : List (Nat × Int)) : Block × Option Int :=
  if s.tracks then (s, (pvs.find? fun (x : Nat × Int) => x.1 == n.val).map fun x => x.2) else s.loopPvAt n t

/-- One loop samples at tick `t` (R200, R202, R215). -/
def loopRun (s : Block) (n : Fin 256) (t : Nat) (pvs : List (Nat × Int)) : Block :=
  if !s.loopDue n.val t then s
  else
    let x := s.loopPvFor n t pvs
    let y := x.1.loopSample n.val t x.2
    let s1 := (y.1.perf 0x080 none 1).perf 0x081 none (b2n x.2.isNone)
    if s1.grouped n.val then (s1.contribute n.val y.2 t).setLp HID.LOOPSAMPLED n.val 1 else s1.loopStage n y.2 t

/-- Every loop of a list. -/
def loopRuns (s : Block) (t : Nat) (pvs : List (Nat × Int)) : List (Fin 256) → Block
  | [] => s
  | n :: l => (s.loopRun n t pvs).loopRuns t pvs l

/-- A group of which a member has sampled stages its output to the lead's points (R215). -/
def groupRun (s : Block) (g t : Nat) : Block :=
  let l := s.grpMembers g
  if l.any fun n => s.lp HID.LOOPSAMPLED n == 1 then
    match l.head? with
    | some lead => if h : lead < 256 then s.loopStage ⟨lead, h⟩ (s.grpOut l) t else s
    | none => s
  else s

/-- Every group of a list. -/
def groupRuns (s : Block) (t : Nat) : List Nat → Block
  | [] => s
  | g :: l => (s.groupRun g t).groupRuns t l

/-- Forget which members sampled. -/
def sampledClear (s : Block) : List Nat → Block
  | [] => s
  | n :: l => (if s.lp HID.LOOPSAMPLED n = 1 then s.setLp HID.LOOPSAMPLED n 0 else s).sampledClear l

/-- The loop engine at tick `t` (R202). -/
def loopEngine (s : Block) (t : Nat) (pvs : List (Nat × Int)) : Block :=
  ((s.loopRuns t pvs (List.finRange 256)).groupRuns t (List.range 32)).sampledClear (List.range 256)

end Block
end Sys2Proof.Machine
end

