-- ==== Sys2Proof/Machine/Mirror.lean ====
section
/-!
DEFINITION. The standby's tracking of the active partner (R361, R362), and its resynchronisation (R363): the frames that
the active partner sends, and what the standby does with them. R368 gives the layout of the frames; how an item names a
bit of a point, a 64-bit value or a loop's state is assumption 32.
-/
namespace Sys2Proof.Machine
namespace Block

/-! ### Items of ENTRIES frames -/

/-- The field states that make up a module's register pages and loops (R363): what the configuration stores hold, outside
the pages that tell the partners apart, and every field of the loops. -/
def moduleKey (k : Key) : Bool :=
  let page := k.f / 32 / 4096
  (((storeHolds 0x01 k || storeHolds 0x20 k) && page != 0x000 && page != 0x0B0) || page == LOOP.LOOP_CFG.KIND.page ||
    codeIn [HID.LOOPRHAT, HID.LOOPPREV, HID.LOOPPREVV, HID.LOOPHO, HID.LOOPEXEMPT, HID.LOOPFACT, HID.LOOPSAFE,
      HID.LOOPENDDIR, HID.LOOPDRIVE, HID.LOOPSEEN, HID.GRPLOG] k.f)

/-- The address of an item that carries a field's state. -/
def cellAddr (f : Nat) : Nat := 2 ^ 46 + f

/-- An item of a value, with its upper half before it where it has one. -/
def itemOf (addr sel v : Nat) : List Nat :=
  (if v / 2 ^ 32 = 0 then [] else [addr, sel + 2 ^ 31, v / 2 ^ 32]) ++ [addr, sel, v % 2 ^ 32]

/-- The items of an entry of a batch (R361). -/
def entryItems (s : Block) (e : Entry) : List Nat :=
  match e.tgt with
  | .reg off sel => itemOf (s.windowBase + off) sel e.val
  | .point a => itemOf a 0 e.val
  | .pointBit a b => itemOf a (b + 1) (e.val % 2)
  | _ => []

/-- The targets and values of the items of a frame. -/
def itemTargets (s : Block) (hi : Nat) : List (Nat × Nat × Nat) → List (Target × Nat)
  | [] => []
  | (a, sel, v) :: t =>
    if sel ≥ 2 ^ 31 then s.itemTargets v t
    else
      let x := v + 2 ^ 32 * hi
      let tgt : Target :=
        match s.windowOff a with
        | some off => .reg off sel
        | none => if sel = 0 then .point a else .pointBit a (sel - 1)
      (tgt, x) :: s.itemTargets 0 t

/-! ### What the active partner sends -/

/-- Queue a STATE_XFER frame for the standby (R368): over the pair link while it is up, else over the ring. -/
def xferTo (s : Block) (kind slot tick : Nat) (items : List Nat) : Block :=
  s.queue ⟨.xfer kind slot tick (crcWords items) items, s.selfId, s.epoch, true, if s.on PAIR.PAIR_STAT.LINK 0 0 then 4 else 1⟩

/-- A capture goes to the standby (R361): the words of the I window, its late bitmap, FIRE and the event word. -/
def sendCapture (s : Block) (e j n : Nat) : Block :=
  if !s.mirrors then s
  else
    match s.scan e j with
    | none => s
    | some c =>
      let w := s.win e j c.bank 0
      let late := (List.range ((w.lines + 31) / 32 * 16)).map fun i => s.dataWord e (w.base + w.lines + i / 16) (i % 16)
      s.xferTo 1 (slotNo e j) n (((List.range (16 * w.lines)).map fun i => s.winWord e w 0 i) ++ late ++ [b2n c.fire, c.ev])

/-- The process values of the loops that sample at tick `n` go with the images (R361). -/
def sendPvs (s : Block) (n : Nat) : Block :=
  if !s.mirrors then s
  else
    let l := (List.finRange 256).filter fun k => s.loopDue k.val n
    if l.isEmpty then s
    else
      s.xferTo 1 0xFF n (l.flatMap fun k =>
        match (s.loopPvAt k n).2 with
        | some v => [k.val, uns 32 v]
        | none => [])

/-- The batches that became SEALED or PREPARED since `old` go to the standby (R361). -/
def sendBatches (s : Block) (old : Block) : List (Nat × Batch) → Block
  | [] => s
  | (id, b) :: t =>
    let ready (x : Batch) : Bool := x.st == .sealed || x.st == .prepared
    (if ready b && !((old.batches.find id).any ready) then
      s.xferTo 2 0 b.ctick (b.entries.flatMap fun e => s.entryItems e)
     else s).sendBatches old t

/-- What sealing or preparing leaves to send. -/
def mirrorSealed (s old : Block) : Block := if s.mirrors then s.sendBatches old s.batches else s

/-- The digest of the loops at a tick (R362). -/
def sendLoopDigest (s : Block) (n : Nat) : Block := if s.mirrors then s.sendDigest 0xFF n s.loopDigest else s

/-! ### What the standby does -/

/-- Words of the I window from index `i`. -/
def putImage (s : Block) (e : Nat) (w : Win) (i : Nat) : List Nat → Block
  | [] => s
  | v :: t => (if i < 16 * w.lines then s.setWinWord e w 0 i v else s).putImage e w (i + 1) t

/-- The late flags of an image. -/
def putLate (s : Block) (e : Nat) (w : Win) (late : List Nat) : List Nat → Block
  | [] => s
  | i :: t => (s.setLateFlag e w i (late.contains i)).putLate e w late t

/-- XFER_IMAGE (R361): the standby's image of a release at `tick` is the active partner's; the slot is READY. -/
def xferImage (s : Block) (h : Hdr) (e j tick : Nat) (crcOk : Bool) (words late : List Nat) (fire : Bool) (ev : Nat) : Block :=
  match s.xferRx h with
  | (s1, false) => s1
  | (s1, true) =>
    if !s1.fromPartner h || s1.role != 2 || !crcOk then s1
    else
      match s1.scan e j with
      | none => s1
      | some c =>
        if c.ready ∨ c.rel ≠ tick then s1
        else
          let w := s1.win e j c.bank 0
          let s2 := ((s1.putImage e w 0 words).putLate e w late (List.range (16 * w.lines)))
          let s3 := s2.putScan e j { c with fire := fire, ev := ev % 8192 }
          (s3.noteCapture e j (late.filter fun x => decide (x < 16 * w.lines)) (!(s3.forcedWords e j 0).isEmpty)).readySlot e j

/-- The field with a code. -/
def fldOf (code : Nat) : Option Fld := (regFields ++ hidFields).find? fun f => f.code == code

/-- One item of the module state (R363): a field's value, or a point's. -/
def takeItem (s : Block) (a sel v : Nat) : Block :=
  if decide (2 ^ 46 ≤ a) && (s.windowOff a).isNone then
    match fldOf (a - 2 ^ 46) with
    | some f => if moduleKey ⟨f.code, sel / 65536, sel % 65536⟩ then s.wr f (sel / 65536) (sel % 65536) v else s
    | none => s
  else s.setPoint a v

/-- The items of a frame of module state. -/
def takeItems (s : Block) (hi : Nat) : List (Nat × Nat × Nat) → Block
  | [] => s
  | (a, sel, v) :: t =>
    if sel ≥ 2 ^ 31 then s.takeItems v t else (s.takeItem a sel (v + 2 ^ 32 * hi)).takeItems 0 t

/-- A frame of the module state as committed at `tick` (R363): its points, register pages and loops take the place of this
partner's. What no item names has its reset value there. -/
def takeState (s : Block) (tick : Nat) (l : List (Nat × Nat × Nat)) : Block :=
  if s.g HID.MODAT = tick + 1 then s.takeItems 0 l
  else
    ({ s with cells := s.cells.filter fun c => !moduleKey c.1, points := [] }.p HID.MODAT (tick + 1)).takeItems 0 l

/-- XFER_ENTRIES (R361 to R363): entries of a batch that commits at `tick`, or module state. A batch that comes after its
boundary makes the whole standby DESYNC. -/
def xferEntries (s : Block) (h : Hdr) (slot tick : Nat) (crcOk : Bool) (items : List (Nat × Nat × Nat)) : Block :=
  match s.xferRx h with
  | (s1, false) => s1
  | (s1, true) =>
    if !s1.fromPartner h || !s1.waiting || !crcOk then s1
    else if slot = 0xFF then s1.takeState tick items
    else if s1.role ≠ 2 then s1
    else if tick ≤ s1.tick then s1.desyncAll
    else
      let es := (s1.itemTargets 0 items).map fun x =>
        ({ tgt := x.1, val := x.2, by_ := .pairBlk, epoch := 0, addr := none } : Entry)
      { s1 with fixed := s1.fixed ++ [{ who := .mirror, ctick := tick, image := false, img := [], ls := true, tin := 0, entries := es, rel := 0, fails := [] }] }

/-! ### Resynchronisation at the active partner (R363) -/

/-- The items of the module state: points, then the fields of register pages and loops. -/
def stateItems (s : Block) : List Nat :=
  (s.points.flatMap fun (x : Nat × Nat) => itemOf x.1 0 x.2) ++
    ((s.cells.filter fun c => moduleKey c.1).flatMap fun c => itemOf (cellAddr c.1.f) (c.1.i * 65536 + c.1.k) c.2)

/-- Whether a slot will be released: cyclic, running and in a state that is released (R105, R110). -/
def cyclicRuns (s : Block) (e j : Nat) : Bool :=
  s.eligible e j && s.rd TSK.TSK_CFG.KIND e j == 1 && s.rd TSK.TSK_PERIOD.PERIOD e j != 0

/-- The retained state of a slot goes to the standby. -/
def resyncSlot (s : Block) (e j n : Nat) : Block :=
  (s.sendLines e j s.selfId (slotNo e j) n (if s.on PAIR.PAIR_STAT.LINK 0 0 then 4 else 1)).wr HID.RESYNCSL 0 (scanKey e j) 0

/-- At the boundary of the module state, slots that wait for no cyclic release are sent at once; the others wait. -/
def resyncSlots (s : Block) (n : Nat) : List Nat → Block
  | [] => s
  | k :: t =>
    (if s.cyclicRuns (k / 8) (k % 8) then s.wr HID.RESYNCSL 0 k 1 else s.resyncSlot (k / 8) (k % 8) n).resyncSlots n t

/-- Boundary `n` at the active partner: a requested resynchronisation sends the module state; when the last slot has been
sent the next report of a standby that is not synchronised starts another. -/
def resyncBoundary (s : Block) (n : Nat) : Block :=
  if !s.paired || s.role != 1 then s
  else if s.g HID.RESYNCTX = 1 then
    (((s.xferTo 2 0xFF n s.stateItems).xferTo 5 0xFF n []).resyncSlots n (List.range 128)).p HID.RESYNCTX 2
  else if s.g HID.RESYNCTX = 2 && (List.range 128).all (fun k => !s.on HID.RESYNCSL 0 k) then s.p HID.RESYNCTX 0
  else s

/-- A slot's release at tick `n`: its retained state is sent if a resynchronisation waits for it. -/
def resyncRelease (s : Block) (e j n : Nat) : Block :=
  if s.on HID.RESYNCSL 0 (scanKey e j) then s.resyncSlot e j n else s

end Block
end Sys2Proof.Machine
end

