-- ==== Sys2Proof/Machine/Tick.lean ====
section
/-!
DEFINITION. What happens by itself: the tick boundary with its fixed order of steps (R20), the wake-up of the islands at a
start (R170), the deliveries to the event recorder (R196, R409, R410), and which islands run (R9, R17).
-/
namespace Sys2Proof.Machine
namespace Block

/-! ### Measured quantities -/

/-- One measured quantity takes its place in the registers. -/
def measure (s : Block) (m : Meas) : Block :=
  match m with
  | .engLoad e v =>
    let old := s.rd ENG.ENG_LOAD.LOAD e.val 0
    let s1 := (s.wr ENG.ENG_LOAD.LOAD e.val 0 v.val).wr ENG.ENG_LOAD.PEAK e.val 0 (max v.val (s.rd ENG.ENG_LOAD.PEAK e.val 0))
    s1.fireIf (decide (old ≤ 900) && decide (v.val > 900)) (EV.ENG.LOAD_HIGH e.val)
  | .xltLoad v => s.p XLT.XLT_LOAD.LOAD v.val
  | .xltCap f l => (s.p XLT.XLT_CAP.FIXED f.val).p XLT.XLT_CAP.LAST l.val
  | .xltEcc n => s.sat XLT.XLT_ECC.CORR 0 0 n
  | .outCurrent c ma => s.setDch DIO.DIO_CH_STAT.CURRENT c.val ma.val
  | .outExternal c on => s.setDch HID.DEXT c.val (b2n on)
  | .sliceLoad d ma => s.wr DIO.DIO_STAT.LOAD d.val 0 ma.val
  | .srcPeak k v => s.wr AUD.SRC_STAT.PEAK 0 k.val v.val
  | .mover e u w => (s.perf 0x01C (some e.val) u).perf 0x01D (some e.val) w
  | .walkBusy n => s.perf 0x042 none n
  | .tableBad pa => { s with dramBad := pa / 8 * 8 :: s.dramBad }
  | .portCount p k n => s.stat p (if k.val = 0 then 22 else if k.val = 1 then 25 else 26) n
  | .flash w sp g => ((s.lifeSet 11 0 w.val).lifeSet 11 1 sp.val).lifeSet 11 2 (min g (2 ^ 32 - 1))

/-- All of them. -/
def measureAll (s : Block) : List Meas → Block
  | [] => s
  | m :: t => (s.measure m).measureAll t

/-! ### The steps of a tick (R20) -/

/-- Apply an operation for every slot of a list. -/
def forSlots (s : Block) (f : Block → Nat → Nat → Block) : List (Nat × Nat) → Block
  | [] => s
  | (e, j) :: t => (f s e j).forSlots f t

/-- The cycles that every engine counts in a tick (R451). -/
def engCycles (s : Block) : List Nat → Block
  | [] => s
  | e :: t => (s.perf 0x010 (some e) 200000).engCycles t

/-- The open limits of a list of batch IDs (R151). -/
def openLimits (s : Block) : List Nat → Block
  | [] => s
  | id :: t => (s.openLimit id).openLimits t

/-- The tick number advances; a seal point that has not come comes now (R155). -/
def tickOpen (s : Block) (t : TickIn) : Block :=
  let s1 := if s.sealed then s else (s.sealPoint (t.answered.map fun k => k.val)).mirrorSealed s
  let s2 := { s1 with tick := s1.tick + 1, sealed := false, sent := [], wire := [] }.ageRemote (s1.tick + 1)
  let s3 := (((s2.perf 0x000 none 1).perf 0x001 none 25000).engCycles (List.range 16))
  s3.perf 0x0A1 none (b2n (s3.g RCTL.RX_Q_CREDIT.CREDITS == 0))

/-- What the standby misses of the active partner (R362): a batch, the loops' digest of the last tick, a slot's digest. -/
def mirrorCheck (s : Block) (n : Nat) (missing : Bool) : Block :=
  if !s.tracks then s
  else
    let s1 := if missing then s.desyncAll else s
    let s2 := if s1.on PAIR.PAIR_STAT.SYNCED 0 0 && s1.rd HID.DIGAT 0 128 != n then s1.desyncLoops else s1
    s2.forSlots (fun a e j => if a.rd HID.DEADLINE e j = n then a.digestMissing e j else a) allSlots

/-- Step 1, the commits: the pair's changes of role come before them, a seal point's domain updates with them (R20, R28,
R357). Of the fixed entries only those act that `keep` admits. -/
def tickCommitWith (s : Block) (n : Nat) (t : TickIn) (keep : Entry → Bool) : Block :=
  let s1 := ((s.openLimits (List.range 64)).forSlots (fun a e j => a.resumeAt e j) allSlots).pairBoundary n t.lc
  let s2 := (({ s1 with domPend := [] } : Block).commitDom s1.domPend).mirrorCheck n t.mirrorMissing
  let s3 := if s2.g PWR.PWR_STAT.LADDER = 4 then s2 else s2.commitAll n keep
  let s4 := if s3.g HID.ACTGO = 0 then s3 else (s3.p HID.ACTGO 0).activate (s3.g HID.ACTGO - 1)
  s4.ladderStep t.lc

/-- Step 1, the commits, with the bits that the boundary both sets and clears left set (R4). -/
def tickCommit (s : Block) (n : Nat) (t : TickIn) : Block := s.keepSet n fun a keep => a.tickCommitWith n t keep

/-- Every slice. -/
def slices : List Nat := List.range 9

/-- Slices whose fault has gone leave it (R239). -/
def faultExits (s : Block) (n : Nat) : List Nat → Block
  | [] => s
  | sl :: t => (s.faultExitAt n sl).faultExits n t

/-- Step 1 after the commits: prepares, slices, MOD_FIRE, restarts, forces, the governor, loops' modes, the ring's and the
clock's state, peels, and the K-retention snapshot (R133). -/
def tickState (s : Block) (n : Nat) : Block :=
  let fireWas := s.inFire
  let s1 := ((((s.drillTrack n).prepareAll n s.batches).mirrorSealed s)).outcomeTimeout n
  let s2 := ((s1.clrPending n (List.range 96)).faultExits n slices).wdogSlices slices
  let s3 := ((s2.modFireStep n).restartStep).forceBoundary n fireWas
  let s4 := (s3.repend n (List.range 96)).govern n
  let s5 := s4.perf 0x070 none ((List.range 96).filter fun c => s4.dch HID.DPEND c == 1).length
  let s6 := if s5.islandUp 17 then s5.loopBoundary n else s5
  ((((s6.ringState n).ptpTick).peelBoundary n).resyncBoundary n).snapStep n s6.rtcCount

/-- What the RTC domain has counted in the tick that ends (R343): it has a clock of its own (R9). -/
def rtcTick (s : Block) (t : TickIn) : Block := if s.islandUp 33 then s.rtcPass t.edges else s

/-- Step 2: the latches, the audio block (R20). -/
def tickLatch (s : Block) (n : Nat) : Block :=
  let up (c : Nat) : Bool := s.islandUp (18 + c / 16)
  let s1 := (s.latchDs ((List.range 96).filter up)).latchAs ((List.range 48).filter fun c => up (96 + c))
  let s2 := if s1.islandUp 27 then s1.latchCaps n (List.range 48) else s1
  let s3 := (if s2.islandUp 31 then s2.latchMeters.metLost.segAll n else s2.latchMeters.metLost).fireInputs (List.range 8)
  let s4 := if s3.islandUp 28 then s3.audStep n (s3.g HID.RESTART == 0) else s3
  s4.aFollowAll ((List.range 48).filter fun c => up (96 + c))

/-- Step 3 for one slot: its release, and its capture unless the standby waits for the active partner's image; the list
gathers the slots whose capture is made (R20, R105, R112, R361 to R363). -/
def tickRelease (n : Nat) (t : TickIn) (x : Block × List (Fin 16 × Fin 8)) (k : Fin 16 × Fin 8) : Block × List (Fin 16 × Fin 8) :=
  let e := k.1.val
  let j := k.2.val
  let fresh := !x.1.on HID.RELEASED e j && x.1.on HID.WARMSTART e j
  match x.1.releaseSlot e j n with
  | (s1, false) => (s1, x.2)
  | (s1, true) =>
    let s2 := (s1.resyncRelease e j n).ckptRelease e j n
    let own := t.noMirror.any fun q => q.val == scanKey e j
    if s2.tracks && !own then (s2, x.2)
    else
      let s3 := s2.capture k.1 k.2 n
      let s4 := if s2.tracks then s3.desyncSlot e j else s3.sendCapture e j n
      (if fresh then s4.firstRelease e j n s4.rtcCount (s4.on RTC.RTC_STAT.OSF 0 0) else s4, x.2 ++ [k])

/-- Every slot, engine by engine. -/
def slotKeys : List (Fin 16 × Fin 8) := (List.finRange 16).flatMap fun e => (List.finRange 8).map fun j => (e, j)

/-- The slots in the order in which the walker serves their captures: class LS first (R178). -/
def captureOrder (s : Block) : List (Fin 16 × Fin 8) :=
  (slotKeys.filter fun k => s.on TSK.TSK_CFG.LS k.1.val k.2.val) ++ slotKeys.filter fun k => !s.on TSK.TSK_CFG.LS k.1.val k.2.val

/-- The slots whose captures may end after step 5 (R115): none where at most 4,096 I words are captured on the module and every
receiving engine is within the load limit of R16, as ENG_LOAD shows it (assumption 128). -/
def slowOf (s : Block) (slow : List (Fin 128)) (l : List (Fin 16 × Fin 8)) : List (Fin 128) :=
  let words (k : Fin 16 × Fin 8) : Nat := (inWords (s.imgMap k.1.val k.2.val (s.slotBank k.1.val k.2.val))).length
  if (l.map words).sum ≤ 4096 ∧ (l.any fun k => decide (s.rd ENG.ENG_LOAD.LOAD k.1.val 0 > 900)) = false then [] else slow

/-- Step 5: the captured slots that are not slow are READY (R115). -/
def tickReady (s : Block) (slow : List (Fin 128)) : List (Fin 16 × Fin 8) → Block
  | [] => s
  | k :: t =>
    (if slow.any fun q => q.val == scanKey k.1.val k.2.val then s else s.readySlot k.1.val k.2.val).tickReady slow t

/-- Steps 3 to 5: releases, captures, loops, READY. Nothing is released while the module may not (R108, R434, R438), or the
first release waits for the clock (R340). -/
def tickRun (s : Block) (n : Nat) (t : TickIn) : Block :=
  if !s.mayRelease then s.p MOD.MOD_STATUS.RUN 0
  else if s.withheld then s.withhold.p MOD.MOD_STATUS.RUN 0
  else
    let s1 := ((s.firstBoundary.p MOD.MOD_STATUS.RUN 1).p HID.FIRSTREL 1).forSlots (fun a e j => a.wdogExpire e j n) allSlots
    let x := s1.captureOrder.foldl (tickRelease n t) (s1, [])
    let s2 := if x.1.islandUp 17 then
        ((x.1.sendPvs n).loopEngine n (t.pvs.map fun (v : Fin 256 × Word) => (v.1.val, v.2.toInt))).sendLoopDigest n
      else x.1
    s2.tickReady (s2.slowOf t.slow x.2) x.2

/-- What the tick sends and stages (R303, R311, R335, R345), and the limits that time sets (R388, R394, R396). -/
def tickSend (s : Block) (n : Nat) : Block :=
  let s1 := if s.islandUp 30 then ((((s.ringOpen n).commitSlot n).ptpSend n).ringSend n) else s
  (s1.autoset.sesTick (List.finRange 64)).linesServed

/-- A whole tick of a module whose supervisor runs. -/
def tickFull (s : Block) (t : TickIn) : Block :=
  let n := s.tick + 1
  let s1 := (((((s.rtcTick t).wdogCount slices).tickOpen t).holdOldClear).tickCommit n t).tickState n
  let s2 := ((s1.tickLatch n).tickRun n t).tickSend n
  ((s2.supplies t.vinA t.vinB t.fs1 t.fs2 t.fs3 t.power).measureAll t.meas).noteFault

/-- A tick without the supervisor (R17): the grid goes on, with the lease fence, audio and the RTC. -/
def tickAlone (s : Block) (t : TickIn) : Block :=
  let n := s.tick + 1
  let s1 : Block := { ((s.rtcTick t).wdogCount slices).wdogSlices slices with tick := n, sealed := false, sent := [], wire := [] }
  let s2 := s1.leaseFence t.lc
  if s2.islandUp 28 then s2.audStep n false else s2

/-- 250 µs without the time island: no boundary of the grid, but the RTC and the slices' watchdogs count, and the audio island
plays on its own clock once it is autonomous (R9, R235, R270). -/
def tickNoGrid (s : Block) (t : TickIn) : Block :=
  let s1 := ((s.rtcTick t).wdogCount slices).wdogSlices slices
  if s1.islandUp 28 then s1.audioOwnBlock else s1

/-- 250 µs in HALT (R427, R432, R438, R439): the time island has stopped; the RTC counts, the slices hold their safe states and
the audio island plays on its own clock. -/
def tickHalt (s : Block) (t : TickIn) : Block :=
  let s1 := (((s.rtcTick t).wdogCount slices).wdogSlices slices).haltDrive t.lc
  if s1.islandUp 28 then s1.audioOwnBlock else s1

/-- 250 µs of the metrology island's own time (R275, R283). -/
def metTime (s : Block) : Block := if s.islandUp 29 then s.island fun x => x.pass else s

/-- TICK_BOUNDARY (R20). The time island makes the grid; without power only the RTC counts, and in HALT or without the time
island the islands with a clock of their own go on: the RTC, the slices, audio and metrology (R9, R427). -/
def tickBoundary (s0 : Block) (t : TickIn) : Block :=
  let s := s0.metTime
  if s.g HID.PWRST ≥ 2 then s.rtcTick t
  else if s.g HID.PWRST = 1 then s.tickHalt t
  else if !s.islandUp 32 then s.tickNoGrid t
  else if s.supRuns then s.tickFull t
  else s.tickAlone t

/-! ### Wake-up of the islands (R170) -/

/-- Whether the start in progress is one that wakes islands: from OFF, DARK or HALT (R433). -/
def powerStart (s : Block) : Bool :=
  s.g HID.RESTART != 0 && (s.g HID.RESTART == 1 || s.g HID.RESTART == 2 || s.g HID.RESTART == 7)

/-- WAKE_SLOT (R170): up to four islands wake, three in the last of the eight slots. -/
def wakeSlot (s : Block) : Block :=
  let n := s.g RISE.RISE_WAKE.SLOTS
  if !s.powerStart || decide (n ≥ 8) then s
  else
    let s1 := (s.p RISE.RISE_WAKE.SLOTS (n + 1)).p RISE.RISE_WAKE.WOKEN (min (4 * (n + 1)) 31)
    s1.fireIf (n == 7) EV.RISE.WAKE_DONE

/-! ### The event recorder (R196, R409, R410) -/

/-- The OFFSET and EN fields of REC_SNAPi. -/
def snapFields : List (Fld × Fld) :=
  [(REC.REC_SNAP0.OFFSET, REC.REC_SNAP0.EN), (REC.REC_SNAP1.OFFSET, REC.REC_SNAP1.EN),
    (REC.REC_SNAP2.OFFSET, REC.REC_SNAP2.EN), (REC.REC_SNAP3.OFFSET, REC.REC_SNAP3.EN),
    (REC.REC_SNAP4.OFFSET, REC.REC_SNAP4.EN), (REC.REC_SNAP5.OFFSET, REC.REC_SNAP5.EN),
    (REC.REC_SNAP6.OFFSET, REC.REC_SNAP6.EN), (REC.REC_SNAP7.OFFSET, REC.REC_SNAP7.EN)]

/-- The registers that a source's record snapshots: each with its value, or none where the source's owner tin may not read
it (R196). -/
def recSnaps (s : Block) (src : Nat) : List (Option Nat) :=
  (snapFields.filter fun (x : Fld × Fld) => s.on x.2 0 src).map fun (x : Fld × Fld) =>
    let off := s.rd x.1 0 src / 4 * 4
    match s.walkQuiet (s.rd EVR.ROUTE_DATA.OWNER_TIN 0 src) true .read (s.windowBase + off) with
    | .ok _ _ _ _ _ _ _ => some (s.regVal .pairBlk off)
    | .fault _ _ _ _ => none

/-- RECORDER_DELIVERY (R409, R410): the oldest delivery that has not reached the recorder. -/
def recorderDelivery (s : Block) : Block :=
  match s.recQ with
  | [] => s
  | (src, n) :: t =>
    let l := s.recSnaps src
    let denied := (l.zipIdx.map fun (x : Option Nat × Nat) => if x.1.isNone then 2 ^ x.2 else 0).sum
    { s with recQ := t }.recDeliver src n (l.map fun (x : Option Nat) => x.getD 0) denied

end Block
end Sys2Proof.Machine
end

