-- ==== Sys2Proof/Machine/Occasion.lean ====
section
/-!
DEFINITION. When a command has its occasion: the islands that must run for it (R9, R17), and the access that a command
naming a register makes. A command whose occasion does not hold changes nothing (assumption 33).
-/
namespace Sys2Proof.Machine
open Host

/-- The island that holds a port: the ring MAC, the floor segment MAC, or the supervisor for the service port
(assumption 34). -/
def portIsland : NetPort → Nat
  | .ring _ => 30
  | .seg _ => 31
  | .pair => 30
  | .svc => 0

namespace Block

/-- What needs the supervisor island (R17). -/
def onSup (s : Block) (f : Block → Block) : Block := if s.supRuns then f s else s

/-- What an island does whether or not the supervisor runs (R17). -/
def onIsl (s : Block) (k : Nat) (f : Block → Block) : Block := if s.islandRuns k then f s else s

/-- What happens to the module while it has power. -/
def onPower (s : Block) (f : Block → Block) : Block := if s.g HID.PWRST ≤ 1 then f s else s

/-- What the supervisor keeps of the module's life, in RUN and in HALT (R17, R454, R455). -/
def onLife (s : Block) (f : Block → Block) : Block := if s.g HID.PWRST ≤ 1 && s.islandUp 0 then f s else s

/-- What an island does only while the supervisor runs too (R17). -/
def onSupIsl (s : Block) (k : Nat) (f : Block → Block) : Block := if s.supRuns && s.islandUp k then f s else s

/-- What the metrology island does, with its own supplies (R17, R274). -/
def onMet (s : Block) (f : Island → Island) : Block := if s.islandUp 29 then s.island f else s

/-- Whether a requester can make an access: a session only while it is OPEN (R395), supervisor cores 2 and 3 not from ladder
stage 2 on (R432, R436). -/
def reqLive (s : Block) : Req → Bool
  | .fw cpu => decide (cpu.val < 2) || decide (s.g PWR.PWR_STAT.LADDER < 2)
  | .ses n => s.rd SES.SES_STATE.STATE 0 n.val == 2
  | _ => true

/-- An access of a requester, past the walk to the page (assumption 35): its effect, the answer aside. -/
def acc (s : Block) (r : Req) (f : Block → Block × Nat) : Block := if s.supRuns && s.reqLive r then (f s).1 else s

/-- A write of the register at an offset of the module's window. -/
def wreg (s : Block) (r : Req) (off v : Nat) : Block := s.acc r fun (a : Block) => a.regWrite r off v

/-- A read of the register at an offset: the value that the requester gets is kept as the last value it read. -/
def rreg (s : Block) (r : Req) (off : Nat) : Block :=
  s.acc r fun (a : Block) =>
    let x := a.readReg r off
    if x.2.1 = 0 then (x.1.wr HID.RDATA 0 (holdKey r) x.2.2, 0) else (x.1, x.2.1)

/-- A read of PTP_NS at a time within the tick (R342). -/
def ptpRead (s : Block) (r : Req) (sub frac : Nat) : Block :=
  s.acc r fun (a : Block) =>
    ((a.ptpNsRead (holdKey r) sub frac).wr HID.RDATA 0 (holdKey r) (a.ptpNow sub % 1000000000), 0)

/-- MSG, REPEAT and GAP as MP_CTRL of the requester's selected player holds them. -/
def mpWord (s : Block) (r : Req) : Nat :=
  let k := s.selAt r 0x060054
  s.rd AUD.MP_CTRL.MSG 0 k + 256 * s.rd AUD.MP_CTRL.REPEAT 0 k + 65536 * s.rd AUD.MP_CTRL.GAP 0 k

end Block
end Sys2Proof.Machine
end

