-- ==== Sys2Proof/Machine/CmdAudio.lean ====
section
/-!
DEFINITION. The commands of the audio island.
-/
namespace Sys2Proof.Machine

/-- MP_START (R260). -/
def execMpStart (r : Req) (msg : Fin 256) (rep : Fin 256) (gap : Fin 256)
    (s : State) : Host.Outcome State Fault Refusal :=
  .next { s with m := s.m.wreg r (0x060054) (msg.val + 256 * rep.val + 65536 * gap.val + 2 ^ 24) }

/-- MP_STOP (R260). -/
def execMpStop (r : Req) (s : State) : Host.Outcome State Fault Refusal :=
  .next { s with m := s.m.wreg r (0x060054) (2 ^ 25 + s.m.mpWord r) }

/-- PLAYER_END (R260). -/
def execPlayerEnd (mp : Fin 4) (s : State) : Host.Outcome State Fault Refusal :=
  .next { s with m := s.m.onIsl 28 fun (b : Block) => b.playerEnd mp.val }

/-- MSG_RELOAD (R259). -/
def execMsgReload (r : Req) (set : List MsgItem) (s : State) : Host.Outcome State Fault Refusal :=
  .next { s with
    m := s.m.acc r fun (a : Block) => a.msgReplace r (set.map fun (x : MsgItem) => (x.num.val, ⟨x.len, x.crcOk⟩)) }

/-- TB_OPEN_DETECT (R263). -/
def execTbOpenDetect (tb : Fin 4) (s : State) : Host.Outcome State Fault Refusal :=
  .next { s with m := s.m.onSupIsl 28 fun (b : Block) => b.tbOpen tb.val }

/-- TB_OPEN_CLEAR (R263). -/
def execTbOpenClear (tb : Fin 4) (s : State) : Host.Outcome State Fault Refusal :=
  .next { s with m := s.m.onSupIsl 28 fun (b : Block) => b.tbClear tb.val }

/-- A commissioning that ends with a window asks for its store (R267, R403). -/
def Block.supWindowDone (b a : Block) (z : Nat) : Block :=
  if b.zn HID.COMMLEFT z = 1 ∧ a.zn HID.COMMLEFT z = 0 then a.stoRequest 0x01 else a

/-- SUPERVISION_WINDOW (R265). -/
def execSupervisionWindow (z : Fin 16) (vc : Int) (vs : Int) (ic : Int) (ishunt : Int)
    (s : State) : Host.Outcome State Fault Refusal :=
  .next { s with m := s.m.onIsl 28 fun (b : Block) => b.supWindowDone (b.supWindow z.val vc vs ic ishunt) z.val }

/-- EARTH_MEASURE (R266). -/
def execEarthMeasure (z : Fin 16) (kohm : Nat) (s : State) : Host.Outcome State Fault Refusal :=
  .next { s with m := s.m.onIsl 28 fun (b : Block) => b.earthMeasure z.val kohm }

/-- ZONE_COMMISSION (R267). -/
def execZoneCommission (r : Req) (page : Fin 4) (s : State) : Host.Outcome State Fault Refusal :=
  .next { s with m := s.m.wreg r (0x06107C + 0x1000 * page.val) (1) }

/-- AUDIO_AUTONOMOUS_ENTER (R270). -/
def execAudioAutonomousEnter (s : State) : Host.Outcome State Fault Refusal :=
  .next { s with m := s.m.onIsl 28 fun (b : Block) => b.audEnter }

/-- AUDIO_AUTONOMOUS_EXIT (R271). -/
def execAudioAutonomousExit (s : State) : Host.Outcome State Fault Refusal :=
  .next { s with m := s.m.onSupIsl 28 fun (b : Block) => b.audExit }

/-- AUDIO_THERMAL_MUTE (R269). -/
def execAudioThermalMute (temp : Int) (s : State) : Host.Outcome State Fault Refusal :=
  .next { s with m := s.m.onIsl 28 fun (b : Block) => b.audMute temp }

end Sys2Proof.Machine
end

