-- ==== Sys2Proof/Machine/CmdBatch.lean ====
section
/-!
DEFINITION. The commands of batches and of batches of several modules, and the wake-up.
-/
namespace Sys2Proof.Machine

/-- BAT_OPEN (R149). -/
def execBatOpen (r : Req) (xmod : Bool) (s : State) : Host.Outcome State Fault Refusal :=
  .next { s with m := s.m.wreg r (0x002040) (1 + 2 * b2n xmod) }

/-- COMMIT_AT (R156). -/
def execCommitAt (r : Req) (s : State) : Host.Outcome State Fault Refusal :=
  .next { s with m := s.m.wreg r (0x002044) (1) }

/-- COMMIT_NOW (R156). -/
def execCommitNow (r : Req) (s : State) : Host.Outcome State Fault Refusal :=
  .next { s with m := s.m.wreg r (0x002044) (2) }

/-- BAT_ABORT (R151). -/
def execBatAbort (r : Req) (s : State) : Host.Outcome State Fault Refusal :=
  .next { s with m := s.m.wreg r (0x002044) (3) }

/-- ABORT_SEL (R150). -/
def execAbortSel (r : Req) (s : State) : Host.Outcome State Fault Refusal :=
  .next { s with m := s.m.wreg r (0x002044) (4) }

/-- BATCH_OPEN_LIMIT (R151). -/
def execBatchOpenLimit (id : Fin 64) (s : State) : Host.Outcome State Fault Refusal :=
  .next { s with m := s.m.onSup fun (b : Block) => b.openLimit id.val }

/-- RING_STAGE (R160). -/
def execRingStage (h : Hdr) (id : Nat) (tin : Nat) (addr : Nat) (tag : Nat) (val : Word) (sel : Nat)
    (s : State) : Host.Outcome State Fault Refusal :=
  .next { s with m := s.m.onSupIsl 30 fun (b : Block) => b.xlateFrame ⟨h, .stage id tin tag addr val.toNat sel⟩ }

/-- RING_STAGE_ANS (R160). -/
def execRingStageAns (h : Hdr) (tag : Nat) (code : Nat) (id : Nat) (s : State) : Host.Outcome State Fault Refusal :=
  .next { s with m := s.m.onSupIsl 30 fun (b : Block) => b.xlateFrame ⟨h, .stageAns tag code id⟩ }

/-- COMMIT_PREPARE (R161). -/
def execCommitPrepare (h : Hdr) (id : Fin 256) (tick : Nat) (parts : List Nat)
    (s : State) : Host.Outcome State Fault Refusal :=
  .next { s with m := s.m.onSupIsl 30 fun (b : Block) => (b.prepareRx h id.val tick parts).mirrorSealed b }

/-- COMMIT_PREPARED (R161). -/
def execCommitPrepared (h : Hdr) (coord : Fin 256) (id : Fin 256) (s : State) : Host.Outcome State Fault Refusal :=
  .next { s with m := s.m.onSupIsl 30 fun (b : Block) => b.preparedRx h coord.val id.val }

/-- COMMIT_REFUSED (R161). -/
def execCommitRefused (h : Hdr) (coord : Fin 256) (id : Fin 256) (code : Fin 256)
    (s : State) : Host.Outcome State Fault Refusal :=
  .next { s with m := s.m.onSupIsl 30 fun (b : Block) => b.refusedRx h coord.val id.val code.val }

/-- COMMIT_OUTCOME (R164). -/
def execCommitOutcome (h : Hdr) (id : Fin 256) (committed : Bool) (s : State) : Host.Outcome State Fault Refusal :=
  .next { s with m := s.m.onSupIsl 30 fun (b : Block) => b.outcomeFrame h id.val committed }

/-- XMOD_OUTCOME_TIMEOUT (R165). -/
def execXmodOutcomeTimeout (s : State) : Host.Outcome State Fault Refusal :=
  .next { s with m := s.m.onSup fun (b : Block) => b.outcomeTimeout b.tick }

/-- WAKE_SLOT (R170). -/
def execWakeSlot (s : State) : Host.Outcome State Fault Refusal :=
  .next { s with m := s.m.onSup fun (b : Block) => b.wakeSlot }

end Sys2Proof.Machine
end

