-- ==== Sys2Proof/Machine/CmdField.lean ====
section
/-!
DEFINITION. The commands of the loops, of the digital and analog slices and of the capture unit.
-/
namespace Sys2Proof.Machine

/-- LOOP_FAULT_CLR (R214). -/
def execLoopFaultClr (r : Req) (page : Fin 16) (s : State) : Host.Outcome State Fault Refusal :=
  .next { s with m := s.m.wreg r (0x030068 + 0x1000 * page.val) (1) }

/-- DIO_INPUT_CHANGE (R226). -/
def execDioInputChange (c : Fin 96) (level : Bool) (s : State) : Host.Outcome State Fault Refusal :=
  .next { s with m := s.m.onIsl (18 + c.val / 16) fun (b : Block) => b.dioInput c.val level }

/-- DIO_FILTER_EXPIRE (R226). -/
def execDioFilterExpire (c : Fin 96) (s : State) : Host.Outcome State Fault Refusal :=
  .next { s with m := s.m.onSupIsl (18 + c.val / 16) fun (b : Block) => b.dioFilter c.val }

/-- WIRE_BREAK_DETECT (R228). -/
def execWireBreakDetect (c : Fin 96) (s : State) : Host.Outcome State Fault Refusal :=
  .next { s with m := s.m.onSupIsl (18 + c.val / 16) fun (b : Block) => b.wireBreak c.val }

/-- WIRE_BREAK_CLEAR (R228). -/
def execWireBreakClear (c : Fin 96) (s : State) : Host.Outcome State Fault Refusal :=
  .next { s with m := s.m.onSupIsl (18 + c.val / 16) fun (b : Block) => b.wireOk c.val }

/-- OUTPUT_DRIVER_FAULT (R232). -/
def execOutputDriverFault (c : Fin 96) (ot : Bool) (s : State) : Host.Outcome State Fault Refusal :=
  .next { s with m := s.m.onIsl (18 + c.val / 16) fun (b : Block) => b.driverFault c.val ot }

/-- DIO_CLR_FAULT (R232). -/
def execDioClrFault (r : Req) (d : Fin 6) (s : State) : Host.Outcome State Fault Refusal :=
  .next { s with m := s.m.wreg r (0x05004C + 0x1000 * d.val) (1) }

/-- OPEN_LOAD_DETECT (R233). -/
def execOpenLoadDetect (c : Fin 96) (s : State) : Host.Outcome State Fault Refusal :=
  .next { s with m := s.m.onSupIsl (18 + c.val / 16) fun (b : Block) => b.openLoad c.val }

/-- SLICE_OVERLOAD (R234). -/
def execSliceOverload (d : Fin 6) (s : State) : Host.Outcome State Fault Refusal :=
  .next { s with m := s.m.onSupIsl (18 + d.val) fun (b : Block) => b.overload d.val }

/-- OVERLOAD_SHED_NEXT (R234). -/
def execOverloadShedNext (d : Fin 6) (excess : Bool) (s : State) : Host.Outcome State Fault Refusal :=
  .next { s with m := s.m.onSupIsl (18 + d.val) fun (b : Block) => b.overloadNext d.val excess }

/-- SLICE_WDOG_EXPIRE (R236). -/
def execSliceWdogExpire (sl : Fin 9) (s : State) : Host.Outcome State Fault Refusal :=
  .next { s with m := s.m.onIsl (18 + sl.val) fun (b : Block) => b.wdogSlice sl.val }

/-- SLICE_REARM_CMD (R237). -/
def execSliceRearmCmd (r : Req) (sl : Fin 9) (s : State) : Host.Outcome State Fault Refusal :=
  .next { s with m := s.m.wreg r (slPage sl.val * 4096 + if sl.val < 6 then 0x05C else 0x06C) (1) }

/-- SLICE_FAULT_CAUSE_SET (R238). -/
def execSliceFaultCauseSet (sl : Fin 9) (cause : SliceCause) (s : State) : Host.Outcome State Fault Refusal :=
  .next { s with m := s.m.onPower fun (b : Block) => (b.causeSet sl.val (causeBit cause)).noteFault }

/-- SLICE_FAULT_CAUSE_CLEAR (R238). -/
def execSliceFaultCauseClear (sl : Fin 9) (cause : SliceCause) (s : State) : Host.Outcome State Fault Refusal :=
  .next { s with m := s.m.onIsl (18 + sl.val) fun (b : Block) => b.causeGone sl.val cause }

/-- SLICE_FAULT_EXIT (R239). -/
def execSliceFaultExit (sl : Fin 9) (s : State) : Host.Outcome State Fault Refusal :=
  .next { s with m := s.m.onSupIsl (18 + sl.val) fun (b : Block) => (b.faultExitAt b.tick sl.val).noteFault }

/-- CAPTURE_EDGE (R242). -/
def execCaptureEdge (c : Fin 48) (cnt : Fin 25000) (a : Bool) (lineB : Bool) (s : State) : Host.Outcome State Fault Refusal :=
  .next { s with m := s.m.onSupIsl 27 fun (b : Block) => b.capEdge c.val cnt.val a lineB }

/-- STANDSTILL_TIMEOUT (R244). -/
def execStandstillTimeout (c : Fin 48) (s : State) : Host.Outcome State Fault Refusal :=
  .next { s with m := s.m.onSupIsl 27 fun (b : Block) => b.standstillAt c.val }

/-- CAP_FIFO_POP (R242). -/
def execCapFifoPop (r : Req) (s : State) : Host.Outcome State Fault Refusal :=
  .next { s with m := s.m.rreg r 0x05C058 }

/-- ANALOG_CONVERSION (R249). -/
def execAnalogConversion (c : Fin 48) (v : Int) (wb : Bool) (sc : Bool)
    (s : State) : Host.Outcome State Fault Refusal :=
  .next { s with m := s.m.onSupIsl (24 + c.val / 16) fun (b : Block) => b.convert c.val v wb sc }

/-- OPEN_LOAD_CLEAR (R233). -/
def execOpenLoadClear (c : Fin 96) (s : State) : Host.Outcome State Fault Refusal :=
  .next { s with m := s.m.onSupIsl (18 + c.val / 16) fun (b : Block) => b.loadBack c.val }

end Sys2Proof.Machine
end

