-- ==== Sys2Proof/Machine/CmdKey.lean ====
section
/-!
DEFINITION. The commands of the key vault and of the sessions.
-/
namespace Sys2Proof.Machine

/-- KEY_LOAD (R397). -/
def execKeyLoad (r : Req) (slot : Fin 64) (s : State) : Host.Outcome State Fault Refusal :=
  .next { s with m := s.m.wreg r (0x0C0054) (1 + 256 * slot.val) }

/-- KEY_GENERATE (R397). -/
def execKeyGenerate (r : Req) (slot : Fin 64) (s : State) : Host.Outcome State Fault Refusal :=
  .next { s with m := s.m.wreg r (0x0C0054) (2 + 256 * slot.val) }

/-- KEY_DERIVE (R385). -/
def execKeyDerive (r : Req) (slot : Fin 64) (aux : Fin 64) (s : State) : Host.Outcome State Fault Refusal :=
  .next { s with m := s.m.wreg r (0x0C0054) (3 + 256 * slot.val + 65536 * aux.val) }

/-- KEY_WRAP_EXPORT (R381). -/
def execKeyWrapExport (r : Req) (slot : Fin 64) (aux : Fin 64) (s : State) : Host.Outcome State Fault Refusal :=
  .next { s with m := s.m.wreg r (0x0C0054) (4 + 256 * slot.val + 65536 * aux.val) }

/-- KEY_UNWRAP (R381). -/
def execKeyUnwrap (r : Req) (slot : Fin 64) (aux : Fin 64) (s : State) : Host.Outcome State Fault Refusal :=
  .next { s with m := s.m.wreg r (0x0C0054) (5 + 256 * slot.val + 65536 * aux.val) }

/-- KEY_ERASE (R397). -/
def execKeyErase (r : Req) (slot : Fin 64) (s : State) : Host.Outcome State Fault Refusal :=
  .next { s with m := s.m.wreg r (0x0C0054) (6 + 256 * slot.val) }

/-- KEY_PUBKEY (R381). -/
def execKeyPubkey (r : Req) (slot : Fin 64) (s : State) : Host.Outcome State Fault Refusal :=
  .next { s with m := s.m.wreg r (0x0C0054) (7 + 256 * slot.val) }

/-- SIGN_METER (R393). -/
def execSignMeter (r : Req) (m : Fin 64) (s : State) : Host.Outcome State Fault Refusal :=
  .next { s with m := s.m.wreg r (0x0C0054) (8 + 65536 * m.val) }

/-- DEBUG_ARM (R386). -/
def execDebugArm (r : Req) (s : State) : Host.Outcome State Fault Refusal :=
  .next { s with m := s.m.wreg r (0x0C0054) (9) }

/-- DEBUG_DISARM (R386). -/
def execDebugDisarm (r : Req) (s : State) : Host.Outcome State Fault Refusal :=
  .next { s with m := s.m.wreg r (0x0C0054) (10) }

/-- KEY_LIFECYCLE (R377). -/
def execKeyLifecycle (r : Req) (s : State) : Host.Outcome State Fault Refusal :=
  .next { s with m := s.m.wreg r (0x0C0054) (11) }

/-- KEY_DATA_WRITE (R397). -/
def execKeyDataWrite (r : Req) (w : Word) (s : State) : Host.Outcome State Fault Refusal :=
  .next { s with m := s.m.wreg r (0x0C0050) (w.toNat) }

/-- KEY_OUT_POP (R397). -/
def execKeyOutPop (r : Req) (s : State) : Host.Outcome State Fault Refusal :=
  .next { s with m := s.m.rreg r 0x0C0058 }

/-- KEY_OP_DONE (R396). -/
def execKeyOpDone (ok : Bool) (attr : Word) (s : State) : Host.Outcome State Fault Refusal :=
  .next { s with m := s.m.onSupIsl 34 fun (b : Block) => b.keyOpDone ok attr.toNat }

/-- KEY_INTEG_SWEEP (R382). -/
def execKeyIntegSweep (bad : List (Fin 64)) (s : State) : Host.Outcome State Fault Refusal :=
  .next { s with m := s.m.onSupIsl 34 fun (b : Block) => (b.integSweep bad).noteFault }

/-- SES_HELLO (R388). -/
def execSesHello (src : SesSrc) (h : HelloIn) (s : State) : Host.Outcome State Fault Refusal :=
  .next { s with m := s.m.onSupIsl 34 fun (b : Block) => b.sesHello src h }

/-- SES_FINISH (R391). -/
def execSesFinish (src : SesSrc) (n : Fin 64) (f : FinishIn) (s : State) : Host.Outcome State Fault Refusal :=
  .next { s with m := s.m.onSupIsl 34 fun (b : Block) => b.sesFinish src n f }

/-- SES_DATA (R393). -/
def execSesData (src : SesSrc) (n : Fin 64) (seq : Nat) (tagOk : Bool) (ops : List SesOp)
    (s : State) : Host.Outcome State Fault Refusal :=
  .next { s with m := s.m.onSupIsl 34 fun (b : Block) => b.sesData src n seq tagOk ops }

/-- SES_CLOSE (R395). -/
def execSesClose (src : SesSrc) (n : Fin 64) (seq : Nat) (tagOk : Bool)
    (s : State) : Host.Outcome State Fault Refusal :=
  .next { s with m := s.m.onSupIsl 34 fun (b : Block) => b.sesClose src n seq tagOk }

/-- HANDSHAKE_TIMEOUT (R388). -/
def execHandshakeTimeout (n : Fin 64) (s : State) : Host.Outcome State Fault Refusal :=
  .next { s with m := s.m.onSup fun (b : Block) => b.handshakeTimeout n }

/-- SESSION_IDLE_EXPIRE (R395). -/
def execSessionIdleExpire (n : Fin 64) (s : State) : Host.Outcome State Fault Refusal :=
  .next { s with m := s.m.onSup fun (b : Block) => b.sesIdle n }

/-- SESSION_LIFE_EXPIRE (R395). -/
def execSessionLifeExpire (n : Fin 64) (s : State) : Host.Outcome State Fault Refusal :=
  .next { s with m := s.m.onSup fun (b : Block) => b.sesLife n }

/-- LOCKOUT_EXPIRE (R394). -/
def execLockoutExpire (s : State) : Host.Outcome State Fault Refusal :=
  .next { s with m := s.m.onSup fun (b : Block) => b.lockoutExpire }

/-- SES_CLOSE_CMD (R395). -/
def execSesCloseCmd (r : Req) (s : State) : Host.Outcome State Fault Refusal :=
  .next { s with m := s.m.wreg r (0x0C1058) (1) }

end Sys2Proof.Machine
end

