-- ==== Sys2Proof/Machine/CmdMeter.lean ====
section
/-!
DEFINITION. The commands of the metrology island and of its gateway.
-/
namespace Sys2Proof.Machine

/-- METROLOGY_INTERVAL (R279). -/
def execMetrologyInterval (v : List (List Int)) (i : List (List Int)) (f : List Nat)
    (s : State) : Host.Outcome State Fault Refusal :=
  .next { s with m := s.m.onMet fun (x : Island) => x.interval v i f }

/-- MET_FRAME_RX (R283). -/
def execMetFrameRx (crcOk : Bool) (s : State) : Host.Outcome State Fault Refusal :=
  .next { s with m := s.m.onSup fun (b : Block) => b.metFrameRx crcOk }

/-- MET_LINK_LOST (R285). -/
def execMetLinkLost (s : State) : Host.Outcome State Fault Refusal :=
  .next { s with m := s.m.onSup fun (b : Block) => b.metLost }

/-- MET_RECORD_RX (R296). -/
def execMetRecordRx (s : State) : Host.Outcome State Fault Refusal :=
  .next { s with m := s.m.onSup fun (b : Block) => b.metRecordRx }

/-- ISLAND_SUPPLY_CHANGE (R275). -/
def execIslandSupplyChange (mod : Bool) (mains0 : Bool) (mains1 : Bool) (vbat : Bool)
    (s : State) : Host.Outcome State Fault Refusal :=
  .next { s with m := s.m.onMet fun (x : Island) => x.supply mod (mains0 || mains1) vbat }

/-- VOLTAGE_PHASE_ABSENT (R282). -/
def execVoltagePhaseAbsent (v : Fin 8) (s : State) : Host.Outcome State Fault Refusal :=
  .next { s with m := s.m.onMet fun (x : Island) => x.vAbsent v.val }

/-- VOLTAGE_ZERO_CROSSING (R282). -/
def execVoltageZeroCrossing (v : Fin 8) (within : Bool) (s : State) : Host.Outcome State Fault Refusal :=
  .next { s with m := s.m.onMet fun (x : Island) => x.vCross v.val within }

/-- BATTERY_MODE_ENTRY (R286). -/
def execBatteryModeEntry (s : State) : Host.Outcome State Fault Refusal :=
  .next { s with m := s.m.onMet fun (x : Island) => x.batEnter }

/-- BATTERY_BURST (R287). -/
def execBatteryBurst (i : List (List Int)) (s : State) : Host.Outcome State Fault Refusal :=
  .next { s with m := s.m.onMet fun (x : Island) => x.burstRun i }

/-- BATTERY_BUDGET_END (R288). -/
def execBatteryBudgetEnd (cell : Bool) (s : State) : Host.Outcome State Fault Refusal :=
  .next { s with m := s.m.onMet fun (x : Island) => x.budget cell }

/-- COVER_SWITCH_CHANGE (R289). -/
def execCoverSwitchChange (open_ : Bool) (s : State) : Host.Outcome State Fault Refusal :=
  .next { s with m := s.m.onMet fun (x : Island) => x.coverTo open_ }

/-- DEBUG_LINE_CHANGE (R295): the line is at a level only while the module drives it so. -/
def execDebugLineChange (on : Bool) (s : State) : Host.Outcome State Fault Refusal :=
  .next { s with m := if s.m.islandUp 29 && on == s.m.debugLine then s.m.debugFollow else s.m }

/-- ISLAND_START (R291). -/
def execIslandStart (ok0 : Bool) (ok1 : Bool) (gap : Nat) (s : State) : Host.Outcome State Fault Refusal :=
  .next { s with m := s.m.onMet fun (x : Island) => x.start ok0 ok1 gap }

/-- LOG_RESYNC (R293). -/
def execLogResync (r : Req) (s : State) : Host.Outcome State Fault Refusal :=
  .next { s with m := s.m.wreg r (0x070058) (0x01) }

/-- PARAM_WRITE (R292). -/
def execParamWrite (r : Req) (s : State) : Host.Outcome State Fault Refusal :=
  .next { s with m := s.m.wreg r (0x070058) (0x10) }

/-- LRF_BEGIN (R291). -/
def execLrfBegin (r : Req) (s : State) : Host.Outcome State Fault Refusal :=
  .next { s with m := s.m.wreg r (0x070058) (0x20) }

/-- LRF_DATA_WRITE (R291). -/
def execLrfDataWrite (r : Req) (w : Word) (s : State) : Host.Outcome State Fault Refusal :=
  .next { s with m := s.m.wreg r (0x070068) (w.toNat) }

/-- LRF_END (R291). -/
def execLrfEnd (r : Req) (s : State) : Host.Outcome State Fault Refusal :=
  .next { s with m := s.m.wreg r (0x070058) (0x21) }

/-- LRF_ABORT (R291). -/
def execLrfAbort (r : Req) (s : State) : Host.Outcome State Fault Refusal :=
  .next { s with m := s.m.wreg r (0x070058) (0x22) }

/-- LRF_WORD_TIMEOUT (R291). -/
def execLrfWordTimeout (s : State) : Host.Outcome State Fault Refusal :=
  .next { s with m := s.m.onMet fun (x : Island) => x.wordTimeout }

/-- LRF_VERIFY_DONE (R291). -/
def execLrfVerifyDone (good : Bool) (version : Nat) (roll : Nat) (gap : Nat)
    (s : State) : Host.Outcome State Fault Refusal :=
  .next { s with m := s.m.onMet fun (x : Island) => x.lrfVerify good version roll gap }

/-- MET_BAT_CFG (R293). -/
def execMetBatCfg (r : Req) (s : State) : Host.Outcome State Fault Refusal :=
  .next { s with m := s.m.wreg r (0x070058) (0x30) }

/-- MET_CMD_OUTCOME (R293). -/
def execMetCmdOutcome (s : State) : Host.Outcome State Fault Refusal :=
  .next { s with m := s.m.onSup fun (b : Block) => b.metOutcome }

end Sys2Proof.Machine
end

