-- ==== Sys2Proof/Machine/CmdPair.lean ====
section
/-!
DEFINITION. The commands of pairs and of peel.
-/
namespace Sys2Proof.Machine

/-- LEASE_RENEW_SEND (R354). -/
def execLeaseRenewSend (lc : Nat) (hb : Bool) (tk : Bool) (s : State) : Host.Outcome State Fault Refusal :=
  .next { s with m := s.m.onSup fun (b : Block) => b.renewSend lc hb (tk && b.islandUp 32) }

/-- LEASE_RENEW (R356, R439). -/
def execLeaseRenew (h : Hdr) (l : LeaseIn) (s : State) : Host.Outcome State Fault Refusal :=
  .next { s with m := if s.m.g HID.PWRST = 1 then s.m.haltRenew h l.lc else s.m.onSupIsl 30 fun (b : Block) => b.leaseRenew h l }

/-- LEASE_ACK (R354). -/
def execLeaseAck (h : Hdr) (l : LeaseIn) (s : State) : Host.Outcome State Fault Refusal :=
  .next { s with m := s.m.onSupIsl 30 fun (b : Block) => b.leaseAck h l }

/-- LEASE_FENCE (R355). -/
def execLeaseFence (lc : Nat) (s : State) : Host.Outcome State Fault Refusal :=
  .next { s with m := if s.m.g HID.PWRST ≤ 1 then s.m.leaseFence lc else s.m }

/-- LEASE_TAKE_REQ_TIMER (R357). -/
def execLeaseTakeReqTimer (lc : Nat) (s : State) : Host.Outcome State Fault Refusal :=
  .next { s with m := s.m.onSup fun (b : Block) => b.takeReqTimer lc }

/-- LEASE_TAKE_REQ (R356). -/
def execLeaseTakeReq (h : Hdr) (l : LeaseIn) (s : State) : Host.Outcome State Fault Refusal :=
  .next { s with m := s.m.onSupIsl 30 fun (b : Block) => b.takeReq h l }

/-- LEASE_GRANT (R357). -/
def execLeaseGrant (h : Hdr) (l : LeaseIn) (s : State) : Host.Outcome State Fault Refusal :=
  .next { s with m := s.m.onSupIsl 30 fun (b : Block) => b.leaseGrant h l }

/-- LEASE_REFUSE (R356). -/
def execLeaseRefuse (h : Hdr) (l : LeaseIn) (s : State) : Host.Outcome State Fault Refusal :=
  .next { s with m := s.m.onSupIsl 30 fun (b : Block) => b.leaseRefuse h l }

/-- PAIR_TAKEOVER (R357). -/
def execPairTakeover (lc : Nat) (s : State) : Host.Outcome State Fault Refusal :=
  .next { s with m := s.m.onSup fun (b : Block) => b.takeoverAsk lc }

/-- LEASE_TAKEOVER (R359). -/
def execLeaseTakeover (h : Hdr) (l : LeaseIn) (s : State) : Host.Outcome State Fault Refusal :=
  .next { s with m := s.m.onSupIsl 30 fun (b : Block) => b.leaseTakeover h l }

/-- LEASE_CLAIM (R366). -/
def execLeaseClaim (h : Hdr) (l : LeaseIn) (s : State) : Host.Outcome State Fault Refusal :=
  .next { s with m := s.m.onSupIsl 30 fun (b : Block) => b.leaseClaim h l }

/-- JOINT_START_TIMEOUT (R366). -/
def execJointStartTimeout (lc : Nat) (s : State) : Host.Outcome State Fault Refusal :=
  .next { s with m := s.m.onSup fun (b : Block) => b.jointTimeout lc }

/-- LEASE_PREPARE (R364). -/
def execLeasePrepare (h : Hdr) (l : LeaseIn) (s : State) : Host.Outcome State Fault Refusal :=
  .next { s with m := s.m.onSupIsl 30 fun (b : Block) => b.leasePrepare h l }

/-- LEASE_PREPARED (R364). -/
def execLeasePrepared (h : Hdr) (l : LeaseIn) (s : State) : Host.Outcome State Fault Refusal :=
  .next { s with m := s.m.onSupIsl 30 fun (b : Block) => b.leasePrepared h l }

/-- LEASE_PLACE (R371). -/
def execLeasePlace (h : Hdr) (epoch : Nat) (tick : Nat) (als : Fin 4096) (srcMod : Fin 256) (dstMod : Fin 256) (srcSlot : Fin 128) (dstSlot : Fin 128)
    (s : State) : Host.Outcome State Fault Refusal :=
  .next { s with
    m := s.m.onSupIsl 30 fun (b : Block) => b.leasePlace h ⟨epoch, b.fullTick tick, als.val, srcMod.val, dstMod.val, srcSlot.val, dstSlot.val⟩ }

/-- PAIR_SWAP_STAGE (R364). -/
def execPairSwapStage (r : Req) (s : State) : Host.Outcome State Fault Refusal :=
  .next { s with m := s.m.wreg r (0x0B0044) (1 + 4 * s.m.g PAIR.PAIR_CTRL.BACK + 65536 * s.m.g PAIR.PAIR_CTRL.HOLD) }

/-- SWAP_FENCE (R364). -/
def execSwapFence (lc : Nat) (s : State) : Host.Outcome State Fault Refusal :=
  .next { s with m := s.m.onSup fun (b : Block) => b.swapFence b.tick lc }

/-- PAIR_DRILL_STAGE (R367). -/
def execPairDrillStage (r : Req) (back : Bool) (hold : Fin 65536) (s : State) : Host.Outcome State Fault Refusal :=
  .next { s with m := s.m.wreg r (0x0B0044) (2 + 4 * b2n back + 65536 * hold.val) }

/-- DRILL_CHECK (R367). -/
def execDrillCheck (s : State) : Host.Outcome State Fault Refusal :=
  .next { s with m := s.m.onSup fun (b : Block) => b.drillCheck b.tick }

/-- DRILL_DUE (R367). -/
def execDrillDue (s : State) : Host.Outcome State Fault Refusal :=
  .next { s with m := s.m.onSup fun (b : Block) => b.drillDay }

/-- FORCE_TAKE (R366). -/
def execForceTake (r : Req) (s : State) : Host.Outcome State Fault Refusal :=
  .next { s with m := s.m.wreg r (0x0B0048) (1) }

/-- PAIR_RESYNC_CMD (R363). -/
def execPairResyncCmd (r : Req) (s : State) : Host.Outcome State Fault Refusal :=
  .next { s with m := s.m.wreg r (0x0B0048) (2) }

/-- RESYNC_DONE (R363). -/
def execResyncDone (s : State) : Host.Outcome State Fault Refusal :=
  .next { s with m := s.m.onSup fun (b : Block) => b.resyncDone }

/-- XFER_IMAGE (R361). -/
def execXferImage (h : Hdr) (e : Fin 16) (j : Fin 8) (tick : Nat) (crcOk : Bool) (words : List Word) (late : List Nat) (fire : Bool) (ev : Nat)
    (s : State) : Host.Outcome State Fault Refusal :=
  .next { s with
    m := s.m.onSupIsl 30 fun (b : Block) => b.xferImage h e.val j.val tick crcOk (words.map fun (v : Word) => v.toNat) late fire ev }

/-- XFER_ENTRIES (R361). -/
def execXferEntries (h : Hdr) (slot : Fin 256) (tick : Nat) (crcOk : Bool) (items : List (Nat × Nat × Word))
    (s : State) : Host.Outcome State Fault Refusal :=
  .next { s with
    m := s.m.onSupIsl 30 fun (b : Block) => b.xferEntries h slot.val tick crcOk (items.map fun (v : Nat × Nat × Word) => (v.1, v.2.1, v.2.2.toNat)) }

/-- XFER_DIGEST (R362). -/
def execXferDigest (h : Hdr) (slot : Fin 256) (tick : Nat) (crc : Word)
    (s : State) : Host.Outcome State Fault Refusal :=
  .next { s with m := s.m.onSupIsl 30 fun (b : Block) => b.xferDigest h slot.val tick crc.toNat }

/-- XFER_LINES (R371). -/
def execXferLines (h : Hdr) (slot : Fin 256) (tick : Nat) (crcOk : Bool) (lines : List (Nat × List Word))
    (s : State) : Host.Outcome State Fault Refusal :=
  .next { s with
    m := s.m.onSupIsl 30 fun (b : Block) => b.xferLines h slot.val tick crcOk (lines.map fun (v : Nat × List Word) => (v.1, v.2.map fun (x : Word) => x.toNat)) }

/-- XFER_END (R368). -/
def execXferEnd (h : Hdr) (slot : Fin 256) (tick : Nat) (us : Nat) (s : State) : Host.Outcome State Fault Refusal :=
  .next { s with m := s.m.onSupIsl 30 fun (b : Block) => b.xferEnd h slot.val tick us }

/-- PARTNER_TIMEOUT (R374). -/
def execPartnerTimeout (lc : Nat) (s : State) : Host.Outcome State Fault Refusal :=
  .next { s with m := s.m.onSup fun (b : Block) => b.partnerTimeout lc }

/-- WITNESS_TIMEOUT (R374). -/
def execWitnessTimeout (lc : Nat) (s : State) : Host.Outcome State Fault Refusal :=
  .next { s with m := s.m.onSup fun (b : Block) => b.witnessTimeout lc }

/-- PEEL_GO (R371). -/
def execPeelGo (r : Req) (dm : Fin 256) (de : Fin 16) (dj : Fin 8) (s : State) : Host.Outcome State Fault Refusal :=
  .next { s with m := s.m.wreg r (0x0B104C) (dm.val + 256 * de.val + 4096 * dj.val + 2 ^ 15) }

/-- PEEL_SNAPSHOT_DONE (R371). -/
def execPeelSnapshotDone (e : Fin 16) (j : Fin 8) (us : Nat) (s : State) : Host.Outcome State Fault Refusal :=
  .next { s with m := s.m.onSup fun (b : Block) => b.snapshotDone e.val j.val us }

/-- PEEL_TAKE (R373). -/
def execPeelTake (r : Req) (s : State) : Host.Outcome State Fault Refusal :=
  .next { s with m := s.m.wreg r (0x0B1068) (1) }

/-- SURVIVAL_AUTO (R373). -/
def execSurvivalAuto (e : Fin 16) (j : Fin 8) (s : State) : Host.Outcome State Fault Refusal :=
  .next { s with m := s.m.onSup fun (b : Block) => b.survivalAuto e.val j.val }

/-- CKPT_MISSED (R375). -/
def execCkptMissed (e : Fin 16) (j : Fin 8) (s : State) : Host.Outcome State Fault Refusal :=
  .next { s with m := s.m.onSup fun (b : Block) => b.ckptMissed e.val j.val }

/-- CLAIM_WINDOW_END (R366). -/
def execClaimWindowEnd (u : Fin 256) (lc : Nat) (s : State) : Host.Outcome State Fault Refusal :=
  .next { s with m := s.m.onSup fun (b : Block) => b.claimEnd u.val lc }

end Sys2Proof.Machine
end

