-- ==== Sys2Proof/Machine/CmdPower.lean ====
section
/-!
DEFINITION. The commands of power, of the counters and of the life histograms.
-/
namespace Sys2Proof.Machine

/-- SUPPLY_POWER_UP (R433). -/
def execSupplyPowerUp (s : State) : Host.Outcome State Fault Refusal :=
  .next { s with m := s.m.powerUp }

/-- INPUT_LOST (R425). -/
def execInputLost (b : Bool) (s : State) : Host.Outcome State Fault Refusal :=
  .next { s with m := s.m.inputLost b }

/-- INPUT_BACK (R425). -/
def execInputBack (b : Bool) (s : State) : Host.Outcome State Fault Refusal :=
  .next { s with m := s.m.inputBack b }

/-- SUPPLY_WARN (R426). -/
def execSupplyWarn (s : State) : Host.Outcome State Fault Refusal :=
  .next { s with m := s.m.supplyWarn }

/-- SUPPLY_OK (R426). -/
def execSupplyOk (b : Bool) (s : State) : Host.Outcome State Fault Refusal :=
  .next { s with m := s.m.supplyOk b }

/-- HOLDUP_END (R426). -/
def execHoldupEnd (s : State) : Host.Outcome State Fault Refusal :=
  .next { s with m := s.m.holdupEnd }

/-- STANDBY_RAIL_LOSS (R427). -/
def execStandbyRailLoss (s : State) : Host.Outcome State Fault Refusal :=
  .next { s with m := s.m.railLoss }

/-- HALT_ENTER (R438). -/
def execHaltEnter (s : State) : Host.Outcome State Fault Refusal :=
  .next { s with m := s.m.haltEnter }

/-- BOARD_TEMP_SAMPLE (R435). -/
def execBoardTempSample (t0 : Int) (t1 : Int) (t2 : Int) (t3 : Int) (s : State) : Host.Outcome State Fault Refusal :=
  .next { s with m := if s.m.supRuns || s.m.g HID.PWRST == 1 || s.m.g HID.PWRST == 2 then s.m.boardTemp t0 t1 t2 t3 else s.m }

/-- HALT_EXIT (R438). -/
def execHaltExit (s : State) : Host.Outcome State Fault Refusal :=
  .next { s with m := s.m.haltExit }

/-- OVER_POWER (R447). -/
def execOverPower (pw : Nat) (s : State) : Host.Outcome State Fault Refusal :=
  .next { s with m := s.m.onSup fun (b : Block) => b.overPower pw }

/-- PWR_PEAK_CLR (R432). -/
def execPwrPeakClr (r : Req) (s : State) : Host.Outcome State Fault Refusal :=
  .next { s with m := s.m.wreg r (0x0F0050) (2 ^ 31) }

/-- PERF_RUN (R448). -/
def execPerfRun (r : Req) (run : Bool) (s : State) : Host.Outcome State Fault Refusal :=
  .next { s with m := s.m.wreg r (0x0E0040) (b2n run) }

/-- PERF_CLEAR (R448). -/
def execPerfClear (r : Req) (s : State) : Host.Outcome State Fault Refusal :=
  .next { s with m := s.m.wreg r (0x0E0040) (2 + s.m.g PERF.PERF_CTRL.RUN) }

/-- PERF_SNAP (R448). -/
def execPerfSnap (r : Req) (s : State) : Host.Outcome State Fault Refusal :=
  .next { s with m := s.m.wreg r (0x0E0040) (4 + s.m.g PERF.PERF_CTRL.RUN) }

/-- SMP_POP (R453). -/
def execSmpPop (r : Req) (s : State) : Host.Outcome State Fault Refusal :=
  .next { s with m := s.m.rreg r 0x0E006C }

/-- LIFE_SAVE (R455). -/
def execLifeSave (r : Req) (s : State) : Host.Outcome State Fault Refusal :=
  .next { s with m := s.m.wreg r (0x0E104C) (1) }

/-- LIFE_HOURLY_WRITE (R455). -/
def execLifeHourlyWrite (s : State) : Host.Outcome State Fault Refusal :=
  .next { s with m := s.m.onLife fun (b : Block) => b.lifeHourly }

/-- LIFE_MINUTE (R454). -/
def execLifeMinute (s : State) : Host.Outcome State Fault Refusal :=
  .next { s with m := s.m.onLife fun (b : Block) => b.lifeMinute }

/-- SUPPLY_DIP_END (R454). -/
def execSupplyDipEnd (low : Nat) (us : Nat) (s : State) : Host.Outcome State Fault Refusal :=
  .next { s with m := s.m.dipEnd low us }

/-- ISLAND_CLOCK_LOSS (R9). -/
def execIslandClockLoss (k : Fin 36) (s : State) : Host.Outcome State Fault Refusal :=
  .next { s with m := (s.m.islandLoss k.val).noteFault }

/-- SUPPLY_DIP_BEGIN (R454). -/
def execSupplyDipBegin (s : State) : Host.Outcome State Fault Refusal :=
  .next { s with m := s.m.dipBegin }

/-- COUNTER_OVERFLOW (R450). -/
def execCounterOverflow (c : Fin 64) (s : State) : Host.Outcome State Fault Refusal :=
  .next { s with m := s.m.onSup fun (b : Block) => b.counterOverflow c.val }

/-- RESTART_READY (R433). -/
def execRestartReady (x : StartIn) (s : State) : Host.Outcome State Fault Refusal :=
  .next { s with m := s.m.onSup fun (b : Block) => b.restartReady x }

end Sys2Proof.Machine
end

