-- ==== Sys2Proof/Machine/CmdRing.lean ====
section
/-!
DEFINITION. The commands of the ring, the floor segments and the service port.
-/
namespace Sys2Proof.Machine

/-- RING_TOKEN (R307). -/
def execRingToken (h : Hdr) (tick : Nat) (resAll : Nat) (resLs : Nat) (nodes : Nat) (isoOver : Bool) (rank : Fin 8) (rot : Nat)
    (s : State) : Host.Outcome State Fault Refusal :=
  .next { s with m := s.m.onSupIsl 30 fun (b : Block) => b.tokenRx h tick resAll resLs nodes isoOver rank.val rot }

/-- TOKEN_MISS (R307). -/
def execTokenMiss (s : State) : Host.Outcome State Fault Refusal :=
  .next { s with m := s.m.onSupIsl 30 fun (b : Block) => b.tokenMiss }

/-- RING_ASYNC_TOKEN (R310). -/
def execRingAsyncToken (h : Hdr) (s : State) : Host.Outcome State Fault Refusal :=
  .next { s with m := s.m.onSupIsl 30 fun (b : Block) => b.asyncToken h }

/-- RING_IMAGE (R303). -/
def execRingImage (h : Hdr) (tick : Nat) (runs : List (Nat × List Nat))
    (s : State) : Host.Outcome State Fault Refusal :=
  .next { s with m := s.m.onSupIsl 30 fun (b : Block) => b.xlateFrame ⟨h, .image tick runs⟩ }

/-- RING_AUDIO (R264). -/
def execRingAudio (h : Hdr) (x : AudioIn) (s : State) : Host.Outcome State Fault Refusal :=
  .next { s with m := s.m.onSupIsl 30 fun (b : Block) => b.ringAudioRx h x.ch.val x.tick }

/-- RING_FIRE (R316). -/
def execRingFire (h : Hdr) (ids : List Nat) (s : State) : Host.Outcome State Fault Refusal :=
  .next { s with m := s.m.onSupIsl 30 fun (b : Block) => b.fireRx h ids }

/-- FIRE_RX_TIMEOUT (R316). -/
def execFireRxTimeout (s : State) : Host.Outcome State Fault Refusal :=
  .next { s with m := s.m.onSup fun (b : Block) => b.fireRxTimeout }

/-- RING_REQUEST (R193). -/
def execRingRequest (h : Hdr) (op : Nat) (kind : Nat) (right : Nat) (tin : Nat) (addr : Nat) (tag : Nat) (val : Word)
    (s : State) : Host.Outcome State Fault Refusal :=
  .next { s with
    m := s.m.onSupIsl 30 fun (b : Block) => b.xlateFrame ⟨h, .request op kind right tin addr tag val.toNat⟩ }

/-- RING_RESPONSE (R303). -/
def execRingResponse (h : Hdr) (tag : Nat) (code : Nat) (val : Word) (s : State) : Host.Outcome State Fault Refusal :=
  .next { s with m := s.m.onSupIsl 30 fun (b : Block) => b.xlateFrame ⟨h, .response tag code val.toNat⟩ }

/-- RING_ALARM (R55). -/
def execRingAlarm (h : Hdr) (src : Nat) (n : Nat) (owner : Nat) (s : State) : Host.Outcome State Fault Refusal :=
  .next { s with m := s.m.onSupIsl 30 fun (b : Block) => b.alarmRx h src n owner }

/-- LINK_HELLO (R312). -/
def execLinkHello (h : Hdr) (tw : Nat) (lpi : Bool) (late : Bool) (s : State) : Host.Outcome State Fault Refusal :=
  .next { s with m := s.m.onSupIsl 30 fun (b : Block) => b.hello h tw lpi late }

/-- LINK_BREAK (R313). -/
def execLinkBreak (h : Hdr) (s : State) : Host.Outcome State Fault Refusal :=
  .next { s with m := s.m.onSupIsl 30 fun (b : Block) => b.breakRx h }

/-- LINK_HEAL (R314). -/
def execLinkHeal (h : Hdr) (s : State) : Host.Outcome State Fault Refusal :=
  .next { s with m := s.m.onSupIsl 30 fun (b : Block) => b.healRx h }

/-- PORT_LINK_CHANGE (R313). -/
def execPortLinkChange (p : NetPort) (up : Bool) (slow : Bool) (cage : Bool) (cfault : Bool)
    (s : State) : Host.Outcome State Fault Refusal :=
  .next { s with m := s.m.onSupIsl (portIsland p) fun (b : Block) => b.linkChange p up slow cage cfault }

/-- PORT_LINK_FRAME_TIMEOUT (R313). -/
def execPortLinkFrameTimeout (p : Fin 2) (s : State) : Host.Outcome State Fault Refusal :=
  .next { s with m := s.m.onSupIsl 30 fun (b : Block) => b.linkTimeout p.val }

/-- RING_HEAL_READY (R314). -/
def execRingHealReady (s : State) : Host.Outcome State Fault Refusal :=
  .next { s with m := s.m.onSupIsl 30 fun (b : Block) => b.healReady }

/-- RATE_ALTERNATE (R315). -/
def execRateAlternate (p : Fin 2) (s : State) : Host.Outcome State Fault Refusal :=
  .next { s with m := s.m.onSupIsl 30 fun (b : Block) => b.rateAlternate p.val }

/-- PREEMPT_VERIFY_FAIL (R311). -/
def execPreemptVerifyFail (p : Fin 2) (s : State) : Host.Outcome State Fault Refusal :=
  .next { s with m := s.m.onSupIsl 30 fun (b : Block) => b.preemptFail p.val }

/-- DUP_ID_SEEN (R317). -/
def execDupIdSeen (h : Hdr) (s : State) : Host.Outcome State Fault Refusal :=
  .next { s with m := s.m.onSupIsl 30 fun (b : Block) => if b.ownMark h && b.portUp h.port then b.dupSeen else b }

/-- RX_BUFFER_RELEASE (R318). -/
def execRxBufferRelease (s : State) : Host.Outcome State Fault Refusal :=
  .next { s with
    m := s.m.onSup fun (b : Block) => if b.g RCTL.RX_Q_CREDIT.CREDITS = 0 ∨ b.imgWait ≠ [] then b else match b.rxNext with | none => b | some x => (b.rxTake x).xlateTake x }

/-- SEG_ANSWER (R326). -/
def execSegAnswer (sg : Fin 8) (j : Fin 32) (us : Nat) (status : Nat) (type : Nat) (words : List Word)
    (s : State) : Host.Outcome State Fault Refusal :=
  .next { s with m := s.m.onSupIsl 31 fun (b : Block) => b.segAnswer sg j.val us status type words }

/-- PLCA_FOREIGN_BEACON (R331). -/
def execPlcaForeignBeacon (sg : Fin 8) (s : State) : Host.Outcome State Fault Refusal :=
  .next { s with m := s.m.onSupIsl 31 fun (b : Block) => b.segForeign sg }

/-- SVC_WAKE_PATTERN (R333). -/
def execSvcWakePattern (key : Word) (s : State) : Host.Outcome State Fault Refusal :=
  .next { s with m := s.m.onSup fun (b : Block) => b.svcWake key.toNat }

/-- UNKNOWN_FRAME_RX (R302). -/
def execUnknownFrameRx (p : NetPort) (bad : BadFrame) (s : State) : Host.Outcome State Fault Refusal :=
  .next { s with m := s.m.onSupIsl (portIsland p) fun (b : Block) => if b.netUp p then b.badFrame p bad else b }

end Sys2Proof.Machine
end

