-- ==== Sys2Proof/Machine/CmdStore.lean ====
section
/-!
DEFINITION. The commands of the stores, the event recorder and the update engine.
-/
namespace Sys2Proof.Machine

/-- STORE_WRITE_DONE (R403). -/
def execStoreWriteDone (id : Fin 256) (ok : Bool) (s : State) : Host.Outcome State Fault Refusal :=
  .next { s with m := s.m.onIsl 35 fun (b : Block) => b.stoDone id.val ok }

/-- RECORDER_SPILL (R411). -/
def execRecorderSpill (ok : Bool) (s : State) : Host.Outcome State Fault Refusal :=
  .next { s with m := s.m.onSupIsl 35 fun (b : Block) => b.recSpill ok }

/-- REC_SEL_WRITE (R412). -/
def execRecSelWrite (r : Req) (w : Word) (s : State) : Host.Outcome State Fault Refusal :=
  .next { s with m := s.m.wreg r (0x0D1040) (w.toNat) }

/-- REC_FETCH_DONE (R412). -/
def execRecFetchDone (r : Req) (s : State) : Host.Outcome State Fault Refusal :=
  .next { s with m := s.m.acc r fun (a : Block) => (a.setOwn HID.RECBUSY 0 r 0, 0) }

/-- UPD_BEGIN (R415). -/
def execUpdBegin (r : Req) (k : Fin 2) (partner : Bool) (s : State) : Host.Outcome State Fault Refusal :=
  .next { s with m := s.m.wreg r (0x0D2044) (1 + 16 * k.val + 32 * b2n partner) }

/-- UPD_DATA_WRITE (R415). -/
def execUpdDataWrite (r : Req) (w : Word) (s : State) : Host.Outcome State Fault Refusal :=
  .next { s with m := s.m.wreg r (0x0D2048) (w.toNat) }

/-- UPD_PROOF_DONE (R414). -/
def execUpdProofDone (k : Fin 2) (sigOk : Bool) (s : State) : Host.Outcome State Fault Refusal :=
  .next { s with m := s.m.onSup fun (b : Block) => b.updProof k.val sigOk }

/-- UPD_END (R415). -/
def execUpdEnd (r : Req) (k : Fin 2) (digestOk : Bool) (s : State) : Host.Outcome State Fault Refusal :=
  .next { s with m := s.m.acc r fun (a : Block) => a.updEnd r k.val digestOk }

/-- UPD_ABORT (R415). -/
def execUpdAbort (r : Req) (k : Fin 2) (s : State) : Host.Outcome State Fault Refusal :=
  .next { s with m := s.m.wreg r (0x0D2044) (3 + 16 * k.val) }

/-- UPD_ACTIVATE_STAGE (R416). -/
def execUpdActivateStage (r : Req) (k : Fin 2) (partner : Bool) (s : State) : Host.Outcome State Fault Refusal :=
  .next { s with m := s.m.wreg r (0x0D2040) (1 + 2 * k.val + 4 * b2n partner) }

/-- UPD_CONFIRM (R417). -/
def execUpdConfirm (r : Req) (partner : Bool) (s : State) : Host.Outcome State Fault Refusal :=
  .next { s with m := s.m.wreg r (0x0D2044) (4 + 32 * b2n partner) }

/-- UPD_REVERT (R417). -/
def execUpdRevert (r : Req) (partner : Bool) (s : State) : Host.Outcome State Fault Refusal :=
  .next { s with m := s.m.wreg r (0x0D2044) (5 + 32 * b2n partner) }

/-- TRIAL_WATCHDOG (R417). -/
def execTrialWatchdog (s : State) : Host.Outcome State Fault Refusal :=
  .next { s with m := s.m.trialWatchdog }

end Sys2Proof.Machine
end

