-- ==== Sys2Proof/Machine/Issue.lean ====
section
/-!
DEFINITION. How an engine issues one instruction of a scan: the fetch with its checks (R66, R67, R69, R75), operands
(R73), P accesses (R88 to R91), stalls and their cycles (R96), and what a completed, faulting, stalled or ending
instruction does to the block (R93 to R95, R452).
-/
namespace Sys2Proof.Machine

/-- An instruction in issue: the block, the engine and slot, the scan, and the decoded instruction. -/
structure Run where
  s : Block
  e : Fin 16
  j : Fin 8
  c : Scan
  ins : NIns

/-- What an issue comes to: completed, a program fault with its code, effective address and area, a stall for a cause, or
the end of the scan. -/
inductive NOut where
  | ok (s : Block) (c : Scan)
  | fault (s : Block) (c : Scan) (code ea area : Nat)
  | stall (s : Block) (c : Scan) (cause : Nat)
  | fin (s : Block)

namespace Block

/-- Engine cycles in which a scan executes (cause 0) or stalls (R96, R451). -/
def cost (s : Block) (e cause n : Nat) : Block :=
  let s1 := s.perf 0x011 (some e) n
  if cause = 0 then s1 else s1.perf (0x012 + cause) (some e) n

/-- The generation of a scan's P accesses: that of its release tick (R88, R184). -/
def scanGen (s : Block) (c : Scan) : Nat :=
  if s.on XLT.XLT_STAT.HOLD_OLD 0 0 && decide (c.rel < s.g HID.SWAPTICK) then (s.genNow + 15) % 16 else s.genNow

/-- What a complete walk comes to for a P access of a task: where its target is. A write that configures needs the
configure right (R195); a standby or fenced partner refuses itself (R180). -/
def pTarget (s : Block) (r : Req) (write : Bool) (addr : Nat) : Walked → Block × PRes
  | .fault _ _ _ _ => (s, .fault)
  | .ok u ep k a lv h _ =>
    match (if write then s.configDenied r addr k a else none) with
    | some s1 => (s1, .fault)
    | none =>
      if s.isIdleSelf u then (s.idleRefusal r write k a, .fault)
      else if s.isSelf u then
        (if k = 0 then (s, .pt a) else if k = 1 then (s, .reg (a % 2 ^ 24) lv h) else (s, .hist a))
      else (s, .far u ep k a)

/-- A leaf enters an engine's micro-cache (R183). -/
def microPut (s : Block) (e gen addr : Nat) : LeafRes → Block
  | .leaf lv x _ =>
    if (s.overlayLeaf addr).isSome then s
    else { s with ucache := s.ucache.put e (cachePut 64 ((s.ucache.find e).getD []) ⟨addr / leafSpan lv, lv, gen, x, false⟩) }
  | _ => s

/-- The offset of a register of this module that an address reaches by its leaf where it is no multiple of 4 (R36): such
an access is refused before its rights are judged (R461). -/
def misReg (s : Block) (addr : Nat) : LeafRes → Option Nat
  | .leaf lv x _ =>
    let a := leafOffset x + addr % leafSpan lv
    if leafKind x = 1 ∧ a % 4 ≠ 0 then
      (match s.resolve 10 (leafHolder x) 0 with
       | .unit u _ _ => if s.isSelf u then some (a % 2 ^ 24) else none
       | .fault _ _ => none)
    else none
  | _ => none

/-- The refusal of a misaligned P access to a register (R36, R91): 0x08 on the register's page; the access fails. -/
def pMisaligned (s : Block) (e : Fin 16) (j : Fin 8) (off : Nat) : Block × PRes :=
  (s.refuse (off / 4096) 0x08 (.task e j) off, .fault)

/-- A complete walk of a P access, outside the micro-cache (R177, R183). -/
def pWalkFull (s : Block) (e : Fin 16) (j : Fin 8) (write : Bool) (addr gen : Nat) (ecc : Option Nat) : Block × PRes :=
  let l := s.leafFor addr gen ecc
  match s.misReg addr l with
  | some off => ((s.walkSeen addr gen l).microPut e.val gen addr l).pMisaligned e j off
  | none =>
    let x := s.walk (.task e j) (if write then .write else .read) addr gen ecc
    (x.1.microPut e.val gen addr l).pTarget (.task e j) write addr x.2

/-- The micro-cache's leaf for an address, unless the overlay holds one (R183, R190). -/
def microLeaf (s : Block) (e addr gen : Nat) : Option CEnt :=
  if (s.overlayLeaf addr).isSome then none else cacheLeaf ((s.ucache.find e).getD []) addr gen

/-- A P access that the micro-cache serves: rights and resolution are checked again (R177). -/
def pMicro (s : Block) (e : Fin 16) (j : Fin 8) (write : Bool) (addr : Nat) (x : CEnt) : Block × PRes :=
  let r : Req := .task e j
  let right : Right := if write then .write else .read
  let s0 := { s with ucache := s.ucache.put e.val (cachePut 64 ((s.ucache.find e.val).getD []) x) }
  match s0.misReg addr (.leaf x.level x.leaf true), s0.walkEnd addr (s0.tinOf r) (s0.holds r right) right (.leaf x.level x.leaf true) with
  | some off, _ => s0.pMisaligned e j off
  | none, .fault c lv h p => (s0.walkFault addr x.gen c lv h p r right, .fault)
  | none, w => s0.pTarget r write addr w

/-- Whether the overlay or the walk cache holds the leaf of an address. -/
def cachedLeaf (s : Block) (addr gen : Nat) : Bool := (s.overlayLeaf addr).isSome || (cacheLeaf s.wcache addr gen).isSome

/-- Nobody waits any more for the direct reads of a slot's scan. -/
def dropAsks (s : Block) (e j : Nat) : Block :=
  { s with asks := s.asks.filter fun a => match a.who with | .scan e' j' _ => !(e' == e && j' == j) | _ => true }

/-- An engine's queue towards the batch controller takes an entry, for a credit (R11, R93). -/
def pushEnt (s : Block) (e : Nat) (q : QEnt) : Block :=
  let n := s.rd ENG.ENG_BQ_CREDIT.CREDITS e 0
  { s with engQ := s.engQ.put e (s.engQueue e ++ [q]) }.wr ENG.ENG_BQ_CREDIT.CREDITS e 0 (n - 1) |>.fireIf (n == 1)
    (EV.ENG.CREDIT_EMPTY e)

/-- An entry of a slot's output batch (R90, R93). -/
def slotEnt' (s : Block) (e j : Nat) (c : Scan) (x : Option Entry) : QEnt :=
  { who := .slot e j, due := c.due, rel := c.rel, ls := s.on TSK.TSK_CFG.LS e j, tin := s.rd TSK.TSK_CFG.TIN e j, ent := x }

end Block

namespace Run

/-- Cycles of the instruction in issue: executing (cause 0) or stalled. -/
def cost (r : Run) (cause n : Nat) : Run :=
  { r with s := r.s.cost r.e.val cause n, c := { r.c.spend n with stalls := r.c.stalls ++ [(cause, n)] } }

/-- The instruction completes after its own cycles, and PC goes on. -/
def done (r : Run) (n : Nat) : NOut := .ok (r.cost 0 n).s (r.cost 0 n).c.next

/-- The instruction completes and execution continues at a target. -/
def jump (r : Run) (n t : Nat) : NOut := .ok (r.cost 0 n).s ((r.cost 0 n).c.goto t)

/-- Give the scan new contents. -/
def set (r : Run) (c : Scan) : Run := { r with c := c }

/-- The operand area. -/
def area (r : Run) : Nat := r.ins.arg.area

/-- The effective address, which does not wrap (R74). -/
def ea (r : Run) : Nat :=
  match r.ins.arg with
  | .dir _ a => a.val
  | .ind _ n d => (r.c.x n).toNat + d.val
  | _ => 0

/-- The window of an area of the scan's slot and bank (R70). -/
def win (r : Run) (area : Nat) : Win := r.s.win r.e.val r.j.val r.c.bank area

/-- The window of the operand's area. -/
def opWin (r : Run) : Win := r.win r.area

/-- The unit in which a bit instruction or a word instruction counts (R71). -/
def unit (r : Run) (bit : Bool) : NUnit := if 5 ≤ r.area then .entry else if bit then .bit else .word

/-- The check of R73, before anything else that an operand does. -/
def bounded (r : Run) (u : NUnit) (k : NOut) : NOut :=
  if r.ea < r.opWin.cap u then k else .fault r.s r.c 3 (r.ea % 2 ^ 21) r.area

/-- A program fault at the operand. -/
def faultAt (r : Run) (code : Nat) : NOut := .fault r.s r.c code (r.ea % 2 ^ 21) r.area

/-- Word `w` of the operand's area. -/
def word (r : Run) (w : Nat) : Nat := r.s.winWord r.e.val r.opWin r.area w

/-- A first write to lines that a snapshot has not yet read waits until they have been read (R134): the cycles of the wait
are a free value (assumption 31). -/
def snapWait (r : Run) (l : List Nat) : Run :=
  let ws := r.s.snapWaits r.e.val r.j.val r.area r.opWin l
  if ws.isEmpty then r
  else
    let x := r.s.takeFree
    ({ r with s := x.1.setLines HID.SNAPGOT r.e.val 1 ws } : Run).cost 4 (Config.waitCycles x.2)

/-- Program writes of journalled words, with their waits and their journal copies (R92, R134). -/
def store (r : Run) (l : List (Nat × Nat)) : Run :=
  let r1 := r.snapWait (l.map fun x => x.1)
  let x := r1.s.journalWrites r.e.val r.opWin r.area l
  ({ r1 with s := x.1 } : Run).cost 4 x.2

/-! ### P accesses (R88 to R91) -/

/-- The fields of the operand's point reference (R88). -/
def pRef (r : Run) : Nat := r.s.pEntry r.e.val r.opWin r.ea
def pAddr (r : Run) : Nat := r.pRef % 2 ^ 48
def pBit (r : Run) : Nat := bits r.pRef 52 48
def pWide (r : Run) : Bool := r.pRef.testBit 53
def pValid (r : Run) : Bool := r.pRef.testBit 63

/-- The walk of a P access: kept from before a stall, served by a cache, or a stall until WALK_COMPLETE (R91, R96). A
misaligned address of the module's own registers is refused without a walk (R36, R461). -/
def pWalk (r : Run) (write : Bool) (k : Run → PRes → NOut) : NOut :=
  match r.c.walked with
  | some p => k r p
  | none =>
    let g := r.s.scanGen r.c
    if r.pAddr % 4 ≠ 0 ∧ (r.s.windowOff r.pAddr).isSome then
      let x := r.s.pMisaligned r.e r.j ((r.s.windowOff r.pAddr).getD 0)
      k { r with s := x.1, c := { r.c with walked := some x.2 } } x.2
    else
    let keep (r1 : Run) (x : Block × PRes) : NOut :=
      k { r1 with s := x.1, c := { r1.c with walked := some x.2 } } x.2
    match r.s.microLeaf r.e.val r.pAddr g with
    | some x => keep (r.cost 0 5) ((r.cost 0 5).s.pMicro r.e r.j write r.pAddr x)
    | none =>
      let r0 : Run := { r with s := r.s.perf 0x01E (some r.e.val) 1 }
      if r.s.cachedLeaf r.pAddr g then
        let r1 := (r0.cost 0 5).cost 1 24
        keep r1 (r1.s.pWalkFull r.e r.j write r.pAddr g none)
      else .stall r0.s r0.c 1

/-- A failed P access: PF, and 0 where it reads (R91). -/
def pFail (r : Run) : Run := r.set r.c.setPf

/-- A direct read is made: it is counted, and PDIRECT fires for the first of a scan (R89). -/
def pCount (r : Run) : Run :=
  let s1 := (r.s.wrap ENG.ENG_PDIRECT.COUNT r.e.val 0 1).perf 0x019 (some r.e.val) 1
  { r with s := s1.fireIf (r.c.pd == 0) (EV.ENG.PDIRECT r.e.val), c := { r.c with pd := r.c.pd + 1 } }

/-- The direct read of a target (R89): the value in logical state now. Of another module it is asked for, and the
instruction waits. -/
def pFetch (r : Run) (p : PRes) (k : Run → Nat → NOut) : NOut :=
  match p with
  | .pt a =>
    let r1 := r.pCount
    if a ≥ 0x1000000 then k r1.pFail 0 else k r1 (r1.s.pointWord (a / 4 * 4))
  | .hist a =>
    let r1 := r.pCount
    (match r1.s.histRead (.task r.e r.j) a with
     | (s1, 0, v) => k { r1 with s := s1 } v
     | (s1, _, _) => k ({ r1 with s := s1 } : Run).pFail 0)
  | .reg off lv h =>
    let r1 := r.pCount
    (match (r1.s.noteWalk lv h).readReg (.task r.e r.j) off with
     | (s1, 0, v) => k { r1 with s := s1.noteWalk 0 0 } v
     | (s1, _, _) => k ({ r1 with s := s1.noteWalk 0 0 } : Run).pFail 0)
  | .far u ep kd a =>
    (match r.c.ans with
     | some v => k r.pCount (v % 2 ^ 32)
     | none =>
       .stall (r.s.sendRequest (.task r.e r.j) false u ep kd a 0 (.scan r.e.val r.j.val r.c.rel)) r.c 2)
  | .lost => k r.pCount.pFail 0
  | .fault => k r.pFail 0

/-- A P read (R88, R89, R91): `bit` for a bit instruction. -/
def pRead (r : Run) (bit : Bool) (k : Run → Nat → NOut) : NOut :=
  if !r.pValid then k r.pFail 0
  else if !bit && !r.pWide then r.faultAt 2
  else
    r.pWalk false fun r1 p =>
      if p != .fault && r1.s.on ENG.ENG_CTRL.DET_STRICT r.e.val 0 then r1.faultAt 0xB
      else r1.pFetch p fun r2 v => k r2 (if bit then bitN v r.pBit else v)

/-- The entry that a P write stages (R88, R90); none where the target takes no write. A bit of a word of another module is
its address with the bit above the 48 bits. -/
def pEntryOf (r : Run) (p : PRes) (bit : Bool) (v : Nat) : Option Entry :=
  let at_ (t : Target) (x ep : Nat) : Option Entry :=
    some { tgt := t, val := x, by_ := .task r.e r.j, epoch := ep, addr := some r.pAddr }
  let mk (t : Target) (x : Nat) : Option Entry := at_ t x 0
  match p with
  | .pt a =>
    if r.s.pointCode (a / 4 * 4) ≠ 0 then none
    else if bit then mk (.pointBit (a / 4 * 4) r.pBit) (v % 2) else mk (.point (a / 4 * 4)) v
  | .reg off _ _ =>
    if !r.s.selOk (.task r.e r.j) .write off then none
    else if bit then mk (.regBit off r.pBit) (v % 2) else mk (.reg off (r.s.selAt (.task r.e r.j) off)) v
  | .far u ep _ _ => if bit then at_ (.remote u (r.pAddr + 2 ^ 48 * (r.pBit + 1))) (v % 2) ep else at_ (.remote u r.pAddr) v ep
  | _ => none

/-- The refusal of a P write that no entry can be staged for: history is read-only (R175), or a register's selector names an
object of another tin (R194). -/
def pDeny (r : Run) (p : PRes) : Run :=
  let q : Req := .task r.e r.j
  match p with
  | .hist _ => ({ r with s := r.s.errR 0x040 0x0D q 0 none } : Run).pFail
  | .reg off lv h =>
    ({ r with s := r.s.selectorDenied q .write off lv h none } : Run).pFail
  | _ => r.pFail

/-- A P write (R88, R90, R91): it takes its credit before it changes anything (R93). -/
def pWrite (r : Run) (bit : Bool) (v : Nat) (k : Run → NOut) : NOut :=
  if !r.pValid then k r.pFail
  else if bit = r.pWide then r.faultAt 2
  else
    r.pWalk true fun r1 p =>
      match r1.pEntryOf p bit v with
      | none => k (r1.pDeny p)
      | some x =>
        if r1.s.rd ENG.ENG_BQ_CREDIT.CREDITS r.e.val 0 = 0 then .stall r1.s r1.c 3
        else k (({ r1 with s := r1.s.pushEnt r.e.val (r1.s.slotEnt' r.e.val r.j.val r1.c (some x)) } : Run).cost 0 1)

/-! ### Operands -/

/-- The operand bit (R74, R76): of a timer or counter its Q, of the P area the referenced bit. -/
def withBit (r : Run) (k : Run → Bool → NOut) : NOut :=
  r.bounded (r.unit true) <|
    match r.area with
    | 5 => k r ((r.word (2 * r.ea + 1)).testBit 29)
    | 6 => k r (counterQ (r.word (2 * r.ea)) (r.word (2 * r.ea + 1)))
    | 7 => r.pRead true fun r1 v => k r1 (v == 1)
    | _ => k r ((r.word (r.ea / 32)).testBit (r.ea % 32))

/-- The operand word. -/
def withWord (r : Run) (k : Run → Word → NOut) : NOut :=
  r.bounded (r.unit false) <|
    match r.area with
    | 7 => r.pRead false fun r1 v => k r1 (BitVec.ofNat 32 v)
    | _ => k r (BitVec.ofNat 32 (r.word r.ea))

/-- The late flag of the operand word (R73). -/
def withLate (r : Run) (k : Run → Bool → NOut) : NOut :=
  r.bounded .word (k r (r.s.lateFlag r.e.val r.opWin r.ea))

/-- The two words of the operand entry, a timer or a counter. -/
def withEntry (r : Run) (k : Nat → Nat → NOut) : NOut :=
  r.bounded .entry (k (r.word (2 * r.ea)) (r.word (2 * r.ea + 1)))

/-- Write both words of the operand entry. -/
def putEntry (r : Run) (w0 w1 : Nat) : Run := r.store [(2 * r.ea, w0), (2 * r.ea + 1, w1)]

/-- Write the operand bit of a journalled window. -/
def putBitAt (r : Run) (b : Bool) : Run := r.store [(r.ea / 32, putBit (r.word (r.ea / 32)) (r.ea % 32) b)]

/-- Store a bit in the operand (R76). -/
def storeBit (r : Run) (b : Bool) : NOut :=
  r.bounded (r.unit true) <|
    if r.area = 7 then r.pWrite true (b2n b) fun r1 => r1.done 1 else (r.putBitAt b).done 1

/-- The same where LB = 1; otherwise the operand is only checked (R73, R76). -/
def storeBitIf (r : Run) (b : Bool) : NOut := if r.c.lb then r.storeBit b else r.bounded (r.unit true) (r.done 1)

end Run

namespace Block

/-- The scan that an engine executes, with its slot. -/
def running (s : Block) (e : Fin 16) : Option (Fin 8 × Scan) :=
  if s.on HID.EXECUTING e.val 0 then
    let j := finMod 8 (s.rd ENG.ENG_STATE.CUR_SLOT e.val 0)
    (s.scan e.val j.val).map fun c => (j, c)
  else none

/-- Whether an engine runs: its island and the supervisor's (R9, R17). -/
def engRuns (s : Block) (e : Nat) : Bool := s.supRuns && s.islandUp (1 + e)

/-- Whether a scan may issue: it does not wait for a walk, an answer or a credit (R96). -/
def mayIssue (s : Block) (e : Nat) (c : Scan) : Bool :=
  let st := s.rd ENG.ENG_STATE.STALL e 0
  s.engRuns e && st != 1 && st != 3 && (st != 2 || c.ans.isSome || c.walked == some .lost)

/-- A wait of a length that no rule gives has ended: its cycles are a free value, within the limit of a direct read
(R89, R91, R96). -/
def waitOver (s : Block) (e : Nat) (c : Scan) : Block × Scan :=
  if c.wait = 0 then (s, c)
  else
    let x := s.takeFree
    let lim := 800 * s.rd ENG.ENG_PTIMEOUT.TIMEOUT e 0
    let n := if c.wait = 2 then Config.waitCycles x.2 % (lim + 1) else Config.waitCycles x.2
    (x.1.cost e c.wait n, { c.spend n with wait := 0, stalls := c.stalls ++ [(c.wait, n)] })

/-- The cause of R96 that cost an instruction most cycles, the lower on a tie, 0 when none (R452). -/
def worstStall (l : List (Nat × Nat)) : Nat :=
  let sum (k : Nat) : Nat := ((l.filter fun (x : Nat × Nat) => x.1 == k).map fun (x : Nat × Nat) => x.2).sum
  [1, 2, 3, 4, 5].foldl (fun (b k : Nat) => if sum k > (if b = 0 then 0 else sum b) then k else b) 0

/-- An instruction completes (R451, R452): it is counted and perhaps sampled. -/
def counted (s : Block) (e j : Nat) (insn pc : Nat) (c : Scan) : Block :=
  let lat := (c.stalls.map fun (x : Nat × Nat) => x.2).sum
  (s.perf 0x012 (some e) 1).smpCount e j insn pc c.bank (worstStall c.stalls) lat c.rel

/-- An instruction completes and the scan goes on. -/
def completed (s : Block) (e j : Nat) (insn pc : Nat) (c : Scan) : Block :=
  ((s.counted e j insn pc c).putScan e j { c with walked := none, ans := none, stalls := [] }).wr ENG.ENG_STATE.STALL e 0 0

/-- A program fault ends the issue and the scan (R95); its cycles are a free value (assumption 20). -/
def faulted (s : Block) (e j : Nat) (c : Scan) (code insn ea area : Nat) : Block :=
  let x := s.takeFree
  let n := Config.faultCycles x.2
  ((x.1.cost e 0 n).scanFault e j (c.spend n) code insn ea area).peelScanEnd e j

/-- What the bench code found in the words an instruction fetched or read (R66). -/
def eccNote (s : Block) (e : Nat) : Ecc → Block
  | .ok => s
  | .corrected => (s.sat ENG.ENG_ECC.CORR e 0 1).fire (EV.ENG.ECC_CORR e)
  | .uncorrectable => (s.sat ENG.ENG_ECC.UNCORR e 0 1).fire (EV.ENG.ECC_UNCORR e)
  | .operand => (s.sat ENG.ENG_ECC.UNCORR e 0 1).fire (EV.ENG.ECC_UNCORR e)

/-- Whether a fetch lies in the slot's code (R69). -/
def inCode (s : Block) (e j : Nat) (c : Scan) : Bool :=
  let t := s.slotEnt e c.bank j
  decide (t.codeLo ≤ c.pc) && decide (c.pc < t.codeHi)

/-- The engines that wait for a walk, and the one whose walk the walker serves: the walk in progress, else a class LS one before
the others, in order of arrival (R178). -/
def walkWaits (s : Block) : List Nat := (List.range 16).filter fun e => s.rd ENG.ENG_STATE.STALL e 0 == 1 && s.engRuns e
def walkLS (s : Block) (e : Nat) : Bool := s.on TSK.TSK_CFG.LS e (s.rd ENG.ENG_STATE.CUR_SLOT e 0)
def walkBefore (s : Block) (a b : Nat) : Bool :=
  (s.walkLS a && !s.walkLS b) || (s.walkLS a == s.walkLS b && decide (s.rd HID.WALKNO a 0 < s.rd HID.WALKNO b 0))
def walkFirst (s : Block) : Option Nat :=
  match s.walkWaits.find? fun e => s.rd HID.WALKNO e 0 == s.g HID.WALKER with
  | some e => some e
  | none => s.walkWaits.foldl (fun (b : Option Nat) (e : Nat) => match b with
    | none => some e
    | some a => if s.walkBefore e a then some e else some a) none

/-- The walker takes the walk that comes next. -/
def walkNext (s : Block) : Block := s.p HID.WALKER ((s.walkFirst.map fun e => s.rd HID.WALKNO e 0).getD 0)

/-- An engine queues a walk (R178). -/
def walkArrive (s : Block) (e : Nat) : Block :=
  ((s.p HID.WALKSEQ (s.g HID.WALKSEQ + 1)).wr HID.WALKNO e 0 (s.g HID.WALKSEQ + 1)).walkNext

/-- An outcome takes its effect. -/
def outcome (_ : Block) (e j : Nat) (insn : Nat) (c : Scan) : NOut → Block
  | .ok s1 c1 => s1.completed e j insn c.pc c1
  | .fault s1 c1 code ea area => s1.faulted e j c1 code insn ea area
  | .stall s1 c1 k =>
    let s2 := (s1.putScan e j { c1 with wait := if k = 1 then 0 else k }).wr ENG.ENG_STATE.STALL e 0 k
    if k = 1 then s2.walkArrive e else s2
  | .fin s1 => s1

/-- A double error in the word that an operand reads (R95): fault 0xC at the operand's address, unless the instruction faults
for another reason before it reads; an instruction without an operand in memory reads none. -/
def eccOperand (r : Run) (f : Run → NOut) : NOut :=
  match r.ins.arg, f r with
  | _, .fault s c code ea area => .fault s c code ea area
  | .dir _ _, _ => r.faultAt 0xC
  | .ind _ _ _, _ => r.faultAt 0xC
  | _, o => o

/-- The issue of an instruction of one operation by engine `e` (R66, R67, R69, R75): `f` is the operation's own meaning. A
fetch outside the code faults whatever the word; where another instruction stands at PC, or the engine may not issue, the
command changes nothing. -/
def issue (s : Block) (e : Fin 16) (ecc : Ecc) (op : NOp) (f : Run → NOut) : Block :=
  match s.running e with
  | none => s
  | some (j, c0) =>
    if !s.mayIssue e.val c0 then s
    else
      let (s1, c) := s.waitOver e.val c0
      if !s1.inCode e.val j.val c then s1.faulted e.val j.val c 9 0 0 0
      else
        let w := s1.progWord e.val c.bank c.pc
        match nalDecode w with
        | none => s
        | some i =>
          if i.op ≠ op then s
          else
            let s2 := s1.eccNote e.val ecc
            let r : Run := ⟨s2, e, j, c, i⟩
            if ecc = .uncorrectable then s2.faulted e.val j.val c 0xC w 0 0
            else if !i.areaOk then s2.faulted e.val j.val c 2 w (r.ea % 2 ^ 21) r.area
            else s2.outcome e.val j.val w c (if ecc = .operand then eccOperand r f else f r)

/-- The issue of a word that is no instruction (R75). -/
def issueIllegal (s : Block) (e : Fin 16) (ecc : Ecc) : Block :=
  match s.running e with
  | none => s
  | some (j, c0) =>
    if !s.mayIssue e.val c0 then s
    else
      let (s1, c) := s.waitOver e.val c0
      if !s1.inCode e.val j.val c then s1.faulted e.val j.val c 9 0 0 0
      else
        let w := s1.progWord e.val c.bank c.pc
        match nalDecode w with
        | some _ => s
        | none => (s1.eccNote e.val ecc).faulted e.val j.val c (if ecc = .uncorrectable then 0xC else 1) w 0 0

/-! ### The end of a wait -/

/-- The P access at PC of a scan stalled for a walk: whether it writes, with its issue. -/
def pPending (s : Block) (e : Fin 16) (j : Fin 8) (c : Scan) : Option (Bool × Run) :=
  (nalDecode (s.progWord e.val c.bank c.pc)).map fun i =>
    (i.op == .stb || i.op == .setb || i.op == .rstb || i.op == .stw, ⟨s, e, j, c, i⟩)

/-- WALK_COMPLETE (R91, R96, R178): the walk that the walker serves, of a stalled P access, ends after `cyc` cycles, at most
1,280. -/
def walkComplete (s : Block) (e : Fin 16) (ecc : Option (Fin 4)) (cyc : Nat) : Block :=
  match s.running e with
  | none => s
  | some (j, c) =>
    if s.rd ENG.ENG_STATE.STALL e.val 0 ≠ 1 ∨ s.engRuns e.val = false ∨ s.walkFirst ≠ some e.val then s
    else
      match s.pPending e j c with
      | none => s
      | some (write, r) =>
        let r1 := (r.cost 0 5).cost 1 (min cyc 1280)
        let x := r1.s.pWalkFull e j write r.pAddr (s.scanGen c) (ecc.map fun n => n.val)
        ((x.1.putScan e.val j.val { r1.c with walked := some x.2 }).wr ENG.ENG_STATE.STALL e.val 0 0).walkNext

/-- P_READ_TIMEOUT (R91): no answer came within ENG_PTIMEOUT. -/
def pReadTimeout (s : Block) (e : Fin 16) : Block :=
  match s.running e with
  | none => s
  | some (j, c) =>
    if s.engRuns e.val = false ∨ s.rd ENG.ENG_STATE.STALL e.val 0 ≠ 2 ∨ c.ans.isSome ∨ c.walked = some .lost then s
    else
      let n := 800 * s.rd ENG.ENG_PTIMEOUT.TIMEOUT e.val 0
      let s1 := (s.dropAsks e.val j.val).cost e.val 2 n
      (s1.putScan e.val j.val { c.spend n with walked := some .lost, wait := 0, stalls := c.stalls ++ [(2, n)] }).wr
        ENG.ENG_STATE.STALL e.val 0 0

/-! ### Choosing a scan (R97, R98, R102) -/

/-- The order in which an engine takes scans: overrunning ones last (R118), then by PRIO, then by slot (R102). -/
def scanRank (s : Block) (e j : Nat) : Nat :=
  (if s.overran e j then 64 else 0) + 8 * s.rd TSK.TSK_CFG.PRIO e j + j

/-- The slots that hold a scan which could execute: READY, PREEMPTED, or overrunning; no scan starts while the page is
disabled (R98). -/
def waitingScans (s : Block) (e : Nat) : List Nat :=
  (List.range 8).filter fun j => (s.scan e j).any fun (c : Scan) =>
    c.ready && (c.started || s.on HDR.PAGE_CTRL.ENABLE (0x010 + e) 0)

/-- The first of them. -/
def bestScan (s : Block) (e : Nat) (l : List Nat) : Option Nat :=
  l.foldl (fun (b : Option Nat) (j : Nat) => match b with
    | none => some j
    | some i => if s.scanRank e j < s.scanRank e i then some j else some i) none

/-- The running scan is saved (R97): a stalled instruction is abandoned. -/
def preempt (s : Block) (e j : Nat) (c : Scan) : Block :=
  let s1 := (((s.dropAsks e j).perf 0x01B (some e) 1).cost e 6 16).putScan e j
    { c.spend 16 with walked := none, ans := none, stalls := [], wait := 0 }
  let s2 := if s1.overran e j then s1 else s1.wr TSK.TSK_STAT.STATE e j 5
  (s2.wr HID.EXECUTING e 0 0).wr ENG.ENG_STATE.STALL e 0 0

/-- An engine takes a slot's scan: a preempted one is restored, a new one starts at ENTRY (R65, R97). -/
def takeScan (s : Block) (e j : Nat) (c : Scan) : Block :=
  let s1 := if c.started then (s.cost e 6 16).putScan e j (c.spend 16) else s.putScan e j { c with started := true }
  let s2 := if s1.overran e j then s1 else s1.wr TSK.TSK_STAT.STATE e j 4
  ((s2.wr HID.EXECUTING e 0 1).wr ENG.ENG_STATE.CUR_SLOT e 0 j).wr ENG.ENG_STATE.STALL e 0 0

/-- SCAN_START (R63, R97, R102): the engine takes the scan it runs next, preempting one of lower priority. -/
def scanStart (s : Block) (e : Nat) : Block :=
  if !s.engRuns e then s
  else
    let take (a : Block) (l : List Nat) : Block :=
      match a.bestScan e l with
      | none => a
      | some j => match a.scan e j with
        | none => a
        | some c => a.takeScan e j c
    if s.on HID.EXECUTING e 0 then
      let i := s.rd ENG.ENG_STATE.CUR_SLOT e 0
      match s.scan e i with
      | none => s
      | some c =>
        let l := (s.waitingScans e).filter fun j => j != i && decide (s.scanRank e j / 8 < s.scanRank e i / 8)
        if l.isEmpty then s else take (s.preempt e i c) l
    else take s (s.waitingScans e)

end Block
end Sys2Proof.Machine
end

