-- ==== Sys2Proof/Machine/CmdTask.lean ====
section
/-!
DEFINITION. The commands of the engines, their banks and their task slots.
-/
namespace Sys2Proof.Machine

/-- CAPTURE_DONE (R115). -/
def execCaptureDone (e : Fin 16) (j : Fin 8) (s : State) : Host.Outcome State Fault Refusal :=
  .next { s with m := s.m.onSup fun (b : Block) => b.captureDone e.val j.val }

/-- TASK_WDOG_EXPIRE (R118). -/
def execTaskWdogExpire (e : Fin 16) (j : Fin 8) (s : State) : Host.Outcome State Fault Refusal :=
  .next { s with m := if s.m.engRuns e.val then s.m.wdogExpire e.val j.val s.m.tick else s.m }

/-- KRET_SNAPSHOT (R133, R134): the lines of the snapshot that its boundary took have been read, and its store is written. -/
def execKretSnapshot (s : State) : Host.Outcome State Fault Refusal :=
  .next { s with m := s.m.onSup fun (b : Block) => if b.on HID.SNAPREAD 0 0 then b.snapRead.stoRequest 0x30 else b }

/-- ENG_SWAP_STAGE (R72). -/
def execEngSwapStage (r : Req) (e : Fin 16) (s : State) : Host.Outcome State Fault Refusal :=
  .next { s with
    m := s.m.wreg r (0x010040 + 0x1000 * e.val) (1 + 2 * s.m.rd ENG.ENG_CTRL.PROG_OPEN e.val 0 + 4 * s.m.rd ENG.ENG_CTRL.DET_STRICT e.val 0) }

/-- PROG_OPEN_SET (R99). -/
def execProgOpenSet (r : Req) (e : Fin 16) (s : State) : Host.Outcome State Fault Refusal :=
  .next { s with
    m := s.m.acc r fun (a : Block) => if a.on ENG.ENG_CTRL.PROG_OPEN e.val 0 then (a, 0) else a.progOpenSet r e.val }

/-- PROG_OPEN_CLEAR (R137). -/
def execProgOpenClear (r : Req) (e : Fin 16) (load : ProgLoad) (s : State) : Host.Outcome State Fault Refusal :=
  .next { s with m := s.m.acc r fun (a : Block) => (a.progClose e.val load, 0) }

/-- PROG_CRC_DONE (R137). -/
def execProgCrcDone (e : Fin 16) (s : State) : Host.Outcome State Fault Refusal :=
  .next { s with m := s.m.onSup fun (b : Block) => b.progCrcDone e.val }

/-- AREA_WIN_WRITE (R99). -/
def execAreaWinWrite (r : Req) (e : Fin 16) (w : Word) (s : State) : Host.Outcome State Fault Refusal :=
  .next { s with m := s.m.wreg r (0x010064 + 0x1000 * e.val) (w.toNat) }

/-- ENG_FAULT_CLEAR (R95). -/
def execEngFaultClear (r : Req) (e : Fin 16) (s : State) : Host.Outcome State Fault Refusal :=
  .next { s with m := s.m.wreg r (0x010050 + 0x1000 * e.val) (2 ^ 31) }

/-- ENG_PEAK_CLR (R100). -/
def execEngPeakClr (r : Req) (e : Fin 16) (s : State) : Host.Outcome State Fault Refusal :=
  .next { s with m := s.m.wreg r (0x01005C + 0x1000 * e.val) (2 ^ 31) }

/-- TSK_RESUME (R120). -/
def execTskResume (r : Req) (e : Fin 16) (s : State) : Host.Outcome State Fault Refusal :=
  .next { s with m := s.m.wreg r (0x020054 + 0x1000 * e.val) (1) }

/-- TSK_EXEC_CLR (R144). -/
def execTskExecClr (r : Req) (e : Fin 16) (s : State) : Host.Outcome State Fault Refusal :=
  .next { s with m := s.m.wreg r (0x020054 + 0x1000 * e.val) (2) }

end Sys2Proof.Machine
end

