-- ==== Sys2Proof/Machine/CmdTime.lean ====
section
/-!
DEFINITION. The commands of tower time and of the RTC domain.
-/
namespace Sys2Proof.Machine

/-- PTP_SYNC_RX (R336). -/
def execPtpSyncRx (p : Fin 2) (domain : Nat) (two : Bool) (gm : Nat) (seq : Nat) (off : Int) (freq : Int) (us : Nat)
    (s : State) : Host.Outcome State Fault Refusal :=
  .next { s with m := s.m.onSupIsl 32 fun (b : Block) => (b.ptpSync p domain two gm seq off freq us).noteFault }

/-- PTP_ANNOUNCE_RX (R337). -/
def execPtpAnnounceRx (p : Fin 2) (domain : Nat) (a : Announce) (s : State) : Host.Outcome State Fault Refusal :=
  .next { s with m := s.m.onSupIsl 32 fun (b : Block) => (b.ptpAnnounce p domain a).noteFault }

/-- PTP_PDELAY (R336). -/
def execPtpPdelay (p : Fin 2) (ns : Nat) (s : State) : Host.Outcome State Fault Refusal :=
  .next { s with m := s.m.onSupIsl 32 fun (b : Block) => b.ptpPdelay p.val ns }

/-- PTP_SYNC_TIMEOUT (R338). -/
def execPtpSyncTimeout (s : State) : Host.Outcome State Fault Refusal :=
  .next { s with m := s.m.onSupIsl 32 fun (b : Block) => (b.syncTimeout).noteFault }

/-- PTP_ADJ_WRITE (R341). -/
def execPtpAdjWrite (r : Req) (w : Word) (s : State) : Host.Outcome State Fault Refusal :=
  .next { s with m := s.m.wreg r (0x0A006C) (w.toNat) }

/-- PTP_NS_READ (R342). -/
def execPtpNsRead (r : Req) (sub : Nat) (frac : Nat) (s : State) : Host.Outcome State Fault Refusal :=
  .next { s with m := s.m.ptpRead r sub frac }

/-- RTC_SEC_WRITE (R344). -/
def execRtcSecWrite (r : Req) (w : Word) (s : State) : Host.Outcome State Fault Refusal :=
  .next { s with m := s.m.wreg r (0x0A1048) (w.toNat) }

/-- RTC_SEC_LANDING (R344). -/
def execRtcSecLanding (s : State) : Host.Outcome State Fault Refusal :=
  .next { s with m := if s.m.islandUp 33 then s.m.rtcLanding else s.m }

/-- RTC_AUTOSET (R345). -/
def execRtcAutoset (s : State) : Host.Outcome State Fault Refusal :=
  .next { s with m := s.m.onSup fun (b : Block) => b.autoset }

/-- RTC_ALARM (R347). -/
def execRtcAlarm (k : Fin 2) (s : State) : Host.Outcome State Fault Refusal :=
  .next { s with m := if s.m.islandUp 33 then s.m.rtcAlarm k.val else s.m }

/-- RTC_OSC_STOP (R346). -/
def execRtcOscStop (s : State) : Host.Outcome State Fault Refusal :=
  .next { s with m := if s.m.islandUp 33 then s.m.oscStop else s.m }

/-- RTC_SUPPLY_SWITCH (R348). -/
def execRtcSupplySwitch (vbat : Bool) (s : State) : Host.Outcome State Fault Refusal :=
  .next { s with m := if s.m.islandUp 33 then s.m.rtcSwitch vbat else s.m }

/-- VBAT_LOW (R348). -/
def execVbatLow (mv : Nat) (s : State) : Host.Outcome State Fault Refusal :=
  .next { s with m := if s.m.islandUp 33 then s.m.vbatLow mv else s.m }

/-- ANNOUNCE_RECEIPT_TIMEOUT (R337). -/
def execAnnounceReceiptTimeout (s : State) : Host.Outcome State Fault Refusal :=
  .next { s with m := s.m.onSupIsl 32 fun (b : Block) => (b.announceTimeout).noteFault }

end Sys2Proof.Machine
end

