-- ==== Sys2Proof/Machine/CmdTower.lean ====
section
/-!
DEFINITION. The commands of the module as a whole: the grid, the register pages, MOD and the event router.
-/
namespace Sys2Proof.Machine

/-- TICK_BOUNDARY (R20). -/
def execTickBoundary (t : TickIn) (s : State) : Host.Outcome State Fault Refusal :=
  .next { s with m := s.m.tickBoundary t }

/-- SEAL_POINT (R155). -/
def execSealPoint (answered : List (Fin 128)) (s : State) : Host.Outcome State Fault Refusal :=
  .next { s with
    m := s.m.onSup fun (b : Block) => (b.sealPoint (answered.map fun (q : Fin 128) => q.val)).mirrorSealed b }

/-- REGISTER_WRITE (R1). -/
def execRegisterWrite (r : Req) (off : Fin 16777216) (size : Nat) (w : Word)
    (s : State) : Host.Outcome State Fault Refusal :=
  .next { s with m := s.m.acc r fun (a : Block) => a.regWriteAcc r off.val size w.toNat }

/-- HALF_LOW_READ (R37). -/
def execHalfLowRead (r : Req) (off : Fin 16777216) (s : State) : Host.Outcome State Fault Refusal :=
  .next { s with m := if isLow off.val then s.m.rreg r off.val else s.m }

/-- BATCH_TAG_WRITE (R40). -/
def execBatchTagWrite (r : Req) (page : Fin 256) (w : Word) (s : State) : Host.Outcome State Fault Refusal :=
  .next { s with m := s.m.wreg r (page.val * 4096 + 0x020) (w.toNat) }

/-- ERR_CLEAR (R48). -/
def execErrClear (r : Req) (page : Fin 256) (s : State) : Host.Outcome State Fault Refusal :=
  .next { s with m := s.m.wreg r (page.val * 4096 + 0x024) (2 ^ 31) }

/-- PAGE_LOCK (R45). -/
def execPageLock (r : Req) (page : Fin 256) (s : State) : Host.Outcome State Fault Refusal :=
  .next { s with m := s.m.wreg r (page.val * 4096 + 0x008) (2 + s.m.rd HDR.PAGE_CTRL.ENABLE page.val 0) }

/-- CREDIT_RETURN (R10). -/
def execCreditReturn (q : CreditQ) (s : State) : Host.Outcome State Fault Refusal :=
  .next { s with m := s.m.onSup fun (b : Block) => b.creditReturn q }

/-- BATCH_ENTRY_ACCEPT (R157). -/
def execBatchEntryAccept (q : Option (Fin 16)) (s : State) : Host.Outcome State Fault Refusal :=
  .next { s with m := s.m.onSup fun (b : Block) => match q with | some e => b.acceptEng e.val | none => b.acceptLoop }

/-- FIRE_INPUT_ASSERT (R60). -/
def execFireInputAssert (i : Fin 8) (s : State) : Host.Outcome State Fault Refusal :=
  .next { s with m := s.m.onSup fun (b : Block) => b.fireInput i.val }

/-- MOD_FIRE_ENTER_CMD (R59). -/
def execModFireEnterCmd (r : Req) (s : State) : Host.Outcome State Fault Refusal :=
  .next { s with m := s.m.wreg r (0x000048) (0x01) }

/-- MOD_FIRE_RESET_CMD (R31). -/
def execModFireResetCmd (r : Req) (s : State) : Host.Outcome State Fault Refusal :=
  .next { s with m := s.m.wreg r (0x000048) (0x02) }

/-- MOD_WARM_RESTART (R59). -/
def execModWarmRestart (r : Req) (s : State) : Host.Outcome State Fault Refusal :=
  .next { s with m := s.m.wreg r (0x000048) (0x10) }

/-- MOD_COLD_RESTART (R59). -/
def execModColdRestart (r : Req) (s : State) : Host.Outcome State Fault Refusal :=
  .next { s with m := s.m.wreg r (0x000048) (0x11) }

/-- MOD_LAMP_TEST (R59). -/
def execModLampTest (r : Req) (s : State) : Host.Outcome State Fault Refusal :=
  .next { s with m := s.m.wreg r (0x000048) (0x20) }

/-- LAMP_TEST_END (R59). -/
def execLampTestEnd (s : State) : Host.Outcome State Fault Refusal :=
  .next { s with m := s.m.onSup fun (b : Block) => b.lampTestEnd }

/-- ROUTER_SERVE (R54). -/
def execRouterServe (s : State) : Host.Outcome State Fault Refusal :=
  .next { s with m := s.m.onSup fun (b : Block) => b.routerServe }

/-- EVENT_DELIVERY_LAND (R121). -/
def execEventDeliveryLand (e : Fin 16) (s : State) : Host.Outcome State Fault Refusal :=
  .next { s with m := if s.m.engRuns e.val then s.m.landEngine e.val else s.m }

/-- RECORDER_DELIVERY (R410). -/
def execRecorderDelivery (s : State) : Host.Outcome State Fault Refusal :=
  .next { s with m := s.m.onSup fun (b : Block) => b.recorderDelivery }

end Sys2Proof.Machine
end

