-- ==== Sys2Proof/Machine/CmdXlt.lean ====
section
/-!
DEFINITION. The commands of translation and of the tins.
-/
namespace Sys2Proof.Machine

/-- XLT_SWAP_STAGE (R188). -/
def execXltSwapStage (r : Req) (s : State) : Host.Outcome State Fault Refusal :=
  .next { s with m := s.m.wreg r (0x040040) (1 + 2 * s.m.g XLT.XLT_CTRL.SHADOW_OPEN) }

/-- SHADOW_OPEN_WRITE (R187). A changed tower point map goes to its store (R173). -/
def execShadowOpenWrite (r : Req) (open_ : Option (List MapLeaf)) (s : State) : Host.Outcome State Fault Refusal :=
  .next { s with
    m := s.m.acc r fun (a : Block) =>
      if a.on XLT.XLT_CTRL.SHADOW_OPEN 0 0 == open_.isSome then (a, 0)
      else
        let x := a.shadowOpen r (b2n open_.isSome) (open_.getD [])
        (x.1.mapSave a, x.2) }

/-- XLT_TBL_WRITE (R176). -/
def execXltTblWrite (r : Req) (limit : Bool) (w : Word) (s : State) : Host.Outcome State Fault Refusal :=
  .next { s with m := s.m.wreg r (if limit then 0x04004C else 0x040048) (w.toNat) }

/-- XLT_ROOT_WRITE (R187). -/
def execXltRootWrite (r : Req) (root1 : Bool) (w : Word) (s : State) : Host.Outcome State Fault Refusal :=
  .next { s with m := s.m.wreg r (if root1 then 0x040054 else 0x040050) (w.toNat) }

/-- PW_START (R191). -/
def execPwStart (r : Req) (s : State) : Host.Outcome State Fault Refusal :=
  .next { s with m := s.m.acc r fun (a : Block) => a.pwStart r }

/-- PREWARM_DONE (R191). -/
def execPrewarmDone (s : State) : Host.Outcome State Fault Refusal :=
  .next { s with m := s.m.onSup fun (b : Block) => b.prewarmDone }

/-- HOLD_OLD_CLEAR (R189). The boundary itself clears HOLD_OLD; the command stands for the boundary that comes next, and so acts
once its seal point has come (assumption 134). -/
def execHoldOldClear (s : State) : Host.Outcome State Fault Refusal :=
  .next { s with m := s.m.onSup fun (b : Block) => if b.sealed then b.holdOldClear else b }

/-- SWEEP_DONE (R189). -/
def execSweepDone (s : State) : Host.Outcome State Fault Refusal :=
  .next { s with m := s.m.onSup fun (b : Block) => b.sweepDone }

/-- DUAL_WRITE_STAGE (R190). -/
def execDualWriteStage (r : Req) (low : Word) (s : State) : Host.Outcome State Fault Refusal :=
  .next { s with m := s.m.wreg r (0x04006C) (low.toNat) }

/-- DUAL_WRITE_SETTLE (R190). -/
def execDualWriteSettle (page : Nat) (level : Fin 2) (s : State) : Host.Outcome State Fault Refusal :=
  .next { s with m := s.m.onSup fun (b : Block) => b.dualSettle page level.val }

/-- XLT_WF_CLEAR (R182). -/
def execXltWfClear (r : Req) (s : State) : Host.Outcome State Fault Refusal :=
  .next { s with m := s.m.wreg r (0x040080) (2 ^ 31) }

/-- TIN_GRANT_WRITE (R185). -/
def execTinGrantWrite (r : Req) (w : Word) (s : State) : Host.Outcome State Fault Refusal :=
  .next { s with m := s.m.wreg r (0x041048) (w.toNat) }

end Sys2Proof.Machine
end

