-- ==== Sys2Proof/Machine/Naltin.lean ====
section
/-!
DEFINITION. The 75 Naltin instructions (R76 to R95) and the engine events around them: what each does at its issue, and the
commands that issue it.
-/
namespace Sys2Proof.Machine
namespace Run

/-- The target of a jump. -/
def target (r : Run) : Nat :=
  match r.ins.arg with
  | .tgt t => t.val
  | .xtgt _ t => t.val
  | _ => 0

/-- The index register an instruction names. -/
def reg (r : Run) : Fin 4 :=
  match r.ins.arg with
  | .xtgt n _ => n
  | .ximm n _ => n
  | .xreg n => n
  | _ => 0

/-- The immediate, sign-extended (R74). -/
def imm (r : Run) : Word :=
  match r.ins.arg with
  | .imm v => sext22 v.val
  | .ximm _ v => sext22 v.val
  | _ => 0

/-- The immediate of LDIH. -/
def imm10 (r : Run) : Word :=
  match r.ins.arg with
  | .imm10 v => BitVec.ofNat 32 v.val
  | _ => 0

/-- The count of a shift. -/
def count (r : Run) : Nat :=
  match r.ins.arg with
  | .cnt n => n.val
  | _ => 0

/-- A conditional jump: two cycles when it is taken, one when not (R76). -/
def branch (r : Run) (c : Bool) : NOut := if c then r.jump 2 r.target else r.done 1

/-- A combining instruction (R77): a fault on an empty branch stack. -/
def combine (r : Run) (f : Bool → Bool → Bool) : NOut :=
  match r.c.popWith f with
  | none => .fault r.s r.c 5 0 0
  | some c => (r.set c).done 1

/-- Whether the E bit is a QUIET one that its first execution in the first scan after a warm restart finds (R84). -/
def quiet (r : Run) : Bool :=
  let t := r.s.slotEnt r.e.val r.c.bank r.j.val
  r.c.first && r.c.warmFirst && decide (r.ea < t.eBits) && !r.c.eDone.contains r.ea &&
    (r.s.progWord r.e.val r.c.bank ((t.preload + r.ea) % 16384)).testBit 31

/-- An edge instruction (R82, R84). -/
def edge (r : Run) (f : Bool → Bool → Bool) : NOut :=
  r.bounded .bit <|
    let old := (r.word (r.ea / 32)).testBit (r.ea % 32)
    let lb := if r.quiet then false else f old r.c.lb
    let r1 := r.putBitAt r.c.lb
    (r1.set { r1.c with lb := lb, eDone := if r.c.first && r.c.warmFirst then r.ea :: r.c.eDone else r.c.eDone }).done 1

/-- A timer instruction (R85). -/
def timer (r : Run) (k : TKind) : NOut :=
  r.withEntry fun w0 w1 =>
    let p := timerPreset r.c.acc
    let t := { TEnt.ofWords w0 w1 with preset := p.1 }.exec k r.c.rel r.c.lb
    let r1 := r.putEntry t.base t.word1
    (r1.set ((r1.c.setLb t.q).setV p.2)).done 3

/-- A counter instruction (R87). -/
def counter (r : Run) (up : Bool) : NOut :=
  r.withEntry fun w0 w1 =>
    let x := counterStep up r.c.acc r.c.lb w0 w1
    let r1 := r.putEntry x.1 x.2.1
    (r1.set ((r1.c.setLb x.2.2.1).setV x.2.2.2)).done 2

/-- The words that SHIFTA writes, from the top down, and word a last (R81). -/
def shifted (r : Run) (n : Nat) : List (Nat × Nat) :=
  (((List.range (n - 1)).map fun i => (r.ea + i + 1, r.word (r.ea + i))).reverse) ++ [(r.ea, r.c.acc.toNat)]

/-- The words that a scan's P writes give to points of other modules (R90, R369). -/
def farWrites (r : Run) : List Block.FarWord :=
  let q := (r.s.engQueue r.e.val).filter fun (x : QEnt) => decide (x.who = .slot r.e.val r.j.val) && x.rel == r.c.rel
  let b := r.s.fixed.filter fun (x : FBatch) => decide (x.who = .slot r.e.val r.j.val) && x.rel == r.c.rel
  let l := (b.flatMap fun (x : FBatch) => x.entries) ++ q.filterMap fun (x : QEnt) => x.ent
  l.foldl (fun (acc : List Block.FarWord) (x : Entry) => match x.tgt with
    | .remote u a =>
      r.s.farPut acc u x.epoch (a % 2 ^ 48 / 4 * 4) fun old =>
        if a / 2 ^ 48 = 0 then x.val else putBit old (a / 2 ^ 48 - 1) (x.val % 2 == 1)
    | _ => acc) []

/-- What a scan that ended sends: its image's words, and its P writes for other modules, which travel as words of an IMAGE
frame for the deadline tick (R90, R369; the form is the model's choice, assumption 108). -/
def sendFar (r : Run) (s : Block) : Block :=
  let s1 := s.endFar r.e.val r.j.val r.c.bank r.c.due
  if s.role = 2 ∨ s.role = 3 then s1
  else s1.farSend r.c.due none (s.on TSK.TSK_CFG.LS r.e.val r.j.val) r.farWrites

/-- The end of a scan in 4 + L cycles: lost when it has overrun (R94), else committed in the bench, with its image entry
pushed for a credit (R93). -/
def finish (r : Run) (ovr : Bool) : Block :=
  let e := r.e.val
  let j := r.j.val
  let r1 := r.cost 0 (4 + r.s.endCycles e j r.c.bank)
  let s1 := r1.s.counted e j (r.s.progWord e r.c.bank r.c.pc) r.c.pc r1.c
  let s2 :=
    if ovr then s1.loseScan e j r1.c true false
    else
      let s3 := (s1.endScan e j r1.c).pushEnt e (s1.slotEnt' e j r1.c none)
      (r1.sendFar s3).digestEnd e j r.c.rel
  s2.peelScanEnd e j

/-- NOP (R76): nothing. -/
def opNop (r : Run) : NOut :=
  r.done 1

/-- JMP (R76). -/
def opJmp (r : Run) : NOut :=
  r.jump 2 r.target

/-- JB1 (R76): jumps if LB = 1. -/
def opJb1 (r : Run) : NOut :=
  r.branch r.c.lb

/-- JB0 (R76): jumps if LB = 0. -/
def opJb0 (r : Run) : NOut :=
  r.branch !r.c.lb

/-- JZ (R76): jumps if ACC = 0. -/
def opJz (r : Run) : NOut :=
  r.branch (r.c.acc == 0)

/-- JNZ (R76): jumps if ACC is not 0. -/
def opJnz (r : Run) : NOut :=
  r.branch (r.c.acc != 0)

/-- CALL (R78): pushes PC + 1; a fault when the stack holds 16. -/
def opCall (r : Run) : NOut :=
  if r.c.cstk.length ≥ 16 then .fault r.s r.c 7 0 0
  else (r.set { r.c with cstk := (r.c.pc + 1) % 16384 :: r.c.cstk }).jump 2 r.target

/-- RET (R78): pops the return index; a fault when the stack is empty. -/
def opRet (r : Run) : NOut :=
  match r.c.cstk with
  | [] => .fault r.s r.c 8 0 0
  | t :: l => (r.set { r.c with cstk := l }).jump 2 t

/-- DJNZ (R76): Xn − 1, and a jump unless that is 0. -/
def opDjnz (r : Run) : NOut :=
  (r.set (r.c.setX r.reg (r.c.x r.reg - 1))).branch (r.c.x r.reg - 1 != 0)

/-- LEVT (R80): the event word of the release. -/
def opLevt (r : Run) : NOut :=
  (r.set (r.c.setAcc (BitVec.ofNat 32 r.c.ev))).done 1

/-- LDTK (R80): bits [31:0] of the release tick. -/
def opLdtk (r : Run) : NOut :=
  (r.set (r.c.setAcc (BitVec.ofNat 32 r.c.rel))).done 1

/-- LDST (R64): the status word into ACC; no flag changes. -/
def opLdst (r : Run) : NOut :=
  (r.set { r.c with acc := BitVec.ofNat 32 r.c.status }).done 1

/-- CLST (R76): VS, DZ and PF are cleared. -/
def opClst (r : Run) : NOut :=
  (r.set { r.c with vs := false, dz := false, pf := false }).done 1

/-- LDB (R76): LB := b. -/
def opLdb (r : Run) : NOut :=
  r.withBit fun r1 b => (r1.set (r1.c.setLb (b))).done 1

/-- LDBN (R76): LB := not b. -/
def opLdbn (r : Run) : NOut :=
  r.withBit fun r1 b => (r1.set (r1.c.setLb (!b))).done 1

/-- ANDB (R76): LB := LB and b. -/
def opAndb (r : Run) : NOut :=
  r.withBit fun r1 b => (r1.set (r1.c.setLb (r1.c.lb && b))).done 1

/-- ANDBN (R76): LB := LB and not b. -/
def opAndbn (r : Run) : NOut :=
  r.withBit fun r1 b => (r1.set (r1.c.setLb (r1.c.lb && !b))).done 1

/-- ORB (R76): LB := LB or b. -/
def opOrb (r : Run) : NOut :=
  r.withBit fun r1 b => (r1.set (r1.c.setLb (r1.c.lb || b))).done 1

/-- ORBN (R76): LB := LB or not b. -/
def opOrbn (r : Run) : NOut :=
  r.withBit fun r1 b => (r1.set (r1.c.setLb (r1.c.lb || !b))).done 1

/-- XORB (R76): LB := LB exclusive-or b. -/
def opXorb (r : Run) : NOut :=
  r.withBit fun r1 b => (r1.set (r1.c.setLb (r1.c.lb != b))).done 1

/-- PUSHB (R77): saves LB; a fault when the branch stack holds 32. -/
def opPushb (r : Run) : NOut :=
  if r.c.bstk.length ≥ 32 then .fault r.s r.c 4 0 0
  else (r.set { r.c with bstk := r.c.lb :: r.c.bstk }).done 1

/-- ANDS (R77): pops s; LB := s and LB. -/
def opAnds (r : Run) : NOut :=
  r.combine fun p b => p && b

/-- ANDNS (R77): pops s; LB := s and not LB. -/
def opAndns (r : Run) : NOut :=
  r.combine fun p b => p && !b

/-- ORS (R77): pops s; LB := s or LB. -/
def opOrs (r : Run) : NOut :=
  r.combine fun p b => p || b

/-- XORS (R77): pops s; LB := s exclusive-or LB. -/
def opXors (r : Run) : NOut :=
  r.combine fun p b => p != b

/-- NOT (R76). -/
def opNot (r : Run) : NOut :=
  (r.set (r.c.setLb !r.c.lb)).done 1

/-- SET1 (R76). -/
def opSet1 (r : Run) : NOut :=
  (r.set (r.c.setLb true)).done 1

/-- CLR1 (R76). -/
def opClr1 (r : Run) : NOut :=
  (r.set (r.c.setLb false)).done 1

/-- STB (R76, R90): b := LB. -/
def opStb (r : Run) : NOut :=
  r.storeBit r.c.lb

/-- SETB (R73, R76): b := 1 if LB = 1. -/
def opSetb (r : Run) : NOut :=
  r.storeBitIf true

/-- RSTB (R73, R76): b := 0 if LB = 1. -/
def opRstb (r : Run) : NOut :=
  r.storeBitIf false

/-- EDGR (R82, R84): LB becomes LB and not the old E bit, which takes LB. -/
def opEdgr (r : Run) : NOut :=
  r.edge fun old lb => lb && !old

/-- EDGF (R82, R84): LB becomes not LB and the old E bit, which takes LB. -/
def opEdgf (r : Run) : NOut :=
  r.edge fun old lb => !lb && old

/-- LDL (R73): LB := the late flag. -/
def opLdl (r : Run) : NOut :=
  r.withLate fun r1 f => (r1.set (r1.c.setLb (f))).done 1

/-- ANDL (R73): LB := LB and the late flag. -/
def opAndl (r : Run) : NOut :=
  r.withLate fun r1 f => (r1.set (r1.c.setLb (r1.c.lb && f))).done 1

/-- ORL (R73): LB := LB or the late flag. -/
def opOrl (r : Run) : NOut :=
  r.withLate fun r1 f => (r1.set (r1.c.setLb (r1.c.lb || f))).done 1

/-- LDW (R76): ACC := w. -/
def opLdw (r : Run) : NOut :=
  r.withWord fun r1 w => (r1.set (r1.c.setAcc w)).done 1

/-- LDI (R74): ACC := the immediate. -/
def opLdi (r : Run) : NOut :=
  (r.set (r.c.setAcc r.imm)).done 1

/-- LDIH (R74, R76): bits [31:22] of ACC := the immediate. -/
def opLdih (r : Run) : NOut :=
  (r.set (r.c.setAcc ((r.c.acc &&& 0x3FFFFF#32) ||| (r.imm10 <<< 22)))).done 1

/-- STW (R76, R90): w := ACC. -/
def opStw (r : Run) : NOut :=
  r.bounded (r.unit false) <|
    if r.area = 7 then r.pWrite false r.c.acc.toNat fun r1 => r1.done 1 else (r.store [(r.ea, r.c.acc.toNat)]).done 1

/-- ADD (R76, R79): ACC := ACC + w. -/
def opAdd (r : Run) : NOut :=
  r.withWord fun r1 w => (r1.set (r1.c.addW w)).done 1

/-- SUB (R76, R79): ACC := ACC − w. -/
def opSub (r : Run) : NOut :=
  r.withWord fun r1 w => (r1.set (r1.c.subW w)).done 1

/-- MUL (R76, R79): ACC := the low 32 bits of ACC × w. -/
def opMul (r : Run) : NOut :=
  r.withWord fun r1 w => (r1.set (r1.c.mulW w)).done 3

/-- DIV (R76, R79): ACC := ACC ÷ w. -/
def opDiv (r : Run) : NOut :=
  r.withWord fun r1 w => (r1.set (r1.c.divW w)).done 18

/-- ADDI (R76, R79): ACC := ACC + the immediate. -/
def opAddi (r : Run) : NOut :=
  (r.set (r.c.addW r.imm)).done 1

/-- ANDW (R76): ACC := ACC and w. -/
def opAndw (r : Run) : NOut :=
  r.withWord fun r1 w => (r1.set (r1.c.setAcc (r1.c.acc &&& w))).done 1

/-- ORW (R76): ACC := ACC or w. -/
def opOrw (r : Run) : NOut :=
  r.withWord fun r1 w => (r1.set (r1.c.setAcc (r1.c.acc ||| w))).done 1

/-- XORW (R76): ACC := ACC exclusive-or w. -/
def opXorw (r : Run) : NOut :=
  r.withWord fun r1 w => (r1.set (r1.c.setAcc (r1.c.acc ^^^ w))).done 1

/-- SHL (R76, R79): ACC shifted left. -/
def opShl (r : Run) : NOut :=
  (r.set (r.c.shlW r.count)).done 1

/-- SHR (R76, R79): ACC shifted right with zero fill. -/
def opShr (r : Run) : NOut :=
  (r.set (r.c.shrW r.count)).done 1

/-- SAR (R76, R79): ACC shifted right with sign fill. -/
def opSar (r : Run) : NOut :=
  (r.set (r.c.sarW r.count)).done 1

/-- NEG (R76, R79): ACC := −ACC. -/
def opNeg (r : Run) : NOut :=
  (r.set r.c.negW).done 1

/-- CMPEQ (R76, R79): LB := ACC = w, signed. -/
def opCmpeq (r : Run) : NOut :=
  r.withWord fun r1 w => (r1.set (r1.c.setLb (r1.c.acc == w))).done 1

/-- CMPNE (R76, R79): LB := ACC ≠ w, signed. -/
def opCmpne (r : Run) : NOut :=
  r.withWord fun r1 w => (r1.set (r1.c.setLb (r1.c.acc != w))).done 1

/-- CMPLT (R76, R79): LB := ACC < w, signed. -/
def opCmplt (r : Run) : NOut :=
  r.withWord fun r1 w => (r1.set (r1.c.setLb (r1.c.acc.slt w))).done 1

/-- CMPLE (R76, R79): LB := ACC ≤ w, signed. -/
def opCmple (r : Run) : NOut :=
  r.withWord fun r1 w => (r1.set (r1.c.setLb (r1.c.acc.sle w))).done 1

/-- CMPGT (R76, R79): LB := ACC > w, signed. -/
def opCmpgt (r : Run) : NOut :=
  r.withWord fun r1 w => (r1.set (r1.c.setLb (w.slt r1.c.acc))).done 1

/-- CMPGE (R76, R79): LB := ACC ≥ w, signed. -/
def opCmpge (r : Run) : NOut :=
  r.withWord fun r1 w => (r1.set (r1.c.setLb (w.sle r1.c.acc))).done 1

/-- SHIFTA (R81): the words a to a + N − 2 move up by one, and ACC goes to word a. RANGE is checked before BOUNDS. -/
def opShifta (r : Run) : NOut :=
  let n := r.c.x3.toNat
  if n < 1 ∨ 256 < n then r.faultAt 0xA
  else if r.ea + n - 1 ≥ r.opWin.cap .word then .fault r.s r.c 3 ((r.ea + n - 1) % 2 ^ 21) r.area
  else
    let r1 := r.snapWait ((r.shifted n).map fun x => x.1)
    let x := r1.s.journalWrites r.e.val r.opWin r.area (r.shifted n)
    (({ r1 with s := x.1 } : Run).cost 5 (n + 2 + x.2)).done 0

/-- LDXI (R74): Xn := the immediate. -/
def opLdxi (r : Run) : NOut :=
  (r.set (r.c.setX r.reg r.imm)).done 1

/-- ADDXI (R74): Xn := Xn + the immediate. -/
def opAddxi (r : Run) : NOut :=
  (r.set (r.c.setX r.reg (r.c.x r.reg + r.imm))).done 1

/-- TAX (R76): Xn := ACC. -/
def opTax (r : Run) : NOut :=
  (r.set (r.c.setX r.reg r.c.acc)).done 1

/-- TXA (R76): ACC := Xn. -/
def opTxa (r : Run) : NOut :=
  (r.set (r.c.setAcc (r.c.x r.reg))).done 1

/-- TON (R85). -/
def opTon (r : Run) : NOut :=
  r.timer .ton

/-- TOF (R85). -/
def opTof (r : Run) : NOut :=
  r.timer .tof

/-- TP (R85). -/
def opTp (r : Run) : NOut :=
  r.timer .tp

/-- TONR (R85). -/
def opTonr (r : Run) : NOut :=
  r.timer .tonr

/-- TRST (R73, R86): resets the timer if LB = 1. -/
def opTrst (r : Run) : NOut :=
  r.withEntry fun w0 w1 =>
    if r.c.lb then (r.putEntry 0 (TEnt.ofWords w0 w1).rst.word1).done 2 else r.done 2

/-- LDT (R86): the elapsed ticks. -/
def opLdt (r : Run) : NOut :=
  r.withEntry fun w0 w1 => (r.set (r.c.setAcc (BitVec.ofNat 32 ((TEnt.ofWords w0 w1).load r.c.rel)))).done 1

/-- CTU (R87). -/
def opCtu (r : Run) : NOut :=
  r.counter true

/-- CTD (R87). -/
def opCtd (r : Run) : NOut :=
  r.counter false

/-- CTS (R73, R76): count := ACC if LB = 1. -/
def opCts (r : Run) : NOut :=
  r.withEntry fun _ w1 => if r.c.lb then (r.putEntry r.c.acc.toNat w1).done 2 else r.done 2

/-- CRST (R73, R76): count := 0 if LB = 1. -/
def opCrst (r : Run) : NOut :=
  r.withEntry fun _ w1 => if r.c.lb then (r.putEntry 0 w1).done 2 else r.done 2

/-- LDC (R76): the count. -/
def opLdc (r : Run) : NOut :=
  r.withEntry fun w0 _ => (r.set (r.c.setAcc (BitVec.ofNat 32 w0))).done 1

/-- END (R77, R93, R94): a fault when the branch stack is not empty; the end of the scan, which waits for a credit unless it has overrun. -/
def opEnd (r : Run) : NOut :=
  if r.c.bstk ≠ [] then .fault r.s r.c 6 0 0
  else if r.s.overran r.e.val r.j.val then .fin (r.finish true)
  else if r.s.rd ENG.ENG_BQ_CREDIT.CREDITS r.e.val 0 = 0 then .stall r.s r.c 3
  else .fin (r.finish false)

end Run

/-- The command that issues NOP. -/
def execNNop (e : Fin 16) (ecc : Ecc) (s : State) : Host.Outcome State Fault Refusal :=
  .next { s with m := s.m.issue e ecc .nop Run.opNop }

/-- The command that issues JMP. -/
def execNJmp (e : Fin 16) (ecc : Ecc) (s : State) : Host.Outcome State Fault Refusal :=
  .next { s with m := s.m.issue e ecc .jmp Run.opJmp }

/-- The command that issues JB1. -/
def execNJb1 (e : Fin 16) (ecc : Ecc) (s : State) : Host.Outcome State Fault Refusal :=
  .next { s with m := s.m.issue e ecc .jb1 Run.opJb1 }

/-- The command that issues JB0. -/
def execNJb0 (e : Fin 16) (ecc : Ecc) (s : State) : Host.Outcome State Fault Refusal :=
  .next { s with m := s.m.issue e ecc .jb0 Run.opJb0 }

/-- The command that issues JZ. -/
def execNJz (e : Fin 16) (ecc : Ecc) (s : State) : Host.Outcome State Fault Refusal :=
  .next { s with m := s.m.issue e ecc .jz Run.opJz }

/-- The command that issues JNZ. -/
def execNJnz (e : Fin 16) (ecc : Ecc) (s : State) : Host.Outcome State Fault Refusal :=
  .next { s with m := s.m.issue e ecc .jnz Run.opJnz }

/-- The command that issues CALL. -/
def execNCall (e : Fin 16) (ecc : Ecc) (s : State) : Host.Outcome State Fault Refusal :=
  .next { s with m := s.m.issue e ecc .call Run.opCall }

/-- The command that issues RET. -/
def execNRet (e : Fin 16) (ecc : Ecc) (s : State) : Host.Outcome State Fault Refusal :=
  .next { s with m := s.m.issue e ecc .ret Run.opRet }

/-- The command that issues DJNZ. -/
def execNDjnz (e : Fin 16) (ecc : Ecc) (s : State) : Host.Outcome State Fault Refusal :=
  .next { s with m := s.m.issue e ecc .djnz Run.opDjnz }

/-- The command that issues LEVT. -/
def execNLevt (e : Fin 16) (ecc : Ecc) (s : State) : Host.Outcome State Fault Refusal :=
  .next { s with m := s.m.issue e ecc .levt Run.opLevt }

/-- The command that issues LDTK. -/
def execNLdtk (e : Fin 16) (ecc : Ecc) (s : State) : Host.Outcome State Fault Refusal :=
  .next { s with m := s.m.issue e ecc .ldtk Run.opLdtk }

/-- The command that issues LDST. -/
def execNLdst (e : Fin 16) (ecc : Ecc) (s : State) : Host.Outcome State Fault Refusal :=
  .next { s with m := s.m.issue e ecc .ldst Run.opLdst }

/-- The command that issues CLST. -/
def execNClst (e : Fin 16) (ecc : Ecc) (s : State) : Host.Outcome State Fault Refusal :=
  .next { s with m := s.m.issue e ecc .clst Run.opClst }

/-- The command that issues LDB. -/
def execNLdb (e : Fin 16) (ecc : Ecc) (s : State) : Host.Outcome State Fault Refusal :=
  .next { s with m := s.m.issue e ecc .ldb Run.opLdb }

/-- The command that issues LDBN. -/
def execNLdbn (e : Fin 16) (ecc : Ecc) (s : State) : Host.Outcome State Fault Refusal :=
  .next { s with m := s.m.issue e ecc .ldbn Run.opLdbn }

/-- The command that issues ANDB. -/
def execNAndb (e : Fin 16) (ecc : Ecc) (s : State) : Host.Outcome State Fault Refusal :=
  .next { s with m := s.m.issue e ecc .andb Run.opAndb }

/-- The command that issues ANDBN. -/
def execNAndbn (e : Fin 16) (ecc : Ecc) (s : State) : Host.Outcome State Fault Refusal :=
  .next { s with m := s.m.issue e ecc .andbn Run.opAndbn }

/-- The command that issues ORB. -/
def execNOrb (e : Fin 16) (ecc : Ecc) (s : State) : Host.Outcome State Fault Refusal :=
  .next { s with m := s.m.issue e ecc .orb Run.opOrb }

/-- The command that issues ORBN. -/
def execNOrbn (e : Fin 16) (ecc : Ecc) (s : State) : Host.Outcome State Fault Refusal :=
  .next { s with m := s.m.issue e ecc .orbn Run.opOrbn }

/-- The command that issues XORB. -/
def execNXorb (e : Fin 16) (ecc : Ecc) (s : State) : Host.Outcome State Fault Refusal :=
  .next { s with m := s.m.issue e ecc .xorb Run.opXorb }

/-- The command that issues PUSHB. -/
def execNPushb (e : Fin 16) (ecc : Ecc) (s : State) : Host.Outcome State Fault Refusal :=
  .next { s with m := s.m.issue e ecc .pushb Run.opPushb }

/-- The command that issues ANDS. -/
def execNAnds (e : Fin 16) (ecc : Ecc) (s : State) : Host.Outcome State Fault Refusal :=
  .next { s with m := s.m.issue e ecc .ands Run.opAnds }

/-- The command that issues ANDNS. -/
def execNAndns (e : Fin 16) (ecc : Ecc) (s : State) : Host.Outcome State Fault Refusal :=
  .next { s with m := s.m.issue e ecc .andns Run.opAndns }

/-- The command that issues ORS. -/
def execNOrs (e : Fin 16) (ecc : Ecc) (s : State) : Host.Outcome State Fault Refusal :=
  .next { s with m := s.m.issue e ecc .ors Run.opOrs }

/-- The command that issues XORS. -/
def execNXors (e : Fin 16) (ecc : Ecc) (s : State) : Host.Outcome State Fault Refusal :=
  .next { s with m := s.m.issue e ecc .xors Run.opXors }

/-- The command that issues NOT. -/
def execNNot (e : Fin 16) (ecc : Ecc) (s : State) : Host.Outcome State Fault Refusal :=
  .next { s with m := s.m.issue e ecc .notB Run.opNot }

/-- The command that issues SET1. -/
def execNSet1 (e : Fin 16) (ecc : Ecc) (s : State) : Host.Outcome State Fault Refusal :=
  .next { s with m := s.m.issue e ecc .set1 Run.opSet1 }

/-- The command that issues CLR1. -/
def execNClr1 (e : Fin 16) (ecc : Ecc) (s : State) : Host.Outcome State Fault Refusal :=
  .next { s with m := s.m.issue e ecc .clr1 Run.opClr1 }

/-- The command that issues STB. -/
def execNStb (e : Fin 16) (ecc : Ecc) (s : State) : Host.Outcome State Fault Refusal :=
  .next { s with m := s.m.issue e ecc .stb Run.opStb }

/-- The command that issues SETB. -/
def execNSetb (e : Fin 16) (ecc : Ecc) (s : State) : Host.Outcome State Fault Refusal :=
  .next { s with m := s.m.issue e ecc .setb Run.opSetb }

/-- The command that issues RSTB. -/
def execNRstb (e : Fin 16) (ecc : Ecc) (s : State) : Host.Outcome State Fault Refusal :=
  .next { s with m := s.m.issue e ecc .rstb Run.opRstb }

/-- The command that issues EDGR. -/
def execNEdgr (e : Fin 16) (ecc : Ecc) (s : State) : Host.Outcome State Fault Refusal :=
  .next { s with m := s.m.issue e ecc .edgr Run.opEdgr }

/-- The command that issues EDGF. -/
def execNEdgf (e : Fin 16) (ecc : Ecc) (s : State) : Host.Outcome State Fault Refusal :=
  .next { s with m := s.m.issue e ecc .edgf Run.opEdgf }

/-- The command that issues LDL. -/
def execNLdl (e : Fin 16) (ecc : Ecc) (s : State) : Host.Outcome State Fault Refusal :=
  .next { s with m := s.m.issue e ecc .ldl Run.opLdl }

/-- The command that issues ANDL. -/
def execNAndl (e : Fin 16) (ecc : Ecc) (s : State) : Host.Outcome State Fault Refusal :=
  .next { s with m := s.m.issue e ecc .andl Run.opAndl }

/-- The command that issues ORL. -/
def execNOrl (e : Fin 16) (ecc : Ecc) (s : State) : Host.Outcome State Fault Refusal :=
  .next { s with m := s.m.issue e ecc .orl Run.opOrl }

/-- The command that issues LDW. -/
def execNLdw (e : Fin 16) (ecc : Ecc) (s : State) : Host.Outcome State Fault Refusal :=
  .next { s with m := s.m.issue e ecc .ldw Run.opLdw }

/-- The command that issues LDI. -/
def execNLdi (e : Fin 16) (ecc : Ecc) (s : State) : Host.Outcome State Fault Refusal :=
  .next { s with m := s.m.issue e ecc .ldi Run.opLdi }

/-- The command that issues LDIH. -/
def execNLdih (e : Fin 16) (ecc : Ecc) (s : State) : Host.Outcome State Fault Refusal :=
  .next { s with m := s.m.issue e ecc .ldih Run.opLdih }

/-- The command that issues STW. -/
def execNStw (e : Fin 16) (ecc : Ecc) (s : State) : Host.Outcome State Fault Refusal :=
  .next { s with m := s.m.issue e ecc .stw Run.opStw }

/-- The command that issues ADD. -/
def execNAdd (e : Fin 16) (ecc : Ecc) (s : State) : Host.Outcome State Fault Refusal :=
  .next { s with m := s.m.issue e ecc .add Run.opAdd }

/-- The command that issues SUB. -/
def execNSub (e : Fin 16) (ecc : Ecc) (s : State) : Host.Outcome State Fault Refusal :=
  .next { s with m := s.m.issue e ecc .sub Run.opSub }

/-- The command that issues MUL. -/
def execNMul (e : Fin 16) (ecc : Ecc) (s : State) : Host.Outcome State Fault Refusal :=
  .next { s with m := s.m.issue e ecc .mul Run.opMul }

/-- The command that issues DIV. -/
def execNDiv (e : Fin 16) (ecc : Ecc) (s : State) : Host.Outcome State Fault Refusal :=
  .next { s with m := s.m.issue e ecc .div Run.opDiv }

/-- The command that issues ADDI. -/
def execNAddi (e : Fin 16) (ecc : Ecc) (s : State) : Host.Outcome State Fault Refusal :=
  .next { s with m := s.m.issue e ecc .addi Run.opAddi }

/-- The command that issues ANDW. -/
def execNAndw (e : Fin 16) (ecc : Ecc) (s : State) : Host.Outcome State Fault Refusal :=
  .next { s with m := s.m.issue e ecc .andw Run.opAndw }

/-- The command that issues ORW. -/
def execNOrw (e : Fin 16) (ecc : Ecc) (s : State) : Host.Outcome State Fault Refusal :=
  .next { s with m := s.m.issue e ecc .orw Run.opOrw }

/-- The command that issues XORW. -/
def execNXorw (e : Fin 16) (ecc : Ecc) (s : State) : Host.Outcome State Fault Refusal :=
  .next { s with m := s.m.issue e ecc .xorw Run.opXorw }

/-- The command that issues SHL. -/
def execNShl (e : Fin 16) (ecc : Ecc) (s : State) : Host.Outcome State Fault Refusal :=
  .next { s with m := s.m.issue e ecc .shl Run.opShl }

/-- The command that issues SHR. -/
def execNShr (e : Fin 16) (ecc : Ecc) (s : State) : Host.Outcome State Fault Refusal :=
  .next { s with m := s.m.issue e ecc .shr Run.opShr }

/-- The command that issues SAR. -/
def execNSar (e : Fin 16) (ecc : Ecc) (s : State) : Host.Outcome State Fault Refusal :=
  .next { s with m := s.m.issue e ecc .sar Run.opSar }

/-- The command that issues NEG. -/
def execNNeg (e : Fin 16) (ecc : Ecc) (s : State) : Host.Outcome State Fault Refusal :=
  .next { s with m := s.m.issue e ecc .neg Run.opNeg }

/-- The command that issues CMPEQ. -/
def execNCmpeq (e : Fin 16) (ecc : Ecc) (s : State) : Host.Outcome State Fault Refusal :=
  .next { s with m := s.m.issue e ecc .cmpeq Run.opCmpeq }

/-- The command that issues CMPNE. -/
def execNCmpne (e : Fin 16) (ecc : Ecc) (s : State) : Host.Outcome State Fault Refusal :=
  .next { s with m := s.m.issue e ecc .cmpne Run.opCmpne }

/-- The command that issues CMPLT. -/
def execNCmplt (e : Fin 16) (ecc : Ecc) (s : State) : Host.Outcome State Fault Refusal :=
  .next { s with m := s.m.issue e ecc .cmplt Run.opCmplt }

/-- The command that issues CMPLE. -/
def execNCmple (e : Fin 16) (ecc : Ecc) (s : State) : Host.Outcome State Fault Refusal :=
  .next { s with m := s.m.issue e ecc .cmple Run.opCmple }

/-- The command that issues CMPGT. -/
def execNCmpgt (e : Fin 16) (ecc : Ecc) (s : State) : Host.Outcome State Fault Refusal :=
  .next { s with m := s.m.issue e ecc .cmpgt Run.opCmpgt }

/-- The command that issues CMPGE. -/
def execNCmpge (e : Fin 16) (ecc : Ecc) (s : State) : Host.Outcome State Fault Refusal :=
  .next { s with m := s.m.issue e ecc .cmpge Run.opCmpge }

/-- The command that issues SHIFTA. -/
def execNShifta (e : Fin 16) (ecc : Ecc) (s : State) : Host.Outcome State Fault Refusal :=
  .next { s with m := s.m.issue e ecc .shifta Run.opShifta }

/-- The command that issues LDXI. -/
def execNLdxi (e : Fin 16) (ecc : Ecc) (s : State) : Host.Outcome State Fault Refusal :=
  .next { s with m := s.m.issue e ecc .ldxi Run.opLdxi }

/-- The command that issues ADDXI. -/
def execNAddxi (e : Fin 16) (ecc : Ecc) (s : State) : Host.Outcome State Fault Refusal :=
  .next { s with m := s.m.issue e ecc .addxi Run.opAddxi }

/-- The command that issues TAX. -/
def execNTax (e : Fin 16) (ecc : Ecc) (s : State) : Host.Outcome State Fault Refusal :=
  .next { s with m := s.m.issue e ecc .tax Run.opTax }

/-- The command that issues TXA. -/
def execNTxa (e : Fin 16) (ecc : Ecc) (s : State) : Host.Outcome State Fault Refusal :=
  .next { s with m := s.m.issue e ecc .txa Run.opTxa }

/-- The command that issues TON. -/
def execNTon (e : Fin 16) (ecc : Ecc) (s : State) : Host.Outcome State Fault Refusal :=
  .next { s with m := s.m.issue e ecc .ton Run.opTon }

/-- The command that issues TOF. -/
def execNTof (e : Fin 16) (ecc : Ecc) (s : State) : Host.Outcome State Fault Refusal :=
  .next { s with m := s.m.issue e ecc .tof Run.opTof }

/-- The command that issues TP. -/
def execNTp (e : Fin 16) (ecc : Ecc) (s : State) : Host.Outcome State Fault Refusal :=
  .next { s with m := s.m.issue e ecc .tp Run.opTp }

/-- The command that issues TONR. -/
def execNTonr (e : Fin 16) (ecc : Ecc) (s : State) : Host.Outcome State Fault Refusal :=
  .next { s with m := s.m.issue e ecc .tonr Run.opTonr }

/-- The command that issues TRST. -/
def execNTrst (e : Fin 16) (ecc : Ecc) (s : State) : Host.Outcome State Fault Refusal :=
  .next { s with m := s.m.issue e ecc .trst Run.opTrst }

/-- The command that issues LDT. -/
def execNLdt (e : Fin 16) (ecc : Ecc) (s : State) : Host.Outcome State Fault Refusal :=
  .next { s with m := s.m.issue e ecc .ldt Run.opLdt }

/-- The command that issues CTU. -/
def execNCtu (e : Fin 16) (ecc : Ecc) (s : State) : Host.Outcome State Fault Refusal :=
  .next { s with m := s.m.issue e ecc .ctu Run.opCtu }

/-- The command that issues CTD. -/
def execNCtd (e : Fin 16) (ecc : Ecc) (s : State) : Host.Outcome State Fault Refusal :=
  .next { s with m := s.m.issue e ecc .ctd Run.opCtd }

/-- The command that issues CTS. -/
def execNCts (e : Fin 16) (ecc : Ecc) (s : State) : Host.Outcome State Fault Refusal :=
  .next { s with m := s.m.issue e ecc .cts Run.opCts }

/-- The command that issues CRST. -/
def execNCrst (e : Fin 16) (ecc : Ecc) (s : State) : Host.Outcome State Fault Refusal :=
  .next { s with m := s.m.issue e ecc .crst Run.opCrst }

/-- The command that issues LDC. -/
def execNLdc (e : Fin 16) (ecc : Ecc) (s : State) : Host.Outcome State Fault Refusal :=
  .next { s with m := s.m.issue e ecc .ldc Run.opLdc }

/-- The command that issues END. -/
def execNEnd (e : Fin 16) (ecc : Ecc) (s : State) : Host.Outcome State Fault Refusal :=
  .next { s with m := s.m.issue e ecc .endS Run.opEnd }

/-- ILLEGAL_OPCODE (R75). -/
def execIllegalOpcode (e : Fin 16) (ecc : Ecc) (s : State) : Host.Outcome State Fault Refusal :=
  .next { s with m := s.m.issueIllegal e ecc }

/-- SCAN_START (R97, R102). -/
def execScanStart (e : Fin 16) (s : State) : Host.Outcome State Fault Refusal := .next { s with m := s.m.scanStart e.val }

/-- WALK_COMPLETE (R91, R96). -/
def execWalkComplete (e : Fin 16) (ecc : Option (Fin 4)) (cyc : Nat) (s : State) : Host.Outcome State Fault Refusal :=
  .next { s with m := s.m.walkComplete e ecc cyc }

/-- P_READ_TIMEOUT (R91). -/
def execPReadTimeout (e : Fin 16) (s : State) : Host.Outcome State Fault Refusal := .next { s with m := s.m.pReadTimeout e }

end Sys2Proof.Machine
end

