-- ==== Sys2Proof/Machine/Dispatch.lean ====
section
/-!
DEFINITION. The dispatch of the commands: one arm per constructor of Instr, each one direct call of its meaning.
-/
namespace Sys2Proof.Machine
open Host

def exec (i : Instr) (s : State) : Host.Outcome State Fault Refusal :=
  match i with
  | .tickBoundary t => Sys2Proof.Machine.execTickBoundary t s
  | .sealPoint answered => Sys2Proof.Machine.execSealPoint answered s
  | .registerWrite r off size w => Sys2Proof.Machine.execRegisterWrite r off size w s
  | .halfLowRead r off => Sys2Proof.Machine.execHalfLowRead r off s
  | .batchTagWrite r page w => Sys2Proof.Machine.execBatchTagWrite r page w s
  | .errClear r page => Sys2Proof.Machine.execErrClear r page s
  | .pageLock r page => Sys2Proof.Machine.execPageLock r page s
  | .creditReturn q => Sys2Proof.Machine.execCreditReturn q s
  | .batchEntryAccept q => Sys2Proof.Machine.execBatchEntryAccept q s
  | .fireInputAssert n => Sys2Proof.Machine.execFireInputAssert n s
  | .modFireEnterCmd r => Sys2Proof.Machine.execModFireEnterCmd r s
  | .modFireResetCmd r => Sys2Proof.Machine.execModFireResetCmd r s
  | .modWarmRestart r => Sys2Proof.Machine.execModWarmRestart r s
  | .modColdRestart r => Sys2Proof.Machine.execModColdRestart r s
  | .modLampTest r => Sys2Proof.Machine.execModLampTest r s
  | .lampTestEnd => Sys2Proof.Machine.execLampTestEnd s
  | .routerServe => Sys2Proof.Machine.execRouterServe s
  | .eventDeliveryLand e => Sys2Proof.Machine.execEventDeliveryLand e s
  | .recorderDelivery => Sys2Proof.Machine.execRecorderDelivery s
  | .scanStart e => Sys2Proof.Machine.execScanStart e s
  | .illegalOpcode e ecc => Sys2Proof.Machine.execIllegalOpcode e ecc s
  | .nNop e ecc => Sys2Proof.Machine.execNNop e ecc s
  | .nEnd e ecc => Sys2Proof.Machine.execNEnd e ecc s
  | .nJmp e ecc => Sys2Proof.Machine.execNJmp e ecc s
  | .nJb1 e ecc => Sys2Proof.Machine.execNJb1 e ecc s
  | .nJb0 e ecc => Sys2Proof.Machine.execNJb0 e ecc s
  | .nJz e ecc => Sys2Proof.Machine.execNJz e ecc s
  | .nJnz e ecc => Sys2Proof.Machine.execNJnz e ecc s
  | .nCall e ecc => Sys2Proof.Machine.execNCall e ecc s
  | .nRet e ecc => Sys2Proof.Machine.execNRet e ecc s
  | .nDjnz e ecc => Sys2Proof.Machine.execNDjnz e ecc s
  | .nLevt e ecc => Sys2Proof.Machine.execNLevt e ecc s
  | .nLdtk e ecc => Sys2Proof.Machine.execNLdtk e ecc s
  | .nLdst e ecc => Sys2Proof.Machine.execNLdst e ecc s
  | .nClst e ecc => Sys2Proof.Machine.execNClst e ecc s
  | .nLdb e ecc => Sys2Proof.Machine.execNLdb e ecc s
  | .nLdbn e ecc => Sys2Proof.Machine.execNLdbn e ecc s
  | .nAndb e ecc => Sys2Proof.Machine.execNAndb e ecc s
  | .nAndbn e ecc => Sys2Proof.Machine.execNAndbn e ecc s
  | .nOrb e ecc => Sys2Proof.Machine.execNOrb e ecc s
  | .nOrbn e ecc => Sys2Proof.Machine.execNOrbn e ecc s
  | .nXorb e ecc => Sys2Proof.Machine.execNXorb e ecc s
  | .nPushb e ecc => Sys2Proof.Machine.execNPushb e ecc s
  | .nAnds e ecc => Sys2Proof.Machine.execNAnds e ecc s
  | .nAndns e ecc => Sys2Proof.Machine.execNAndns e ecc s
  | .nOrs e ecc => Sys2Proof.Machine.execNOrs e ecc s
  | .nXors e ecc => Sys2Proof.Machine.execNXors e ecc s
  | .nNot e ecc => Sys2Proof.Machine.execNNot e ecc s
  | .nSet1 e ecc => Sys2Proof.Machine.execNSet1 e ecc s
  | .nClr1 e ecc => Sys2Proof.Machine.execNClr1 e ecc s
  | .nStb e ecc => Sys2Proof.Machine.execNStb e ecc s
  | .nSetb e ecc => Sys2Proof.Machine.execNSetb e ecc s
  | .nRstb e ecc => Sys2Proof.Machine.execNRstb e ecc s
  | .nEdgr e ecc => Sys2Proof.Machine.execNEdgr e ecc s
  | .nEdgf e ecc => Sys2Proof.Machine.execNEdgf e ecc s
  | .nLdl e ecc => Sys2Proof.Machine.execNLdl e ecc s
  | .nAndl e ecc => Sys2Proof.Machine.execNAndl e ecc s
  | .nOrl e ecc => Sys2Proof.Machine.execNOrl e ecc s
  | .nLdw e ecc => Sys2Proof.Machine.execNLdw e ecc s
  | .nLdi e ecc => Sys2Proof.Machine.execNLdi e ecc s
  | .nLdih e ecc => Sys2Proof.Machine.execNLdih e ecc s
  | .nStw e ecc => Sys2Proof.Machine.execNStw e ecc s
  | .nAdd e ecc => Sys2Proof.Machine.execNAdd e ecc s
  | .nSub e ecc => Sys2Proof.Machine.execNSub e ecc s
  | .nMul e ecc => Sys2Proof.Machine.execNMul e ecc s
  | .nDiv e ecc => Sys2Proof.Machine.execNDiv e ecc s
  | .nAddi e ecc => Sys2Proof.Machine.execNAddi e ecc s
  | .nAndw e ecc => Sys2Proof.Machine.execNAndw e ecc s
  | .nOrw e ecc => Sys2Proof.Machine.execNOrw e ecc s
  | .nXorw e ecc => Sys2Proof.Machine.execNXorw e ecc s
  | .nShl e ecc => Sys2Proof.Machine.execNShl e ecc s
  | .nShr e ecc => Sys2Proof.Machine.execNShr e ecc s
  | .nSar e ecc => Sys2Proof.Machine.execNSar e ecc s
  | .nNeg e ecc => Sys2Proof.Machine.execNNeg e ecc s
  | .nCmpeq e ecc => Sys2Proof.Machine.execNCmpeq e ecc s
  | .nCmpne e ecc => Sys2Proof.Machine.execNCmpne e ecc s
  | .nCmplt e ecc => Sys2Proof.Machine.execNCmplt e ecc s
  | .nCmple e ecc => Sys2Proof.Machine.execNCmple e ecc s
  | .nCmpgt e ecc => Sys2Proof.Machine.execNCmpgt e ecc s
  | .nCmpge e ecc => Sys2Proof.Machine.execNCmpge e ecc s
  | .nShifta e ecc => Sys2Proof.Machine.execNShifta e ecc s
  | .nLdxi e ecc => Sys2Proof.Machine.execNLdxi e ecc s
  | .nAddxi e ecc => Sys2Proof.Machine.execNAddxi e ecc s
  | .nTax e ecc => Sys2Proof.Machine.execNTax e ecc s
  | .nTxa e ecc => Sys2Proof.Machine.execNTxa e ecc s
  | .nTon e ecc => Sys2Proof.Machine.execNTon e ecc s
  | .nTof e ecc => Sys2Proof.Machine.execNTof e ecc s
  | .nTp e ecc => Sys2Proof.Machine.execNTp e ecc s
  | .nTonr e ecc => Sys2Proof.Machine.execNTonr e ecc s
  | .nTrst e ecc => Sys2Proof.Machine.execNTrst e ecc s
  | .nLdt e ecc => Sys2Proof.Machine.execNLdt e ecc s
  | .nCtu e ecc => Sys2Proof.Machine.execNCtu e ecc s
  | .nCtd e ecc => Sys2Proof.Machine.execNCtd e ecc s
  | .nCts e ecc => Sys2Proof.Machine.execNCts e ecc s
  | .nCrst e ecc => Sys2Proof.Machine.execNCrst e ecc s
  | .nLdc e ecc => Sys2Proof.Machine.execNLdc e ecc s
  | .walkComplete e ecc cyc => Sys2Proof.Machine.execWalkComplete e ecc cyc s
  | .pReadTimeout e => Sys2Proof.Machine.execPReadTimeout e s
  | .captureDone e j => Sys2Proof.Machine.execCaptureDone e j s
  | .taskWdogExpire e j => Sys2Proof.Machine.execTaskWdogExpire e j s
  | .kretSnapshot => Sys2Proof.Machine.execKretSnapshot s
  | .engSwapStage r e => Sys2Proof.Machine.execEngSwapStage r e s
  | .progOpenSet r e => Sys2Proof.Machine.execProgOpenSet r e s
  | .progOpenClear r e load => Sys2Proof.Machine.execProgOpenClear r e load s
  | .progCrcDone e => Sys2Proof.Machine.execProgCrcDone e s
  | .areaWinWrite r e w => Sys2Proof.Machine.execAreaWinWrite r e w s
  | .engFaultClear r e => Sys2Proof.Machine.execEngFaultClear r e s
  | .engPeakClr r e => Sys2Proof.Machine.execEngPeakClr r e s
  | .tskResume r e => Sys2Proof.Machine.execTskResume r e s
  | .tskExecClr r e => Sys2Proof.Machine.execTskExecClr r e s
  | .batOpen r xmod => Sys2Proof.Machine.execBatOpen r xmod s
  | .commitAt r => Sys2Proof.Machine.execCommitAt r s
  | .commitNow r => Sys2Proof.Machine.execCommitNow r s
  | .batAbort r => Sys2Proof.Machine.execBatAbort r s
  | .abortSel r => Sys2Proof.Machine.execAbortSel r s
  | .batchOpenLimit id => Sys2Proof.Machine.execBatchOpenLimit id s
  | .ringStage h id tin addr tag val sel => Sys2Proof.Machine.execRingStage h id tin addr tag val sel s
  | .ringStageAns h tag code id => Sys2Proof.Machine.execRingStageAns h tag code id s
  | .commitPrepare h id tick parts => Sys2Proof.Machine.execCommitPrepare h id tick parts s
  | .commitPrepared h coord id => Sys2Proof.Machine.execCommitPrepared h coord id s
  | .commitRefused h coord id code => Sys2Proof.Machine.execCommitRefused h coord id code s
  | .commitOutcome h id committed => Sys2Proof.Machine.execCommitOutcome h id committed s
  | .xmodOutcomeTimeout => Sys2Proof.Machine.execXmodOutcomeTimeout s
  | .wakeSlot => Sys2Proof.Machine.execWakeSlot s
  | .xltSwapStage r => Sys2Proof.Machine.execXltSwapStage r s
  | .shadowOpenWrite r open_ => Sys2Proof.Machine.execShadowOpenWrite r open_ s
  | .xltTblWrite r limit w => Sys2Proof.Machine.execXltTblWrite r limit w s
  | .xltRootWrite r root1 w => Sys2Proof.Machine.execXltRootWrite r root1 w s
  | .pwStart r => Sys2Proof.Machine.execPwStart r s
  | .prewarmDone => Sys2Proof.Machine.execPrewarmDone s
  | .holdOldClear => Sys2Proof.Machine.execHoldOldClear s
  | .sweepDone => Sys2Proof.Machine.execSweepDone s
  | .dualWriteStage r low => Sys2Proof.Machine.execDualWriteStage r low s
  | .dualWriteSettle page level => Sys2Proof.Machine.execDualWriteSettle page level s
  | .xltWfClear r => Sys2Proof.Machine.execXltWfClear r s
  | .tinGrantWrite r w => Sys2Proof.Machine.execTinGrantWrite r w s
  | .loopFaultClr r page => Sys2Proof.Machine.execLoopFaultClr r page s
  | .dioInputChange c level => Sys2Proof.Machine.execDioInputChange c level s
  | .dioFilterExpire c => Sys2Proof.Machine.execDioFilterExpire c s
  | .wireBreakDetect c => Sys2Proof.Machine.execWireBreakDetect c s
  | .wireBreakClear c => Sys2Proof.Machine.execWireBreakClear c s
  | .outputDriverFault c ot => Sys2Proof.Machine.execOutputDriverFault c ot s
  | .dioClrFault r d => Sys2Proof.Machine.execDioClrFault r d s
  | .openLoadDetect c => Sys2Proof.Machine.execOpenLoadDetect c s
  | .sliceOverload d => Sys2Proof.Machine.execSliceOverload d s
  | .overloadShedNext d excess => Sys2Proof.Machine.execOverloadShedNext d excess s
  | .sliceWdogExpire sl => Sys2Proof.Machine.execSliceWdogExpire sl s
  | .sliceRearmCmd r sl => Sys2Proof.Machine.execSliceRearmCmd r sl s
  | .sliceFaultCauseSet sl cause => Sys2Proof.Machine.execSliceFaultCauseSet sl cause s
  | .sliceFaultCauseClear sl cause => Sys2Proof.Machine.execSliceFaultCauseClear sl cause s
  | .sliceFaultExit sl => Sys2Proof.Machine.execSliceFaultExit sl s
  | .captureEdge c ts a b => Sys2Proof.Machine.execCaptureEdge c ts a b s
  | .standstillTimeout c => Sys2Proof.Machine.execStandstillTimeout c s
  | .capFifoPop r => Sys2Proof.Machine.execCapFifoPop r s
  | .analogConversion c v wb sc => Sys2Proof.Machine.execAnalogConversion c v wb sc s
  | .mpStart r msg rep gap => Sys2Proof.Machine.execMpStart r msg rep gap s
  | .mpStop r => Sys2Proof.Machine.execMpStop r s
  | .playerEnd mp => Sys2Proof.Machine.execPlayerEnd mp s
  | .msgReload r set => Sys2Proof.Machine.execMsgReload r set s
  | .tbOpenDetect tb => Sys2Proof.Machine.execTbOpenDetect tb s
  | .tbOpenClear tb => Sys2Proof.Machine.execTbOpenClear tb s
  | .supervisionWindow z vc vs ic ishunt => Sys2Proof.Machine.execSupervisionWindow z vc vs ic ishunt s
  | .earthMeasure z kohm => Sys2Proof.Machine.execEarthMeasure z kohm s
  | .zoneCommission r page => Sys2Proof.Machine.execZoneCommission r page s
  | .audioAutonomousEnter => Sys2Proof.Machine.execAudioAutonomousEnter s
  | .audioAutonomousExit => Sys2Proof.Machine.execAudioAutonomousExit s
  | .audioThermalMute temp => Sys2Proof.Machine.execAudioThermalMute temp s
  | .metrologyInterval v c f => Sys2Proof.Machine.execMetrologyInterval v c f s
  | .metFrameRx crcOk => Sys2Proof.Machine.execMetFrameRx crcOk s
  | .metLinkLost => Sys2Proof.Machine.execMetLinkLost s
  | .metRecordRx => Sys2Proof.Machine.execMetRecordRx s
  | .islandSupplyChange mod mains0 mains1 vbat => Sys2Proof.Machine.execIslandSupplyChange mod mains0 mains1 vbat s
  | .voltagePhaseAbsent v => Sys2Proof.Machine.execVoltagePhaseAbsent v s
  | .voltageZeroCrossing v within => Sys2Proof.Machine.execVoltageZeroCrossing v within s
  | .batteryModeEntry => Sys2Proof.Machine.execBatteryModeEntry s
  | .batteryBurst c => Sys2Proof.Machine.execBatteryBurst c s
  | .batteryBudgetEnd cell => Sys2Proof.Machine.execBatteryBudgetEnd cell s
  | .coverSwitchChange open_ => Sys2Proof.Machine.execCoverSwitchChange open_ s
  | .debugLineChange on => Sys2Proof.Machine.execDebugLineChange on s
  | .islandStart ok0 ok1 gap => Sys2Proof.Machine.execIslandStart ok0 ok1 gap s
  | .logResync r => Sys2Proof.Machine.execLogResync r s
  | .paramWrite r => Sys2Proof.Machine.execParamWrite r s
  | .lrfBegin r => Sys2Proof.Machine.execLrfBegin r s
  | .lrfDataWrite r w => Sys2Proof.Machine.execLrfDataWrite r w s
  | .lrfEnd r => Sys2Proof.Machine.execLrfEnd r s
  | .lrfAbort r => Sys2Proof.Machine.execLrfAbort r s
  | .lrfWordTimeout => Sys2Proof.Machine.execLrfWordTimeout s
  | .lrfVerifyDone good version roll gap => Sys2Proof.Machine.execLrfVerifyDone good version roll gap s
  | .metBatCfg r => Sys2Proof.Machine.execMetBatCfg r s
  | .metCmdOutcome => Sys2Proof.Machine.execMetCmdOutcome s
  | .ringToken h tick resAll resLs nodes isoOver rank rot => Sys2Proof.Machine.execRingToken h tick resAll resLs nodes isoOver rank rot s
  | .tokenMiss => Sys2Proof.Machine.execTokenMiss s
  | .ringAsyncToken h => Sys2Proof.Machine.execRingAsyncToken h s
  | .ringImage h tick runs => Sys2Proof.Machine.execRingImage h tick runs s
  | .ringAudio h x => Sys2Proof.Machine.execRingAudio h x s
  | .ringFire h ids => Sys2Proof.Machine.execRingFire h ids s
  | .fireRxTimeout => Sys2Proof.Machine.execFireRxTimeout s
  | .ringRequest h op kind right tin addr tag val => Sys2Proof.Machine.execRingRequest h op kind right tin addr tag val s
  | .ringResponse h tag code val => Sys2Proof.Machine.execRingResponse h tag code val s
  | .ringAlarm h src n owner => Sys2Proof.Machine.execRingAlarm h src n owner s
  | .linkHello h tw lpi late => Sys2Proof.Machine.execLinkHello h tw lpi late s
  | .linkBreak h => Sys2Proof.Machine.execLinkBreak h s
  | .linkHeal h => Sys2Proof.Machine.execLinkHeal h s
  | .portLinkChange p up slow cage cfault => Sys2Proof.Machine.execPortLinkChange p up slow cage cfault s
  | .portLinkFrameTimeout p => Sys2Proof.Machine.execPortLinkFrameTimeout p s
  | .ringHealReady => Sys2Proof.Machine.execRingHealReady s
  | .rateAlternate p => Sys2Proof.Machine.execRateAlternate p s
  | .preemptVerifyFail p => Sys2Proof.Machine.execPreemptVerifyFail p s
  | .dupIdSeen h => Sys2Proof.Machine.execDupIdSeen h s
  | .rxBufferRelease => Sys2Proof.Machine.execRxBufferRelease s
  | .segAnswer sg j us status type words => Sys2Proof.Machine.execSegAnswer sg j us status type words s
  | .plcaForeignBeacon sg => Sys2Proof.Machine.execPlcaForeignBeacon sg s
  | .svcWakePattern key => Sys2Proof.Machine.execSvcWakePattern key s
  | .ptpSyncRx p domain two gm seq off freq us => Sys2Proof.Machine.execPtpSyncRx p domain two gm seq off freq us s
  | .ptpAnnounceRx p domain a => Sys2Proof.Machine.execPtpAnnounceRx p domain a s
  | .ptpPdelay p ns => Sys2Proof.Machine.execPtpPdelay p ns s
  | .ptpSyncTimeout => Sys2Proof.Machine.execPtpSyncTimeout s
  | .ptpAdjWrite r w => Sys2Proof.Machine.execPtpAdjWrite r w s
  | .ptpNsRead r sub frac => Sys2Proof.Machine.execPtpNsRead r sub frac s
  | .rtcSecWrite r w => Sys2Proof.Machine.execRtcSecWrite r w s
  | .rtcSecLanding => Sys2Proof.Machine.execRtcSecLanding s
  | .rtcAutoset => Sys2Proof.Machine.execRtcAutoset s
  | .rtcAlarm k => Sys2Proof.Machine.execRtcAlarm k s
  | .rtcOscStop => Sys2Proof.Machine.execRtcOscStop s
  | .rtcSupplySwitch vbat => Sys2Proof.Machine.execRtcSupplySwitch vbat s
  | .vbatLow mv => Sys2Proof.Machine.execVbatLow mv s
  | .leaseRenewSend lc hb tk => Sys2Proof.Machine.execLeaseRenewSend lc hb tk s
  | .leaseRenew h l => Sys2Proof.Machine.execLeaseRenew h l s
  | .leaseAck h l => Sys2Proof.Machine.execLeaseAck h l s
  | .leaseFence lc => Sys2Proof.Machine.execLeaseFence lc s
  | .leaseTakeReqTimer lc => Sys2Proof.Machine.execLeaseTakeReqTimer lc s
  | .leaseTakeReq h l => Sys2Proof.Machine.execLeaseTakeReq h l s
  | .leaseGrant h l => Sys2Proof.Machine.execLeaseGrant h l s
  | .leaseRefuse h l => Sys2Proof.Machine.execLeaseRefuse h l s
  | .pairTakeover lc => Sys2Proof.Machine.execPairTakeover lc s
  | .leaseTakeover h l => Sys2Proof.Machine.execLeaseTakeover h l s
  | .leaseClaim h l => Sys2Proof.Machine.execLeaseClaim h l s
  | .jointStartTimeout lc => Sys2Proof.Machine.execJointStartTimeout lc s
  | .leasePrepare h l => Sys2Proof.Machine.execLeasePrepare h l s
  | .leasePrepared h l => Sys2Proof.Machine.execLeasePrepared h l s
  | .leasePlace h epoch tick als srcMod dstMod srcSlot dstSlot => Sys2Proof.Machine.execLeasePlace h epoch tick als srcMod dstMod srcSlot dstSlot s
  | .pairSwapStage r => Sys2Proof.Machine.execPairSwapStage r s
  | .swapFence lc => Sys2Proof.Machine.execSwapFence lc s
  | .pairDrillStage r back hold => Sys2Proof.Machine.execPairDrillStage r back hold s
  | .drillCheck => Sys2Proof.Machine.execDrillCheck s
  | .drillDue => Sys2Proof.Machine.execDrillDue s
  | .forceTake r => Sys2Proof.Machine.execForceTake r s
  | .pairResyncCmd r => Sys2Proof.Machine.execPairResyncCmd r s
  | .resyncDone => Sys2Proof.Machine.execResyncDone s
  | .xferImage h e j tick crcOk words late fire ev => Sys2Proof.Machine.execXferImage h e j tick crcOk words late fire ev s
  | .xferEntries h slot tick crcOk items => Sys2Proof.Machine.execXferEntries h slot tick crcOk items s
  | .xferDigest h slot tick crc => Sys2Proof.Machine.execXferDigest h slot tick crc s
  | .xferLines h slot tick crcOk lines => Sys2Proof.Machine.execXferLines h slot tick crcOk lines s
  | .xferEnd h slot tick us => Sys2Proof.Machine.execXferEnd h slot tick us s
  | .partnerTimeout lc => Sys2Proof.Machine.execPartnerTimeout lc s
  | .witnessTimeout lc => Sys2Proof.Machine.execWitnessTimeout lc s
  | .peelGo r dm de dj => Sys2Proof.Machine.execPeelGo r dm de dj s
  | .peelSnapshotDone e j us => Sys2Proof.Machine.execPeelSnapshotDone e j us s
  | .peelTake r => Sys2Proof.Machine.execPeelTake r s
  | .survivalAuto e j => Sys2Proof.Machine.execSurvivalAuto e j s
  | .ckptMissed e j => Sys2Proof.Machine.execCkptMissed e j s
  | .keyLoad r slot => Sys2Proof.Machine.execKeyLoad r slot s
  | .keyGenerate r slot => Sys2Proof.Machine.execKeyGenerate r slot s
  | .keyDerive r slot aux => Sys2Proof.Machine.execKeyDerive r slot aux s
  | .keyWrapExport r slot aux => Sys2Proof.Machine.execKeyWrapExport r slot aux s
  | .keyUnwrap r slot aux => Sys2Proof.Machine.execKeyUnwrap r slot aux s
  | .keyErase r slot => Sys2Proof.Machine.execKeyErase r slot s
  | .keyPubkey r slot => Sys2Proof.Machine.execKeyPubkey r slot s
  | .signMeter r m => Sys2Proof.Machine.execSignMeter r m s
  | .debugArm r => Sys2Proof.Machine.execDebugArm r s
  | .debugDisarm r => Sys2Proof.Machine.execDebugDisarm r s
  | .keyLifecycle r => Sys2Proof.Machine.execKeyLifecycle r s
  | .keyDataWrite r w => Sys2Proof.Machine.execKeyDataWrite r w s
  | .keyOutPop r => Sys2Proof.Machine.execKeyOutPop r s
  | .keyOpDone ok attr => Sys2Proof.Machine.execKeyOpDone ok attr s
  | .keyIntegSweep bad => Sys2Proof.Machine.execKeyIntegSweep bad s
  | .sesHello src h => Sys2Proof.Machine.execSesHello src h s
  | .sesFinish src n f => Sys2Proof.Machine.execSesFinish src n f s
  | .sesData src n seq tagOk ops => Sys2Proof.Machine.execSesData src n seq tagOk ops s
  | .sesClose src n seq tagOk => Sys2Proof.Machine.execSesClose src n seq tagOk s
  | .handshakeTimeout n => Sys2Proof.Machine.execHandshakeTimeout n s
  | .sessionIdleExpire n => Sys2Proof.Machine.execSessionIdleExpire n s
  | .sessionLifeExpire n => Sys2Proof.Machine.execSessionLifeExpire n s
  | .lockoutExpire => Sys2Proof.Machine.execLockoutExpire s
  | .sesCloseCmd r => Sys2Proof.Machine.execSesCloseCmd r s
  | .storeWriteDone id ok => Sys2Proof.Machine.execStoreWriteDone id ok s
  | .recorderSpill ok => Sys2Proof.Machine.execRecorderSpill ok s
  | .recSelWrite r w => Sys2Proof.Machine.execRecSelWrite r w s
  | .recFetchDone r => Sys2Proof.Machine.execRecFetchDone r s
  | .updBegin r k partner => Sys2Proof.Machine.execUpdBegin r k partner s
  | .updDataWrite r w => Sys2Proof.Machine.execUpdDataWrite r w s
  | .updProofDone k sigOk => Sys2Proof.Machine.execUpdProofDone k sigOk s
  | .updEnd r k digestOk => Sys2Proof.Machine.execUpdEnd r k digestOk s
  | .updAbort r k => Sys2Proof.Machine.execUpdAbort r k s
  | .updActivateStage r k partner => Sys2Proof.Machine.execUpdActivateStage r k partner s
  | .updConfirm r partner => Sys2Proof.Machine.execUpdConfirm r partner s
  | .updRevert r partner => Sys2Proof.Machine.execUpdRevert r partner s
  | .trialWatchdog => Sys2Proof.Machine.execTrialWatchdog s
  | .supplyPowerUp => Sys2Proof.Machine.execSupplyPowerUp s
  | .inputLost b => Sys2Proof.Machine.execInputLost b s
  | .inputBack b => Sys2Proof.Machine.execInputBack b s
  | .supplyWarn => Sys2Proof.Machine.execSupplyWarn s
  | .supplyOk b => Sys2Proof.Machine.execSupplyOk b s
  | .holdupEnd => Sys2Proof.Machine.execHoldupEnd s
  | .standbyRailLoss => Sys2Proof.Machine.execStandbyRailLoss s
  | .haltEnter => Sys2Proof.Machine.execHaltEnter s
  | .boardTempSample t0 t1 t2 t3 => Sys2Proof.Machine.execBoardTempSample t0 t1 t2 t3 s
  | .haltExit => Sys2Proof.Machine.execHaltExit s
  | .overPower pw => Sys2Proof.Machine.execOverPower pw s
  | .pwrPeakClr r => Sys2Proof.Machine.execPwrPeakClr r s
  | .perfRun r run => Sys2Proof.Machine.execPerfRun r run s
  | .perfClear r => Sys2Proof.Machine.execPerfClear r s
  | .perfSnap r => Sys2Proof.Machine.execPerfSnap r s
  | .smpPop r => Sys2Proof.Machine.execSmpPop r s
  | .lifeSave r => Sys2Proof.Machine.execLifeSave r s
  | .lifeHourlyWrite => Sys2Proof.Machine.execLifeHourlyWrite s
  | .lifeMinute => Sys2Proof.Machine.execLifeMinute s
  | .supplyDipEnd low us => Sys2Proof.Machine.execSupplyDipEnd low us s
  | .islandClockLoss k => Sys2Proof.Machine.execIslandClockLoss k s
  | .openLoadClear c => Sys2Proof.Machine.execOpenLoadClear c s
  | .supplyDipBegin => Sys2Proof.Machine.execSupplyDipBegin s
  | .counterOverflow c => Sys2Proof.Machine.execCounterOverflow c s
  | .restartReady x => Sys2Proof.Machine.execRestartReady x s
  | .announceReceiptTimeout => Sys2Proof.Machine.execAnnounceReceiptTimeout s
  | .claimWindowEnd u lc => Sys2Proof.Machine.execClaimWindowEnd u lc s
  | .unknownFrameRx p bad => Sys2Proof.Machine.execUnknownFrameRx p bad s

end Sys2Proof.Machine
end

