-- ==== Sys2Proof/Machine/Step.lean ====
section
/-!
DEFINITION. One step of the block: the command at the front of the queue is performed.
-/
namespace Sys2Proof.Machine
open Host

/-- Take the command at the front of the queue and perform it on the state with the rest of the queue; on an empty
queue the block idles (assumption 1). -/
def step (s : State) : Outcome State Fault Refusal :=
  match s.pending with
  | [] => .next s
  | c :: rest => exec c { s with pending := rest }

/-- The state with the command that a table word spells at the front of its queue; no row of the table has bits, so
no word spells a command and the state stays as it is (assumption 2). -/
def State.withFetchWord (s : State) (nbits w : Nat) : State :=
  match decodeTableWord nbits w with
  | some c => { s with pending := c :: s.pending }
  | none => s

end Sys2Proof.Machine
end

