-- ==== Sys2Proof/WellFormed.lean ====
section
/-!
DEFINITION. What the operands of a command must satisfy beyond their types: the widths of the fields that a frame or a
register gives them, the lengths of its lists. An ill-formed term stands for no command that the spec describes; its
meaning is total all the same, and nothing in the machine checks this.
-/
namespace Sys2Proof

/-- A requester: a ring peer's module ID, tin and rights have the widths that REQUEST gives them (R303). -/
def Req.wf : Req → Bool
  | .peer id tin rights _ => decide (id < 256) && decide (tin < 256) && decide (rights < 16)
  | _ => true

/-- A frame header (R302): its fields have their widths, its length is that of an Ethernet frame of a ring port or the
pair link, and it arrives within the tick. -/
def Hdr.wf (h : Hdr) : Bool :=
  decide (h.srcEpoch < 2 ^ 32) && decide (h.dstEpoch < 2 ^ 32) && decide (h.seq < 65536) && decide (h.hops < 1024) &&
    decide (64 ≤ h.octets) && decide (h.octets ≤ 2000) && decide (h.us < 250)

/-- A frame that no consumer takes: its length is within the port's limits, and only a ring port has Unzan headers (R297,
R302). -/
def BadFrame.wf (p : NetPort) : BadFrame → Bool
  | .unknown n => decide (64 ≤ n) && decide (n ≤ 2000)
  | .untyped h _ => h.wf && decide (h.port.val < 2) && (p == .ring (if h.port.val = 0 then 0 else 1))
  | _ => true

/-- A LEASE payload (R368). -/
def LeaseIn.wf (l : LeaseIn) : Bool := decide (l.epoch < 2 ^ 32) && decide (l.seq < 2 ^ 32) && decide (l.lc < 2 ^ 64)

/-- An Announce (R337). -/
def Announce.wf (a : Announce) : Bool := decide (a.id < 2 ^ 64) && decide (a.steps < 65536) && decide (a.utc < 65536)

/-- Where a SESSION frame comes from: a frame of the service port is at most 1,518 octets (R299). -/
def SesSrc.wf : SesSrc → Bool
  | .svc octets => decide (64 ≤ octets) && decide (octets ≤ 1518)
  | .ring h => h.wf

/-- Octets. -/
def octetList (l : List Nat) : Bool := l.all fun x => decide (x < 256)

/-- A HELLO (R389): a nonce of 32 octets, a key of 97. -/
def HelloIn.inRange (h : HelloIn) : Bool :=
  decide (h.mode < 256) && h.nonce.length == 32 && h.key.length == 97 && octetList h.nonce && octetList h.key

/-- A FINISH (R389, R391): its octets; the session extension's tin and rights have their widths. -/
def FinishIn.inRange (f : FinishIn) : Bool :=
  decide (f.body.length ≤ 1208) && decide (f.auth.length ≤ 96) && octetList f.body && octetList f.auth &&
  match f.ext with
  | some (tin, rights) => decide (tin < 256) && decide (rights < 16)
  | none => true

/-- What a loader places (R67, R71): words of the bank of 16,384, of the data region of 32,768, K initial values and maps of
the 8 slots. -/
def ProgLoad.wf (l : ProgLoad) : Bool :=
  (l.words.all fun (q : Nat × Word) => decide (q.1 < 16384)) && (l.data.all fun (q : Nat × Word) => decide (q.1 < 32768)) &&
    (l.kinit.all fun (q : Nat × Nat × Word) => decide (q.1 < 8) && decide (q.2.1 < 32768)) &&
    (l.maps.all fun (q : Nat × ImgMap) => decide (q.1 < 8))

/-- What the world brings to a start (R433): the stores that it names exist (R398). -/
def StartIn.wf (x : StartIn) : Bool :=
  x.damaged.all fun (q : Nat × Bool) => decide (q.1 < 256)

/-- A leaf of the tower point map (R173, R174): of level 1 or 0, of the 48-bit space. -/
def MapLeaf.wf (m : MapLeaf) : Bool := decide (m.addr < 2 ^ 48) && decide (m.level ≤ 1) && decide (m.leaf < 2 ^ 64)

/-- A measured quantity: a table entry lies in the 40-bit physical space (R176). -/
def Meas.wf : Meas → Bool
  | .tableBad pa => decide (pa < 2 ^ 40)
  | _ => true

/-- What the world brings to a tick boundary. -/
def TickIn.wf (t : TickIn) : Bool :=
  decide (t.lc < 2 ^ 64) && decide (t.edges ≤ 32768) && decide (t.vinA < 65536) && decide (t.vinB < 65536) &&
    decide (t.fs1 < 65536) && decide (t.fs2 < 65536) && decide (t.fs3 < 65536) && decide (t.power < 65536) &&
    decide (t.answered.length ≤ 128) && decide (t.slow.length ≤ 128) && decide (t.noMirror.length ≤ 128) &&
    decide (t.pvs.length ≤ 256) && t.meas.all Meas.wf

/-- The samples of an input: at most those of an interval (R279), each in 32 bits. -/
def samplesWf (l : List Int) : Bool :=
  decide (l.length ≤ 1600) && l.all fun x => decide (-(2 ^ 31) ≤ x) && decide (x < 2 ^ 31)

/-- Whether a command is well formed. -/
def Instr.wf : Instr → Bool
  | .tickBoundary t => t.wf
  | .sealPoint answered => decide (answered.length ≤ 128)
  | .registerWrite r _ size _ => r.wf && (size == 1 || size == 2 || size == 4 || size == 8)
  | .halfLowRead r _ => r.wf
  | .batchTagWrite r _ _ => r.wf
  | .errClear r _ => r.wf
  | .pageLock r _ => r.wf
  | .creditReturn _ => true
  | .batchEntryAccept _ => true
  | .fireInputAssert _ => true
  | .modFireEnterCmd r => r.wf
  | .modFireResetCmd r => r.wf
  | .modWarmRestart r => r.wf
  | .modColdRestart r => r.wf
  | .modLampTest r => r.wf
  | .lampTestEnd => true
  | .routerServe => true
  | .eventDeliveryLand _ => true
  | .recorderDelivery => true
  | .scanStart _ => true
  | .illegalOpcode _ _ => true
  | .nNop _ _ => true
  | .nEnd _ _ => true
  | .nJmp _ _ => true
  | .nJb1 _ _ => true
  | .nJb0 _ _ => true
  | .nJz _ _ => true
  | .nJnz _ _ => true
  | .nCall _ _ => true
  | .nRet _ _ => true
  | .nDjnz _ _ => true
  | .nLevt _ _ => true
  | .nLdtk _ _ => true
  | .nLdst _ _ => true
  | .nClst _ _ => true
  | .nLdb _ _ => true
  | .nLdbn _ _ => true
  | .nAndb _ _ => true
  | .nAndbn _ _ => true
  | .nOrb _ _ => true
  | .nOrbn _ _ => true
  | .nXorb _ _ => true
  | .nPushb _ _ => true
  | .nAnds _ _ => true
  | .nAndns _ _ => true
  | .nOrs _ _ => true
  | .nXors _ _ => true
  | .nNot _ _ => true
  | .nSet1 _ _ => true
  | .nClr1 _ _ => true
  | .nStb _ _ => true
  | .nSetb _ _ => true
  | .nRstb _ _ => true
  | .nEdgr _ _ => true
  | .nEdgf _ _ => true
  | .nLdl _ _ => true
  | .nAndl _ _ => true
  | .nOrl _ _ => true
  | .nLdw _ _ => true
  | .nLdi _ _ => true
  | .nLdih _ _ => true
  | .nStw _ _ => true
  | .nAdd _ _ => true
  | .nSub _ _ => true
  | .nMul _ _ => true
  | .nDiv _ _ => true
  | .nAddi _ _ => true
  | .nAndw _ _ => true
  | .nOrw _ _ => true
  | .nXorw _ _ => true
  | .nShl _ _ => true
  | .nShr _ _ => true
  | .nSar _ _ => true
  | .nNeg _ _ => true
  | .nCmpeq _ _ => true
  | .nCmpne _ _ => true
  | .nCmplt _ _ => true
  | .nCmple _ _ => true
  | .nCmpgt _ _ => true
  | .nCmpge _ _ => true
  | .nShifta _ _ => true
  | .nLdxi _ _ => true
  | .nAddxi _ _ => true
  | .nTax _ _ => true
  | .nTxa _ _ => true
  | .nTon _ _ => true
  | .nTof _ _ => true
  | .nTp _ _ => true
  | .nTonr _ _ => true
  | .nTrst _ _ => true
  | .nLdt _ _ => true
  | .nCtu _ _ => true
  | .nCtd _ _ => true
  | .nCts _ _ => true
  | .nCrst _ _ => true
  | .nLdc _ _ => true
  | .walkComplete _ _ cyc => decide (cyc < 2 ^ 32)
  | .pReadTimeout _ => true
  | .captureDone _ _ => true
  | .taskWdogExpire _ _ => true
  | .kretSnapshot => true
  | .engSwapStage r _ => r.wf
  | .progOpenSet r _ => r.wf
  | .progOpenClear r _ load => r.wf && load.wf
  | .progCrcDone _ => true
  | .areaWinWrite r _ _ => r.wf
  | .engFaultClear r _ => r.wf
  | .engPeakClr r _ => r.wf
  | .tskResume r _ => r.wf
  | .tskExecClr r _ => r.wf
  | .batOpen r _ => r.wf
  | .commitAt r => r.wf
  | .commitNow r => r.wf
  | .batAbort r => r.wf
  | .abortSel r => r.wf
  | .batchOpenLimit _ => true
  | .ringStage h id tin addr tag _ sel =>
    h.wf && decide (id < 256) && decide (tin < 256) && decide (addr < 2 ^ 40) && decide (tag < 65536) &&
      decide (sel < 2 ^ 32)
  | .ringStageAns h tag code id => h.wf && decide (tag < 65536) && decide (code < 256) && decide (id < 256)
  | .commitPrepare h _ tick parts =>
    h.wf && decide (tick < 2 ^ 64) && (decide (parts.length ≤ 32) && parts.all fun q => decide (q < 256))
  | .commitPrepared h _ _ => h.wf
  | .commitRefused h _ _ _ => h.wf
  | .commitOutcome h _ _ => h.wf
  | .xmodOutcomeTimeout => true
  | .wakeSlot => true
  | .xltSwapStage r => r.wf
  | .shadowOpenWrite r map => r.wf && (map.getD []).all MapLeaf.wf
  | .xltTblWrite r _ _ => r.wf
  | .xltRootWrite r _ _ => r.wf
  | .pwStart r => r.wf
  | .prewarmDone => true
  | .holdOldClear => true
  | .sweepDone => true
  | .dualWriteStage r _ => r.wf
  | .dualWriteSettle page _ => decide (page < 2 ^ 36)
  | .xltWfClear r => r.wf
  | .tinGrantWrite r _ => r.wf
  | .loopFaultClr r _ => r.wf
  | .dioInputChange _ _ => true
  | .dioFilterExpire _ => true
  | .wireBreakDetect _ => true
  | .wireBreakClear _ => true
  | .outputDriverFault _ _ => true
  | .dioClrFault r _ => r.wf
  | .openLoadDetect _ => true
  | .sliceOverload _ => true
  | .overloadShedNext _ _ => true
  | .sliceWdogExpire _ => true
  | .sliceRearmCmd r _ => r.wf
  | .sliceFaultCauseSet _ _ => true
  | .sliceFaultCauseClear _ _ => true
  | .sliceFaultExit _ => true
  | .captureEdge _ _ _ _ => true
  | .standstillTimeout _ => true
  | .capFifoPop r => r.wf
  | .analogConversion _ v _ _ => (decide (-(2 ^ 31) ≤ v) && decide (v < 2 ^ 31))
  | .mpStart r _ _ _ => r.wf
  | .mpStop r => r.wf
  | .playerEnd _ => true
  | .msgReload r set => r.wf && (decide (set.length ≤ 256) && set.all fun (q : MsgItem) => decide (q.len < 2 ^ 32))
  | .tbOpenDetect _ => true
  | .tbOpenClear _ => true
  | .supervisionWindow _ vc vs ic ishunt => [vc, vs, ic, ishunt].all fun x => decide (-(2 ^ 62) ≤ x) && decide (x < 2 ^ 62)
  | .earthMeasure _ kohm => decide (kohm < 2 ^ 32)
  | .zoneCommission r _ => r.wf
  | .audioAutonomousEnter => true
  | .audioAutonomousExit => true
  | .audioThermalMute temp => decide (-(2 ^ 15) ≤ temp) && decide (temp < 2 ^ 15)
  | .metrologyInterval v i f =>
    decide (v.length ≤ 8) && decide (i.length ≤ 48) && decide (f.length ≤ 8) && v.all samplesWf && i.all samplesWf &&
      f.all fun x => decide (x < 2 ^ 20)
  | .metFrameRx _ => true
  | .metLinkLost => true
  | .metRecordRx => true
  | .islandSupplyChange _ _ _ _ => true
  | .voltagePhaseAbsent _ => true
  | .voltageZeroCrossing _ _ => true
  | .batteryModeEntry => true
  | .batteryBurst i => decide (i.length ≤ 48) && i.all samplesWf
  | .batteryBudgetEnd _ => true
  | .coverSwitchChange _ => true
  | .debugLineChange _ => true
  | .islandStart _ _ gap => decide (gap < 2 ^ 32)
  | .logResync r => r.wf
  | .paramWrite r => r.wf
  | .lrfBegin r => r.wf
  | .lrfDataWrite r _ => r.wf
  | .lrfEnd r => r.wf
  | .lrfAbort r => r.wf
  | .lrfWordTimeout => true
  | .lrfVerifyDone _ version roll gap => decide (version < 2 ^ 32) && decide (roll < 65536) && decide (gap < 2 ^ 32)
  | .metBatCfg r => r.wf
  | .metCmdOutcome => true
  | .ringToken h tick resAll resLs nodes _ _ rot =>
    h.wf && decide (tick < 2 ^ 64) && decide (resAll < 2 ^ 32) && decide (resLs < 2 ^ 32) && decide (nodes < 2 ^ 32) &&
      decide (rot < 2 ^ 32)
  | .tokenMiss => true
  | .ringAsyncToken h => h.wf
  | .ringImage h tick runs =>
    h.wf && decide (tick < 2 ^ 64) && (runs.all fun (q : Nat × List Nat) => decide (q.1 < 2 ^ 48) &&
      decide (q.2.length < 65536) && q.2.all fun v => decide (v < 2 ^ 32))
  | .ringAudio h x => h.wf && decide (x.tick < 2 ^ 64)
  | .ringFire h ids => h.wf && (decide (ids.length ≤ 32) && ids.all fun q => decide (q < 256))
  | .fireRxTimeout => true
  | .ringRequest h op kind right tin addr tag _ =>
    h.wf && (op == 1 || op == 2) && decide (kind < 16) && decide (right < 16) && decide (tin < 256) &&
      decide (addr < 2 ^ 40) && decide (tag < 65536)
  | .ringResponse h tag code _ => h.wf && decide (tag < 65536) && decide (code < 256)
  | .ringAlarm h src n owner => h.wf && decide (src < 1152) && decide (n < 65536) && decide (owner < 256)
  | .linkHello h tw _ _ => h.wf && decide (tw < 65536)
  | .linkBreak h => h.wf
  | .linkHeal h => h.wf
  | .portLinkChange _ _ _ _ _ => true
  | .portLinkFrameTimeout _ => true
  | .ringHealReady => true
  | .rateAlternate _ => true
  | .preemptVerifyFail _ => true
  | .dupIdSeen h => h.wf
  | .rxBufferRelease => true
  | .segAnswer _ _ us status type words =>
    decide (us < 250) && decide (status < 256) && decide (type < 65536) && decide (words.length ≤ 16)
  | .plcaForeignBeacon _ => true
  | .svcWakePattern _ => true
  | .ptpSyncRx _ domain _ gm seq off freq us =>
    decide (domain < 256) && decide (gm < 2 ^ 64) && decide (seq < 65536) && (decide (-(2 ^ 63) ≤ off) &&
      decide (off < 2 ^ 63)) && (decide (-(2 ^ 31) ≤ freq) && decide (freq < 2 ^ 31)) && decide (us < 250)
  | .ptpAnnounceRx _ domain a => decide (domain < 256) && a.wf
  | .ptpPdelay _ ns => decide (ns < 2 ^ 32)
  | .ptpSyncTimeout => true
  | .ptpAdjWrite r _ => r.wf
  | .ptpNsRead r sub frac => r.wf && decide (sub < 250000) && decide (frac < 65536)
  | .rtcSecWrite r _ => r.wf
  | .rtcSecLanding => true
  | .rtcAutoset => true
  | .rtcAlarm _ => true
  | .rtcOscStop => true
  | .rtcSupplySwitch _ => true
  | .vbatLow mv => decide (mv < 65536)
  | .leaseRenewSend lc _ _ => decide (lc < 2 ^ 64)
  | .leaseRenew h l => h.wf && l.wf
  | .leaseAck h l => h.wf && l.wf
  | .leaseFence lc => decide (lc < 2 ^ 64)
  | .leaseTakeReqTimer lc => decide (lc < 2 ^ 64)
  | .leaseTakeReq h l => h.wf && l.wf
  | .leaseGrant h l => h.wf && l.wf
  | .leaseRefuse h l => h.wf && l.wf
  | .pairTakeover lc => decide (lc < 2 ^ 64)
  | .leaseTakeover h l => h.wf && l.wf
  | .leaseClaim h l => h.wf && l.wf
  | .jointStartTimeout lc => decide (lc < 2 ^ 64)
  | .leasePrepare h l => h.wf && l.wf
  | .leasePrepared h l => h.wf && l.wf
  | .leasePlace h epoch tick _ _ _ _ _ => h.wf && decide (epoch < 2 ^ 32) && decide (tick < 2 ^ 32)
  | .pairSwapStage r => r.wf
  | .swapFence lc => decide (lc < 2 ^ 64)
  | .pairDrillStage r _ _ => r.wf
  | .drillCheck => true
  | .drillDue => true
  | .forceTake r => r.wf
  | .pairResyncCmd r => r.wf
  | .resyncDone => true
  | .xferImage h _ _ tick _ words late _ ev =>
    h.wf && decide (tick < 2 ^ 64) && decide (words.length ≤ 32768) && (decide (late.length ≤ 32768) &&
      late.all fun q => decide (q < 32768)) && decide (ev < 2 ^ 32)
  | .xferEntries h _ tick _ items =>
    h.wf && decide (tick < 2 ^ 64) && (items.all fun (q : Nat × Nat × Word) => decide (q.1 < 2 ^ 48) &&
      decide (q.2.1 < 2 ^ 32))
  | .xferDigest h _ tick _ => h.wf && decide (tick < 2 ^ 64)
  | .xferLines h _ tick _ lines =>
    h.wf && decide (tick < 2 ^ 64) && (decide (lines.length ≤ 28) &&
      lines.all fun (q : Nat × List Word) => decide (q.1 < 65536) && q.2.length == 16)
  | .xferEnd h _ tick us => h.wf && decide (tick < 2 ^ 64) && decide (us < 250)
  | .partnerTimeout lc => decide (lc < 2 ^ 64)
  | .witnessTimeout lc => decide (lc < 2 ^ 64)
  | .peelGo r _ _ _ => r.wf
  | .peelSnapshotDone _ _ us => decide (us < 250)
  | .peelTake r => r.wf
  | .survivalAuto _ _ => true
  | .ckptMissed _ _ => true
  | .keyLoad r _ => r.wf
  | .keyGenerate r _ => r.wf
  | .keyDerive r _ _ => r.wf
  | .keyWrapExport r _ _ => r.wf
  | .keyUnwrap r _ _ => r.wf
  | .keyErase r _ => r.wf
  | .keyPubkey r _ => r.wf
  | .signMeter r _ => r.wf
  | .debugArm r => r.wf
  | .debugDisarm r => r.wf
  | .keyLifecycle r => r.wf
  | .keyDataWrite r _ => r.wf
  | .keyOutPop r => r.wf
  | .keyOpDone _ _ => true
  | .keyIntegSweep bad => decide (bad.length ≤ 64)
  | .sesHello src h => src.wf && h.inRange
  | .sesFinish src _ f => src.wf && f.inRange
  | .sesData src _ seq _ ops =>
    src.wf && decide (seq < 2 ^ 64) && (decide (1 ≤ ops.length) && decide (ops.length ≤ 64) &&
      ops.all fun (q : SesOp) => decide (q.tag < 65536) && decide (q.addr < 2 ^ 48))
  | .sesClose src _ seq _ => src.wf && decide (seq < 2 ^ 64)
  | .handshakeTimeout _ => true
  | .sessionIdleExpire _ => true
  | .sessionLifeExpire _ => true
  | .lockoutExpire => true
  | .sesCloseCmd r => r.wf
  | .storeWriteDone _ _ => true
  | .recorderSpill _ => true
  | .recSelWrite r _ => r.wf
  | .recFetchDone r => r.wf
  | .updBegin r _ _ => r.wf
  | .updDataWrite r _ => r.wf
  | .updProofDone _ _ => true
  | .updEnd r _ _ => r.wf
  | .updAbort r _ => r.wf
  | .updActivateStage r _ _ => r.wf
  | .updConfirm r _ => r.wf
  | .updRevert r _ => r.wf
  | .trialWatchdog => true
  | .supplyPowerUp => true
  | .inputLost _ => true
  | .inputBack _ => true
  | .supplyWarn => true
  | .supplyOk _ => true
  | .holdupEnd => true
  | .standbyRailLoss => true
  | .haltEnter => true
  | .boardTempSample t0 t1 t2 t3 =>
    (decide (-(2 ^ 31) ≤ t0) && decide (t0 < 2 ^ 31)) && (decide (-(2 ^ 31) ≤ t1) && decide (t1 < 2 ^ 31)) &&
      (decide (-(2 ^ 31) ≤ t2) && decide (t2 < 2 ^ 31)) && (decide (-(2 ^ 31) ≤ t3) && decide (t3 < 2 ^ 31))
  | .haltExit => true
  | .overPower pw => decide (pw < 65536)
  | .pwrPeakClr r => r.wf
  | .perfRun r _ => r.wf
  | .perfClear r => r.wf
  | .perfSnap r => r.wf
  | .smpPop r => r.wf
  | .lifeSave r => r.wf
  | .lifeHourlyWrite => true
  | .lifeMinute => true
  | .supplyDipEnd low us => decide (low < 65536) && decide (us < 2 ^ 32)
  | .islandClockLoss _ => true
  | .openLoadClear _ => true
  | .supplyDipBegin => true
  | .counterOverflow _ => true
  | .restartReady x => x.wf
  | .announceReceiptTimeout => true
  | .claimWindowEnd _ lc => decide (lc < 2 ^ 64)
  | .unknownFrameRx p b => b.wf p

end Sys2Proof
end

