-- ==== Sys2Proof/Safety.lean ====
section
/-!
DEFINITION. What counts as a safe state and a safe run, in the terms that claims use: the canonical forms of the sparse
stores, a queue of well-formed commands, and runs that meet neither a fault nor a refusal.
-/
namespace Sys2Proof.Machine

/-- Keys of a sparse map strictly rising. -/
def AMap.wf {α : Type} : AMap α → Bool
  | [] => true
  | [_] => true
  | (a, _) :: (b, w) :: t => decide (a < b) && AMap.wf ((b, w) :: t)

/-- The memories of the module are in their canonical form. -/
def Block.memWf (b : Block) : Bool := b.bench.wf && b.shared.wf && b.dram.wf

/-- The stores of the module are in their canonical form: register cells, memories, logical states of points. -/
def Block.wf (b : Block) : Bool := b.cells.wf && b.memWf && b.points.wf

/-- Every command that waits is well-formed. -/
def State.queueWf (s : State) : Bool := s.pending.all fun (c : Instr) => c.wf

/-- An outcome is safe when it is a next state. -/
def safeOutcome : Host.Outcome State Fault Refusal → Prop
  | .next _ => True
  | _ => False

/-- The effect of a command on the module, where it answers a next state; otherwise the module stays as it is. -/
def effect (c : Instr) (b : Block) : Block :=
  match exec c { pending := [], m := b } with
  | .next t => t.m
  | _ => b

/-- The effects of commands one after another. -/
def effects : List Instr → Block → Block
  | [], b => b
  | c :: t, b => effects t (effect c b)

/-- A requester's access can be made: the supervisor island runs, and a session is OPEN (R17, R395). -/
def Block.live (b : Block) (r : Req) : Bool := b.supRuns && b.reqLive r

/-- Island `k` and the supervisor island run (R9, R17). -/
def Block.withSup (b : Block) (k : Nat) : Bool := b.supRuns && b.islandUp k

/-- A requester may write a register: its access can be made, a selector names an object that it may reach (R194), and on
a page of the audio path it holds the configure right. -/
def Block.mayWrite (b : Block) (r : Req) (off : Nat) : Bool :=
  b.live r && b.selOk r .write off &&
    (!(decide (0x060 ≤ off / 4096) && decide (off / 4096 ≤ 0x064)) || b.holds r .configure)

/-- A command answers a next state in which the module is `b` and the queue is as it was. -/
def Answers (c : Instr) (s : State) (b : Block) : Prop := exec c s = .next { s with m := b }

/-! ### Requesters -/

/-- The requester of a command that is an access of its own: a register write or read (R36, R49). -/
def requester : Instr → Option Req
  | .registerWrite r _ _ _ => some r
  | .halfLowRead r _ => some r
  | .batchTagWrite r _ _ => some r
  | .errClear r _ => some r
  | .pageLock r _ => some r
  | .modFireEnterCmd r => some r
  | .modFireResetCmd r => some r
  | .modWarmRestart r => some r
  | .modColdRestart r => some r
  | .modLampTest r => some r
  | .engSwapStage r _ => some r
  | .progOpenSet r _ => some r
  | .progOpenClear r _ _ => some r
  | .areaWinWrite r _ _ => some r
  | .engFaultClear r _ => some r
  | .engPeakClr r _ => some r
  | .tskResume r _ => some r
  | .tskExecClr r _ => some r
  | .batOpen r _ => some r
  | .commitAt r => some r
  | .commitNow r => some r
  | .batAbort r => some r
  | .abortSel r => some r
  | .xltSwapStage r => some r
  | .shadowOpenWrite r _ => some r
  | .xltTblWrite r _ _ => some r
  | .xltRootWrite r _ _ => some r
  | .pwStart r => some r
  | .dualWriteStage r _ => some r
  | .xltWfClear r => some r
  | .tinGrantWrite r _ => some r
  | .loopFaultClr r _ => some r
  | .dioClrFault r _ => some r
  | .sliceRearmCmd r _ => some r
  | .capFifoPop r => some r
  | .mpStart r _ _ _ => some r
  | .mpStop r => some r
  | .msgReload r _ => some r
  | .zoneCommission r _ => some r
  | .logResync r => some r
  | .paramWrite r => some r
  | .lrfBegin r => some r
  | .lrfDataWrite r _ => some r
  | .lrfEnd r => some r
  | .lrfAbort r => some r
  | .metBatCfg r => some r
  | .ptpAdjWrite r _ => some r
  | .ptpNsRead r _ _ => some r
  | .rtcSecWrite r _ => some r
  | .pairSwapStage r => some r
  | .pairDrillStage r _ _ => some r
  | .forceTake r => some r
  | .pairResyncCmd r => some r
  | .peelGo r _ _ _ => some r
  | .peelTake r => some r
  | .keyLoad r _ => some r
  | .keyGenerate r _ => some r
  | .keyDerive r _ _ => some r
  | .keyWrapExport r _ _ => some r
  | .keyUnwrap r _ _ => some r
  | .keyErase r _ => some r
  | .keyPubkey r _ => some r
  | .signMeter r _ => some r
  | .debugArm r => some r
  | .debugDisarm r => some r
  | .keyLifecycle r => some r
  | .keyDataWrite r _ => some r
  | .keyOutPop r => some r
  | .sesCloseCmd r => some r
  | .recSelWrite r _ => some r
  | .recFetchDone r => some r
  | .updBegin r _ _ => some r
  | .updDataWrite r _ => some r
  | .updEnd r _ _ => some r
  | .updAbort r _ => some r
  | .updActivateStage r _ _ => some r
  | .updConfirm r _ => some r
  | .updRevert r _ => some r
  | .pwrPeakClr r => some r
  | .perfRun r _ => some r
  | .perfClear r => some r
  | .perfSnap r => some r
  | .smpPop r => some r
  | .lifeSave r => some r
  | _ => none

/-! ### Accesses and frames -/

/-- A write of a register by a requester passes every check of R461 up to its batch, and stages something: what it stages is
a lower half or a whole quantity (R37). No deadline's writes of tasks are being applied meanwhile (R43). -/
def Block.stagesAt (b : Block) (r : Req) (off v : Nat) : Bool :=
  b.mayWrite r off && !b.on HID.ATDEADLINE 0 0 && !isHigh off && decide (b.stageCheckPair r off (b.selAt r off) v = 0) &&
    !stagesNothing off (b.selAt r off) v

/-- The module with a write of an RWS register staged: in the batch that the requester's tag names, else in a batch that the
module opens for it (R41, R42); a held upper half is used up (R37). -/
def Block.stagedAt (b : Block) (r : Req) (off v : Nat) : Block :=
  ((b.wr HID.HELDHV off (holdKey r) 0).stageAll r off (b.stageList r off (b.selAt r off) v)).1

/-- A frame of TYPE `type` passes the checks of its header and is taken, which leaves `b1` (R302 to R305). -/
def Block.takes (b : Block) (h : Hdr) (type : Nat) (ls : Bool) (b1 : Block) : Prop := b.receive h type ls = (b1, .taken)

/-- The module after an accepted write of MET_CMD with code `c` (R293): the island is `x`, and its outcome `out` is owed. -/
def Block.metOwes (b : Block) (c : Nat) (x : Island) (out : Nat) : Block :=
  (({ b with isl := { x with result := some out } } : Block).p MET.MET_CMD_STAT.BUSY 1).p MET.MET_CMD_STAT.LAST c

/-- A LEASE frame passes its checks and is taken, which leaves `b1` (R352, R368). -/
def Block.leases (b : Block) (h : Hdr) (lc : Nat) (b1 : Block) : Prop := b.leaseRx h lc = (b1, true)

/-- An XFER frame passes its checks and is taken, which leaves `b1` (R368). -/
def Block.xfers (b : Block) (h : Hdr) (b1 : Block) : Prop := b.xferRx h = (b1, true)

/-- What a frame does that reaches translation of module `a` (R22, R160, R193, R303, R369), as the command `c` answers it. An
IMAGE word of another module's point enters the queue to the image builder for a credit, and one that publishes a point of
this module in time is staged for its tick. A read that a REQUEST asks for, of a point whose page allows it, is answered with
its value. A RESPONSE reaches the scan that waits for it. A STAGE of a point joins the part that was opened for the sender's
batch, and is confirmed. A refusal dooms the batch that staged. -/
def TranslationLaw (c : Instr) (s : State) (a : Block) (x : RxHeld) : Prop :=
  match x.body with
  | .image tick runs =>
    ∀ (addr v u k p : Nat), runs = [(addr, [v])] → a.imgWait = [] → a.locate addr = some (u, k, p) →
      (u ≠ a.selfId → a.g XLT.IMG_Q_CREDIT.CREDITS ≠ 0 →
        ∃ t, exec c s = .next t ∧ t.pending = s.pending ∧ t.m.imgQ = a.imgQ ++ [⟨addr, tick, v⟩] ∧
          t.m.g XLT.IMG_Q_CREDIT.CREDITS = (a.g XLT.IMG_Q_CREDIT.CREDITS - 1) % 65536) ∧
      (u = a.selfId → k = 0 → a.ownerOk (p / 4 * 4) x.h.src.val x.h.dstEpoch = true → a.tick < tick →
        let e : Entry := ⟨.point (p / 4 * 4), v, .peer x.h.src.val 0 0xF x.h.ls, x.h.dstEpoch, none⟩
        let b := (a.ownerNote (p / 4 * 4) x.h.src.val x.h.dstEpoch).acceptEnt ⟨.remoteTask x.h.src.val, tick, 0, x.h.ls, 0, some e⟩
        Answers c s { b with imgWait := [] })
  | .request op _ right tin addr tag _ =>
    let r := Req.peer x.h.src.val tin right x.h.ls
    op = 1 → addr % 4 = 0 → addr < 0x1000000 → a.staleTarget x.h = false → a.pageAllows r .read 0 addr = true →
      let b := a.pointSnap r addr
      Answers c s { b with
        txQ := b.txQ ++ [⟨.response tag 0 (a.pointRead r addr), x.h.src.val, b.newestEpoch x.h.src.val, x.h.ls, 0⟩] }
  | .response tag code v =>
    ∀ (q : Ask) (e j rel : Nat) (d : Scan), a.askOf x.h.src.val tag false = some q → q.who = .scan e j rel →
      a.scan e j = some d → d.rel = rel →
      let b : Block := { a with asks := a.asks.erase q }
      (code = 0 → Answers c s (b.putScan e j { d with ans := some v })) ∧
      (code ≠ 0 → Answers c s (b.putScan e j { d with walked := some .lost }))
  | .stage id tin tag addr v sel =>
    ∀ (n : Nat) (b : Batch), a.partOf x.h.src.val id = some (n, b) → addr % 4 = 0 → addr < 0x1000000 →
      let r := Req.peer x.h.src.val tin (Block.writeRights 0 addr) x.h.ls
      let a1 := (a.p HID.PEERTAG (n + 1)).p HID.PEERSEL (if sel = 0xFFFFFFFF then 0 else sel)
      a1.peerCode x.h r .write 0 addr = 0 → a1.pointCode addr = 0 → a1.tagNow r = some n → a1.batches.find n = some b →
      a1.stageCode n b (.point addr) = 0 →
      ∃ t f, exec c s = .next t ∧ t.pending = s.pending ∧
        t.m.batches.find n = some { b with
          entries := b.entries ++ [⟨.point addr, v, r, if a.paired then a.epoch else 0, none⟩] } ∧
        t.m.txQ = a.txQ ++ [f] ∧ f.body = .stageAns tag 0 n ∧ f.dst = x.h.src.val
  | .stageAns tag code _ =>
    ∀ (q : Ask) (id : Nat), a.askOf x.h.src.val tag true = some q → q.batch = some id → q.who = .nobody →
      let b : Block := { a with asks := a.asks.erase q }
      (code = 0 → Answers c s b) ∧ (code ≠ 0 → Answers c s (b.doomBatch id code x.h.src.val))

/-! ### The issue of a Naltin instruction -/

/-- Engine `e` is about to issue instruction `i` for scan `c` of slot `j` (R66 to R69, R74, R96): it executes that scan and
waits for nothing, PC lies in the slot's code, the word there is `i`, and `i` names an area that its opcode lists. -/
def Block.issues (b : Block) (e : Fin 16) (j : Fin 8) (c : Scan) (i : NIns) : Bool :=
  decide (b.running e = some (j, c)) && b.mayIssue e.val c && (b.waitOver e.val c).1.inCode e.val j.val (b.waitOver e.val c).2 &&
    decide (nalDecode ((b.waitOver e.val c).1.progWord e.val (b.waitOver e.val c).2.bank (b.waitOver e.val c).2.pc) = some i) &&
    i.areaOk

/-- What the bench code found lets an instruction run (R66, R95): no double error in its fetch, and none in a word that its
operand reads. -/
def spares (x : Ecc) (i : NIns) : Bool :=
  match x, i.arg with
  | .uncorrectable, _ => false
  | .operand, .dir _ _ => false
  | .operand, .ind _ _ _ => false
  | _, _ => true

/-- The run that an issue makes: a wait that preceded it is over, and what the bench code found is noted (R66). -/
def Block.runOf (b : Block) (e : Fin 16) (ecc : Ecc) (j : Fin 8) (c : Scan) (i : NIns) : Run :=
  ⟨(b.waitOver e.val c).1.eccNote e.val ecc, e, j, (b.waitOver e.val c).2, i⟩

/-- The command that issues an operation. -/
def naltinCommand : NOp → Fin 16 → Ecc → Instr
  | .nop => .nNop
  | .endS => .nEnd
  | .jmp => .nJmp
  | .jb1 => .nJb1
  | .jb0 => .nJb0
  | .jz => .nJz
  | .jnz => .nJnz
  | .call => .nCall
  | .ret => .nRet
  | .djnz => .nDjnz
  | .levt => .nLevt
  | .ldtk => .nLdtk
  | .ldst => .nLdst
  | .clst => .nClst
  | .ldb => .nLdb
  | .ldbn => .nLdbn
  | .andb => .nAndb
  | .andbn => .nAndbn
  | .orb => .nOrb
  | .orbn => .nOrbn
  | .xorb => .nXorb
  | .pushb => .nPushb
  | .ands => .nAnds
  | .andns => .nAndns
  | .ors => .nOrs
  | .xors => .nXors
  | .notB => .nNot
  | .set1 => .nSet1
  | .clr1 => .nClr1
  | .stb => .nStb
  | .setb => .nSetb
  | .rstb => .nRstb
  | .edgr => .nEdgr
  | .edgf => .nEdgf
  | .ldl => .nLdl
  | .andl => .nAndl
  | .orl => .nOrl
  | .ldw => .nLdw
  | .ldi => .nLdi
  | .ldih => .nLdih
  | .stw => .nStw
  | .add => .nAdd
  | .sub => .nSub
  | .mul => .nMul
  | .div => .nDiv
  | .addi => .nAddi
  | .andw => .nAndw
  | .orw => .nOrw
  | .xorw => .nXorw
  | .shl => .nShl
  | .shr => .nShr
  | .sar => .nSar
  | .neg => .nNeg
  | .cmpeq => .nCmpeq
  | .cmpne => .nCmpne
  | .cmplt => .nCmplt
  | .cmple => .nCmple
  | .cmpgt => .nCmpgt
  | .cmpge => .nCmpge
  | .shifta => .nShifta
  | .ldxi => .nLdxi
  | .addxi => .nAddxi
  | .tax => .nTax
  | .txa => .nTxa
  | .ton => .nTon
  | .tof => .nTof
  | .tp => .nTp
  | .tonr => .nTonr
  | .trst => .nTrst
  | .ldt => .nLdt
  | .ctu => .nCtu
  | .ctd => .nCtd
  | .cts => .nCts
  | .crst => .nCrst
  | .ldc => .nLdc

/-- A scan after an instruction of `n` cycles: execution continues at `pc`, and nothing of the issue is kept. -/
def Scan.after (c : Scan) (pc n : Nat) : Scan :=
  { c with pc := pc, cyc := c.cyc + n, walked := none, ans := none, stalls := [] }

/-- The instruction index that follows (R66). -/
def Scan.succ (c : Scan) : Nat := (c.pc + 1) % 16384

/-- The operand bit of an issue is read as `b`, and leaves the run `r1` (R73, R76, R88). -/
def Run.bitIs (r r1 : Run) (b : Bool) : Prop := ∀ k, r.withBit k = k r1 b

/-- The operand word of an issue is read as `w`, and leaves the run `r1`. -/
def Run.wordIs (r r1 : Run) (w : Word) : Prop := ∀ k, r.withWord k = k r1 w

/-- A command completes the issue of an instruction: it answers a next state in which the slot's scan is `d`, the engines'
benches hold `mem`, the engine stalls on nothing, and the queue is as it was. -/
def Completes (c : Instr) (s : State) (e : Fin 16) (j : Fin 8) (d : Scan) (mem : Memory) : Prop :=
  ∃ t : State, exec c s = .next t ∧ t.pending = s.pending ∧ t.m.scan e.val j.val = some d ∧ t.m.bench = mem ∧
    t.m.rd ENG.ENG_STATE.STALL e.val 0 = 0

/-- The command `mk` issues `op` with an argument `a x` of its form, takes `n` cycles, makes `f x` of the scan and leaves
the benches alone. -/
def ArgLaw {α : Type} (mk : Fin 16 → Ecc → Instr) (op : NOp) (n : Nat) (a : α → NArg) (f : α → Scan → Scan) : Prop :=
  ∀ (s : State) (e : Fin 16) (ecc : Ecc) (j : Fin 8) (c0 : Scan) (x : α),
    s.m.issues e j c0 ⟨op, a x⟩ = true → spares ecc ⟨op, a x⟩ = true →
    Completes (mk e ecc) s e j ((f x (s.m.waitOver e.val c0).2).after (s.m.waitOver e.val c0).2.succ n) s.m.bench

/-- The same for an operation without an argument. -/
def RegLaw (mk : Fin 16 → Ecc → Instr) (op : NOp) (f : Scan → Scan) : Prop :=
  ArgLaw mk op 1 (fun _ : Unit => .none) (fun _ c => f c)

/-- The command `mk` issues `op`, which makes `f` of the scan and of its operand bit. -/
def BitLaw (mk : Fin 16 → Ecc → Instr) (op : NOp) (f : Bool → Bool → Bool) : Prop :=
  ∀ (s : State) (e : Fin 16) (ecc : Ecc) (j : Fin 8) (c0 : Scan) (i : NIns) (r1 : Run) (b : Bool),
    s.m.issues e j c0 i = true → i.op = op → spares ecc i = true → (s.m.runOf e ecc j c0 i).bitIs r1 b →
    Completes (mk e ecc) s e j (({ r1.c with lb := f r1.c.lb b } : Scan).after r1.c.succ 1) r1.s.bench

/-- The command `mk` issues `op`, which takes `n` cycles and makes `f` of the scan and of its operand word. -/
def WordLaw (mk : Fin 16 → Ecc → Instr) (op : NOp) (n : Nat) (f : Scan → Word → Scan) : Prop :=
  ∀ (s : State) (e : Fin 16) (ecc : Ecc) (j : Fin 8) (c0 : Scan) (i : NIns) (r1 : Run) (w : Word),
    s.m.issues e j c0 i = true → i.op = op → spares ecc i = true → (s.m.runOf e ecc j c0 i).wordIs r1 w →
    Completes (mk e ecc) s e j ((f r1.c w).after r1.c.succ n) r1.s.bench

/-- The command `mk` issues `op`, which jumps to its target when `p` holds of the scan. -/
def JumpLaw (mk : Fin 16 → Ecc → Instr) (op : NOp) (p : Scan → Bool) : Prop :=
  ∀ (s : State) (e : Fin 16) (ecc : Ecc) (j : Fin 8) (c0 : Scan) (t : Fin 16384),
    s.m.issues e j c0 ⟨op, .tgt t⟩ = true → spares ecc ⟨op, .tgt t⟩ = true →
    Completes (mk e ecc) s e j
      (let c := (s.m.waitOver e.val c0).2
       if p c then c.after t.val 2 else c.after c.succ 1) s.m.bench

/-- The command `mk` issues `op`, whose operand entry lies in its window (R73): `f` gives the scan from the scan and the
entry's two words, `g` the words to write, if any; the writes of a clean line cost its journal copy besides (R92). -/
def EntryLaw (mk : Fin 16 → Ecc → Instr) (op : NOp) (n : Nat) (f : Scan → Nat → Nat → Scan)
    (g : Scan → Nat → Nat → Option (Nat × Nat)) : Prop :=
  ∀ (s : State) (e : Fin 16) (ecc : Ecc) (j : Fin 8) (c0 : Scan) (i : NIns),
    s.m.issues e j c0 i = true → i.op = op → spares ecc i = true →
    (s.m.runOf e ecc j c0 i).ea < (s.m.runOf e ecc j c0 i).opWin.cap .entry →
    let r := s.m.runOf e ecc j c0 i
    let w0 := r.word (2 * r.ea)
    let w1 := r.word (2 * r.ea + 1)
    match g r.c w0 w1 with
    | none => Completes (mk e ecc) s e j ((f r.c w0 w1).after r.c.succ n) s.m.bench
    | some x =>
      let y := r.s.journalWrites e.val r.opWin r.area [(2 * r.ea, x.1), (2 * r.ea + 1, x.2)]
      Completes (mk e ecc) s e j ((f r.c w0 w1).after r.c.succ (y.2 + n)) y.1.bench

/-- The command `mk` issues `op`, whose operand bit lies in a journalled window: `f` gives LB from LB and the old bit, `g`
the bit to write, if any. -/
def BitStoreLaw (mk : Fin 16 → Ecc → Instr) (op : NOp) (g : Bool → Option Bool) : Prop :=
  ∀ (s : State) (e : Fin 16) (ecc : Ecc) (j : Fin 8) (c0 : Scan) (i : NIns),
    s.m.issues e j c0 i = true → i.op = op → spares ecc i = true → i.arg.area ≠ 7 →
    (s.m.runOf e ecc j c0 i).ea < (s.m.runOf e ecc j c0 i).opWin.cap ((s.m.runOf e ecc j c0 i).unit true) →
    let r := s.m.runOf e ecc j c0 i
    match g r.c.lb with
    | none => Completes (mk e ecc) s e j (r.c.after r.c.succ 1) s.m.bench
    | some b =>
      let y := r.s.journalWrites e.val r.opWin r.area [(r.ea / 32, putBit (r.word (r.ea / 32)) (r.ea % 32) b)]
      Completes (mk e ecc) s e j (r.c.after r.c.succ (y.2 + 1)) y.1.bench

/-- The command `mk` issues `op` with a point of the P area that is valid, of the operand's kind (`bit` or word) and
already walked to `p`, which takes a write of `v`, while the engine has a credit: the entry goes to the end of the engine's
queue towards the batch controller, for a credit (R88, R90, R93). -/
def PWriteLaw (mk : Fin 16 → Ecc → Instr) (op : NOp) (bit : Bool) (v : Scan → Option Nat) : Prop :=
  ∀ (s : State) (e : Fin 16) (ecc : Ecc) (j : Fin 8) (c0 : Scan) (i : NIns) (p : PRes) (x : Entry) (w : Nat),
    s.m.issues e j c0 i = true → i.op = op → spares ecc i = true → i.arg.area = 7 →
    (s.m.runOf e ecc j c0 i).ea < (s.m.runOf e ecc j c0 i).opWin.cap ((s.m.runOf e ecc j c0 i).unit bit) →
    (s.m.runOf e ecc j c0 i).pValid = true → (s.m.runOf e ecc j c0 i).pWide = !bit →
    (s.m.runOf e ecc j c0 i).c.walked = some p → v (s.m.runOf e ecc j c0 i).c = some w →
    (s.m.runOf e ecc j c0 i).pEntryOf p bit w = some x →
    (s.m.runOf e ecc j c0 i).s.rd ENG.ENG_BQ_CREDIT.CREDITS e.val 0 ≠ 0 →
    let r := s.m.runOf e ecc j c0 i
    Completes (mk e ecc) s e j (r.c.after r.c.succ 2) s.m.bench ∧
    ∀ t, exec (mk e ecc) s = .next t →
      t.m.engQueue e.val = s.m.engQueue e.val ++ [r.s.slotEnt' e.val j.val r.c (some x)]

/-- The command `mk` issues the edge instruction `op` on an E bit within its window (R82, R84): the bit takes LB, and LB
the edge that `f` finds against the stored state, or 0 at the first execution of a quiet bit after a warm restart. -/
def EdgeLaw (mk : Fin 16 → Ecc → Instr) (op : NOp) (f : Bool → Bool → Bool) : Prop :=
  ∀ (s : State) (e : Fin 16) (ecc : Ecc) (j : Fin 8) (c0 : Scan) (i : NIns),
    s.m.issues e j c0 i = true → i.op = op → spares ecc i = true →
    (s.m.runOf e ecc j c0 i).ea < (s.m.runOf e ecc j c0 i).opWin.cap .bit →
    let r := s.m.runOf e ecc j c0 i
    let w := r.word (r.ea / 32)
    let y := r.s.journalWrites e.val r.opWin r.area [(r.ea / 32, putBit w (r.ea % 32) r.c.lb)]
    Completes (mk e ecc) s e j
      (({ r.c with lb := if r.quiet then false else f (w.testBit (r.ea % 32)) r.c.lb,
                   eDone := if r.c.first && r.c.warmFirst then r.ea :: r.c.eDone else r.c.eDone } : Scan).after
        r.c.succ (y.2 + 1)) y.1.bench

/-- The operations of the register forms, the jumps and DJNZ. -/
def registerOps : List NOp :=
  [.nop, .levt, .ldtk, .ldst, .clst, .notB, .set1, .clr1, .neg, .ldi, .addi, .ldih, .shl, .shr, .sar, .ldxi, .addxi, .tax,
   .txa, .jmp, .jb1, .jb0, .jz, .jnz, .djnz]

/-- The fields that the end of an issue may write besides its scan: STALL, the ECC counts, the performance counters and
samples, and what a firing writes (R51, R66, R96, R448 to R453). -/
def countedFields : List Nat :=
  [ENG.ENG_STATE.STALL.code, ENG.ENG_ECC.CORR.code, PERF.PERF_CNT_L.CNT_L.code, PERF.PERF_CNT_H.CNT_H.code,
   PERF.PERF_OVF_L.OVF_L.code, PERF.PERF_OVF_H.OVF_H.code, PERF.SMP_CFG.EN.code, PERF.SMP_STAT.LOST.code, HID.SMPCNT.code,
   HID.SMPSEQ.code, HDR.EV_RAW.EV_RAW.code, HDR.EV_PEND.EV_PEND.code, EVR.SRC_COUNT.COUNT.code, EVR.EVR_STAT.MERGE_OVF.code,
   EVR.EVR_OVF_SRC.OVF_SRC.code]

/-- An issue of `i` ends in a program fault with a code: the scan ends, and the fault is recorded (R95). -/
def FaultsWith (c : Instr) (s : State) (e : Fin 16) (ecc : Ecc) (j : Fin 8) (c0 : Scan) (i : NIns) (code ea area : Nat) : Prop :=
  let r := s.m.runOf e ecc j c0 i
  Answers c s (r.s.faulted e.val j.val r.c code ((s.m.waitOver e.val c0).1.progWord e.val r.c.bank r.c.pc) ea area)

end Sys2Proof.Machine
end

