-- ==== Sys2Proof/Certificates/Slice0/Obligations.lean ====
section
/-!
DEFINITION. The statements for the provers. Register commands are stated for every requester that may write their register;
commands of a clocked island for every state in which that island and the supervisor run.
-/
open Sys2Proof Sys2Proof.Machine

/-! ### The queue and the step -/

/-- A step performs the command at the front of the queue, on the state with the queue's rest. -/
def Obligations.StepPerformsFrontCommand : Prop :=
  ∀ (c : Instr) (rest : List Instr) (m : Block), step { pending := c :: rest, m := m } = exec c { pending := rest, m := m }

/-- The block works its queue off, first in, first out: after as many steps as commands wait, none waits, no step has
ended in a fault or a refusal, and the module holds the effects of the commands in their order, each computed from the
module alone. -/
def Obligations.QueueRunsToCompletion : Prop :=
  ∀ s : State, Host.Core.run core s.pending.length s = .next { pending := [], m := effects s.pending s.m }

/-- A step leaves a queue of well-formed commands well-formed. -/
def Obligations.StepKeepsQueueWellFormed : Prop :=
  ∀ s t : State, s.queueWf = true → step s = .next t → t.queueWf = true

/-- The queue after reset is well-formed, and the stores are in their canonical form. -/
def Obligations.ResetIsWellFormed : Prop := State.reset.queueWf = true ∧ State.reset.m.wf = true

/-- Values of the Reset columns after reset (R5), for every engine, slot, page and channel: the credits of every queue,
the batch controller's pool and limits, the timeouts and periods, and the flags that do not start at 0. -/
def Obligations.ResetValuesStand : Prop :=
  let v := fun (f : Fld) (n : Nat) => ∀ i k, State.reset.m.rd f i k = n
  (v ENG.ENG_BQ_CREDIT.CREDITS 64 ∧ v BAT.LOOP_Q_CREDIT.CREDITS 128 ∧ v XLT.IMG_Q_CREDIT.CREDITS 1024 ∧
    v AUD.RING_Q_CREDIT.CREDITS 4 ∧ v RCTL.RX_Q_CREDIT.CREDITS 512) ∧
  (v BAT.BAT_POOL.FREE_ENTRIES 4096 ∧ v BAT.BAT_POOL.FREE_IDS 64 ∧ v BAT.BAT_CFG.RESERVE 1024 ∧
    v BAT.BAT_CFG.OPEN_LIMIT 40000) ∧
  (v ENG.ENG_PTIMEOUT.TIMEOUT 200 ∧ v TSK.TSK_PERIOD.PERIOD 1 ∧ v SES.SES_CFG.IDLE 900 ∧ v SES.SES_CFG.LIFE 24 ∧
    v PAIR.PAIR_CTRL.HOLD 400) ∧
  (v DIO.DIO_STAT.STATE 1 ∧ v AIO.AIO_STAT.STATE 1 ∧ v RTC.RTC_STAT.OSF 1 ∧ v HDR.PAGE_CTRL.ENABLE 1 ∧
    v HDR.PAGE_CTRL.LOCK 0 ∧ v ENG.ENG_STATE.STALL 0 ∧ v SES.SES_STATE.STATE 0) ∧
  State.reset.pending = [] ∧ State.reset.m.tick = 0

/-! ### The commands of MOD_CMD (R59) -/

/-- A session whose command the checks of R59 let pass: FIRE_ENTER makes the command source active, FIRE_RESET and the two
restarts wait for the next boundary in CMD_PEND, and a lamp test starts. -/
def Obligations.ModCommandsTakeEffect : Prop :=
  ∀ (s : State) (n : Fin 64), s.m.mayWrite (.ses n) 0x000048 = true →
    (s.m.modCmdCode (.ses n) 0x01 = 0 → Answers (.modFireEnterCmd (.ses n)) s
      ((((s.m.p HID.CMDPEND 0x01).p HID.FIRECMDREQ (n.val + 1)).p MOD.MOD_FIRE_SRC.CMD 1).p HID.FIREASK 1)) ∧
    (s.m.modCmdCode (.ses n) 0x02 = 0 → Answers (.modFireResetCmd (.ses n)) s
      ((s.m.p HID.CMDPEND 0x02).p HID.FIRECMDREQ (n.val + 1))) ∧
    (s.m.modCmdCode (.ses n) 0x10 = 0 → Answers (.modWarmRestart (.ses n)) s
      ((s.m.p HID.CMDPEND 0x10).p HID.FIRECMDREQ (n.val + 1))) ∧
    (s.m.modCmdCode (.ses n) 0x11 = 0 → Answers (.modColdRestart (.ses n)) s
      ((s.m.p HID.CMDPEND 0x11).p HID.FIRECMDREQ (n.val + 1))) ∧
    (s.m.modCmdCode (.ses n) 0x20 = 0 → Answers (.modLampTest (.ses n)) s (s.m.p HID.LAMPTEST 1))

/-! ### The Naltin instruction word (R74 to R76) -/

/-- Decoding the word of a well-formed instruction gives the instruction: every operation of R76, every operand form and
every value of every field of R74. -/
def Obligations.NaltinDecodeOfEncode : Prop := ∀ i : NIns, i.wf = true → nalDecode i.encode = some i

/-- A word that decodes is the word of what it decodes to, which is well-formed: no word with a bit set that its form
requires to be zero decodes (R75). -/
def Obligations.NaltinEncodeOfDecode : Prop :=
  ∀ (w : Nat) (i : NIns), w < 2 ^ 32 → nalDecode w = some i → i.wf = true ∧ i.encode = w

/-- Words written out from the form table of R74 and the opcode table of R76. -/
def Obligations.NaltinWords : Prop :=
  nalDecode 0x00000000 = some ⟨.nop, .none⟩ ∧ nalDecode 0x02000000 = some ⟨.endS, .none⟩ ∧
  nalDecode 0x04000123 = some ⟨.jmp, .tgt 0x123⟩ ∧ nalDecode 0x12C00040 = some ⟨.djnz, .xtgt 3 0x40⟩ ∧
  nalDecode 0x20400007 = some ⟨.ldb, .dir 1 7⟩ ∧ nalDecode 0x60F80002 = some ⟨.ldw, .ind 3 3 2⟩ ∧
  nalDecode 0x623FFFFF = some ⟨.ldi, .imm 0x3FFFFF⟩ ∧ nalDecode 0x640003FF = some ⟨.ldih, .imm10 0x3FF⟩ ∧
  nalDecode 0x7800001F = some ⟨.shl, .cnt 31⟩ ∧ nalDecode 0xA0800005 = some ⟨.ldxi, .ximm 2 5⟩ ∧
  nalDecode 0xA4400000 = some ⟨.tax, .xreg 1⟩ ∧ nalDecode 0x00000001 = none ∧ nalDecode 0x1E000000 = none

/-! ### The Naltin instructions -/

/-- NOP and what acts on LB, ACC or the flags alone (R64, R76, R79, R80). The instructions with an immediate, a shift
count or an index register (R74, R76, R79). -/
def Obligations.RegisterFormsComplete : Prop :=
  (RegLaw .nNop .nop (fun c => c) ∧
   RegLaw .nLevt .levt (fun c => c.setAcc (BitVec.ofNat 32 c.ev)) ∧
   RegLaw .nLdtk .ldtk (fun c => c.setAcc (BitVec.ofNat 32 c.rel)) ∧
   RegLaw .nLdst .ldst (fun c => { c with acc := BitVec.ofNat 32 c.status }) ∧
   RegLaw .nClst .clst (fun c => { c with vs := false, dz := false, pf := false }) ∧
   RegLaw .nNot .notB (fun c => { c with lb := !c.lb }) ∧
   RegLaw .nSet1 .set1 (fun c => { c with lb := true }) ∧
   RegLaw .nClr1 .clr1 (fun c => { c with lb := false }) ∧
   RegLaw .nNeg .neg (fun c => c.negW)) ∧
  (ArgLaw .nLdi .ldi 1 NArg.imm (fun v c => c.setAcc (sext22 v.val)) ∧
   ArgLaw .nAddi .addi 1 NArg.imm (fun v c => c.addW (sext22 v.val)) ∧
   ArgLaw .nLdih .ldih 1 NArg.imm10 (fun v c => c.setAcc ((c.acc &&& 0x3FFFFF#32) ||| (BitVec.ofNat 32 v.val <<< 22))) ∧
   ArgLaw .nShl .shl 1 NArg.cnt (fun n c => c.shlW n.val) ∧
   ArgLaw .nShr .shr 1 NArg.cnt (fun n c => c.shrW n.val) ∧
   ArgLaw .nSar .sar 1 NArg.cnt (fun n c => c.sarW n.val) ∧
   ArgLaw .nLdxi .ldxi 1 (fun x : Fin 4 × Fin 4194304 => NArg.ximm x.1 x.2) (fun x c => c.setX x.1 (sext22 x.2.val)) ∧
   ArgLaw .nAddxi .addxi 1 (fun x : Fin 4 × Fin 4194304 => NArg.ximm x.1 x.2)
     (fun x c => c.setX x.1 (c.x x.1 + sext22 x.2.val)) ∧
   ArgLaw .nTax .tax 1 NArg.xreg (fun n c => c.setX n c.acc) ∧
   ArgLaw .nTxa .txa 1 NArg.xreg (fun n c => c.setAcc (c.x n)))

/-- The bit instructions that read an operand (R76), of every area, the P area included. The word instructions that read
an operand (R76, R79), of every area. The late-flag instructions (R73), on a word of the I area within its window. -/
def Obligations.OperandReadsComplete : Prop :=
  (BitLaw .nLdb .ldb (fun _ b => b) ∧ BitLaw .nLdbn .ldbn (fun _ b => !b) ∧
   BitLaw .nAndb .andb (fun lb b => lb && b) ∧ BitLaw .nAndbn .andbn (fun lb b => lb && !b) ∧
   BitLaw .nOrb .orb (fun lb b => lb || b) ∧ BitLaw .nOrbn .orbn (fun lb b => lb || !b) ∧
   BitLaw .nXorb .xorb (fun lb b => lb != b)) ∧
  (WordLaw .nLdw .ldw 1 (fun c w => c.setAcc w) ∧
   WordLaw .nAdd .add 1 (fun c w => c.addW w) ∧ WordLaw .nSub .sub 1 (fun c w => c.subW w) ∧
   WordLaw .nMul .mul 3 (fun c w => c.mulW w) ∧ WordLaw .nDiv .div 18 (fun c w => c.divW w) ∧
   WordLaw .nAndw .andw 1 (fun c w => c.setAcc (c.acc &&& w)) ∧
   WordLaw .nOrw .orw 1 (fun c w => c.setAcc (c.acc ||| w)) ∧
   WordLaw .nXorw .xorw 1 (fun c w => c.setAcc (c.acc ^^^ w)) ∧
   WordLaw .nCmpeq .cmpeq 1 (fun c w => { c with lb := c.acc == w }) ∧
   WordLaw .nCmpne .cmpne 1 (fun c w => { c with lb := c.acc != w }) ∧
   WordLaw .nCmplt .cmplt 1 (fun c w => { c with lb := decide (c.acc.toInt < w.toInt) }) ∧
   WordLaw .nCmple .cmple 1 (fun c w => { c with lb := decide (c.acc.toInt ≤ w.toInt) }) ∧
   WordLaw .nCmpgt .cmpgt 1 (fun c w => { c with lb := decide (c.acc.toInt > w.toInt) }) ∧
   WordLaw .nCmpge .cmpge 1 (fun c w => { c with lb := decide (c.acc.toInt ≥ w.toInt) })) ∧
  (∀ (s : State) (e : Fin 16) (ecc : Ecc) (j : Fin 8) (c0 : Scan) (a : NArg),
     (s.m.issues e j c0 ⟨.ldl, a⟩ = true → spares ecc ⟨.ldl, a⟩ = true →
       let r := s.m.runOf e ecc j c0 ⟨.ldl, a⟩
       r.ea < r.opWin.cap .word → Completes (.nLdl e ecc) s e j
         (({ r.c with lb := r.s.lateFlag e.val r.opWin r.ea } : Scan).after r.c.succ 1) s.m.bench) ∧
     (s.m.issues e j c0 ⟨.andl, a⟩ = true → spares ecc ⟨.andl, a⟩ = true →
       let r := s.m.runOf e ecc j c0 ⟨.andl, a⟩
       r.ea < r.opWin.cap .word → Completes (.nAndl e ecc) s e j
         (({ r.c with lb := r.c.lb && r.s.lateFlag e.val r.opWin r.ea } : Scan).after r.c.succ 1) s.m.bench) ∧
     (s.m.issues e j c0 ⟨.orl, a⟩ = true → spares ecc ⟨.orl, a⟩ = true →
       let r := s.m.runOf e ecc j c0 ⟨.orl, a⟩
       r.ea < r.opWin.cap .word → Completes (.nOrl e ecc) s e j
         (({ r.c with lb := r.c.lb || r.s.lateFlag e.val r.opWin r.ea } : Scan).after r.c.succ 1) s.m.bench))

/-- Jumps, CALL, RET and DJNZ (R76, R78). The branch stack (R77): PUSHB saves LB, a combining instruction pops the saved
bit and combines it with LB. -/
def Obligations.ControlAndStackInstructionsComplete : Prop :=
  (JumpLaw .nJmp .jmp (fun _ => true) ∧ JumpLaw .nJb1 .jb1 (fun c => c.lb) ∧ JumpLaw .nJb0 .jb0 (fun c => !c.lb) ∧
   JumpLaw .nJz .jz (fun c => c.acc == 0) ∧ JumpLaw .nJnz .jnz (fun c => c.acc != 0) ∧
   ∀ (s : State) (e : Fin 16) (ecc : Ecc) (j : Fin 8) (c0 : Scan), ecc ≠ .uncorrectable →
     (∀ (n : Fin 4) (t : Fin 16384), s.m.issues e j c0 ⟨.djnz, .xtgt n t⟩ = true →
       let c := (s.m.waitOver e.val c0).2
       let x := c.x n - 1
       Completes (.nDjnz e ecc) s e j (if x ≠ 0 then (c.setX n x).after t.val 2 else (c.setX n x).after c.succ 1) s.m.bench) ∧
     (∀ (t : Fin 16384), s.m.issues e j c0 ⟨.call, .tgt t⟩ = true →
       let c := (s.m.waitOver e.val c0).2
       c.cstk.length < 16 → Completes (.nCall e ecc) s e j (({ c with cstk := c.succ :: c.cstk } : Scan).after t.val 2) s.m.bench) ∧
     (∀ (t : Nat) (l : List Nat), s.m.issues e j c0 ⟨.ret, .none⟩ = true →
       let c := (s.m.waitOver e.val c0).2
       c.cstk = t :: l → Completes (.nRet e ecc) s e j (({ c with cstk := l } : Scan).after t 2) s.m.bench)) ∧
  (∀ (s : State) (e : Fin 16) (ecc : Ecc) (j : Fin 8) (c0 : Scan) (p : Bool) (l : List Bool), ecc ≠ .uncorrectable →
     let c := (s.m.waitOver e.val c0).2
     (s.m.issues e j c0 ⟨.pushb, .none⟩ = true → c.bstk.length < 32 →
       Completes (.nPushb e ecc) s e j (({ c with bstk := c.lb :: c.bstk } : Scan).after c.succ 1) s.m.bench) ∧
     (s.m.issues e j c0 ⟨.ands, .none⟩ = true → c.bstk = p :: l →
       Completes (.nAnds e ecc) s e j (({ c with lb := p && c.lb, bstk := l } : Scan).after c.succ 1) s.m.bench) ∧
     (s.m.issues e j c0 ⟨.andns, .none⟩ = true → c.bstk = p :: l →
       Completes (.nAndns e ecc) s e j (({ c with lb := p && !c.lb, bstk := l } : Scan).after c.succ 1) s.m.bench) ∧
     (s.m.issues e j c0 ⟨.ors, .none⟩ = true → c.bstk = p :: l →
       Completes (.nOrs e ecc) s e j (({ c with lb := p || c.lb, bstk := l } : Scan).after c.succ 1) s.m.bench) ∧
     (s.m.issues e j c0 ⟨.xors, .none⟩ = true → c.bstk = p :: l →
       Completes (.nXors e ecc) s e j (({ c with lb := p != c.lb, bstk := l } : Scan).after c.succ 1) s.m.bench))

/-- CALL on a full call stack and RET on an empty one are program faults with codes CALL_OVER and CALL_UNDER; otherwise
both leave LB, ACC, X0 to X3 and the branch stack as they were. -/
def Obligations.CallAndRetOnTheCallStack : Prop :=
  ∀ (s : State) (e : Fin 16) (ecc : Ecc) (j : Fin 8) (c0 : Scan), ecc ≠ .uncorrectable →
    let c := (s.m.waitOver e.val c0).2
    let keeps (t : State) : Prop := ∃ d, t.m.scan e.val j.val = some d ∧ d.lb = c.lb ∧ d.acc = c.acc ∧ d.x0 = c.x0 ∧
      d.x1 = c.x1 ∧ d.x2 = c.x2 ∧ d.x3 = c.x3 ∧ d.bstk = c.bstk
    (∀ (t : Fin 16384), s.m.issues e j c0 ⟨.call, .tgt t⟩ = true →
      (c.cstk.length = 16 → FaultsWith (.nCall e ecc) s e ecc j c0 ⟨.call, .tgt t⟩ 7 0 0) ∧
      (c.cstk.length < 16 → ∃ u, exec (.nCall e ecc) s = .next u ∧ keeps u)) ∧
    (s.m.issues e j c0 ⟨.ret, .none⟩ = true →
      (c.cstk.length = 0 → FaultsWith (.nRet e ecc) s e ecc j c0 ⟨.ret, .none⟩ 8 0 0) ∧
      (c.cstk.length ≠ 0 → ∃ u, exec (.nRet e ecc) s = .next u ∧ keeps u))

/-- PUSHB on 32 saved bits, a combining instruction on none and END on any are program faults with codes STACK_OVER,
STACK_UNDER and STACK_LEFT. The scan that the fault takes is the scan as it stood: the instruction has had no effect. -/
def Obligations.BranchStackFaults : Prop :=
  ∀ (s : State) (e : Fin 16) (ecc : Ecc) (j : Fin 8) (c0 : Scan), ecc ≠ .uncorrectable →
    let c := (s.m.waitOver e.val c0).2
    (s.m.issues e j c0 ⟨.pushb, .none⟩ = true → c.bstk.length = 32 →
      FaultsWith (.nPushb e ecc) s e ecc j c0 ⟨.pushb, .none⟩ 4 0 0) ∧
    (s.m.issues e j c0 ⟨.ands, .none⟩ = true → c.bstk.length = 0 →
      FaultsWith (.nAnds e ecc) s e ecc j c0 ⟨.ands, .none⟩ 5 0 0) ∧
    (s.m.issues e j c0 ⟨.andns, .none⟩ = true → c.bstk.length = 0 →
      FaultsWith (.nAndns e ecc) s e ecc j c0 ⟨.andns, .none⟩ 5 0 0) ∧
    (s.m.issues e j c0 ⟨.ors, .none⟩ = true → c.bstk.length = 0 →
      FaultsWith (.nOrs e ecc) s e ecc j c0 ⟨.ors, .none⟩ 5 0 0) ∧
    (s.m.issues e j c0 ⟨.xors, .none⟩ = true → c.bstk.length = 0 →
      FaultsWith (.nXors e ecc) s e ecc j c0 ⟨.xors, .none⟩ 5 0 0) ∧
    (s.m.issues e j c0 ⟨.endS, .none⟩ = true → c.bstk.length ≠ 0 →
      FaultsWith (.nEnd e ecc) s e ecc j c0 ⟨.endS, .none⟩ 6 0 0)

/-- Stores to a window of a journalled area (R73, R76, R92): STB, SETB, RSTB and STW, and the edge instructions (R82,
R84). Stores to the P area (R88, R90, R93). SHIFTA (R81) with X3 of 1 to 256 words within the window: words a to a + N − 2
move up by one and ACC goes to word a, in N + 2 cycles and those of the journal copies. -/
def Obligations.StoresComplete : Prop :=
  (BitStoreLaw .nStb .stb (fun lb => some lb) ∧
   BitStoreLaw .nSetb .setb (fun lb => if lb then some true else none) ∧
   BitStoreLaw .nRstb .rstb (fun lb => if lb then some false else none) ∧
   EdgeLaw .nEdgr .edgr (fun old lb => lb && !old) ∧ EdgeLaw .nEdgf .edgf (fun old lb => !lb && old) ∧
   ∀ (s : State) (e : Fin 16) (ecc : Ecc) (j : Fin 8) (c0 : Scan) (a : NArg),
     s.m.issues e j c0 ⟨.stw, a⟩ = true → spares ecc ⟨.stw, a⟩ = true → a.area ≠ 7 →
     let r := s.m.runOf e ecc j c0 ⟨.stw, a⟩
     r.ea < r.opWin.cap (r.unit false) →
     let y := r.s.journalWrites e.val r.opWin r.area [(r.ea, r.c.acc.toNat)]
     Completes (.nStw e ecc) s e j (r.c.after r.c.succ (y.2 + 1)) y.1.bench) ∧
  (PWriteLaw .nStb .stb true (fun c => some (b2n c.lb)) ∧
   PWriteLaw .nSetb .setb true (fun c => if c.lb then some 1 else none) ∧
   PWriteLaw .nRstb .rstb true (fun c => if c.lb then some 0 else none) ∧
   PWriteLaw .nStw .stw false (fun c => some c.acc.toNat)) ∧
  (∀ (s : State) (e : Fin 16) (ecc : Ecc) (j : Fin 8) (c0 : Scan) (a : NArg),
     s.m.issues e j c0 ⟨.shifta, a⟩ = true → spares ecc ⟨.shifta, a⟩ = true →
     let r := s.m.runOf e ecc j c0 ⟨.shifta, a⟩
     let n := r.c.x3.toNat
     1 ≤ n → n ≤ 256 → r.ea + n - 1 < r.opWin.cap .word →
     let y := r.s.journalWrites e.val r.opWin r.area
       ((((List.range (n - 1)).map fun i => (r.ea + i + 1, r.word (r.ea + i))).reverse) ++ [(r.ea, r.c.acc.toNat)])
     Completes (.nShifta e ecc) s e j (r.c.after r.c.succ (n + 2 + y.2)) y.1.bench)

/-- The timers (R85, R86) on an entry within the T window. The counters (R76, R87) on an entry within the C window. -/
def Obligations.TimersAndCountersComplete : Prop :=
  (let law (mk : Fin 16 → Ecc → Instr) (op : NOp) (k : TKind) : Prop :=
     let next (c : Scan) (w0 w1 : Nat) : TEnt := { TEnt.ofWords w0 w1 with preset := (timerPreset c.acc).1 }.exec k c.rel c.lb
     EntryLaw mk op 3 (fun c w0 w1 => ({ c with lb := (next c w0 w1).q } : Scan).setV (timerPreset c.acc).2)
       (fun c w0 w1 => some ((next c w0 w1).base, (next c w0 w1).word1))
   law .nTon .ton .ton ∧ law .nTof .tof .tof ∧ law .nTp .tp .tp ∧ law .nTonr .tonr .tonr ∧
   EntryLaw .nTrst .trst 2 (fun c _ _ => c)
     (fun c w0 w1 => if c.lb then some (0, (TEnt.ofWords w0 w1).rst.word1) else none) ∧
   EntryLaw .nLdt .ldt 1 (fun c w0 w1 => c.setAcc (BitVec.ofNat 32 ((TEnt.ofWords w0 w1).load c.rel))) (fun _ _ _ => none)) ∧
  (let law (mk : Fin 16 → Ecc → Instr) (op : NOp) (up : Bool) : Prop :=
     EntryLaw mk op 2
       (fun c w0 w1 => ({ c with lb := (counterStep up c.acc c.lb w0 w1).2.2.1 } : Scan).setV (counterStep up c.acc c.lb w0 w1).2.2.2)
       (fun c w0 w1 => some ((counterStep up c.acc c.lb w0 w1).1, (counterStep up c.acc c.lb w0 w1).2.1))
   law .nCtu .ctu true ∧ law .nCtd .ctd false ∧
   EntryLaw .nCts .cts 2 (fun c _ _ => c) (fun c _ w1 => if c.lb then some (c.acc.toNat, w1) else none) ∧
   EntryLaw .nCrst .crst 2 (fun c _ _ => c) (fun c _ w1 => if c.lb then some (0, w1) else none) ∧
   EntryLaw .nLdc .ldc 1 (fun c w0 _ => c.setAcc (BitVec.ofNat 32 w0)) (fun _ _ _ => none))

/-- A word that is no instruction (no operation of the table with a field layout of its form and zeros elsewhere makes it)
is a program fault with code ILLEGAL and is not executed; an instruction whose AREA its opcode does not list is one with
code AREA. A double error found in an instruction's word is one with code ECC, and so is one in the word that an operand
reads, at that operand's address (R66, R95). -/
def Obligations.IllegalWordsFault : Prop :=
  (∀ w < 2 ^ 32, nalDecode w = none ↔ ∀ i : NIns, i.wf = true → i.encode ≠ w) ∧
  ∀ (s : State) (e : Fin 16) (ecc : Ecc) (j : Fin 8) (c0 : Scan), ecc ≠ .uncorrectable →
    s.m.running e = some (j, c0) → s.m.mayIssue e.val c0 = true →
    (s.m.waitOver e.val c0).1.inCode e.val j.val (s.m.waitOver e.val c0).2 = true →
    let b := (s.m.waitOver e.val c0).1
    let c := (s.m.waitOver e.val c0).2
    let w := b.progWord e.val c.bank c.pc
    (nalDecode w = none →
      Answers (.illegalOpcode e ecc) s ((b.eccNote e.val ecc).faulted e.val j.val c 1 w 0 0)) ∧
    (∀ i, nalDecode w = some i → i.areaOk = false →
      FaultsWith (naltinCommand i.op e ecc) s e ecc j c0 i 2 ((s.m.runOf e ecc j c0 i).ea % 2 ^ 21) i.arg.area) ∧
    (∀ i, nalDecode w = some i →
      FaultsWith (naltinCommand i.op e .uncorrectable) s e .uncorrectable j c0 i 0xC 0 0) ∧
    (∀ i, nalDecode w = some i → i.areaOk = true → spares .operand i = false → i.op = .ldw ∨ i.op = .add ∨ i.op = .cmpeq →
      let r := s.m.runOf e .operand j c0 i
      r.area ≤ 4 → r.ea < r.opWin.cap (r.unit false) →
      FaultsWith (naltinCommand i.op e .operand) s e .operand j c0 i 0xC (r.ea % 2 ^ 21) i.arg.area)

/-- The end of a scan (R93, R94): committed while the engine has a credit, with its output batch at the end of the engine's
queue and the slot free for its next release; lost, with nothing pushed, when it has overrun. Either way what the image
map sends to other modules leaves only with a scan that commits. -/
def Obligations.EndCompletes : Prop :=
  ∀ (s : State) (e : Fin 16) (ecc : Ecc) (j : Fin 8) (c0 : Scan),
    s.m.issues e j c0 ⟨.endS, .none⟩ = true → ecc ≠ .uncorrectable →
    let r := s.m.runOf e ecc j c0 ⟨.endS, .none⟩
    r.c.bstk = [] →
    (r.s.overran e.val j.val = false → r.s.rd ENG.ENG_BQ_CREDIT.CREDITS e.val 0 ≠ 0 →
      Answers (.nEnd e ecc) s (r.finish false) ∧
      ∃ t, exec (.nEnd e ecc) s = .next t ∧ t.pending = s.pending ∧ t.m.scan e.val j.val = none ∧
        t.m.engQueue e.val = s.m.engQueue e.val ++ [r.s.slotEnt' e.val j.val r.c none]) ∧
    (r.s.overran e.val j.val = true → Answers (.nEnd e ecc) s (r.finish true) ∧
      ∃ t, exec (.nEnd e ecc) s = .next t ∧ t.pending = s.pending ∧ t.m.scan e.val j.val = none ∧
        t.m.engQueue e.val = s.m.engQueue e.val)

/-! ### The module as a whole -/

/-- The header registers (R38, R40, R41, R45, R48) on a page of the map: BATCH_TAG takes the ID and VALID of a batch of
the requester's own, ERR_CODE.CLEAR clears the error record, and LOCK locks a page. -/
def Obligations.HeaderCommandsTakeEffect : Prop :=
  ∀ (s : State) (r : Req) (q : Nat) (page : Fin 256), reqHeld r = some q → (pageKind page.val).isNone = false →
    s.m.mayWrite r (page.val * 4096 + 0x020) = true →
    (∀ w : Word, (w.toNat.testBit 8 = true → (s.m.batches.find (w.toNat % 64)).any (fun b => decide (b.opener = r)) = true) →
      Answers (.batchTagWrite r page w) s (((s.m.wr HDR.BATCH_TAG.ID 0 q (w.toNat % 64)).wr HDR.BATCH_TAG.VALID 0 q
        (bitN w.toNat 8)).wr HDR.BATCH_TAG.ENDED 0 q 0)) ∧
    Answers (.errClear r page) s (((((((s.m.wr HDR.ERR_CODE.CODE page.val 0 0).wr HDR.ERR_CODE.REQ page.val 0 0).wr
      HDR.ERR_CODE.TIN page.val 0 0).wr HDR.ERR_CODE.COUNT page.val 0 0).wr HDR.ERR_ADDR.OFFSET page.val 0 0).wr
      HDR.ERR_ADDR.BATCH page.val 0 0).wr HDR.ERR_ADDR.BATCH_VALID page.val 0 0) ∧
    (s.m.on HDR.PAGE_CTRL.LOCK page.val 0 = false → s.m.preparedOn page.val = false →
      s.m.rd HDR.PAGE_CTRL.ENABLE page.val 0 ≤ 1 →
      Answers (.pageLock r page) s ((s.m.wr HDR.PAGE_CTRL.LOCK page.val 0 1).fire EV.MOD.PAGE_LOCKED))

/-- A BATCH_TAG write with VALID=1 whose ID names no batch opened by the requester is refused with code 0x08 on the page
written, and the tag is not changed. -/
def Obligations.ForeignBatchTagRefused : Prop :=
  ∀ (s : State) (r : Req) (q : Nat) (page : Fin 256) (w : Word), reqHeld r = some q →
    (pageKind page.val).isNone = false → s.m.mayWrite r (page.val * 4096 + 0x020) = true → w.toNat.testBit 8 = true →
    (s.m.batches.find (w.toNat % 64)).any (fun b => decide (b.opener = r)) = false →
    ∃ t, exec (.batchTagWrite r page w) s = .next t ∧ t.m = s.m.refuse page.val 0x08 r (page.val * 4096 + 0x020) ∧
      t.m.rd HDR.BATCH_TAG.ID 0 q = s.m.rd HDR.BATCH_TAG.ID 0 q ∧
      t.m.rd HDR.BATCH_TAG.VALID 0 q = s.m.rd HDR.BATCH_TAG.VALID 0 q

/-- Fire inputs, lamps, the seal point, the event router and the recorder's deliveries (R30, R54 to R60, R121, R155,
R410), while the supervisor island runs. -/
def Obligations.ModuleEventsTakeEffect : Prop :=
  ∀ s : State, s.m.supRuns = true →
    (∀ i : Fin 8, s.m.fireInOn i.val = true → Answers (.fireInputAssert i) s
      ((s.m.p MOD.MOD_FIRE_SRC.LOCAL (setBit (s.m.g MOD.MOD_FIRE_SRC.LOCAL) i.val)).p HID.FIREASK 1)) ∧
    Answers .lampTestEnd s (s.m.p HID.LAMPTEST 0) ∧
    (∀ l : List (Fin 128), s.m.sealed = false → Answers (.sealPoint l) s
      (({ s.m.sealAll (s.m.tick + 1) (l.map fun q => q.val) s.m.batches with sealed := true } : Block).mirrorSealed s.m)) ∧
    (∀ n, s.m.roundLeft ≠ [] → s.m.roundFirst s.m.roundLeft = some n →
      Answers .routerServe s (s.m.serveSrc n).roundEnd) ∧
    (∀ n, s.m.roundLeft = [] → s.m.roundStart.roundFirst s.m.roundStart.roundLeft = some n →
      Answers .routerServe s (s.m.roundStart.serveSrc n).roundEnd) ∧
    (∀ e : Fin 16, s.m.islandUp (1 + e.val) = true → Answers (.eventDeliveryLand e) s
      (({ s.m with deliv := s.m.deliv.filter fun d => d.e != e.val } : Block).landAll
        (s.m.deliv.filter fun d => d.e == e.val))) ∧
    (∀ src n l, s.m.recQ = (src, n) :: l → s.m.recSnaps src = [] →
      Answers .recorderDelivery s (({ s.m with recQ := l } : Block).recDeliver src n [] 0))

/-- Credits return (R10, R11): the counter of a queue below its depth rises by one; an engine that stalled for that credit
no longer stalls, and an entry that waits in the loop engine takes the credit at once (R203). With a credit of the receive
queue the MAC releases the next frame it holds, but while translation waits for the image builder none returns; the image
builder takes the oldest point record. The controller takes the oldest entry of a queue while one entry is free (R147,
R157). -/
def Obligations.CreditsMove : Prop :=
  ∀ s : State, s.m.supRuns = true →
    (∀ e : Fin 16, let c := s.m.rd ENG.ENG_BQ_CREDIT.CREDITS e.val 0
      c + (s.m.engQueue e.val).length < 64 → (s.m.rd ENG.ENG_STATE.STALL e.val 0 ≠ 3 →
        Answers (.creditReturn (.eng e)) s (s.m.wr ENG.ENG_BQ_CREDIT.CREDITS e.val 0 (c + 1))) ∧
      (s.m.rd ENG.ENG_STATE.STALL e.val 0 = 3 → Answers (.creditReturn (.eng e)) s
        ((s.m.wr ENG.ENG_BQ_CREDIT.CREDITS e.val 0 (c + 1)).wr ENG.ENG_STATE.STALL e.val 0 0))) ∧
    (s.m.g BAT.LOOP_Q_CREDIT.CREDITS + s.m.loopQ.length < 128 →
      (s.m.loopWait = [] → Answers (.creditReturn .loop) s
        (s.m.p BAT.LOOP_Q_CREDIT.CREDITS (s.m.g BAT.LOOP_Q_CREDIT.CREDITS + 1))) ∧
      (∀ q l, s.m.loopWait = q :: l → Answers (.creditReturn .loop) s { s.m with loopWait := l, loopQ := s.m.loopQ ++ [q] })) ∧
    (let s1 := s.m.p RCTL.RX_Q_CREDIT.CREDITS (s.m.g RCTL.RX_Q_CREDIT.CREDITS + 1)
     (s.m.imgWait ≠ [] → Answers (.creditReturn .rx) s s.m) ∧
     (s.m.imgWait = [] → s.m.g RCTL.RX_Q_CREDIT.CREDITS < 512 →
       (s1.rxNext = none → Answers (.creditReturn .rx) s s1) ∧
       (∀ x, s1.rxNext = some x → Answers (.creditReturn .rx) s ((s1.rxTake x).xlateTake x)))) ∧
    (∀ x l, s.m.imgQ = x :: l → s.m.imgWait = [] → Answers (.creditReturn .img) s
      ((({ s.m with imgQ := l } : Block).remoteArrives x.addr x.tick x.val).p XLT.IMG_Q_CREDIT.CREDITS
        (min 1024 (s.m.g XLT.IMG_Q_CREDIT.CREDITS + 1)))) ∧
    (∀ x : Fin 16, s.m.rd AUD.RING_Q_CREDIT.CREDITS 0 x.val < 4 → Answers (.creditReturn (.tx x)) s
      (s.m.wr AUD.RING_Q_CREDIT.CREDITS 0 x.val (s.m.rd AUD.RING_Q_CREDIT.CREDITS 0 x.val + 1))) ∧
    (s.m.fixedFree = true →
      (∀ (e : Fin 16) q l, s.m.engQueue e.val = q :: l → Answers (.batchEntryAccept (some e)) s
        (({ s.m with engQ := s.m.engQ.put e.val l } : Block).acceptEnt q)) ∧
      (∀ q l, s.m.loopQ = q :: l → Answers (.batchEntryAccept none) s (({ s.m with loopQ := l } : Block).acceptEnt q)))

/-- A tick boundary (R9, R17, R20, R427, R432, R439), by what runs. With the time island and the supervisor the tick number
advances and the work of R20 is done in its order: a generation that nobody uses is dropped, the commits of step 1, the
state that follows them, the latches of step 2, the releases, captures and loops of steps 3 to 5, and what is sent. Without
the supervisor the grid goes on with the lease fence, the slices' watchdogs and audio; in HALT the RTC, the slices and audio
go on alone; without the time island too; without power only the RTC counts. -/
def Obligations.TickBoundaryWorksTheTick : Prop :=
  ∀ (s : State) (t : TickIn),
    let n := s.m.tick + 1
    let m := s.m.metTime
    let clocks := (m.rtcTick t).wdogCount Block.slices
    (s.m.g HID.PWRST = 0 → s.m.islandUp 32 = true →
      (s.m.supRuns = true → Answers (.tickBoundary t) s
        (let a := ((clocks.tickOpen t).holdOldClear.tickCommit n t).tickState n
         let b := ((a.tickLatch n).tickRun n t).tickSend n
         ((b.supplies t.vinA t.vinB t.fs1 t.fs2 t.fs3 t.power).measureAll t.meas).noteFault)) ∧
      (s.m.supRuns = false →
        let a := ({ clocks.wdogSlices Block.slices with tick := n, sealed := false, sent := [], wire := [] } : Block).leaseFence t.lc
        Answers (.tickBoundary t) s (if a.islandUp 28 then a.audStep n false else a))) ∧
    (s.m.g HID.PWRST = 0 → s.m.islandUp 32 = false →
      let a := clocks.wdogSlices Block.slices
      Answers (.tickBoundary t) s (if a.islandUp 28 then a.audioOwnBlock else a)) ∧
    (s.m.g HID.PWRST = 1 →
      let a := (clocks.wdogSlices Block.slices).haltDrive t.lc
      Answers (.tickBoundary t) s (if a.islandUp 28 then a.audioOwnBlock else a)) ∧
    (2 ≤ s.m.g HID.PWRST → s.m.islandUp 33 = true → Answers (.tickBoundary t) s (m.rtcPass t.edges)) ∧
    (2 ≤ s.m.g HID.PWRST → s.m.islandUp 33 = false → Answers (.tickBoundary t) s m)

/-- A register access of a width and an alignment that R36 allows: a write of RWS fields without a tag is staged in a batch
that the module opens for it, and commits at the next boundary whose seal point has not passed (R1, R41, R42); an event
enable or clear acts at once (R38, R52); any other form is refused with the code of its width or alignment. A read of a low
half gives its value and keeps the high half of the same moment (R37). -/
def Obligations.RegisterAccessesComplete : Prop :=
  ∀ (s : State) (r : Req) (off : Fin 16777216) (size : Nat) (w : Word),
    (∀ (q id : Nat) (x : Target × Nat), reqHeld r = some q → Block.widthCode off.val size = 0 →
      s.m.stagesAt r off.val w.toNat = true → (pageKind (off.val / 4096)).isNone = false → 0x040 ≤ off.val % 4096 →
      (regAt off.val).2.isEmpty = false → allRo (regAt off.val).2 = false → hasAcc (regAt off.val).2 .rws = true →
      s.m.cmdWrite r off.val w.toNat = none → s.m.stageList r off.val (s.m.selAt r off.val) w.toNat = [x] →
      let a := s.m.wr HID.HELDHV off.val (holdKey r) 0
      let b := { a.newBatch r false true false with
        st := .requested, ctick := a.nextCommitTick, entries := [⟨x.1, x.2, r, 0, none⟩] }
      a.tagNow r = none → a.own HDR.BATCH_TAG.ENDED 0 r ≠ 1 → a.singleCode b = 0 → a.lowestId = some id →
      ∃ t, exec (.registerWrite r off size w) s = .next t ∧ t.pending = s.pending ∧ t.m.batches.find id = some b) ∧
    (∀ page : Fin 256, (pageKind page.val).isNone = false → s.m.mayWrite r (page.val * 4096 + 0x014) = true →
      off.val = page.val * 4096 + 0x014 → Answers (.registerWrite r off 4 w) s (s.m.evEnable page.val w.toNat)) ∧
    (∀ page : Fin 256, (pageKind page.val).isNone = false → s.m.mayWrite r (page.val * 4096 + 0x01C) = true →
      off.val = page.val * 4096 + 0x01C → Answers (.registerWrite r off 4 w) s (s.m.evClear page.val w.toNat)) ∧
    (s.m.live r = true → Block.widthCode off.val size = 0 →
      Answers (.registerWrite r off size w) s (s.m.regWrite r off.val w.toNat).1) ∧
    (s.m.live r = true → Block.widthCode off.val size ≠ 0 → hasAcc (regAt (off.val / 4 * 4)).2 .rws = false →
      Answers (.registerWrite r off size w) s
        (s.m.refuse (off.val / 4096) (Block.widthCode off.val size) r off.val)) ∧
    (s.m.live r = true → isLow off.val = true → s.m.selOk r .read off.val = true →
      let a := if off.val = 0x05C058 then s.m.capPop (s.m.own CAP.CAP_SEL.CH 0 r) else s.m
      Answers (.halfLowRead r off) s
        (((a.wr HID.SNAPH off.val (holdKey r) (a.regVal r (off.val + 4))).wr HID.SNAPHV off.val (holdKey r) 1).wr
          HID.RDATA 0 (holdKey r) (s.m.regVal r off.val)))

/-! ### Engines and tasks -/

/-- Task events (R63, R97, R99, R102, R115, R118, R133, R134, R141): a slow capture ends, a watchdog aborts an overrunning
scan, a snapshot of retained content has been read and its store is requested, the CRC of a closed bank is shown, and an
idle engine takes the first of the scans that wait. The end of a stall (R91, R96, R178): the walk that comes next ends
after its cycles and its result stands for the instruction, which issues again; a direct read without an answer in time is
lost, and its cycles are those of ENG_PTIMEOUT. -/
def Obligations.TaskEventsAndStallsTakeEffect : Prop :=
  (∀ (s : State) (e : Fin 16) (j : Fin 8), s.m.supRuns = true →
     (∀ c, s.m.scan e.val j.val = some c → c.ready = false → Answers (.captureDone e j) s
       (((s.m.makeReady e.val j.val).taskAlert TSK.TSK_ALERT.CAP_SLOW e.val j.val).perf 0x091 none 1)) ∧
     (s.m.islandUp (1 + e.val) = true → s.m.overran e.val j.val = true → (s.m.scan e.val j.val).isSome = true →
       s.m.rd HID.WDOGAT e.val j.val ≤ s.m.tick → Answers (.taskWdogExpire e j) s (s.m.abortScan e.val j.val)) ∧
     (s.m.on HID.SNAPREAD 0 0 = true → Answers .kretSnapshot s ((s.m.p HID.SNAPREAD 0).stoRequest 0x30)) ∧
     (∀ b q, s.m.on HID.CRCRUN e.val 0 = true → s.m.freeBank e.val = some b → s.m.prog e.val b = some q →
       let crc := crc32c (s.m.bankBytes e.val b) 65536
       Answers (.progCrcDone e) s (((({ s.m with progs := s.m.progs.put (e.val * 2 + b) { q with crc := crc } } : Block).wr
         ENG.ENG_PROG_CRC.CRC e.val 0 crc).wr HID.CRCRUN e.val 0 0).fire (EV.ENG.CRC_DONE e.val))) ∧
     (∀ k c, s.m.islandUp (1 + e.val) = true → s.m.on HID.EXECUTING e.val 0 = false →
       s.m.bestScan e.val (s.m.waitingScans e.val) = some k → s.m.scan e.val k = some c →
       Answers (.scanStart e) s (s.m.takeScan e.val k c))) ∧
  (∀ (s : State) (e : Fin 16) (j : Fin 8) (c : Scan), s.m.running e = some (j, c) → s.m.engRuns e.val = true →
     (∀ (ecc : Option (Fin 4)) (cyc : Nat) (write : Bool) (r : Run), s.m.rd ENG.ENG_STATE.STALL e.val 0 = 1 →
       s.m.walkFirst = some e.val → s.m.pPending e j c = some (write, r) →
       let r1 := (r.cost 0 5).cost 1 (min cyc 1280)
       let x := r1.s.pWalkFull e j write r.pAddr (s.m.scanGen c) (ecc.map fun n => n.val)
       Answers (.walkComplete e ecc cyc) s
         ((x.1.putScan e.val j.val { r1.c with walked := some x.2 }).wr ENG.ENG_STATE.STALL e.val 0 0).walkNext) ∧
     (s.m.rd ENG.ENG_STATE.STALL e.val 0 = 2 → c.ans = none → c.walked ≠ some .lost →
       let n := 800 * s.m.rd ENG.ENG_PTIMEOUT.TIMEOUT e.val 0
       Answers (.pReadTimeout e) s ((((s.m.dropAsks e.val j.val).cost e.val 2 n).putScan e.val j.val
         { c.spend n with walked := some .lost, wait := 0, stalls := c.stalls ++ [(2, n)] }).wr ENG.ENG_STATE.STALL e.val 0 0)))

/-- Commands of an engine's pages (R95, R99, R100, R120): the program bank opens and closes, a window is set while its
bank is open, records and peaks clear, and a STOPPED slot is asked to resume. -/
def Obligations.EngineCommandsTakeEffect : Prop :=
  ∀ (s : State) (r : Req) (e : Fin 16),
    (s.m.live r = true → s.m.on ENG.ENG_CTRL.PROG_OPEN e.val 0 = false → s.m.on ENG.ENG_CTRL.SWAP e.val 0 = false →
      s.m.on ENG.ENG_STATE.SWAP_PEND e.val 0 = false → Answers (.progOpenSet r e) s
        (((s.m.wr ENG.ENG_CTRL.PROG_OPEN e.val 0 1).wr HID.PROGCOPIED e.val 0 0).wrap HID.PROGNO e.val 0 1)) ∧
    (∀ l : ProgLoad, s.m.live r = true → s.m.on ENG.ENG_CTRL.PROG_OPEN e.val 0 = true →
      Answers (.progOpenClear r e l) s ((s.m.progOpenClear e.val l).stoRequest (0x10 + e.val))) ∧
    (∀ w : Word, s.m.mayWrite r (0x010064 + 0x1000 * e.val) = true →
      s.m.freeBank e.val = some (s.m.own ENG.AREA_SEL.BANK e.val r) → s.m.on ENG.ENG_CTRL.PROG_OPEN e.val 0 = true →
      bits w.toNat 23 12 ≤ 2048 →
      let k := Block.winIdx (s.m.own ENG.AREA_SEL.SLOT e.val r) (s.m.own ENG.AREA_SEL.AREA e.val r) (s.m.own ENG.AREA_SEL.BANK e.val r)
      Answers (.areaWinWrite r e w) s
        ((s.m.wr ENG.AREA_WIN.BASE e.val k (w.toNat % 2048)).wr ENG.AREA_WIN.LINES e.val k (bits w.toNat 23 12))) ∧
    (s.m.mayWrite r (0x010050 + 0x1000 * e.val) = true → Answers (.engFaultClear r e) s
      ((((((((s.m.wr ENG.ENG_FAULT.CODE e.val 0 0).wr ENG.ENG_FAULT.SLOT e.val 0 0).wr ENG.ENG_FAULT.BANK e.val 0 0).wr
        ENG.ENG_FAULT.PC e.val 0 0).wr ENG.ENG_FAULT.VALID e.val 0 0).wr ENG.ENG_FAULT_INSN.INSN e.val 0 0).wr
        ENG.ENG_FAULT_EA.EA e.val 0 0).wr ENG.ENG_FAULT_EA.EA_AREA e.val 0 0)) ∧
    (s.m.mayWrite r (0x01005C + 0x1000 * e.val) = true → Answers (.engPeakClr r e) s
      (s.m.wr ENG.ENG_LOAD.PEAK e.val 0 (s.m.rd ENG.ENG_LOAD.LOAD e.val 0))) ∧
    (s.m.mayWrite r (0x020054 + 0x1000 * e.val) = true → Answers (.tskExecClr r e) s
      (s.m.wr TSK.TSK_EXEC_MAX.EXEC_MAX e.val (s.m.own TSK.SLOT_SEL.SLOT e.val r) 0)) ∧
    (∀ n : Fin 64, r = .ses n → s.m.mayWrite r (0x020054 + 0x1000 * e.val) = true → s.m.holds r .configure = true →
      let j := s.m.own TSK.SLOT_SEL.SLOT e.val r
      (s.m.tinOf r = 0 ∨ s.m.tinOf r = s.m.rd TSK.TSK_CFG.TIN e.val j) → s.m.rd TSK.TSK_STAT.STATE e.val j = 7 →
      Answers (.tskResume r e) s (s.m.wr HID.RESUMEPEND e.val j 1))

/-! ### Batches -/

/-- Staging (R41, R42, R152): an entry that passes every check joins the batch that the requester's tag names; a write
without a tag opens a batch of its own, REQUESTED for the next tick whose seal point has not passed. A failed check dooms
the tagged batch with its code. -/
def Obligations.StagingFillsABatch : Prop :=
  ∀ (s : Block) (r : Req) (t : Target) (v : Nat),
    let e : Entry := { tgt := t, val := v, by_ := r, epoch := 0, addr := none }
    (∀ id b, s.tagNow r = some id → s.batches.find id = some b → s.stageCode id b t = 0 →
      (s.stageFor r [(t, v)] 0 none).2 = 0 ∧
      (s.stageFor r [(t, v)] 0 none).1.batches.find id = some { b with entries := b.entries ++ [e] }) ∧
    (∀ id b, s.tagNow r = some id → s.batches.find id = some b → s.stageCode id b t ≠ 0 →
      b.st = .opened ∨ b.st = .requested →
      (s.stageFor r [(t, v)] 0 none).2 = s.stageCode id b t ∧
      (s.stageFor r [(t, v)] 0 none).1.batches.find id =
        some { b with st := .doomed, code := s.stageCode id b t, peer := 0 }) ∧
    (∀ id, s.tagNow r = none → s.own HDR.BATCH_TAG.ENDED 0 r ≠ 1 → s.lowestId = some id →
      let b := { s.newBatch r false true false with st := .requested, ctick := s.nextCommitTick, entries := [e] }
      s.singleCode b = 0 →
      (s.stageFor r [(t, v)] 0 none).2 = 0 ∧ (s.stageFor r [(t, v)] 0 none).1.batches.find id = some b)

/-- BAT_OPEN and the commands of BAT_CMD (R146, R149, R150, R156, R162). -/
def Obligations.BatchCommandsTakeEffect : Prop :=
  ∀ (s : State) (r : Req) (q : Nat), reqHeld r = some q →
    (∀ (x : Bool) (id : Nat), s.m.mayWrite r 0x002040 = true → s.m.on HDR.PAGE_CTRL.ENABLE 0x002 0 = true →
      (x = true → s.m.on MOD.MOD_STATUS.GRID_FREE 0 0 = false) → s.m.lowestId = some id →
      let s1 : Block := { s.m with batches := s.m.batches.put id (s.m.newBatch r x false false) }
      Answers (.batOpen r x) s (((((s1.fireIf (s1.freeIds == 0) EV.BAT.IDS_OUT).wr HDR.BATCH_TAG.ID 0 q id).wr
        HDR.BATCH_TAG.VALID 0 q 1).wr HDR.BATCH_TAG.ENDED 0 q 0))) ∧
    (∀ (id : Nat) (b : Batch), s.m.mayWrite r 0x002044 = true → s.m.tagNow r = some id → s.m.batches.find id = some b →
      (b.st = .opened → b.xmod = false → s.m.nextCommitTick ≤ s.m.ctickOf r → s.m.ctickOf r ≤ s.m.tick + 240000 →
        Answers (.commitAt r) s { s.m with batches := s.m.batches.put id { b with st := .requested, ctick := s.m.ctickOf r } }) ∧
      (b.st = .opened → b.xmod = false → Answers (.commitNow r) s
        { s.m with batches := s.m.batches.put id { b with st := .requested, ctick := s.m.nextCommitTick } }) ∧
      (b.st = .opened → b.xmod = true → s.m.on MOD.MOD_STATUS.GRID_FREE 0 0 = false → Answers (.commitNow r) s
        { s.m with batches := s.m.batches.put id { b with st := .requested, ctick := s.m.nextCommitTick + 2 } }) ∧
      (b.st = .opened ∨ b.st = .requested ∨ b.st = .doomed → Answers (.batAbort r) s (s.m.abortBatch id 0x0A 0))) ∧
    (∀ b : Batch, s.m.mayWrite r 0x002044 = true → s.m.tin0cfg r = true →
      s.m.batches.find (s.m.rd BAT.BAT_SEL.ID 0 q) = some b → b.st = .opened ∨ b.st = .requested ∨ b.st = .doomed →
      Answers (.abortSel r) s (s.m.abortBatch (s.m.rd BAT.BAT_SEL.ID 0 q) 0x0A 0))

/-- The open limit (R151), the wake-up (R170), and the end of the wait for the outcomes of cross-module batches (R165).
The COMMIT frames of batches of several modules (R161, R164), each past the checks of its header: a PREPARE that names
this module prepares its part, PREPARED counts towards the commit, REFUSED aborts, and an OUTCOME is noted. -/
def Obligations.BatchEventsAndCommitFramesTakeEffect : Prop :=
  (∀ s : State, s.m.supRuns = true →
     (∀ (id : Fin 64) (b : Batch), s.m.batches.find id.val = some b → b.st = .opened ∨ (b.st = .doomed ∧ b.ctick = 0) →
       b.openedAt + s.m.g BAT.BAT_CFG.OPEN_LIMIT ≤ s.m.tick →
       Answers (.batchOpenLimit id) s ((s.m.abortBatch id.val 0x0E 0).fire EV.BAT.TIMEOUT)) ∧
     (s.m.powerStart = true → s.m.g RISE.RISE_WAKE.SLOTS < 8 →
       let n := s.m.g RISE.RISE_WAKE.SLOTS
       Answers .wakeSlot s (((s.m.p RISE.RISE_WAKE.SLOTS (n + 1)).p RISE.RISE_WAKE.WOKEN (min (4 * (n + 1)) 31)).fireIf
         (n == 7) EV.RISE.WAKE_DONE)) ∧
     Answers .xmodOutcomeTimeout s (({ s.m with xouts := s.m.xouts.filter fun (x : XOut) => decide (x.tick + 2 > s.m.tick) } :
       Block).outcomesMissing (s.m.xouts.filter fun (x : XOut) => decide (x.tick + 2 ≤ s.m.tick)))) ∧
  (∀ (s : State) (h : Hdr) (s1 : Block), s.m.withSup 30 = true → s.m.takes h 0x05 true s1 →
     (∀ (id : Fin 256) (tick : Nat) (parts : List Nat), parts.contains s1.selfId = true →
       Answers (.commitPrepare h id tick parts) s
         ((s1.preparePart h.src.val id.val (s1.fullTick tick) parts).mirrorSealed s.m)) ∧
     (∀ (coord id : Fin 256) (n : Nat) (b : Batch), s1.recordBatch coord.val id.val = some (n, b) →
       Answers (.commitPrepared h coord id) s
         { s1 with batches := s1.batches.put n { b with
             okFrom := h.src.val :: b.okFrom.erase h.src.val
             ctick := if b.remote && b.ctick == 0 then s1.tick + 1 else b.ctick } } ∧
       ∀ code : Fin 256, Answers (.commitRefused h coord id code) s
         (({ s1 with batches := s1.batches.put n { b with code := code.val } } : Block).abortBatch n code.val h.src.val)) ∧
     (∀ (id : Fin 256) (c : Bool), Answers (.commitOutcome h id c) s (s1.outcomeRx h.src.val id.val c)))

/-- Frames for translation (R303, R318) whose header passes: with a credit of the queue they are taken at once, each for
what its TYPE says, and so is the frame that the buffer releases next. -/
def Obligations.TranslationFramesAreTaken : Prop :=
  (∀ (s : State) (h : Hdr) (s1 : Block), s.m.withSup 30 = true → s1.rxDirect = true →
    let law (c : Instr) (b : RxBody) : Prop := s.m.takes h (Block.RxBody.type b) h.ls s1 → TranslationLaw c s s1.takeRxCredit ⟨h, b⟩
    (∀ (tick : Nat) (runs : List (Nat × List Nat)), law (.ringImage h tick runs) (.image tick runs)) ∧
    (∀ (op kind right tin addr tag : Nat) (v : Word),
      law (.ringRequest h op kind right tin addr tag v) (.request op kind right tin addr tag v.toNat)) ∧
    (∀ (tag code : Nat) (v : Word), law (.ringResponse h tag code v) (.response tag code v.toNat)) ∧
    (∀ (id tin addr tag sel : Nat) (v : Word), law (.ringStage h id tin addr tag v sel) (.stage id tin tag addr v.toNat sel)) ∧
    (∀ tag code id : Nat, law (.ringStageAns h tag code id) (.stageAns tag code id))) ∧
  (∀ (s : State) (x : RxHeld), s.m.withSup 30 = true → s.m.g RCTL.RX_Q_CREDIT.CREDITS ≠ 0 → s.m.rxNext = some x →
    s.m.imgWait = [] → TranslationLaw .rxBufferRelease s (s.m.rxTake x) x)

/-! ### Translation and tins -/

/-- Commands of the translation page (R176, R182, R187, R191): firmware opens and closes the shadow, moves the table
window and writes the root that is not ACTIVE, a prewarm starts, and the walk-fault record clears. TIN_GRANT (R45, R185):
both rights fields on an open page, and GRANT_CHANGE fires; on a locked page a value that differs is refused with code
0x02. -/
def Obligations.TranslationAndTinCommandsTakeEffect : Prop :=
  (∀ (s : State) (r : Req),
     (∀ l : List MapLeaf, s.m.live r = true → reqKind r = 1 →
       (s.m.on XLT.XLT_CTRL.SHADOW_OPEN 0 0 = false → s.m.on XLT.XLT_STAT.HOLD_OLD 0 0 = false →
         let s1 := s.m.p XLT.XLT_CTRL.SHADOW_OPEN 1
         Answers (.shadowOpenWrite r (some l)) s (({ s1 with
           pmap := if l.isEmpty then s.m.pmap else l, wcache := s.m.wcache.filter fun c => !c.pre } : Block).mapSave s.m)) ∧
       (s.m.on XLT.XLT_CTRL.SHADOW_OPEN 0 0 = true →
         let s1 := s.m.p XLT.XLT_CTRL.SHADOW_OPEN 0
         Answers (.shadowOpenWrite r none) s
           ((if s.m.g PWR.PWR_STAT.LADDER < 2 then s1.buildTables s1.shadowRoot else s1).mapSave s.m)) ∧
       (s.m.on XLT.XLT_CTRL.SHADOW_OPEN 0 0 = false → s.m.on XLT.XLT_STAT.HOLD_OLD 0 0 = true →
         Answers (.shadowOpenWrite r (some l)) s (s.m.refuse 0x040 0x0A r 0x040040))) ∧
     (∀ o : Option (List MapLeaf), s.m.live r = true → reqKind r ≠ 1 → s.m.on XLT.XLT_CTRL.SHADOW_OPEN 0 0 = !o.isSome →
       Answers (.shadowOpenWrite r o) s (s.m.refuse 0x040 0x01 r 0x040040)) ∧
     (s.m.live r = true → s.m.pwStartCode = 0 → s.m.g PWR.PWR_STAT.LADDER < 2 →
       Answers (.pwStart r) s ((s.m.p XLT.XLT_STAT.PW_BUSY 1).p XLT.XLT_PW_COUNT.FAILED 0)) ∧
     (s.m.live r = true → s.m.pwStartCode ≠ 0 → Answers (.pwStart r) s (s.m.refuse 0x040 s.m.pwStartCode r 0x040040)) ∧
     (∀ w : Word, reqKind r = 1 → s.m.on HDR.PAGE_CTRL.LOCK 0x040 0 = false → w.toNat % 2 ^ 28 ≤ 0x200000 →
       (s.m.mayWrite r 0x040048 = true → w.toNat % 2 ^ 28 < s.m.g XLT.XLT_TBL_LIMIT.LIMIT → Answers (.xltTblWrite r false w) s
         (s.m.p XLT.XLT_TBL_BASE.BASE (w.toNat % 2 ^ 28))) ∧
       (s.m.mayWrite r 0x04004C = true → s.m.g XLT.XLT_TBL_BASE.BASE < w.toNat % 2 ^ 28 → Answers (.xltTblWrite r true w) s
         (s.m.p XLT.XLT_TBL_LIMIT.LIMIT (w.toNat % 2 ^ 28)))) ∧
     (∀ w : Word, reqKind r = 1 → s.m.g XLT.XLT_CTRL.SHADOW_OPEN ≠ 0 →
       (s.m.mayWrite r 0x040050 = true → s.m.g XLT.XLT_STAT.ACTIVE ≠ 0 → Answers (.xltRootWrite r false w) s (s.m.p XLT.XLT_ROOT0.ROOT0 (w.toNat % 2 ^ 28))) ∧
       (s.m.mayWrite r 0x040054 = true → s.m.g XLT.XLT_STAT.ACTIVE ≠ 1 → Answers (.xltRootWrite r true w) s (s.m.p XLT.XLT_ROOT1.ROOT1 (w.toNat % 2 ^ 28)))) ∧
     (s.m.mayWrite r 0x040080 = true → Answers (.xltWfClear r) s
       ((((((((((s.m.p XLT.XLT_WF_INFO.CODE 0).p XLT.XLT_WF_INFO.LEVEL 0).p XLT.XLT_WF_INFO.HOPS 0).p XLT.XLT_WF_INFO.REQ 0).p
         XLT.XLT_WF_INFO.TIN 0).p XLT.XLT_WF_INFO.RIGHT 0).p XLT.XLT_WF_INFO.VALID 0).p XLT.XLT_WF_ADDR_L.ADDR_L 0).p
         XLT.XLT_WF_ADDR_H.ADDR_H 0).p XLT.XLT_WF_PTR.PTR 0))) ∧
  (∀ (s : State) (r : Req) (w : Word), s.m.mayWrite r 0x041048 = true →
     (s.m.on HDR.PAGE_CTRL.LOCK 0x041 0 = false → Answers (.tinGrantWrite r w) s
       (((s.m.p TIN.TIN_GRANT.OPER (w.toNat % 16)).p TIN.TIN_GRANT.LS (w.toNat / 16 % 16)).fire EV.TIN.GRANT_CHANGE)) ∧
     (s.m.on HDR.PAGE_CTRL.LOCK 0x041 0 = true → w.toNat % 16 ≠ s.m.g TIN.TIN_GRANT.OPER →
       Answers (.tinGrantWrite r w) s (s.m.refuse 0x041 0x02 r 0x041048)))

/-- Events of translation (R189 to R191): the prewarm ends, HOLD_OLD clears with the last old-generation user and the
caches keep what a generation in use can hit, the sweep ends, and a dual write reaches both roots and frees its overlay
entry. -/
def Obligations.TranslationEventsTakeEffect : Prop :=
  ∀ s : State, s.m.supRuns = true →
    (s.m.on XLT.XLT_STAT.PW_BUSY 0 0 = true → Answers .prewarmDone s
      (((s.m.prewarmAll ((s.m.genNow + 1) % 16) s.m.prewarmList).p XLT.XLT_STAT.PW_BUSY 0).fire EV.XLT.PREWARM_DONE)) ∧
    (s.m.sealed = true → s.m.on XLT.XLT_STAT.HOLD_OLD 0 0 = true → s.m.oldUser = false →
      let keep (c : CEnt) : Bool := c.gen == s.m.genNow || (c.pre && c.gen == (s.m.genNow + 1) % 16)
      let s1 := (s.m.p XLT.XLT_STAT.HOLD_OLD 0).p XLT.XLT_STAT.SWEEP 1
      Answers .holdOldClear s { s1 with wcache := s.m.wcache.filter keep, ucache := s.m.ucache.map fun u => (u.1, u.2.filter keep) }) ∧
    (s.m.on XLT.XLT_STAT.SWEEP 0 0 = true → Answers .sweepDone s ((s.m.p XLT.XLT_STAT.SWEEP 0).fire EV.XLT.SWAP_DONE)) ∧
    (∀ (page : Nat) (level : Fin 2) (o : OvEnt), s.m.overlay.find? (fun x => x.page == page && x.level == level.val) = some o →
      ∀ x0 a0 x1 a1 : Nat, s.m.leafPlace (o.page * leafSpan o.level) 3 (s.m.g XLT.XLT_ROOT0.ROOT0) = some (x0, a0) →
      ({ s.m with dram := s.m.dram.writeN a0 8 o.leaf, dramBad := s.m.dramBad.filter fun x => x != a0 } : Block).leafPlace
        (o.page * leafSpan o.level) 3 (s.m.g XLT.XLT_ROOT1.ROOT1) = some (x1, a1) →
      Answers (.dualWriteSettle page level) s { s.m with
        dram := (s.m.dram.writeN a0 8 o.leaf).writeN a1 8 o.leaf
        dramBad := (s.m.dramBad.filter fun x => x != a0).filter fun x => x != a1
        overlay := s.m.overlay.filter fun x => x != o })

/-! ### Staged commands -/

/-- The commands that write a staged field (R1, R41, R42): while every check of R461 passes, the write is staged; its
effect is the commit's. -/
def Obligations.StagedCommandsAreStaged : Prop :=
  ∀ (s : State) (r : Req) (q : Nat), reqHeld r = some q →
    (∀ e : Fin 16, s.m.rd ENG.ENG_CTRL.PROG_OPEN e.val 0 ≤ 1 → s.m.rd ENG.ENG_CTRL.DET_STRICT e.val 0 ≤ 1 →
      let v := 1 + 2 * s.m.rd ENG.ENG_CTRL.PROG_OPEN e.val 0 + 4 * s.m.rd ENG.ENG_CTRL.DET_STRICT e.val 0
      let a := if s.m.on ENG.ENG_CTRL.PROG_OPEN e.val 0 = false ∧ (s.m.freeBank e.val).isSome then s.m.crcStart e.val else s.m
      s.m.stagesAt r (0x010040 + 0x1000 * e.val) v = true → a.stagesAt r (0x010040 + 0x1000 * e.val) v = true →
      Answers (.engSwapStage r e) s (a.stagedAt r (0x010040 + 0x1000 * e.val) v)) ∧
    (s.m.g XLT.XLT_CTRL.SHADOW_OPEN ≤ 1 →
      s.m.stagesAt r 0x040040 (1 + 2 * s.m.g XLT.XLT_CTRL.SHADOW_OPEN) = true →
      Answers (.xltSwapStage r) s (s.m.stagedAt r 0x040040 (1 + 2 * s.m.g XLT.XLT_CTRL.SHADOW_OPEN))) ∧
    (∀ w : Word, s.m.stagesAt r 0x04006C w.toNat = true →
      Answers (.dualWriteStage r w) s (s.m.stagedAt r 0x04006C w.toNat)) ∧
    (∀ m n g : Fin 256, s.m.stagesAt r 0x060054 (m.val + 256 * n.val + 65536 * g.val + 2 ^ 24) = true →
      Answers (.mpStart r m n g) s (s.m.stagedAt r 0x060054 (m.val + 256 * n.val + 65536 * g.val + 2 ^ 24))) ∧
    (s.m.stagesAt r 0x060054 (2 ^ 25 + s.m.mpWord r) = true →
      Answers (.mpStop r) s (s.m.stagedAt r 0x060054 (2 ^ 25 + s.m.mpWord r))) ∧
    (∀ v, v = 1 + 4 * s.m.g PAIR.PAIR_CTRL.BACK + 65536 * s.m.g PAIR.PAIR_CTRL.HOLD →
      s.m.stagesAt r 0x0B0044 v = true → Answers (.pairSwapStage r) s (s.m.stagedAt r 0x0B0044 v)) ∧
    (∀ (b : Bool) (h : Fin 65536), s.m.stagesAt r 0x0B0044 (2 + 4 * b2n b + 65536 * h.val) = true →
      Answers (.pairDrillStage r b h) s (s.m.stagedAt r 0x0B0044 (2 + 4 * b2n b + 65536 * h.val))) ∧
    (∀ (k : Fin 2) (x : Bool), s.m.stagesAt r 0x0D2040 (1 + 2 * k.val + 4 * b2n x) = true →
      Answers (.updActivateStage r k x) s (s.m.stagedAt r 0x0D2040 (1 + 2 * k.val + 4 * b2n x))) ∧
    (∀ (m : Fin 256) (e : Fin 16) (j : Fin 8),
      s.m.stagesAt r 0x0B104C (m.val + 256 * e.val + 4096 * j.val + 2 ^ 15) = true →
      Answers (.peelGo r m e j) s (s.m.stagedAt r 0x0B104C (m.val + 256 * e.val + 4096 * j.val + 2 ^ 15))) ∧
    (∀ run : Bool, s.m.stagesAt r 0x0E0040 (b2n run) = true →
      Answers (.perfRun r run) s (s.m.stagedAt r 0x0E0040 (b2n run))) ∧
    (s.m.stagesAt r 0x0E0040 (2 + s.m.g PERF.PERF_CTRL.RUN) = true →
      Answers (.perfClear r) s (s.m.stagedAt r 0x0E0040 (2 + s.m.g PERF.PERF_CTRL.RUN))) ∧
    (s.m.stagesAt r 0x0E0040 (4 + s.m.g PERF.PERF_CTRL.RUN) = true →
      Answers (.perfSnap r) s (s.m.stagedAt r 0x0E0040 (4 + s.m.g PERF.PERF_CTRL.RUN))) ∧
    (∀ w : Word, s.m.stagesAt r 0x0A1048 w.toNat = true → Answers (.rtcSecWrite r w) s (s.m.stagedAt r 0x0A1048 w.toNat))

/-! ### Loops, slices, channels and capture -/

/-- Digital inputs (R226, R228, R229): a terminal's level, its filtered value when the filter time has passed, and a wire
break with its alert. Outputs (R232 to R234): a conducting output that detects a short circuit or over-temperature turns
off with its bit latched; open load shows while it lasts; an overloaded slice sheds outputs, one each millisecond while
the excess lasts. Slices (R235 to R239): a watchdog makes an OPERATING slice SAFE once its TIMEOUT may have passed on the
slice's clock; a cause makes it a FAULT, with a source of the slice; the slice leaves FAULT for SAFE at a boundary after its last cause cleared. MOD_STATUS.FAULT follows (R61). -/
def Obligations.InputsOutputsAndSlicesFollow : Prop :=
  (∀ (s : State) (c : Fin 96),
     (∀ level : Bool, s.m.islandRuns (18 + c.val / 16) = true → s.m.isIn c.val = true →
       let s1 := s.m.setDch HID.DTERM c.val (b2n level)
       let direct := s.m.dch DIO.DIO_CH_CFG.FILTER c.val = 0 ∧ s.m.g HID.PWRST = 0 ∧ s.m.on HID.ISLANDDOWN 0 0 = false
       (¬ direct → Answers (.dioInputChange c level) s s1) ∧
       (direct → Answers (.dioInputChange c level) s (s1.dioFilter c.val))) ∧
     (s.m.withSup (18 + c.val / 16) = true →
       (s.m.isIn c.val = true → s.m.dch HID.DTERM c.val = 1 → s.m.dch HID.DFILT c.val ≠ 1 →
         Answers (.dioFilterExpire c) s ((s.m.setDch HID.DFILT c.val 1).dchAlert c.val 0 DIO.DIO_CH_CFG.EV_RISE)) ∧
       (s.m.isIn c.val = true → s.m.dch HID.DTERM c.val = 0 → s.m.dch HID.DFILT c.val ≠ 0 →
         Answers (.dioFilterExpire c) s ((s.m.setDch HID.DFILT c.val 0).dchAlert c.val 1 DIO.DIO_CH_CFG.EV_FALL)) ∧
       (s.m.dch DIO.DIO_CH_CFG.MODE c.val = 3 → s.m.dch HID.DWB c.val = 0 →
         Answers (.wireBreakDetect c) s ((s.m.setDch HID.DWB c.val 1).dchAlert c.val 2 DIO.DIO_CH_CFG.EV_FAULT)) ∧
       Answers (.wireBreakClear c) s (s.m.setDch HID.DWB c.val 0))) ∧
  (∀ (s : State) (c : Fin 96) (d : Fin 6),
     (s.m.islandRuns (18 + c.val / 16) = true → s.m.isOut c.val = true → s.m.dch HID.DDRIVE c.val = 1 →
       Answers (.outputDriverFault c false) s
         (((s.m.setDch HID.DSC c.val 1).switchOff c.val).dchAlert c.val 3 DIO.DIO_CH_CFG.EV_FAULT) ∧
       Answers (.outputDriverFault c true) s
         (((s.m.setDch HID.DOT c.val 1).switchOff c.val).dchAlert c.val 4 DIO.DIO_CH_CFG.EV_FAULT)) ∧
     (s.m.withSup (18 + c.val / 16) = true →
       (s.m.isOut c.val = true → s.m.dch DIO.DIO_CH_CFG.OL_EN c.val = 1 → s.m.dch HID.DDRIVE c.val = 1 →
         s.m.dch HID.DOL c.val = 0 → Answers (.openLoadDetect c) s
           ((s.m.setDch HID.DOL c.val 1).dchAlert c.val 5 DIO.DIO_CH_CFG.EV_FAULT)) ∧
       Answers (.openLoadClear c) s (s.m.setDch HID.DOL c.val 0)) ∧
     (s.m.withSup (18 + d.val) = true →
       (s.m.rd HID.OVEPISODE d.val 0 ≠ 1 → Answers (.sliceOverload d) s
         (((s.m.wr HID.OVEPISODE d.val 0 1).wr HID.OVFIRED d.val 0 0).shedOne d.val)) ∧
       (s.m.rd HID.OVEPISODE d.val 0 = 1 →
         Answers (.overloadShedNext d true) s (s.m.shedOne d.val) ∧
         Answers (.overloadShedNext d false) s (s.m.wr HID.OVEPISODE d.val 0 0)))) ∧
  (∀ (s : State) (sl : Fin 9),
     (s.m.islandRuns (18 + sl.val) = true → s.m.slState sl.val = 0 → s.m.slTimeout sl.val ≠ 0 →
       4 * s.m.slTimeout sl.val * 9999 < (s.m.rd HID.SLAGE 0 sl.val + 1) * 10000 → Answers (.sliceWdogExpire sl) s
         (((s.m.sliceSafe sl.val).slStop sl.val 1).fire (Block.evWdog sl.val))) ∧
     (s.m.g HID.PWRST ≤ 1 → ∀ x : SliceCause, (s.m.slCause sl.val).testBit (causeBit x) = false →
         let s1 := s.m.setSlCause sl.val (setBit (s.m.slCause sl.val) (causeBit x))
         let low := causeBit x == 0 && decide (sl.val < 6)
         (s.m.slState sl.val ≠ 2 → Answers (.sliceFaultCauseSet sl x) s
           ((((s1.sliceSafe sl.val).slStop sl.val 2).fire (Block.evFaultOn sl.val)).fireIf low (EV.DIO.FS_LOW sl.val)).noteFault) ∧
         (s.m.slState sl.val = 2 → Answers (.sliceFaultCauseSet sl x) s (s1.fireIf low (EV.DIO.FS_LOW sl.val)).noteFault)) ∧
     (s.m.islandRuns (18 + sl.val) = true → ∀ x : SliceCause, (s.m.slCause sl.val).testBit (causeBit x) = true →
       (x = .isl → s.m.g HID.RESTART ≠ 0) → (x = .cfg → s.m.on HID.UNCFG 0 0 = false) →
       Answers (.sliceFaultCauseClear sl x) s
         ((s.m.setSlCause sl.val (clrBit (s.m.slCause sl.val) (causeBit x))).wr HID.SLCLEAR 0 sl.val s.m.tick)) ∧
     (s.m.withSup (18 + sl.val) = true → s.m.slState sl.val = 2 → s.m.slCause sl.val = 0 →
       s.m.rd HID.SLCLEAR 0 sl.val < s.m.tick →
       Answers (.sliceFaultExit sl) s ((s.m.slStop sl.val 1).fire (Block.evFaultOff sl.val)).noteFault))

/-- Field commands (R214, R221, R232, R237): a loop's fault and counter clear, a channel's latches are to clear at the
next boundary, a slice is rearmed; a session without the right is refused. -/
def Obligations.FieldCommandsTakeEffect : Prop :=
  ∀ (s : State) (n : Fin 64),
    let r := Req.ses n
    (∀ page : Fin 16, s.m.mayWrite r (0x030068 + 0x1000 * page.val) = true →
      let k := 16 * page.val + s.m.own LOOP.LOOP_SEL.LOOP page.val r
      (s.m.lp LOOP.LOOP_CFG.LS k ≠ 1 ∨ s.m.tinOf r = 0 ∨ s.m.tinOf r = 1 → Answers (.loopFaultClr r page) s
        ((s.m.setLp LOOP.LOOP_STAT.FAULT k 0).setLp LOOP.LOOP_STAT.CNT k 0)) ∧
      (s.m.lp LOOP.LOOP_CFG.LS k = 1 → s.m.tinOf r ≠ 0 → s.m.tinOf r ≠ 1 → Answers (.loopFaultClr r page) s
        (s.m.refuse (0x030 + page.val) 0x01 r (0x030068 + 0x1000 * page.val)))) ∧
    (∀ d : Fin 6, s.m.mayWrite r (0x05004C + 0x1000 * d.val) = true →
      let c := s.m.dioSel r d.val
      (s.m.holds r .configure = true →
        Answers (.dioClrFault r d) s (s.m.setDch HID.DCLR c 1)) ∧
      (s.m.holds r .configure = false →
        Answers (.dioClrFault r d) s (s.m.refuse (0x050 + d.val) 0x01 r (0x05004C + 0x1000 * d.val)))) ∧
    (∀ sl : Fin 9, let off := slPage sl.val * 4096 + if sl.val < 6 then 0x05C else 0x06C
      s.m.mayWrite r off = true →
      (s.m.tin01cfg r = true → Answers (.sliceRearmCmd r sl) s
        ((s.m.wr HID.SLREARM 0 sl.val 1).wr HID.SLREARMAT 0 sl.val (s.m.tick + 1))) ∧
      (s.m.tin01cfg r = false → Answers (.sliceRearmCmd r sl) s (s.m.refuse (slPage sl.val) 0x01 r off)))

/-- Capture (R242 to R246): a counted edge of a channel is stamped with the count within its tick or counted, every edge
keeps the level of its lines, standstill after STILL ends the motion, and a read of CAP_FIFO_L takes the oldest entry of the
selected channel. A conversion of an analog input (R248, R249) gives the channel its clamped value, and marks it as
converted. -/
def Obligations.CaptureAndAnalogConvert : Prop :=
  (∀ (s : State) (c : Fin 48),
     (s.m.withSup 27 = true → ∀ (cnt : Fin 25000) (a b : Bool),
       let m := s.m.rd CAP.CAP_CFG.MODE 0 c.val
       let e := s.m.rd CAP.CAP_CFG.EDGE 0 c.val
       let ts := s.m.tick * 25000 + cnt.val
       let lines := b2n a + 2 * b2n b
       let s1 := s.m.wr HID.CAPLINE 0 c.val lines
       (s.m.on HDR.PAGE_CTRL.ENABLE 0x05C 0 = true →
         (m = 3 → Block.quadStep (s.m.rd HID.CAPLINE 0 c.val) lines = none → Answers (.captureEdge c cnt a b) s
           ((s1.wr HID.CAPQERR 0 c.val 1).capEvent c.val)) ∧
         (m = 3 → ∀ d, Block.quadStep (s.m.rd HID.CAPLINE 0 c.val) lines = some d →
           let s2 := s1.wr HID.CAPPOS 0 c.val (uns 32 (s.m.rd HID.CAPPOS 0 c.val + d))
           Answers (.captureEdge c cnt a b) s
             (if s.m.rd HID.CAPLINE 0 c.val % 2 = 0 ∧ lines % 2 = 1 then s2.capCount c.val ts (lines / 2) else s2)) ∧
         (m = 1 ∨ m = 2 →
           ((e = 2 ∨ e = 0 ∧ a = true ∨ e = 1 ∧ a = false) →
             Answers (.captureEdge c cnt a b) s (if m = 1 then s1.capStamp c.val ts a else s1.capCount c.val ts 0)) ∧
           (¬ (e = 2 ∨ e = 0 ∧ a = true ∨ e = 1 ∧ a = false) → Answers (.captureEdge c cnt a b) s s1))) ∧
       (m = 0 ∨ s.m.on HDR.PAGE_CTRL.ENABLE 0x05C 0 = false → Answers (.captureEdge c cnt a b) s s1)) ∧
     (s.m.withSup 27 = true → s.m.stillPast s.m.tick c.val = true →
       (2 ≤ s.m.rd HID.CAPST 0 c.val → Answers (.standstillTimeout c) s ((s.m.wr HID.CAPST 0 c.val 0).capEvent c.val)) ∧
       (s.m.rd HID.CAPST 0 c.val < 2 → Answers (.standstillTimeout c) s (s.m.wr HID.CAPST 0 c.val 0))) ∧
     (∀ (r : Req) (x : CapEnt) (l : List CapEnt), s.m.live r = true → s.m.selOk r .read 0x05C058 = true →
       s.m.capFifoOf (s.m.own CAP.CAP_SEL.CH 0 r) = x :: l →
       ∃ u, exec (.capFifoPop r) s = .next u ∧ u.pending = s.pending ∧
         u.m.capFifo = s.m.capFifo.put (s.m.own CAP.CAP_SEL.CH 0 r) l ∧
         u.m.rd HID.RDATA 0 (holdKey r) = x.ts % 2 ^ 32)) ∧
  (∀ (s : State) (c : Fin 48) (v : Int) (wb sc : Bool), s.m.withSup (24 + c.val / 16) = true → s.m.aIn c.val = true →
     ∃ u, exec (.analogConversion c v wb sc) s = .next u ∧ u.pending = s.pending ∧
       u.m.dch AIO.AIO_CH_VAL.VAL c.val = uns 32 (anClamp (s.m.dch AIO.AIO_CH_CFG.MODE c.val) v) ∧
       u.m.dch HID.ACONV c.val = 1 ∧ u.m.points = s.m.points ∧ u.m.batches = s.m.batches)

/-! ### Audio -/

/-- Commands of the audio pages (R258, R259, R267): a message set is replaced by a session of tin 1 or the firmware, into the
store when it is new, and a zone is commissioned over eight windows. -/
def Obligations.AudioCommandsTakeEffect : Prop :=
  ∀ (s : State) (r : Req),
    (∀ l : List MsgItem, s.m.live r = true → s.m.holds r .configure = true → (List.range 4).any s.m.mpOn = false →
      let set := l.map fun (x : MsgItem) => (x.num.val, (⟨x.len, x.crcOk⟩ : MsgInfo))
      (set.map fun m => m.2.len).sum ≤ 86400000 → set ≠ s.m.msgFlash → s.m.tinOf r = 1 →
      Answers (.msgReload r l) s ((s.m.msgCopy set).stoRequest 0x21)) ∧
    (∀ page : Fin 4, let z := 4 * page.val + s.m.own ZONE.ZONE_SEL.ENTRY page.val r
      s.m.mayWrite r (0x06107C + 0x1000 * page.val) = true → s.m.holds r .configure = true →
      ¬ (1 ≤ s.m.zoneLine z ∧ s.m.zoneLine z ≤ 3) → s.m.zn HID.COMMLEFT z = 0 →
      Answers (.zoneCommission r page) s
        (((s.m.setZn HID.COMMLEFT z 8).setZn HID.COMMSUM z 0).setZn HID.COMMPH z 0))

/-- Events of the audio island (R260, R263, R265, R266): the last repeat of a player ends, a talkback line opens or
clears, a supervision window classifies its zone's line by what the pilot's sums give, and an insulation measurement is shown
and counted. The autonomous state (R268 to R271): the island enters it after eight missed ticks with the announcements that
were cut noted, its flag set and, while a fire holds, the fire zones promoted; it mutes at 125 °C in stage 4 and unmutes at
120 °C; at a boundary it leaves it with the flag clear and AUTONOMOUS_ON and AUTONOMOUS_OFF fired. -/
def Obligations.AudioEventsTakeEffect : Prop :=
  (∀ s : State,
     (∀ k : Fin 4, s.m.islandRuns 28 = true → s.m.mpEnds (s.m.g HID.AUDBLK + 1) k.val = true →
       s.m.on AUD.AUD_STAT.AUTONOMOUS 0 0 = false →
       let s1 := (s.m.wr HID.MPST 0 k.val 0).wr HID.MPPOS 0 k.val 0
       Answers (.playerEnd k) s ((if k.val = 0 then s1.p HID.FIREMP0 0 else s1).fire EV.AUD.PLAYER_END)) ∧
     (∀ t : Fin 4, s.m.withSup 28 = true →
       (s.m.on AUD.SRC_CFG.PHANTOM 0 t.val = true → s.m.driving = true → s.m.on AUD.SRC_STAT.OPEN 0 t.val = false →
         Answers (.tbOpenDetect t) s ((s.m.wr AUD.SRC_STAT.OPEN 0 t.val 1).fireAud EV.AUD.TB_OPEN)) ∧
       Answers (.tbOpenClear t) s (s.m.wr AUD.SRC_STAT.OPEN 0 t.val 0)) ∧
     (∀ (z : Fin 16) (vc vs ic is : Int), s.m.islandRuns 28 = true → s.m.zoneSup z.val = true →
       s.m.g HID.AUDBLK % 1000 = 0 → s.m.rd HID.ZWIN 0 z.val ≠ s.m.g HID.AUDBLK + 1 →
       let a := s.m.wr HID.ZWIN 0 z.val (s.m.g HID.AUDBLK + 1)
       let v2 := (vc ^ 2 + vs ^ 2).toNat
       let i2 := (ic ^ 2 + is ^ 2).toNat
       let vp := supVolt (a.zn ZONE.ZONE_CFG.VDIV z.val) v2
       let ip := supAmp (a.zn ZONE.ZONE_CFG.RSH z.val) i2
       let mag := supMag (a.zn ZONE.ZONE_CFG.VDIV z.val) (a.zn ZONE.ZONE_CFG.RSH z.val) v2 i2
       let ph := sgn 12 (Config.arcZ vc vs ic is)
       vp < 65536 → ip < 65536 → mag < 2 ^ 20 →
       let s2 := (((a.setZn ZONE.Z_MAG.MAG z.val mag).setZn ZONE.Z_MAG.PHASE z.val (uns 12 ph)).setZn ZONE.ZONE_PILOT.V_PILOT
         z.val vp).setZn ZONE.ZONE_PILOT.I_PILOT z.val ip
       let s3 := (s2.classify z.val
         (lineClass vp mag (s2.zn ZONE.ZREF.ZREF z.val) (s2.zn ZONE.ZONE_CFG.DRIFT z.val))).commission z.val mag ph
       Answers (.supervisionWindow z vc vs ic is) s (s.m.supWindowDone s3 z.val)) ∧
     (∀ (z : Fin 16) (kohm : Nat), s.m.islandRuns 28 = true → s.m.zn ZONE.ZONE_CFG.EARTH_EN z.val ≠ 0 →
       s.m.on HDR.PAGE_CTRL.ENABLE (0x061 + z.val / 4) 0 = true → 50 ≤ kohm → kohm < 100 →
       s.m.zn ZONE.ZONE_STAT.EARTH z.val ≤ 1 →
       Answers (.earthMeasure z kohm) s
         (((s.m.setZn ZONE.ZONE_INSUL.INSUL z.val kohm).setZn HID.ZEARTHLO z.val 0).setZn HID.ZEARTHHI z.val 0))) ∧
  (∀ s : State,
     (s.m.islandRuns 28 = true → s.m.on AUD.AUD_STAT.AUTONOMOUS 0 0 = false → 7 ≤ s.m.g HID.AUDMISS →
       let s1 := (s.m.noteCuts (List.range 16)).p AUD.AUD_STAT.AUTONOMOUS 1
       (s1.on MOD.MOD_STATUS.FIRE 0 0 = false ∨ s1.on AUD.AUD_FIRE.EN 0 0 = false →
         Answers .audioAutonomousEnter s (s1.zoneAll (List.range 16))) ∧
       (s1.on MOD.MOD_STATUS.FIRE 0 0 = true → s1.on AUD.AUD_FIRE.EN 0 0 = true →
         let q := s1.promoteAll s1.fireZones
         (q.on HID.AUDPROMOF 0 0 = false → Answers .audioAutonomousEnter s (q.zoneAll (List.range 16))))) ∧
     (∀ temp : Int, s.m.islandRuns 28 = true → s.m.on AUD.AUD_STAT.AUTONOMOUS 0 0 = true → s.m.g PWR.PWR_STAT.LADDER = 4 →
       (1250 ≤ temp → Answers (.audioThermalMute temp) s ((s.m.p HID.AUDMUTE 1).zoneAll (List.range 16))) ∧
       (temp ≤ 1200 → Answers (.audioThermalMute temp) s ((s.m.p HID.AUDMUTE 0).zoneAll (List.range 16))) ∧
       (1200 < temp → temp < 1250 → Answers (.audioThermalMute temp) s s.m)) ∧
     (s.m.withSup 28 = true → s.m.on AUD.AUD_STAT.AUTONOMOUS 0 0 = true → s.m.g PWR.PWR_STAT.LADDER ≠ 4 →
       s.m.g HID.AUDMISS = 0 → s.m.on HID.AUDPROMOF 0 0 = false → ((List.range 16).any fun z => s.m.on HID.AUDCUT 0 z) = false →
       let s1 := ((s.m.mpIdle s.m.fedSrcs (List.range 4)).audReload.cutsShown (List.range 16)).p AUD.AUD_STAT.AUTONOMOUS 0
       let s2 := (s1.fire EV.AUD.AUTONOMOUS_ON).p HID.AUDPROMOF 0
       Answers .audioAutonomousExit s
         (((s2.audDeliver ((List.range 64).map fun k => 800 + k)).fire EV.AUD.AUTONOMOUS_OFF).p HID.AUDMUTE 0)))

/-! ### Metrology -/

/-- Events of the metrology island (R275, R279, R282, R286 to R291, R295), while its island is up. What the module takes
from the metrology link (R283, R285, R293, R296): a frame with a CRC error is discarded and counted; a good one shows its
sequence and seconds; the lost link shows; a report is taken off the link; and an outcome ends BUSY. -/
def Obligations.MetrologyEventsTakeEffect : Prop :=
  (∀ s : State, s.m.islandUp 29 = true →
     let x := s.m.isl
     let gives (c : Instr) (y : Island) : Prop := Answers c s { s.m with isl := y }
     (∀ (v i : List (List Int)) (f : List Nat), x.powered = true → x.bat = false →
       (x.running.isSome = true →
         let a := x.count 800
         let l := a.phaseVals v i f
         let x1 := (((a.noVolts l).accumPhases l).accumTotals l (List.range 16)).coilsNext i (List.range 48)
         let x2 : Island := { x1 with view := x1.views l f }
         gives (.metrologyInterval v i f) { x2 with link := some (x2.frame f), seq := x2.seq + 1 }) ∧
       (x.running = none →
         let a := x.count 800
         let x2 : Island := { a with view := a.views [] f }
         gives (.metrologyInterval v i f) { x2 with link := some (x2.frame f), seq := x2.seq + 1 })) ∧
     (∀ md m0 m1 vb : Bool, (md || (m0 || m1)) = true → x.bat = false → gives (.islandSupplyChange md m0 m1 vb)
       { x with modSupply := md, mains := m0 || m1, vbat := vb }) ∧
     ((x.modSupply || x.mains) = true → (x.setAbsent 0 && x.setAbsent 1) = false → gives (.islandSupplyChange false false false true)
       { x with modSupply := false, mains := false, vbat := true, since := 0 }) ∧
     (gives (.islandSupplyChange false false false false)
       { x with modSupply := false, mains := false, vbat := false, lost := true, bat := false, running := none,
                loading := false, ended := false, words := [], link := none, out := [],
                since := if (x.modSupply || x.mains) = true then 0 else x.since }) ∧
     (∀ v : Fin 8,
       let y : Island := { x with vPresent := clrBit x.vPresent v.val, vCount := x.vCount.del v.val }
       (y.setAbsent 0 && y.setAbsent 1) = false → gives (.voltagePhaseAbsent v) y) ∧
     (∀ (v : Fin 8), x.vPresent.testBit v.val = false →
       gives (.voltageZeroCrossing v false) { x with vCount := x.vCount.put v.val 0 } ∧
       (2 ≤ (x.vCount.find v.val).getD 0 → gives (.voltageZeroCrossing v true)
         { x with vPresent := setBit x.vPresent v.val, vCount := x.vCount.del v.val })) ∧
     (x.modSupply = false → x.mains = false → x.vbat = true → x.bat = false → gives .batteryModeEntry
       (({ x with bat := true, batStart := x.sec, bursts := 0, budgetOut := x.days == 0, ah := [], flowing := 0, since := 0 } :
         Island).addLog 0x09 0 0)) ∧
     (∀ i : List (List Int), x.bat = true → x.budgetOut = false → x.running.isSome = true →
       x.bursts = 0 ∨ 4000 * x.burst ≤ x.since → gives (.batteryBurst i)
       ((({ x with bursts := x.bursts + 1, since := 0 } : Island).burstAll i (List.range 48)).coilsNext i (List.range 48))) ∧
     (∀ cell : Bool, x.bat = true → x.budgetOut = false → cell = true ∨ x.batStart + 86400 * x.days ≤ x.sec →
       gives (.batteryBudgetEnd cell) (({ x with budgetOut := true } : Island).addLog 0x0B (b2n cell) 0)) ∧
     (x.powered = true → x.cover = false → gives (.coverSwitchChange true) (({ x with cover := true } : Island).addLog 0x01 0 0)) ∧
     (let on := s.m.debugLine
      x.powered = true → x.debug = !on → gives (.debugLineChange on)
        (({ x with debug := on } : Island).addLog (if on then 0x07 else 0x08) 0 0)) ∧
     (x.powered = true → x.lost = false → (x.bank x.installed).isSome = true →
       gives (.islandStart true true 0) ({ x with running := some x.installed, out := [] } : Island).resync) ∧
     (∀ version roll gap : Nat, x.loading = true → x.ended = true → 4 * x.words.length = x.loadLen → roll < x.minRoll →
       gives (.lrfVerifyDone true version roll gap) (x.lrfRefuse 0x08)) ∧
     (∀ version roll gap : Nat, x.loading = true → x.ended = true → gives (.lrfVerifyDone false version roll gap) (x.lrfRefuse 0x0B)) ∧
     (∀ version roll gap : Nat, x.loading = true → x.ended = true → 4 * x.words.length = x.loadLen → x.minRoll ≤ roll →
       x.running = some 0 →
       let img : Lrf := ⟨version, crc32c x.imageBytes x.loadLen⟩
       let y : Island := { x with loading := false, ended := false, words := [], installed := 1, running := some 1,
                                  seals := x.seals + 1, bank1 := some img }
       gives (.lrfVerifyDone true version roll gap)
         ({ (y.addLog 0x03 (version % 65536) img.crc).addLog 0x0C 0 gap with out := [] } : Island).resync) ∧
     (x.loading = true → x.ended = false → 40000 ≤ x.idle → gives .lrfWordTimeout (x.lrfRefuse 0x0E))) ∧
  (∀ s : State, s.m.supRuns = true →
     (∀ f : MFrame, s.m.isl.link = some f →
       Answers (.metFrameRx false) s (((({ s.m with isl := { s.m.isl with link := none } } : Block).sat
         MET.MET_LINK.CRC_ERR 0 0 1).fire EV.MET.FRAME_CRC)) ∧
       ∃ u, exec (.metFrameRx true) s = .next u ∧ u.pending = s.pending ∧ u.m.isl = { s.m.isl with link := none } ∧
         u.m.metKept = some f ∧ u.m.batches = s.m.batches) ∧
     (s.m.on MET.MET_SEAL.LINK 0 0 = true → s.m.g HID.METRX + 4000 ≤ s.m.tick → Answers .metLinkLost s ((s.m.p MET.MET_SEAL.LINK 0).fire EV.MET.LINK_LOST)) ∧
     (∀ (x : MetRec) (l : List MReport), s.m.isl.out = .log x :: l →
       Answers .metRecordRx s (({ s.m with isl := { s.m.isl with out := l } } : Block).metLogRx x)) ∧
     (∀ c : Nat, s.m.isl.result = some c → Answers .metCmdOutcome s
       (((({ s.m with isl := { s.m.isl with result := none } } : Block).p MET.MET_CMD_STAT.BUSY 0).p MET.MET_CMD_STAT.RESULT
         c).fireIf (c != 0) EV.MET.CMD_REFUSED)))

/-- MET_CMD (R291 to R293): a session of tin 0 with the configure right, while BUSY is 0, hands the island its command;
the island does it or not as its own checks say, and its outcome is owed. A refused write is recorded, and CMD_REFUSED
fires. -/
def Obligations.MetrologyCommandsTakeEffect : Prop :=
  ∀ (s : State) (n : Fin 64),
    let r := Req.ses n
    let x := s.m.isl
    s.m.mayWrite r 0x070058 = true →
    (s.m.metCmdCode r = 0 →
      Answers (.logResync r) s (s.m.metOwes 0x01 x.resync 0) ∧
      Answers (.paramWrite r) s (s.m.metOwes 0x10 (x.paramWrite (s.m.metArg0 r) (s.m.metArg1 r)).1
        (x.paramWrite (s.m.metArg0 r) (s.m.metArg1 r)).2) ∧
      Answers (.lrfBegin r) s (s.m.metOwes 0x20 (x.lrfBegin (s.m.metArg0 r)).1 (x.lrfBegin (s.m.metArg0 r)).2) ∧
      (x.loading = true → x.ended = false → Answers (.lrfEnd r) s (s.m.metOwes 0x21 { x with ended := true } 0)) ∧
      (x.loading = true → Answers (.lrfAbort r) s (s.m.metOwes 0x22 (x.lrfRefuse 0x0A) 0)) ∧
      (let a := s.m.metArg0 r
       bits a 4 0 ≤ 30 → bits a 15 8 ≠ 0 → bits a 23 16 ≠ 0 →
       let y : Island := { x with days := bits a 4 0, pres := bits a 15 8, burst := bits a 23 16 }
       Answers (.metBatCfg r) s (s.m.metOwes 0x30 { y with out := y.out ++ [y.parReport] } 0))) ∧
    (s.m.metCmdCode r ≠ 0 → Answers (.logResync r) s
      ((s.m.refuse 0x070 (s.m.metCmdCode r) r 0x070058).fire EV.MET.CMD_REFUSED)) ∧
    (∀ w : Word, s.m.mayWrite r 0x070068 = true → x.loading = true → x.ended = false →
      Answers (.lrfDataWrite r w) s { s.m with isl := { x with words := w :: x.words, idle := 0 } })

/-! ### The ring, the segments and the service port -/

/-- The frames that rule a ring cycle (R307, R308, R310, R317): at a port that is up, a TOKEN of another master goes on with
this node's reservations and sets the master, the isochronous flag and the node count; the master's own TOKEN ends a rotation
when it returns by the west port; the async token is spent for the allowance and goes on, and the master sends it again; a
node that meets its own mark is a duplicate. -/
def Obligations.RingCycleFramesTakeEffect : Prop :=
  ∀ (s : State) (h : Hdr), s.m.withSup 30 = true → s.m.portUp h.port = true →
    let s1 := (s.m.rxCount (netPort h.port) h.octets true).heard h
    (h.hops < 320 → ∀ (tick resAll resLs nodes rot : Nat) (iso : Bool) (rank : Fin 8),
      (s.m.ownMark h = true → s.m.on RCTL.RCTL_STAT.MASTER 0 0 = true →
        let s2 := (s1.p HID.TOKENAT (s.m.tick + 1)).p HID.TMISS 0
        (h.port.val = 1 → Answers (.ringToken h tick resAll resLs nodes iso rank rot) s (s2.tokenBack resAll resLs nodes rot)) ∧
        (h.port.val ≠ 1 → Answers (.ringToken h tick resAll resLs nodes iso rank rot) s s2)) ∧
      (s.m.ownMark h = true → s.m.on RCTL.RCTL_STAT.MASTER 0 0 = false →
        Answers (.ringToken h tick resAll resLs nodes iso rank rot) s s1.dupSeen) ∧
      (s.m.ownMark h = false → ∀ s2 : Block, (s1.tokenPass h tick resAll resLs nodes iso).take h 0x01 = (s2, .taken) →
        s2.on RCTL.RCTL_STAT.MASTER 0 0 = false →
        let s3 := (s2.p HID.TOKENAT (s2.tick + 1)).p HID.TMISS 0
        Answers (.ringToken h tick resAll resLs nodes iso rank rot) s
          (((s3.setMaster h.src.val).setIso iso).p RCTL.RCTL_STAT.NODES (min (nodes + 1) 320)))) ∧
    (h.hops < 320 → h.us < 210 →
      (s.m.ownMark h = false → ∀ s2 : Block, s1.take h 0x02 = (s2, .taken) →
        Answers (.ringAsyncToken h) s ((s2.asyncUse h.us).asyncPass h)) ∧
      (s.m.ownMark h = true → s.m.on RCTL.RCTL_STAT.MASTER 0 0 = true → s.m.on RCTL.RCTL_STAT.ISO_OVER 0 0 = false →
        Answers (.ringAsyncToken h) s ((s1.asyncUse h.us).send ⟨.asyncToken s.m.tick, 0xFF, 0, true, 0⟩))) ∧
    (s.m.ownMark h = true → s.m.on HID.DUPSEEN 0 0 = false →
      Answers (.dupIdSeen h) s (((s.m.p HID.DUPSEEN 1).p RCTL.RCTL_STAT.MASTER 0).fire EV.RCTL.DUP_ID))

/-- LINK and class LS frames (R312 to R316, R55), past the checks of their headers: HELLO names the neighbour; BREAK makes
the node steer at the next boundary, HEAL plans the end of steering; FIRE that lists this module asserts the ring fire
source; ALARM goes to the supervisor. -/
def Obligations.RingControlFramesTakeEffect : Prop :=
  ∀ (s : State) (h : Hdr) (s1 : Block), s.m.withSup 30 = true →
    (∀ (tw : Nat) (late : Bool), h.port.val < 2 → s.m.portUp h.port = true → s.m.ownMark h = false →
      let i := h.port.val
      let a := ((s.m.rxCount (netPort h.port) h.octets true).heard h).noteLink i
      s.m.stale h = false →
      Answers (.linkHello h tw false late) s (((((a.wr RING.PORT_STAT.PEER_ID i 0 h.src.val).wr RING.PORT_STAT.PEER_POS i 0
        (b2n h.pos)).wr RING.PORT_STAT.TW i 0 (min 31 (max tw (s.m.rd RING.PORT_CFG.TW_MAX i 0)))).wr RING.PORT_STAT.LPI_RX i 0
        0).fireIf late (EV.RING.WAKE_LATE i))) ∧
    (s.m.takes h 0x0C true s1 →
      Answers (.linkBreak h) s (s1.p HID.STEERPEND 1) ∧
      (s.m.g HID.HEALAT = 0 → Answers (.linkHeal h) s (s1.p HID.HEALAT (s.m.healDue h.us)))) ∧
    (∀ ids : List Nat, s.m.takes h 0x06 true s1 →
      (h.ls = true → ids.contains s.m.selfId = true → Answers (.ringFire h ids) s
        (((((s1.p HID.RINGFIRE 1).p HID.FIRERXAT s.m.tick).p HID.FIREASK 1).p MOD.MOD_FIRE_SRC.RING 1).fire EV.RCTL.FIRE_RX)) ∧
      (h.ls = false ∨ ids.contains s.m.selfId = false → Answers (.ringFire h ids) s s1)) ∧
    (∀ src n owner : Nat, s.m.takes h 0x0B h.ls s1 →
      Answers (.ringAlarm h src n owner) s { s1 with alarms := s1.alarms ++ [(h.src.val, src, n, owner)] })

/-- Events of the ring's ports (R264, R307, R311, R313 to R316). -/
def Obligations.RingPortEventsTakeEffect : Prop :=
  ∀ s : State, s.m.withSup 30 = true →
    (∀ n, n = s.m.g HID.TMISS + 1 → s.m.g HID.TOKENAT ≠ s.m.tick + 1 → s.m.g HID.TMISSAT ≠ s.m.tick + 1 →
      s.m.on RCTL.RCTL_CFG.MASTER_EN 0 0 = false →
      Answers .tokenMiss s ((((s.m.p HID.TMISSAT (s.m.tick + 1)).sat RCTL.RCTL_COUNT2.TOKEN_MISS 0 0 1).sat HID.TMISS 0 0
        1).fireIf (n == 4) EV.RCTL.TOKEN_LOST)) ∧
    (∀ (h : Hdr) (x : AudioIn) (s1 : Block), s.m.takes h 0x04 true s1 → s1.tick < x.tick + 3 →
      s1.on AUD.AUD_STAT.AUTONOMOUS 0 0 = false →
      Answers (.ringAudio h x) s { s1 with audRx := (x.ch.val, x.tick) :: s1.audRx }) ∧
    (∀ (p : Fin 2) (up slow cage cf : Bool), Answers (.portLinkChange (.ring p) up slow cage cf) s
      (if up then (s.m.setCage p.val cage cf).ringUp p.val else (s.m.setCage p.val cage cf).ringDown p)) ∧
    (∀ p : Fin 2, s.m.rd HID.LINKAT 0 p.val + 4 ≤ s.m.tick →
      Answers (.portLinkFrameTimeout p) s (s.m.declareBreak p.val)) ∧
    (s.m.g RCTL.RCTL_STAT.STATE = 2 → s.m.on HID.PBROKEN 0 0 = true ∨ s.m.on HID.PBROKEN 0 1 = true →
      s.m.linked16 0 = true → s.m.linked16 1 = true → s.m.g HID.HEALAT = 0 →
      Answers .ringHealReady s ((s.m.send ⟨.link 3 0, 0xFF, 0, true, 1⟩).p HID.HEALAT (s.m.healDue 1))) ∧
    (∀ p : Fin 2, s.m.rd RING.PORT_CFG.RATE p.val 0 = 2 → s.m.rd RING.PORT_STAT.LINK p.val 0 = 0 →
      s.m.rd HID.RTRYAT 0 p.val + 200 ≤ s.m.tick → Answers (.rateAlternate p) s
        ((s.m.wr HID.RTRYSLOW 0 p.val (1 - s.m.rd HID.RTRYSLOW 0 p.val)).wr HID.RTRYAT 0 p.val s.m.tick)) ∧
    (∀ p : Fin 2, s.m.on RING.PORT_STAT.LINK p.val 0 = true → s.m.on RING.PORT_CFG.PREEMPT_EN p.val 0 = true →
      Answers (.preemptVerifyFail p) s ((s.m.wr RING.PORT_STAT.PREEMPT p.val 0 0).fire (EV.RING.PREEMPT_FAIL p.val))) ∧
    (s.m.on HID.RINGFIRE 0 0 = true → s.m.g HID.FIRERXAT + 9 ≤ s.m.tick →
      Answers .fireRxTimeout s (s.m.p HID.RINGFIRE 0))

/-- The floor segments and the service port (R300, R324 to R333): an ANSWER in time and of the node's type is kept for the
next boundary, one of a wrong type marks the node; a foreign beacon marks the segment; the wake pattern with the right key
wakes the service port, and another is discarded; a bad frame is counted at its port. -/
def Obligations.SegmentAndServiceFramesTakeEffect : Prop :=
  ∀ s : State,
    (s.m.withSup 31 = true → ∀ g : Fin 8,
      Answers (.plcaForeignBeacon g) s ((((s.m.wr HID.SEGFOR g.val 0 1).wr SEG.SEG_STAT.FOREIGN g.val 0 1).stat (.seg g) 30
        1).fire (EV.SEG.PLCA_FAULT g.val)) ∧
      ∀ (j : Fin 32) (us status type : Nat) (l : List Word), s.m.segRuns g.val = true → s.m.rd HID.SEGPOLL g.val 0 ≠ 0 →
        let s1 := s.m.rxCount (.seg g) (max 64 (30 + 4 * l.length)) false
        s.m.on HID.SEGASKED g.val j.val = true → us < 250 * s.m.rd SEG.SEG_CFG.PERIOD g.val 0 → type < 65536 →
        (type ≠ s.m.rd SEG.NODE_CFG.TYPE g.val j.val → Answers (.segAnswer g j us status type l) s
          (((((s1.wr SEG.NODE_STAT.TYPE_SEEN g.val j.val type).wr SEG.NODE_STAT.STATE g.val j.val 3).wr HID.SEGOK g.val j.val
            0).wr HID.SEGWRONG g.val j.val 1).fire (EV.SEG.TYPE_ERR g.val))) ∧
        (type = s.m.rd SEG.NODE_CFG.TYPE g.val j.val → ∃ u, exec (.segAnswer g j us status type l) s = .next u ∧
          u.pending = s.pending ∧ u.m.segAns = s.m.segAns.put (32 * g.val + j.val)
            ⟨status % 256, type % 2 ^ 16, l.map fun (w : Word) => w.toNat⟩ ∧
          u.m.rd SEG.NODE_STAT.TYPE_SEEN g.val j.val = type)) ∧
    (s.m.supRuns = true → s.m.on HDR.PAGE_CTRL.ENABLE 0x090 0 = true → s.m.on SVC.SVC_STAT.LINK 0 0 = true →
      s.m.g SVC.SVC_CFG.MODE = 2 → s.m.g SVC.SVC_STAT.WOKEN = 0 → ∀ key : Word,
      (key.toNat = s.m.g SVC.SVC_WAKE.KEY → Answers (.svcWakePattern key) s
        ((((s.m.rxCount .svc 64 false).p SVC.SVC_STAT.WOKEN 1).stat .svc 31 1).fire EV.SVC.WAKE)) ∧
      (key.toNat ≠ s.m.g SVC.SVC_WAKE.KEY → Answers (.svcWakePattern key) s
        (((s.m.rxCount .svc 64 false).stat .svc 14 1).fire EV.SVC.RX_DISCARD))) ∧
    (∀ p : NetPort, s.m.withSup (portIsland p) = true → s.m.netUp p = true →
      Answers (.unknownFrameRx p .fcs) s (s.m.stat p 8 1) ∧ Answers (.unknownFrameRx p .undersize) s (s.m.stat p 9 1) ∧
      Answers (.unknownFrameRx p .oversize) s (s.m.stat p 10 1) ∧ Answers (.unknownFrameRx p .code) s (s.m.stat p 11 1) ∧
      (∀ n : Nat, p ≠ .svc → Answers (.unknownFrameRx p (.unknown n)) s ((s.m.rxCount p n false).stat p 14 1)) ∧
      (∀ n : Nat, p = .svc → Answers (.unknownFrameRx p (.unknown n)) s
        (((s.m.rxCount p n false).stat p 14 1).fire EV.SVC.RX_DISCARD)) ∧
      (∀ q : Fin 2, p = .ring q → Answers (.unknownFrameRx p .reasm) s (s.m.stat p 13 1)))

/-! ### Time -/

/-- PTP (R336 to R338, R341, R342): a peer delay lands, a usable Sync disciplines the time, a better Announce names the
grandmaster, missing Syncs move the state, PTP_ADJ starts a slew, and a read of PTP_NS holds the seconds and the fraction.
The RTC domain (R344 to R348): a seconds write lands at its edge with OSF clear, the clock runs to the edge at which an alarm
begins to match, the oscillator's stop and the switch of supply are shown and counted, the cell's voltage is shown with
VBAT_LOW as it falls below 2.8 V, and the module sets the RTC from its grid time. -/
def Obligations.TimeTakesEffect : Prop :=
  (∀ s : State,
     (s.m.withSup 32 = true →
       (∀ (p : Fin 2) (ns : Nat), s.m.on RING.PORT_STAT.LINK p.val 0 = true → Answers (.ptpPdelay p ns) s
         ((s.m.wr RING.PORT_DELAY.LINK_DELAY p.val 0 (min ns 65535)).wr HID.NEEDPD 0 p.val 0)) ∧
       (∀ (p : Fin 2) (domain gm seq us : Nat) (two : Bool) (off freq : Int), s.m.portUp ⟨p.val, by omega⟩ = true →
         s.m.syncUsable p.val domain two gm seq us = true →
         let lim : Int := s.m.g PTP.PTP_LIMITS.SLEW * 1000
         let s0 := (s.m.rxCount (.ring p) 64 true).ptpForward p gm 64
         let s1 := ((s0.p HID.SYNCSEQ seq).p HID.SYNCSEQAT (s.m.nowUs us + 1)).p HID.SYNCAT s.m.tick
         let s3 := (((s1.sat HID.SYNCN 0 0 1).p PTP.PTP_STAT.PORT p.val).p PTP.PTP_OFFSET.OFFSET (uns 32 (clamp32 off))).p
           PTP.PTP_FREQ.FREQ (uns 32 (max (-lim) (min freq lim)))
         Answers (.ptpSyncRx p domain two gm seq off freq us) s (s3.syncState off us).noteFault) ∧
       (∀ (p : Fin 2) (a : Announce), s.m.portUp ⟨p.val, by omega⟩ = true → a.id ≠ s.m.ownClockId →
         s.m.on HID.GMKNOWN 0 0 = false → s.m.on PTP.PTP_CFG.GM_EN 0 0 = false → s.m.ptpState ≠ 5 →
         let s1 := (((s.m.rxCount (.ring p) 82 true).ptpForward p a.id 82).setGm a.id
           (dataSet a.prio1.val a.cls.val a.acc.val a.var.val a.prio2.val a.id)).p HID.ANNAT s.m.tick
         Answers (.ptpAnnounceRx p (s.m.g PTP.PTP_CFG.DOMAIN) a) s
           (((s1.p PTP.PTP_STAT.TIME_VALID (b2n a.traceable)).p PTP.PTP_STAT.STEPS (min a.steps 255)).p PTP.PTP_UTC.UTC_RX
             a.utc).noteFault) ∧
       (s.m.g HID.SYNCAT + 4000 ≤ s.m.tick → s.m.ptpState = 3 →
         Answers .ptpSyncTimeout s ((s.m.p HID.SYNCN 0).setPtp 1).noteFault) ∧
       (s.m.on PTP.PTP_CFG.GM_EN 0 0 = true → s.m.ptpState ≠ 5 → s.m.ptpState ≠ 4 → s.m.g HID.ANNAT + 12000 ≤ s.m.tick →
         Answers .announceReceiptTimeout s (((((((s.m.setGm s.m.ownClockId s.m.ownDataSet).p PTP.PTP_STAT.STEPS 0).p
           PTP.PTP_STAT.TIME_VALID (s.m.g HID.SEEDOK)).p PTP.PTP_FREQ.FREQ 0).p HID.PTPOFF 0).setPtp 5).noteFault))) ∧
     (∀ (r : Req) (w : Word), s.m.mayWrite r 0x0A006C = true → s.m.tin0cfg r = true → s.m.ptpState = 5 →
       s.m.g HID.ADJLEFT = 0 → (sgn 32 w.toNat).natAbs ≤ 1000000000 →
       Answers (.ptpAdjWrite r w) s (s.m.p HID.ADJLEFT (uns 40 (4 * sgn 32 w.toNat)))) ∧
     (∀ (r : Req) (sub frac : Nat), s.m.live r = true → ∃ u, exec (.ptpNsRead r sub frac) s = .next u ∧
       u.pending = s.pending ∧ u.m.rd HID.RDATA 0 (holdKey r) = (250000 * s.m.tick + sub % 250000) % 1000000000 ∧
       u.m.rd HID.SNAPH 0x0A0058 (holdKey r) = (250000 * s.m.tick + sub % 250000) / 1000000000 % 2 ^ 32 ∧
       u.m.rd HID.SNAPH 0x0A0060 (holdKey r) = frac % 2 ^ 16)) ∧
  (∀ s : State,
     (s.m.islandUp 33 = true →
       (s.m.on RTC.RTC_STAT.WRITE_PEND 0 0 = true →
         Answers .rtcSecLanding s (s.m.rtcAhead (max 1 (s.m.g HID.LANDLEFT))) ∧
         (s.m.g HID.LANDLEFT ≤ 1 → Answers .rtcSecLanding s
           ((((((s.m.rtcSet (s.m.g HID.RTCWRITE * 2 ^ 15)).p RTC.RTC_STAT.WRITE_PEND 0).p RTC.RTC_STAT.OSF 0).snapAsk).fireHeld
             EV.RTC.SEC_WRITE).p HID.RTCDONE (s.m.g HID.RTCDONE + 1)))) ∧
       (∀ k : Fin 2,
         (∀ j : Nat, s.m.almEdges k.val (9 - s.m.g HID.RTCDONE) = some j → Answers (.rtcAlarm k) s (s.m.rtcAhead j)) ∧
         (s.m.almEdges k.val (9 - s.m.g HID.RTCDONE) = none → Answers (.rtcAlarm k) s s.m)) ∧
       (∀ n : Nat, s.m.rtcAhead n = (s.m.rtcEdges n).p HID.RTCDONE (s.m.g HID.RTCDONE + n)) ∧
       (∀ n : Nat, s.m.on RTC.RTC_STAT.WRITE_PEND 0 0 = false →
         s.m.rtcEdges (n + 1) = ((s.m.p HID.LANDLEFT (s.m.g HID.LANDLEFT - 1)).rtcSet ((s.m.rtcCount + 1) % 2 ^ 48)).rtcEdges n) ∧
       (s.m.on RTC.RTC_STAT.OSF 0 0 = false → Answers .rtcOscStop s
         (((s.m.p RTC.RTC_STAT.OSF 1).sat RTC.RTC_COUNT.OSF_SETS 0 0 1).fireHeld EV.RTC.OSF)) ∧
       (s.m.on RTC.RTC_STAT.ON_VBAT 0 0 = false → Answers (.rtcSupplySwitch true) s
         (((s.m.p RTC.RTC_STAT.ON_VBAT 1).sat RTC.RTC_COUNT.VBAT_SWITCH 0 0 1).fireHeld EV.RTC.VBAT_ON)) ∧
       (s.m.on RTC.RTC_STAT.ON_VBAT 0 0 = true → Answers (.rtcSupplySwitch false) s
         ((s.m.p RTC.RTC_STAT.ON_VBAT 0).fireHeld EV.RTC.VBAT_OFF)) ∧
       (∀ mv : Nat, mv < 2800 → let s1 := (s.m.p RTC.RTC_STAT.VBAT mv).p HID.VBATLO 1
         (s.m.g HID.VBATLO = 0 → Answers (.vbatLow mv) s (s1.fireHeld EV.RTC.VBAT_LOW)) ∧
         (s.m.g HID.VBATLO ≠ 0 → Answers (.vbatLow mv) s s1)) ∧
       (∀ mv : Nat, 2800 ≤ mv → Answers (.vbatLow mv) s ((s.m.p RTC.RTC_STAT.VBAT (min mv 4095)).p HID.VBATLO 0))) ∧
     (s.m.supRuns = true → s.m.autosetDue (s.m.tick + 1) = true → s.m.sealed = false →
       s.m.heldByOther 64 (.reg 0x0A1048 0) = false → s.m.entryFree = true →
       ∀ id, s.m.lowestId = some id →
       let e : Entry := { tgt := .reg 0x0A1048 0, val := (s.m.tick + 1) / 4000 % 2 ^ 33, by_ := .fw 0, epoch := 0, addr := none }
       let b := { s.m.newBatch (.fw 0) false true false with st := .requested, ctick := s.m.tick + 1, entries := [e] }
       let s1 : Block := { s.m with batches := s.m.batches.put id b }
       Answers .rtcAutoset s (((s1.fireIf (s1.freeIds == 0) EV.BAT.IDS_OUT).poolEvent s.m).p HID.AUTOLOCK 0)))

/-! ### Pairs and peel -/

/-- LEASE frames between the partners of a pair (R354, R359, R363, R364, R366), each past its checks: a RENEW of the own
pair is answered with the epoch taken over where it is newer, an ACK is counted and tells whether the standby is SYNCED, a takeover by the partner is adopted, a claim
enters the window while a joint start is open, a standby that is SYNCED prepares a swap and one that is not records 0x0A,
and PREPARED is held for the swap in preparation. LEASE frames with the witness (R356, R357, R366), each past its checks:
the witness grants a TAKE_REQ of a pair that it has not heard for 6.0 ms, with the next epoch, and refuses another; the
partner that waits notes a GRANT or a REFUSE of its witness; the witness takes the claim of a pair that it serves, and the
epoch of a newer takeover, and answers the renewals of the partner that it holds as active. -/
def Obligations.LeaseFramesTakeEffect : Prop :=
  (∀ (s : State) (h : Hdr) (l : LeaseIn) (s1 : Block), s.m.withSup 30 = true → s.m.leases h l.lc s1 →
     s1.fromPartner h = true →
     (l.pair.val = s1.selfId →
       let s2 := s1.notePartner.p HID.SEENAT (s1.g HID.LEASENOW)
       let s3 := s2.p PAIR.PAIR_AGE.TEST_AGE 0
       let s4 := s3.adoptEpoch (b2n h.pos) l.epoch
       (s2.waiting = false → Answers (.leaseRenew h l) s s2) ∧
       (s2.waiting = true → s3.jointOpen = false → Block.newer l.epoch s3.epoch = false →
         (s3.epoch = l.epoch % 2 ^ 32 → Answers (.leaseRenew h l) s (s3.send (s3.leaseFrame 2 l.seq 5 false))) ∧
         (s3.epoch ≠ l.epoch % 2 ^ 32 → Answers (.leaseRenew h l) s s3)) ∧
       (s2.waiting = true → s3.jointOpen = true ∨ Block.newer l.epoch s3.epoch = true →
         s4.epoch = l.epoch % 2 ^ 32 → Answers (.leaseRenew h l) s (s4.send (s4.leaseFrame 2 l.seq 5 false)))) ∧
     (l.pair.val = s1.selfId → (s1.notePartner.ackSeq l.seq).role ≠ 1 →
       Answers (.leaseAck h l) s (s1.notePartner.ackSeq l.seq)) ∧
     (l.pair.val = s1.selfId → (s1.notePartner.ackSeq l.seq).role = 1 → l.synced = true →
       Answers (.leaseAck h l) s (((s1.notePartner.ackSeq l.seq).p PAIR.PAIR_STAT.SYNCED 1).p HID.RESYNCTX 0)) ∧
     (s1.waiting = true → Block.newer l.epoch s1.epoch = true →
       Answers (.leaseTakeover h l) s (s1.adoptEpoch (b2n h.pos) l.epoch)) ∧
     (s1.jointOpen = true → Answers (.leaseClaim h l) s
       (s1.claimIn s1.selfId l.epoch (b2n h.pos) (s1.g PAIR.PAIR_CFG.PREFER))) ∧
     (s1.role = 2 → s1.syncedFlag = true → Answers (.leasePrepare h l) s
       ((((s1.p HID.SWAPAT ((s1.tick + (l.seq + 2 ^ 32 - s1.tick % 2 ^ 32) % 2 ^ 32) + 1)).p HID.SWAPMINE 0).p HID.SWAPGOT
         0).p HID.SWAPDRILL (b2n l.drill))) ∧
     (s1.role = 2 → s1.syncedFlag = false → Answers (.leasePrepare h l) s (s1.err 0x0B0 0x0A 1 0 0x0B0044 none)) ∧
     (s1.g HID.SWAPAT ≠ 0 → (s1.g HID.SWAPAT - 1) % 2 ^ 32 = l.seq % 2 ^ 32 → Answers (.leasePrepared h l) s
       (s1.p HID.SWAPGOT 1))) ∧
  (∀ (s : State) (h : Hdr) (l : LeaseIn) (s1 : Block), s.m.withSup 30 = true → s.m.leases h l.lc s1 →
     (l.wit.val = s1.selfId → s1.rd HID.WITEPOCH 0 l.pair.val ≠ 0 →
       let u := l.pair.val
       let ep := nextEpoch (s1.rd HID.WITEPOCH 0 u - 1)
       (6000 ≤ s1.leaseSince HID.WITSEEN u → Answers (.leaseTakeReq h l) s
         ((s1.witHold u ep (b2n h.pos)).send (s1.witFrame 4 u ep (b2n h.pos)))) ∧
       (s1.leaseSince HID.WITSEEN u < 6000 → Answers (.leaseTakeReq h l) s
         (s1.send (s1.witFrame 5 u (s1.rd HID.WITEPOCH 0 u - 1) (b2n h.pos))))) ∧
     (l.pair.val = s1.selfId → s1.fromWitness h = true →
       Answers (.leaseRefuse h l) s s1.noteWitness ∧
       (s1.noteWitness.waiting = true → l.seq % 2 = s1.noteWitness.posn →
         (s1.noteWitness.on HID.JOINT 0 0 = true → Answers (.leaseGrant h l) s
           ((s1.noteWitness.p HID.TAKEPEND 1).p HID.TAKEEP l.epoch)) ∧
         (s1.noteWitness.on HID.JOINT 0 0 = false → Answers (.leaseGrant h l) s (s1.noteWitness.p HID.GRANT 1)))) ∧
     (s1.fromPartner h = false →
       (l.wit.val = s1.selfId → s1.witServes l.pair.val = true → Answers (.leaseClaim h l) s
         (s1.claimIn l.pair.val l.epoch (b2n h.pos) (l.seq % 2))) ∧
       (s1.rd HID.WITEPOCH 0 l.pair.val ≠ 0 → Block.newer l.epoch (s1.rd HID.WITEPOCH 0 l.pair.val - 1) = true →
         Answers (.leaseTakeover h l) s (s1.witHold l.pair.val l.epoch (b2n h.pos))) ∧
       (l.wit.val ≠ s1.selfId → Answers (.leaseRenew h l) s s1) ∧
       (l.wit.val = s1.selfId → s1.witServes l.pair.val = true →
         let held := s1.rd HID.WITEPOCH 0 l.pair.val
         let s2 := s1.witHold l.pair.val l.epoch (b2n h.pos)
         (held = 0 ∨ Block.newer l.epoch (held - 1) = true → s2.rd HID.WITEPOCH 0 l.pair.val = l.epoch % 2 ^ 32 + 1 →
           s2.rd HID.WITPOS 0 l.pair.val = b2n h.pos → Answers (.leaseRenew h l) s
             ((s2.wr HID.WITSEEN 0 l.pair.val (s2.g HID.LEASENOW)).send (s2.witFrame 2 l.pair.val l.epoch l.seq))) ∧
         (held ≠ 0 → Block.newer l.epoch (held - 1) = false →
           (held = l.epoch % 2 ^ 32 + 1 ∧ s1.rd HID.WITPOS 0 l.pair.val = b2n h.pos → Answers (.leaseRenew h l) s
             ((s1.wr HID.WITSEEN 0 l.pair.val (s1.g HID.LEASENOW)).send (s1.witFrame 2 l.pair.val l.epoch l.seq))) ∧
           (¬(held = l.epoch % 2 ^ 32 + 1 ∧ s1.rd HID.WITPOS 0 l.pair.val = b2n h.pos) →
             Answers (.leaseRenew h l) s s1)))))

/-- The lease clock's events (R354, R355, R357, R364, R366, R374): the lease clock's reading alone fences an active partner
whose lease has lapsed; the active partner renews, once in 1.0 ms, while its heartbeat and its ticks come; a waiting partner
that has seen no renewal for 5.0 ms asks its witness, once in 1.0 ms, and takes over at the next boundary once its lease has
lapsed; a joint start claims after 20 ms; the claim window's winner is granted after 2.0 ms; partner and witness are lost
after 6.0 ms. Commands and events of a pair's drills and resynchronisation (R363, R365 to R367): FORCE_TAKE and RESYNC by who
may give them, a drill's check with its result, a day of the active role, and the end of a resynchronisation. -/
def Obligations.LeaseTimersAndPairCommandsTakeEffect : Prop :=
  (∀ (s : State) (lc : Nat), let a := s.m.leaseAt lc
     (s.m.g HID.PWRST ≤ 1 →
       let c := s.m.p HID.LEASENOW (max lc (s.m.g HID.LEASENOW))
       (c.paired = true → c.role = 1 → 4000 ≤ c.leaseSince HID.ACKEDAT 0 → Answers (.leaseFence lc) s
         (((((c.stopDriving.p PAIR.PAIR_STAT.ROLE 3).p HID.DRILLAT 0).p HID.DRILLFROM 0).sat PAIR.PAIR_COUNT1.FENCES 0 0
           1).fireHeld EV.PAIR.FENCED)) ∧
       (c.leaseLapsed = false → Answers (.leaseFence lc) s c)) ∧
     (s.m.supRuns = true →
       (s.m.islandUp 32 = true → a.paired = true → a.role = 1 → a.on HID.LEAVING 0 0 = false →
         a.g HID.RENLAST = 0 ∨ a.g HID.RENLAST + 1000 ≤ a.g HID.LEASENOW + 1 →
         let q := (a.g HID.RENSEQ + 1) % 2 ^ 32
         let s1 := ((a.p HID.RENSEQ q).wr HID.RENAT 0 (q % 64) (a.g HID.LEASENOW)).p HID.RENLAST (a.g HID.LEASENOW + 1)
         Answers (.leaseRenewSend lc true true) s (s1.send (s1.leaseFrame 1 q 5 false))) ∧
       (a.paired = true → a.waiting = true → a.jointOpen = false → a.g PAIR.PAIR_CFG.WITNESS ≠ 0 →
         5000 ≤ a.leaseSince HID.SEENAT 0 → 1000 ≤ a.leaseSince HID.TREQAT 0 →
         Answers (.leaseTakeReqTimer lc) s ((a.p HID.TREQAT (a.g HID.LEASENOW)).send (a.leaseFrame 3 0 1 false))) ∧
       (a.paired = true → a.waiting = true → a.on HID.TAKEPEND 0 0 = false → a.lapseTakes = true →
         Answers (.pairTakeover lc) s (((a.p HID.TAKEPEND 1).p HID.TAKEEP (nextEpoch a.epoch)).p HID.TAKELAPSE 1)) ∧
       (∀ k : Nat, a.paired = true → a.waiting = true → a.on HID.TAKEPEND 0 0 = true →
         s.m.pairTakeover k lc = (if a.on HID.TAKELAPSE 0 0 then a.sat PAIR.PAIR_COUNT0.TAKEOVERS 0 0 1 else a).becomeActive k
           (a.g HID.TAKEEP)) ∧
       (a.paired = true → a.on HID.JOINTWAIT 0 0 = true → a.g HID.JOINTAT + 80 ≤ a.tick →
         let s1 := ((a.p HID.JOINTWAIT 0).p HID.JOINT 1).claimIn a.selfId a.epoch a.posn (a.g PAIR.PAIR_CFG.PREFER)
         Answers (.jointStartTimeout lc) s (s1.send (s1.leaseFrame 7 (s1.g PAIR.PAIR_CFG.PREFER) 5 false))) ∧
       (∀ u : Fin 256, a.on HID.CLAIMON 0 u.val = true → 2000 ≤ a.leaseSince HID.CLAIMAT u.val →
         let ep := nextEpoch (a.rd HID.CLAIMEP 0 u.val)
         let pos := a.rd HID.CLAIMPOS 0 u.val
         let s1 := a.wr HID.CLAIMON 0 u.val 0
         (u.val ≠ a.selfId → Answers (.claimWindowEnd u lc) s ((s1.witHold u.val ep pos).send (s1.witFrame 4 u.val ep pos))) ∧
         (u.val = a.selfId → s1.on HID.JOINT 0 0 = true → s1.on PAIR.PAIR_STAT.WITNESS_OK 0 0 = false →
           s1.on PAIR.PAIR_STAT.LINK 0 0 = true → pos = s1.posn →
           Answers (.claimWindowEnd u lc) s ((s1.p HID.TAKEPEND 1).p HID.TAKEEP ep))) ∧
       (a.g HID.FENCEAT ≠ 0 → a.g HID.FENCEAT ≤ s.m.tick + 1 ∨ a.g HID.FENCELC ≤ a.g HID.LEASENOW →
         Answers (.swapFence lc) s ((a.p HID.FENCEAT 0).p HID.LEAVING 0).stopDriving) ∧
       (a.on PAIR.PAIR_STAT.PARTNER 0 0 = true → 6000 ≤ a.leaseSince HID.PARTNERAT 0 → Answers (.partnerTimeout lc) s
         ((a.p PAIR.PAIR_STAT.PARTNER 0).fire EV.PAIR.PARTNER_LOST)) ∧
       (a.on PAIR.PAIR_STAT.WITNESS_OK 0 0 = true → 6000 ≤ a.leaseSince HID.WITNESSAT 0 → Answers (.witnessTimeout lc) s
         ((a.p PAIR.PAIR_STAT.WITNESS_OK 0).fire EV.PAIR.WITNESS_LOST)))) ∧
  (∀ s : State,
     (∀ r : Req, s.m.mayWrite r 0x0B0048 = true →
       (s.m.tin01cfg r = true → s.m.paired = true → s.m.waiting = true → Answers (.forceTake r) s
         ((s.m.p HID.TAKEPEND 1).p HID.TAKEEP (nextEpoch s.m.epoch))) ∧
       (s.m.tin01cfg r = false → Answers (.forceTake r) s (s.m.refuse 0x0B0 0x01 r 0x0B0048)) ∧
       (s.m.role = 1 → Answers (.pairResyncCmd r) s (s.m.refuse 0x0B0 0x0A r 0x0B0048)) ∧
       (s.m.role ≠ 1 → s.m.paired = true → Answers (.pairResyncCmd r) s s.m.resyncStart.desyncAll)) ∧
     (s.m.supRuns = true →
       (s.m.g HID.DRILLAT ≠ 0 → s.m.g HID.DRILLAT ≤ s.m.tick + 1 → s.m.role = 1 →
         let l := s.m.drillSet
         let bad := l.filter fun c => !s.m.phys c
         let s1 := (((s.m.p HID.DRILLAT 0).p HID.DRILLFROM 0).p PAIR.DRILL_RES.DONE 1).p PAIR.DRILL_RES.PASS (b2n bad.isEmpty)
         let s2 := (s1.p PAIR.DRILL_RES.TESTED l.length).p PAIR.DRILL_RES.FAILED bad.length
         (bad = [] → s.m.on PAIR.PAIR_CTRL.BACK 0 0 = false → Answers .drillCheck s
           ((s2.p PAIR.DRILL_RES.FIRST 0).fire EV.PAIR.DRILL_PASS)) ∧
         (bad = [] → s.m.on PAIR.PAIR_CTRL.BACK 0 0 = true → Answers .drillCheck s
           (((s2.p PAIR.DRILL_RES.FIRST 0).p HID.BACKAT (s.m.g HID.DRILLAT + 6)).fire EV.PAIR.DRILL_PASS)) ∧
         (∀ c t, bad = c :: t → Answers .drillCheck s
           (((s2.p PAIR.DRILL_RES.FIRST c).p HID.BACKAT (s.m.g HID.DRILLAT + 6)).fire EV.PAIR.DRILL_FAIL))) ∧
       (s.m.paired = true → s.m.role = 1 → s.m.g HID.DAYAT + Block.dayTicks ≤ s.m.tick →
         let s1 := (s.m.p HID.DAYAT (s.m.g HID.DAYAT + Block.dayTicks)).sat PAIR.PAIR_AGE.TEST_AGE 0 0 1
         (s1.g PAIR.PAIR_CFG.DRILL_DAYS = 0 ∨ s1.g PAIR.PAIR_AGE.TEST_AGE ≠ s1.g PAIR.PAIR_CFG.DRILL_DAYS →
           Answers .drillDue s s1) ∧
         (s1.g PAIR.PAIR_CFG.DRILL_DAYS ≠ 0 → s1.g PAIR.PAIR_AGE.TEST_AGE = s1.g PAIR.PAIR_CFG.DRILL_DAYS →
           Answers .drillDue s (s1.fire EV.PAIR.DRILL_DUE))) ∧
       (s.m.on HID.RESYNC 0 0 = true → s.m.on HID.MODSTATE 0 0 = true →
         ((List.range 128).all fun k => !s.m.on HID.DSLOT 0 k) = true →
         let s1 := ((s.m.p HID.RESYNC 0).p HID.DLOOPS 0).noteDesync.p PAIR.PAIR_STAT.SYNCED 1
         Answers .resyncDone s ((if s1.role = 3 then s1.p PAIR.PAIR_STAT.ROLE 2 else s1).fire EV.PAIR.SYNCED))))

/-- STATE_XFER frames (R361 to R363, R371), past their checks: the active partner's image stands for the standby's own
capture, module state is taken, a digest is held, and lines are gathered; a frame whose CRC fails drops what was gathered. -/
def Obligations.TransferFramesTakeEffect : Prop :=
  ∀ (s : State) (h : Hdr) (s1 : Block), s.m.withSup 30 = true → s.m.xfers h s1 → s1.fromPartner h = true →
    (∀ (e : Fin 16) (j : Fin 8) (tick ev : Nat) (ws : List Word) (late : List Nat) (fire : Bool) (c : Scan),
      s1.role = 2 → s1.scan e.val j.val = some c → c.ready = false → c.rel = tick →
      let w := s1.win e.val j.val c.bank 0
      let s2 := (s1.putImage e.val w 0 (ws.map fun (v : Word) => v.toNat)).putLate e.val w late (List.range (16 * w.lines))
      let s3 := s2.putScan e.val j.val { c with fire := fire, ev := ev % 8192 }
      Answers (.xferImage h e j tick true ws late fire ev) s
        ((s3.noteCapture e.val j.val (late.filter fun x => decide (x < 16 * w.lines))
          (!(s3.forcedWords e.val j.val 0).isEmpty)).readySlot e.val j.val)) ∧
    (∀ (tick : Nat) (items : List (Nat × Nat × Word)), s1.waiting = true →
      Answers (.xferEntries h 0xFF tick true items) s
        (s1.takeState tick (items.map fun (v : Nat × Nat × Word) => (v.1, v.2.1, v.2.2.toNat)))) ∧
    (∀ (slot : Fin 256) (tick : Nat) (crc : Word), s1.role = 2 → slot.val ≠ 0xFF →
      let k := Block.xferKey slot.val
      let s2 := (s1.wr HID.DIGAT 0 k (tick + 1)).wr HID.DIGCRC 0 k crc.toNat
      s2.rd HID.OWNAT 0 k ≠ tick + 1 → Answers (.xferDigest h slot tick crc) s s2) ∧
    (∀ (slot : Fin 256) (tick : Nat) (l : List (Nat × List Word)),
      let k := Block.xferKey slot.val
      Answers (.xferLines h slot tick true l) s { s1 with
        xfer := s1.xfer.put k
          ((s1.xfer.find k).getD [] ++ l.map fun (v : Nat × List Word) => (v.1, v.2.map fun (x : Word) => x.toNat)) } ∧
      Answers (.xferLines h slot tick false l) s { s1 with xfer := s1.xfer.del k }) ∧
    (∀ tick us : Nat, s1.waiting = true → Answers (.xferEnd h 0xFF tick us) s (s1.p HID.MODSTATE 1))

/-- Peel (R371, R373, R375): a placement is kept for its tick, a snapshot completes, survival is asked for on command or
after 40 ticks of silence of the source while ring tokens come, and a checkpoint of a parked slot that is a period late fires. -/
def Obligations.PeelTakesEffect : Prop :=
  ∀ (s : State) (e : Fin 16) (j : Fin 8),
    (∀ (h : Hdr) (s1 : Block) (epoch tick : Nat) (al : Fin 4096) (sm dm : Fin 256) (sl dl : Fin 128),
      s.m.withSup 30 = true → s.m.takes h 0x0D true s1 →
      Answers (.leasePlace h epoch tick al sm dm sl dl) s { s1 with
        places := s1.places ++ [⟨epoch, s1.fullTick (s.m.fullTick tick), al.val, sm.val, dm.val, sl.val, dl.val⟩] }) ∧
    (∀ (us : Nat) (x : Ckpt), s.m.supRuns = true → s.m.on HID.SNAPHELD 0 (scanKey e.val j.val) = false →
      s.m.rd HID.PEELWAIT 0 (scanKey e.val j.val) ≠ 0 →
      (s.m.localSource e.val j.val = none → s.m.ckpt.find (scanKey e.val j.val) = some x →
        Answers (.peelSnapshotDone e j us) s (s.m.snapIn e.val j.val us x.lines)) ∧
      (∀ q, s.m.localSource e.val j.val = some q →
        let l := s.m.retLines (q / 8) (q % 8)
        Answers (.peelSnapshotDone e j us) s (((s.m.wr PEEL.PEEL_XFER.LINES 0 q (min l.length 4095)).wr PEEL.PEEL_XFER.TIME 0 q
          (min us 65535)).snapIn e.val j.val us l))) ∧
    (∀ r : Req, s.m.mayWrite r 0x0B1068 = true →
      let a := s.m.own PEEL.PEEL_SEL.ENGINE 0 r
      let b := s.m.own PEEL.PEEL_SEL.SLOT 0 r
      (s.m.tin01cfg r = false → Answers (.peelTake r) s (s.m.refuse 0x0B1 0x01 r 0x0B1068)) ∧
      (s.m.tin01cfg r = true → s.m.takeCode a b = 0 → Answers (.peelTake r) s (s.m.survAsk a b))) ∧
    (s.m.supRuns = true →
      (s.m.takeCode e.val j.val = 0 → s.m.on PEEL.PEEL_CFG.AUTO 0 (scanKey e.val j.val) = true →
        ∀ c, s.m.ckpt.find (scanKey e.val j.val) = some c → s.m.rd HID.HEARD 0 c.src + 40 ≤ s.m.tick + 1 →
        s.m.g HID.TOKENAT ≠ 0 → s.m.tick ≤ s.m.g HID.TOKENAT →
        Answers (.survivalAuto e j) s (s.m.wr HID.SURVREQ 0 (scanKey e.val j.val) 1)) ∧
      (s.m.parked e.val j.val = true →
        (s.m.ckpt.find (scanKey e.val j.val) = none → Answers (.ckptMissed e j) s (s.m.fire EV.PEEL.CKPT_MISSED)) ∧
        (∀ c, s.m.ckpt.find (scanKey e.val j.val) = some c →
          (c.tick + s.m.rd TSK.TSK_PERIOD.PERIOD e.val j.val ≤ s.m.tick →
            Answers (.ckptMissed e j) s (s.m.fire EV.PEEL.CKPT_MISSED)) ∧
          (s.m.tick < c.tick + s.m.rd TSK.TSK_PERIOD.PERIOD e.val j.val → Answers (.ckptMissed e j) s s.m))))

/-! ### Keys and sessions -/

/-- KEY_CMD (R380 to R387, R396, R397): a session of tin 0 with the configure right (of a meter's readers for a meter
signature) whose operation passes its checks, while no operation runs: the operation is in progress with the words that
the session wrote to KEY_DATA, and BUSY is 1. One that fails its checks is refused with their code, and CMD_REFUSED fires. -/
def Obligations.KeyCommandsStartOperations : Prop :=
  ∀ (s : State) (n : Fin 64), let r := Req.ses n
    s.m.mayWrite r 0x0C0054 = true → s.m.on KEY.KEY_RESULT.BUSY 0 0 = false →
    let law (c : Instr) (op src aux : Nat) : Prop :=
      let o : KeyOp := ⟨r, op, src, aux, s.m.keyIn r, s.m.own KEY.KEY_NEWATTR.NEWATTR 0 r⟩
      let s1 : Block := { s.m with keyData := s.m.keyData.del (4 + n.val) }
      (s.m.keyOpCode o (s.m.tinOf r) = 0 → Answers c s
        { ((s1.p KEY.KEY_RESULT.BUSY 1).p KEY.KEY_RESULT.LAST op) with keyOp := some o }) ∧
      (s.m.keyOpCode o (s.m.tinOf r) ≠ 0 → Answers c s
        (((s1.keyResult op (s.m.keyOpCode o (s.m.tinOf r))).refuse 0x0C0 (s.m.keyOpCode o (s.m.tinOf r)) r 0x0C0054).fire
          EV.KEY.CMD_REFUSED))
    (s.m.tin0cfg r = true → ∀ k a : Fin 64,
      law (.keyLoad r k) 1 k.val 0 ∧ law (.keyGenerate r k) 2 k.val 0 ∧ law (.keyDerive r k a) 3 k.val a.val ∧
      law (.keyWrapExport r k a) 4 k.val a.val ∧ law (.keyUnwrap r k a) 5 k.val a.val ∧ law (.keyErase r k) 6 k.val 0 ∧
      law (.keyPubkey r k) 7 k.val 0 ∧ law (.debugArm r) 9 0 0 ∧ law (.debugDisarm r) 10 0 0 ∧ law (.keyLifecycle r) 11 0 0) ∧
    (∀ m : Fin 64, s.m.meterRead r (m.val % 16) = true → law (.signMeter r m) 8 0 m.val)

/-- The words of an operation (R382, R397): KEY_DATA takes them, at most 128, a read of KEY_OUT takes the oldest out, and
a sweep that finds no slot failed fires SCRUB_DONE. The end of a vault operation (R396, R397): no operation runs, and its
outcome stands in KEY_RESULT. -/
def Obligations.KeyOperationsTakeEffect : Prop :=
  (∀ (s : State) (r : Req) (q : Nat), reqHeld r = some q →
     (∀ w : Word, s.m.mayWrite r 0x0C0050 = true →
       ((s.m.keyIn r).length < 128 → Answers (.keyDataWrite r w) s
         { s.m with keyData := s.m.keyData.put q (s.m.keyIn r ++ [w.toNat]) }) ∧
       (128 ≤ (s.m.keyIn r).length → Answers (.keyDataWrite r w) s (s.m.refuse 0x0C0 0x08 r 0x0C0050))) ∧
     (s.m.live r = true → s.m.selOk r .read 0x0C0058 = true → ∃ u, exec (.keyOutPop r) s = .next u ∧ u.pending = s.pending ∧
       u.m.keyOut = s.m.keyOut.put q (s.m.keyOutOf r).tail ∧ u.m.keyData = s.m.keyData ∧ u.m.keyMat = s.m.keyMat) ∧
     (s.m.withSup 34 = true → ∀ l : List (Fin 64),
       ((l.map fun k => k.val).filter fun k => (s.m.keyAttr k).testBit 0) = [] →
       Answers (.keyIntegSweep l) s (s.m.fire EV.KEY.SCRUB_DONE).noteFault)) ∧
  (∀ (s : State) (ok : Bool) (attr : Word) (o : KeyOp), s.m.withSup 34 = true → s.m.keyOp = some o →
     let e := ({ s.m with keyOp := none } : Block).keyEffect o ok attr.toNat
     let s1 := (e.1.keyResult o.op e.2).noteFailed
     let s2 := if e.2 = 0 then s1 else (s1.refuse 0x0C0 e.2 o.by_ 0x0C0054).fire EV.KEY.CMD_REFUSED
     let gone := ((List.range 64).filter fun k => (s.m.keyAttr k).testBit 0).filter fun k => !(s2.keyAttr k).testBit 0
     let s3 := s2.credGone gone Block.allSes
     (s3.keyAttrs = s.m.keyAttrs → Answers (.keyOpDone ok attr) s s3) ∧
     (s3.keyAttrs ≠ s.m.keyAttrs → Answers (.keyOpDone ok attr) s (s3.stoRequest 0x22)))

/-- Frames of sessions (R388 to R396), once taken at their port: a HELLO of a locked-out source, one that finds no free entry
and one whose checks fail are refused with their code; one whose checks pass opens a handshake in the lowest free entry for
its tin, makes its keys, and is answered with HELLO_ACK; a FINISH whose checks pass makes the session READY, and what made its
keys is erased; DATA performs its operations and is answered; CLOSE ends the session. The keys are those of R390. Ends of
sessions (R388, R394, R395): a handshake ends 2.0 s after its HELLO, an idle session and one that has lived its life end
with EXPIRED fired, lockouts end after 60 s, and SES_CMD.CLOSE ends a session for who may. -/
def Obligations.SessionsTakeEffect : Prop :=
  (∀ (s : State) (src : SesSrc) (s1 : Block), s.m.withSup 34 = true →
     (∀ h : HelloIn, s.m.sesRx src = (s1, true) →
       let from_ := srcNum src
       (s1.lockedOut from_ = true → Answers (.sesHello src h) s (s1.sesSendTo src 7 [0x0A])) ∧
       (s1.lockedOut from_ = false → s1.freeSes = none → s1.helloCode src h = 0x0A →
         s1.on HDR.PAGE_CTRL.ENABLE 0x0C1 0 = true →
         Answers (.sesHello src h) s (((s1.sesSendTo src 7 [0x0A]).fire EV.SES.FULL).authFail from_)) ∧
       ∀ n : Fin 64, s1.lockedOut from_ = false → s1.freeSes = some n →
         (s1.helloCode src h ≠ 0 → Answers (.sesHello src h) s
           ((s1.sesSendTo src 7 [s1.helloCode src h]).authFail from_)) ∧
         (s1.helloCode src h = 0 →
           let f := s1.takeFree
           let s2 := ((f.1.wr SES.SES_STATE.STATE 0 n.val 1).wr SES.SES_STATE.MODE 0 n.val h.mode).wr SES.SES_STATE.TIN 0 n.val
             h.tin.val
           let psk := if h.mode = 1 then wordOcts ((s1.keyMat.find h.slot.val).getD []) else List.replicate 48 0
           let x := Block.makeHandshake h psk (wordOcts ((s1.keyMat.find 0).getD [])) f.2
           let opened (s3 : Block) : Block :=
             let s4 := (s3.wr SES.SES_ID.SID 0 n.val (Config.sessionId f.2)).wr SES.SES_ID.CRED 0 n.val
               (if h.mode = 1 then h.slot.val else 0)
             (({ s4 with
               handshakes := s4.handshakes.put n.val x,
               sesKeys := s4.sesKeys.put n.val (Block.handshakeKeys x) } : Block).wr HID.SESHELLO 0 n.val s.m.tick).sesSend n.val 2
                 (Block.ackBody h.mode (secretOcts f.2 48 32) (pubPoint x.eph) ++ x.auth)
           (∀ k, src = .svc k → Answers (.sesHello src h) s (opened (s2.wr SES.SES_STATE.SERVICE 0 n.val 1))) ∧
           (∀ y, src = .ring y → Answers (.sesHello src h) s
             (opened ((s2.wr SES.SES_STATE.PEER_ID 0 n.val y.src.val).wr SES.SES_STATE.PEER_POS 0 n.val (b2n y.pos)))))) ∧
     (∀ (n : Fin 64) (f : FinishIn), s.m.sesRx src = (s1, true) → s1.rd SES.SES_STATE.STATE 0 n.val = 1 →
       s1.sesFrom n.val src = true →
       (s1.finishCode n.val f = 0 → ∃ u, exec (.sesFinish src n f) s = .next u ∧ u.pending = s.pending ∧
         u.m = s1.sesReady n.val f ∧ u.m.handshakes = s1.handshakes.del n.val ∧ u.m.sesKeys = s1.sesKeys ∧
         u.m.rd SES.SES_STATE.STATE 0 n.val = 2) ∧
       (s1.finishCode n.val f ≠ 0 → Answers (.sesFinish src n f) s (s1.handshakeEnd n (some (s1.finishCode n.val f))))) ∧
     (∀ (n : Fin 64) (seq : Nat), s.m.sesFrame src n seq true = (s1, true) →
       Answers (.sesClose src n seq true) s (s1.sesEnd n none) ∧
       ∀ l : List SesOp, l ≠ [] → l.length ≤ 64 →
         let x := (s1.wrap HID.ANSNO 0 0 1).sesOps n (s1.g HID.ANSNO) [] l
         (x.1.rd SES.SES_STATE.STATE 0 n.val = 2 → Answers (.sesData src n seq true l) s
           (x.1.sesReply ⟨n.val, s1.g HID.ANSNO, x.2⟩)) ∧
         (x.1.rd SES.SES_STATE.STATE 0 n.val ≠ 2 → Answers (.sesData src n seq true l) s x.1))) ∧
  (∀ (h : HelloIn) (f : FinishIn) (psk idKey : List Nat) (serial : Nat), let x := Block.makeHandshake h psk idKey serial
     x.z = ecdhX x.eph h.key ∧ x.prk = hmac384 psk x.z ∧
     x.h = sha384 (Block.helloBody h ++ Block.ackBody h.mode (secretOcts serial 48 32) (pubPoint x.eph)) ∧
     x.fk = kdf x.prk (ascii "UNZAN-FIN") x.h 384 ∧ Block.handshakeKeys x = kdf x.prk (ascii "UNZAN-SES") x.h 576 ∧
     (h.mode = 1 → x.auth = hmac384 x.fk (1 :: x.h)) ∧ Block.handshakeH2 x f = sha384 (x.h ++ x.auth ++ f.body)) ∧
  (∀ (s : State),
     (s.m.supRuns = true →
       (∀ n : Fin 64,
         (s.m.rd SES.SES_STATE.STATE 0 n.val = 1 → s.m.rd HID.SESHELLO 0 n.val + 8000 ≤ s.m.tick →
           Answers (.handshakeTimeout n) s (s.m.handshakeEnd n none)) ∧
         (s.m.rd SES.SES_STATE.STATE 0 n.val = 2 → s.m.rd HID.SESLAST 0 n.val + 4000 * s.m.g SES.SES_CFG.IDLE ≤ s.m.tick →
           Answers (.sessionIdleExpire n) s ((s.m.sesEnd n (some 1)).fire EV.SES.EXPIRED)) ∧
         (s.m.rd SES.SES_STATE.STATE 0 n.val = 2 →
           s.m.rd HID.SESREADY 0 n.val + 4000 * (3600 * s.m.g SES.SES_CFG.LIFE) ≤ s.m.tick →
           Answers (.sessionLifeExpire n) s ((s.m.sesEnd n (some 2)).fire EV.SES.EXPIRED))) ∧
       Answers .lockoutExpire s { s.m with lockouts := s.m.lockouts.filter fun x => decide (s.m.tick < x.at_ + 240000) }) ∧
     (∀ (r : Req) (k : Fin 64), s.m.mayWrite r 0x0C1058 = true → s.m.own SES.SES_SEL.SESSION 0 r = k.val →
       (s.m.tin0cfg r = true ∨ r = .ses k → s.m.rd SES.SES_STATE.STATE 0 k.val ≠ 1 →
         Answers (.sesCloseCmd r) s (s.m.sesEnd k (some 5))) ∧
       (s.m.tin0cfg r = true ∨ r = .ses k → s.m.rd SES.SES_STATE.STATE 0 k.val = 1 →
         Answers (.sesCloseCmd r) s (s.m.handshakeEnd k none)) ∧
       (s.m.tin0cfg r = false → r ≠ .ses k → Answers (.sesCloseCmd r) s (s.m.refuse 0x0C1 0x01 r 0x0C1058))))

/-! ### Stores, recorder and updates -/

/-- Stores and recorder (R403, R411, R412): a write that has succeeded makes its bank the current one, a failed one is
repeated once; a block of records is spilled; REC_SEL selects a record, and the fetch of one that lies only in the spill
area ends. -/
def Obligations.StoresTakeEffect : Prop :=
  ∀ s : State,
    (s.m.islandRuns 35 = true →
      (∀ (id : Fin 256) (b : Bank), s.m.on STO.STO_STAT.WRITING 0 id.val = true → (s.m.sto id.val).writing = some b →
        let st := { s.m.sto id.val with writing := none }
        let s1 := if s.m.stoTarget id.val then s.m.putSto id.val { st with b1 := some b }
          else s.m.putSto id.val { st with b0 := some b }
        Answers (.storeWriteDone id true) s
          (((s1.wrap STO.STO_COUNT.WRITES 0 id.val 1).stoWritten id.val).stoNext id.val) ∧
        let s2 := (s.m.sat STO.STO_COUNT.FAILS 0 id.val 1).fire EV.STO.WRITE_FAIL
        (s.m.on HID.STORETRY 0 id.val = false → Answers (.storeWriteDone id false) s (s2.wr HID.STORETRY 0 id.val 1)) ∧
        (s.m.on HID.STORETRY 0 id.val = true → Answers (.storeWriteDone id false) s
          ((s2.putSto id.val st).stoNext id.val)))) ∧
    (s.m.withSup 35 = true → s.m.unspilled ≠ [] → s.m.on HID.SPILLING 0 0 = true ∨ 512 ≤ s.m.unspilled.length →
      Answers (.recorderSpill true) s ((s.m.spillAll (s.m.unspilled.take 512)).stoRequest 0x32) ∧
      Answers (.recorderSpill false) s (s.m.fire EV.REC.SPILL_FAIL)) ∧
    (∀ (r : Req) (q : Nat), reqHeld r = some q →
      (∀ w : Word, s.m.mayWrite r 0x0D1040 = true → Answers (.recSelWrite r w) s
        ((s.m.wr REC.REC_SEL.SEQ 0 q (w.toNat % 2 ^ 24)).wr HID.RECBUSY 0 q
          (b2n ((s.m.recAt (w.toNat % 2 ^ 24)).isNone && (s.m.spillAt (w.toNat % 2 ^ 24)).isSome)))) ∧
      (s.m.live r = true → Answers (.recFetchDone r) s (s.m.wr HID.RECBUSY 0 q 0)))

/-- Updates (R414 to R419) by a session of tin 0 with the configure right: BEGIN opens a slot, UPD_DATA takes words, END
stages a whole image whose digest is right and fails another, ABORT drops the slot, CONFIRM ends a trial and REVERT is
taken at the next boundary. Every other requester is refused. The proof of an image's header (R414), and the watchdog of a
trial (R417): a header that proves opens the payload, another fails with its code; a trial image that does not release its
start within the watchdog is left by a restart. -/
def Obligations.UpdatesTakeEffect : Prop :=
  (∀ (s : State) (n : Fin 64) (k : Fin 2), let r := Req.ses n
     (s.m.mayWrite r 0x0D2044 = true → s.m.tin0cfg r = true →
       (s.m.on HDR.PAGE_CTRL.ENABLE 0x0D2 0 = true → s.m.g PWR.PWR_STAT.LADDER = 0 → s.m.updLoading k.val = false →
         s.m.updNamed k.val = false →
         let s1 := (((s.m.p (Block.updState k.val) 1).p (Block.updCodeF k.val) 0).p (Block.updSesF k.val) n.val).p (Block.updVer k.val) 0
         let s2 := (((s1.wr HID.UPDLEN 0 k.val 0).wr HID.UPDPROOF 0 k.val 0).wr HID.UPDPART 0 k.val 0).wr HID.UPDSES 0 n.val
           (k.val + 1)
         Answers (.updBegin r k false) s { s2 with updImg := s2.updImg.put k.val [] }) ∧
       Answers (.updAbort r k) s (s.m.updDrop k.val) ∧
       (s.m.on UPD.UPD_STAT.TRIAL 0 0 = true → Answers (.updRevert r false) s (s.m.p HID.UPDREVERT 1)) ∧
       (s.m.on UPD.UPD_STAT.TRIAL 0 0 = false → Answers (.updRevert r false) s (s.m.refuse 0x0D2 0x0A r 0x0D2044)) ∧
       (s.m.on UPD.UPD_STAT.TRIAL 0 0 = true → s.m.g UPD.UPD_ROLLBACK.RUN ≤ s.m.g UPD.UPD_ROLLBACK.MIN →
         Answers (.updConfirm r false) s
           ((((s.m.p UPD.UPD_STAT.TRIAL 0).fire EV.UPD.CONFIRMED).stoRelease cfgStoreIds).stoRequest 0x33))) ∧
     (s.m.mayWrite r 0x0D2044 = true → s.m.tin0cfg r = false →
       Answers (.updAbort r k) s (s.m.refuse 0x0D2 0x01 r 0x0D2044)) ∧
     (s.m.live r = true → s.m.tin0cfg r = true → s.m.updLoading k.val = true → s.m.g (Block.updSesF k.val) = n.val →
       s.m.g (Block.updState k.val) = 2 → s.m.rd HID.UPDLEN 0 k.val = 128 + s.m.updHdr k.val 8 / 4 →
       Answers (.updEnd r k true) s ((s.m.p (Block.updState k.val) 3).fire EV.UPD.STAGED) ∧
       Answers (.updEnd r k false) s (s.m.updFail k.val 4 0x0B)) ∧
     (∀ w : Word, s.m.mayWrite r 0x0D2048 = true → s.m.tin0cfg r = true → s.m.rd HID.UPDSES 0 n.val = k.val + 1 →
       s.m.updLoading k.val = true → s.m.g (Block.updSesF k.val) = n.val → s.m.on HID.UPDPROOF 0 k.val = false →
       s.m.g (Block.updState k.val) = 1 →
       let s1 : Block := { (s.m.wrap HID.UPDLEN 0 k.val 1) with
         updImg := s.m.updImg.put k.val (w.toNat :: (s.m.updImg.find k.val).getD []) }
       Answers (.updDataWrite r w) s (s1.wr HID.UPDPROOF 0 k.val (b2n (s1.rd HID.UPDLEN 0 k.val == 128))))) ∧
  (∀ s : State,
     (∀ (k : Fin 2) (sig : Bool), s.m.supRuns = true → s.m.on HID.UPDPROOF 0 k.val = true →
       s.m.g (Block.updState k.val) = 1 →
       let c := s.m.proofCode (s.m.updHdr k.val) sig
       (c = 0 → Answers (.updProofDone k sig) s
         (((s.m.p (Block.updState k.val) 2).p (Block.updVer k.val) (s.m.updHdr k.val 6)).wr HID.UPDPROOF 0 k.val 0)) ∧
       (c ≠ 0 → Answers (.updProofDone k sig) s ((s.m.updFail k.val 4 c).fire EV.UPD.PROOF_FAIL))) ∧
     (s.m.g HID.PWRST = 0 → s.m.g HID.RESTARTAT + 10000 + 400 * s.m.g PTP.PTP_LIMITS.START_WAIT ≤ s.m.tick →
       (s.m.g HID.ACTSLOT = 0 → s.m.on UPD.UPD_STAT.TRIAL 0 0 = true → s.m.on HID.STARTPEND 0 0 = true →
         Answers .trialWatchdog s ((s.m.restartBegin 5 true).p HID.TRIALFAIL 1)) ∧
       (s.m.g HID.ACTSLOT ≠ 0 → Answers .trialWatchdog s
         ((((s.m.bootTake (s.m.g HID.ACTSLOT - 1)).p HID.ACTSLOT 0).restartBegin 5 true).p HID.TRIALFAIL 1))))

/-! ### Power, performance and life -/

/-- Supplies (R9, R425 to R429, R454): inputs are lost and return, a supply warning asks for the writes that it must, its
end resumes, the end of the hold-up turns the module off, the loss of the standby rail makes it dark, a return of supply
starts it, and dips and lost clocks are noted. Heat and HALT (R435, R438, R447): the stop sequence of stage 4 ends in HALT
with THERMAL_STOP held, HALT ends below 80 °C in a warm start, a temperature sample is averaged over the last four, and
the power of the last second is shown. -/
def Obligations.SuppliesAndHeatTakeEffect : Prop :=
  (∀ s : State,
     (∀ b : Bool, let f := if b then PWR.PWR_STAT.B_OK else PWR.PWR_STAT.A_OK
       (s.m.on PWR.PWR_CFG.DUAL 0 0 = true → s.m.g HID.PWRST ≤ 1 → s.m.on PWR.PWR_STAT.LOST 0 0 = false →
         Answers (.inputLost b) s ((((s.m.p f 0).p PWR.PWR_STAT.LOST 1).fireHeld
           (if b then EV.PWR.INPUT_B_LOST else EV.PWR.INPUT_A_LOST)).noteFault)) ∧
       (s.m.on PWR.PWR_STAT.LOST 0 0 = true → s.m.on f 0 0 = false →
         Answers (.inputBack b) s ((((s.m.p f 1).p PWR.PWR_STAT.LOST 0).fireHeld EV.PWR.INPUT_BACK).noteFault)) ∧
       (s.m.on PWR.PWR_STAT.WARN 0 0 = true → s.m.g HID.PWRST ≤ 1 → s.m.g PWR.PWR_STAT.LADDER ≠ 4 → ∃ u,
         exec (.supplyOk b) s = .next u ∧ u.pending = s.pending ∧ u.m.on PWR.PWR_STAT.WARN 0 0 = false ∧
         u.m.on HID.SPILLING 0 0 = false ∧ u.m.bench = s.m.bench)) ∧
     (s.m.on PWR.PWR_STAT.WARN 0 0 = false → s.m.g HID.PWRST ≤ 1 →
       let s1 := (((s.m.p PWR.PWR_STAT.WARN 1).p HID.WARNAT s.m.tick).p PWR.PWR_STAT.A_OK 0).p PWR.PWR_STAT.B_OK 0
       let s2 := ((s1.sat PWR.PWR_COUNT.WARNINGS 0 0 1).fireHeld EV.PWR.SUPPLY_WARN).snapAsk
       Answers .supplyWarn s ((s2.p HID.SPILLING 1).stoRequests [0x01, 0x31])) ∧
     (s.m.on PWR.PWR_STAT.WARN 0 0 = true → s.m.g HID.PWRST ≤ 1 → s.m.g HID.PWRST = 1 ∨ s.m.g HID.WARNAT + 380 ≤ s.m.tick →
       ∃ u, exec .holdupEnd s = .next u ∧ u.pending = s.pending ∧ u.m.g HID.PWRST = 2 ∧ u.m.bench = [] ∧ u.m.shared = [] ∧
         u.m.engQ = [] ∧ u.m.loopQ = [] ∧ u.m.recs = [] ∧ u.m.msgs = []) ∧
     (s.m.g HID.PWRST = 2 →
       (s.m.g HID.OFFRTC + 65536 ≤ s.m.rtcCount → Answers .standbyRailLoss s
         ((({ s.m with relLog := [] } : Block).p HID.PWRST 3).rtcSwitch true)) ∧
       (s.m.islandUp 33 = true → s.m.rtcCount < s.m.g HID.OFFRTC + 65536 → Answers .standbyRailLoss s s.m)) ∧
     (∀ off : Bool, s.m.g HID.PWRST = (if off then 2 else 3) →
       let s1 := ((s.m.rtcSwitch false).p HID.PWRST 0).p PWR.PWR_STAT.WARN 0
       let s2 := ({ s1 with bench := [], shared := [], points := [] } : Block).restartBegin (if off then 1 else 0) off
       let s3 := ((s2.setAll HID.DREPEND 0 (List.range 96)).slicesWake (List.range 9)).wakeNone
       Answers .supplyPowerUp s (if off then s3.sat PWR.PWR_COUNT.BROWNOUTS 0 0 1 else s3).dipCount) ∧
     Answers .supplyDipBegin s (s.m.p HID.DIPON 1) ∧
     (∀ low us : Nat, s.m.on HID.DIPON 0 0 = true → s.m.g HID.PWRST ≤ 1 →
       Answers (.supplyDipEnd low us) s ((s.m.p HID.DIPON 0).lifeAdd 1 (Block.dipBin low us) 1)) ∧
     (∀ k : Fin 36, let s1 := s.m.wr HID.ISLANDDOWN 0 k.val 1
       (k.val < 18 ∨ 27 ≤ k.val → Answers (.islandClockLoss k) s s1.noteFault) ∧
       (18 ≤ k.val → k.val < 27 → Answers (.islandClockLoss k) s (s1.causeSet (k.val - 18) 2).noteFault))) ∧
  (∀ s : State,
     (s.m.g PWR.PWR_STAT.LADDER = 4 → s.m.g HID.PWRST = 0 → Answers .haltEnter s
       (((s.m.linksDown.p MOD.MOD_STATUS.RUN 0).p HID.PWRST 1).wr HID.HELDEV 0 EV.PWR.THERMAL_STOP 1).noteFault) ∧
     (s.m.g HID.PWRST = 1 → s.m.g PWR.PWR_STAT.SENS_VALID ≠ 0 → s.m.boardGe 800 = false → Answers .haltExit s
       (({ (s.m.p HID.PWRST 0) with bench := [], shared := [] } : Block).restartBegin 6 true).wakeNone) ∧
     (∀ t0 t1 t2 t3 : Int, s.m.supRuns = true ∨ s.m.g HID.PWRST = 1 ∨ s.m.g HID.PWRST = 2 → ∃ u, exec (.boardTempSample t0 t1 t2 t3) s = .next u ∧ u.pending = s.pending ∧
       u.m.g HID.TSNUM = min (s.m.g HID.TSNUM + 1) 4 ∧ u.m.tick = s.m.tick) ∧
     (∀ pw : Nat, s.m.supRuns = true → pw ≤ 4095 → Answers (.overPower pw) s
       (((s.m.p PWR.PWR_POWER.POWER pw).p PWR.PWR_POWER.PEAK (max (s.m.g PWR.PWR_POWER.PEAK) pw)).fireIf (decide (pw > 780))
         EV.PWR.OVER_POWER)) ∧
     (∀ r : Req, s.m.mayWrite r 0x0F0050 = true →
       Answers (.pwrPeakClr r) s (s.m.p PWR.PWR_POWER.PEAK (s.m.g PWR.PWR_POWER.POWER))))

/-- Performance and life (R450, R453 to R455): a counter at its maximum overflows, a sample record is taken out of its
FIFO, LIFE_SAVE and a full hour of RUN or HALT write the histograms, and a minute counts in AGE. -/
def Obligations.PerformanceAndLifeTakeEffect : Prop :=
  ∀ s : State,
    (∀ c : Fin 64, s.m.supRuns = true → s.m.perfRunning = true → s.m.on PERF.PERF_CFG.EN 0 c.val = true →
      s.m.perfChained c.val = false → s.m.perfVal c.val = 2 ^ 48 - 1 →
      Answers (.counterOverflow c) s (s.m.perfAdd c.val 1)) ∧
    (∀ (r : Req) (q : Nat), reqHeld r = some q → s.m.live r = true → s.m.selOk r .read 0x0E006C = true →
      ∃ u, exec (.smpPop r) s = .next u ∧ u.pending = s.pending ∧ u.m.smp = s.m.smp.tail) ∧
    (∀ r : Req, s.m.mayWrite r 0x0E104C = true →
      (s.m.tin0cfg r = true → Answers (.lifeSave r) s (s.m.stoRequest 0x31)) ∧
      (s.m.tin0cfg r = false → Answers (.lifeSave r) s (s.m.refuse 0x0E1 0x01 r 0x0E104C))) ∧
    (s.m.g HID.PWRST ≤ 1 → s.m.islandUp 0 = true →
      (s.m.on HID.LIFEDUE 0 0 = true → Answers .lifeHourlyWrite s ((s.m.p HID.LIFEDUE 0).stoRequest 0x31)) ∧
      (s.m.on HID.LIFEDUE 0 0 = false → Answers .lifeHourlyWrite s s.m)) ∧
    (s.m.supRuns = true → s.m.g PWR.PWR_STAT.LADDER ≤ 1 → s.m.g PWR.PWR_STAT.SENS_VALID = 0 →
      Answers .lifeMinute s ((s.m.sat LIFE.LIFE_STAT.AGE 0 0 1).minuteOf HID.LIFEMIN 0))

/-- A restart completes (R433, R434, R129 to R132): its request ends with the start's cause and kind shown, after the stores
have been read by the image that starts, the values of its kind restored, each slot restarted, the forces cleared and the
outputs of a partner left undriven. A start from OFF, DARK or HALT waits while the board is hotter than 110 °C; one whose root
fuses cannot be read stops at step 2 with the self-test failed. -/
def Obligations.RestartsComplete : Prop :=
  ∀ (s : State) (x : StartIn), s.m.supRuns = true → s.m.g HID.RESTART ≠ 0 → s.m.on HID.VAULTSTOP 0 0 = false →
    let cause := s.m.g HID.RESTART - 1
    let power := cause = 0 ∨ cause = 1 ∨ cause = 6
    let hot := s.m.g HID.TSNUM ≠ 0 ∧ s.m.g PWR.PWR_STAT.SENS_VALID ≠ 0 ∧ s.m.boardGe 1100 = true
    (power → hot → Answers (.restartReady x) s s.m) ∧
    (power → ¬hot → x.rootFail = true → Answers (.restartReady x) s ((s.m.p HID.SELFFAIL 1).p HID.VAULTSTOP 1).noteFault) ∧
    (¬power ∨ (¬hot ∧ x.rootFail = false) →
      let warm := s.m.on HID.RESTARTKIND 0 0
      let kind := if cause = 0 then 0 else if warm then 2 else 1
      let slot := s.m.g HID.ACTSLOT
      let s1 := ((s.m.stoDamage x.damaged).resetCells kind).emptyWork
      let s2 := ((s1.routerReset.bootImage cause slot x).readStores storeIds).reloadAll kind
      let s3 := (if power then (s2.reloadPower.keyStart x.debug x.vaultFail).debugFollow else s2).mapTables
      let s4 := (s3.bootStep cause slot (s.m.on HID.TRIALFAIL 0 0) (s1.actVerdict (slot - 1) x)).noteConfig.slicesCheck (List.range 9)
      let s5 : Block := { s4 with kret := (s4.stoCur 0x30).bind fun (b : Bool × Bank) => b.2.snap }
      let s6 := (s5.reloadProgs (List.range 16)).restartSlots warm (decide (cause = 0)) Block.allSlots
      let s7 := if power then s6.seedTick.p HID.RESTARTAT (s6.seedTick.tick - 4 * x.ms) else s6
      let s8 := ((s7.ptpStart.startShed s.m.ladderStart).p PWR.PWR_STAT.LADDER s.m.ladderStart).p PWR.PWR_START.CAUSE cause
      let s9 := ((s8.p MOD.MOD_STATUS.WARM (b2n warm)).restartForces s.m warm (List.range 16)).p MOD.MOD_STATUS.FORCED 0
      let s10 := (s9.fireIf s.m.anyForce EV.MOD.FORCE_OFF).p HID.STARTMS x.ms
      let s11 := ((s10.p HID.WAITLEFT (400 * s10.g PTP.PTP_LIMITS.START_WAIT)).lifeAdd 9 2 1).pairStart
      let s12 := if power then s11.wakeRest s.m else s11
      let s13 := if s12.on AUD.AUD_STAT.AUTONOMOUS 0 0 then s12 else s12.audReload
      let s14 := if s13.on RTC.RTC_STAT.OSF 0 0 then s13.wr HID.HELDEV 0 EV.RTC.OSF 1 else s13
      Answers (.restartReady x) s ((s14.releaseHeld.p HID.RESTART 0).noteFault))

/-! ### Operands, frames and requesters -/

/-- Operands within their window (R70, R71, R73, R74, R76, R91): of an area up to E the bit or the word at the effective
address, of a timer or counter its Q, and of a P point that is not valid 0, with PF set. -/
def Obligations.OperandsAreReadInTheirWindow : Prop :=
  ∀ r : Run,
    (r.ea < r.opWin.cap (r.unit true) →
      (r.area ≤ 4 → r.bitIs r ((r.word (r.ea / 32)).testBit (r.ea % 32))) ∧
      (r.area = 5 → r.bitIs r ((r.word (2 * r.ea + 1)).testBit 29)) ∧
      (r.area = 6 → r.bitIs r (counterQ (r.word (2 * r.ea)) (r.word (2 * r.ea + 1)))) ∧
      (r.area = 7 → r.pValid = false → r.bitIs (r.set r.c.setPf) false)) ∧
    (r.ea < r.opWin.cap (r.unit false) →
      (r.area ≤ 4 → r.wordIs r (BitVec.ofNat 32 (r.word r.ea))) ∧
      (r.area = 7 → r.pValid = false → r.wordIs (r.set r.c.setPf) 0))

/-- What the instructions of the register forms, the jumps and DJNZ leave alone (R64, R76, R92): every byte of every memory,
logical state, every batch and queue, every scan of another slot or engine, and every register but the engine's STALL and
error counts, the performance counters and sample registers, and the registers that a firing writes. -/
def Obligations.RegisterFormsFrame : Prop :=
  ∀ (s : State) (e : Fin 16) (ecc : Ecc) (j : Fin 8) (c0 : Scan) (i : NIns),
    s.m.issues e j c0 i = true → spares ecc i = true → registerOps.contains i.op = true →
    ∃ t, exec (naltinCommand i.op e ecc) s = .next t ∧ t.pending = s.pending ∧
      t.m = { s.m with cells := t.m.cells, scans := t.m.scans, smp := t.m.smp } ∧
      (∀ (e' : Fin 16) (j' : Fin 8), ¬ (e' = e ∧ j' = j) → t.m.scan e'.val j'.val = s.m.scan e'.val j'.val) ∧
      ∀ (f : Fld) (a k : Nat), f.code ∉ countedFields → t.m.rd f a k = s.m.rd f a k

/-- An access of a requester whose access cannot be made (the supervisor island does not run, or the session is not READY)
changes nothing (R17, R395). -/
def Obligations.AccessNeedsLiveRequester : Prop :=
  ∀ (s : State) (c : Instr) (r : Req), requester c = some r → s.m.live r = false → exec c s = .next s
end

