-- ==== Sys2Proof/Laws/State.lean ====
section
/-!
SUPPORT. The small lemmas of the state: which parts of the module a write of a register field, a firing of an event
source and a recorded error leave alone. All of them change the cells only.
-/
namespace Sys2Proof.Machine
namespace Block

/-! ### A write of a field changes the cells only, one lemma a part -/

@[simp] theorem wr_tick (s : Block) (f : Fld) (i k v : Nat) : (s.wr f i k v).tick = s.tick := by
  unfold wr; split <;> rfl

@[simp] theorem wr_sealed (s : Block) (f : Fld) (i k v : Nat) : (s.wr f i k v).sealed = s.sealed := by
  unfold wr; split <;> rfl

@[simp] theorem wr_bench (s : Block) (f : Fld) (i k v : Nat) : (s.wr f i k v).bench = s.bench := by
  unfold wr; split <;> rfl

@[simp] theorem wr_shared (s : Block) (f : Fld) (i k v : Nat) : (s.wr f i k v).shared = s.shared := by
  unfold wr; split <;> rfl

@[simp] theorem wr_dram (s : Block) (f : Fld) (i k v : Nat) : (s.wr f i k v).dram = s.dram := by
  unfold wr; split <;> rfl

@[simp] theorem wr_points (s : Block) (f : Fld) (i k v : Nat) : (s.wr f i k v).points = s.points := by
  unfold wr; split <;> rfl

@[simp] theorem wr_remoteIn (s : Block) (f : Fld) (i k v : Nat) : (s.wr f i k v).remoteIn = s.remoteIn := by
  unfold wr; split <;> rfl

@[simp] theorem wr_batches (s : Block) (f : Fld) (i k v : Nat) : (s.wr f i k v).batches = s.batches := by
  unfold wr; split <;> rfl

@[simp] theorem wr_fixed (s : Block) (f : Fld) (i k v : Nat) : (s.wr f i k v).fixed = s.fixed := by
  unfold wr; split <;> rfl

@[simp] theorem wr_engQ (s : Block) (f : Fld) (i k v : Nat) : (s.wr f i k v).engQ = s.engQ := by
  unfold wr; split <;> rfl

@[simp] theorem wr_loopQ (s : Block) (f : Fld) (i k v : Nat) : (s.wr f i k v).loopQ = s.loopQ := by
  unfold wr; split <;> rfl

@[simp] theorem wr_scans (s : Block) (f : Fld) (i k v : Nat) : (s.wr f i k v).scans = s.scans := by
  unfold wr; split <;> rfl

@[simp] theorem wr_maps (s : Block) (f : Fld) (i k v : Nat) : (s.wr f i k v).maps = s.maps := by
  unfold wr; split <;> rfl

@[simp] theorem wr_progs (s : Block) (f : Fld) (i k v : Nat) : (s.wr f i k v).progs = s.progs := by
  unfold wr; split <;> rfl

@[simp] theorem wr_progStore (s : Block) (f : Fld) (i k v : Nat) : (s.wr f i k v).progStore = s.progStore := by
  unfold wr; split <;> rfl

@[simp] theorem wr_relLog (s : Block) (f : Fld) (i k v : Nat) : (s.wr f i k v).relLog = s.relLog := by
  unfold wr; split <;> rfl

@[simp] theorem wr_relPend (s : Block) (f : Fld) (i k v : Nat) : (s.wr f i k v).relPend = s.relPend := by
  unfold wr; split <;> rfl

@[simp] theorem wr_wcache (s : Block) (f : Fld) (i k v : Nat) : (s.wr f i k v).wcache = s.wcache := by
  unfold wr; split <;> rfl

@[simp] theorem wr_ucache (s : Block) (f : Fld) (i k v : Nat) : (s.wr f i k v).ucache = s.ucache := by
  unfold wr; split <;> rfl

@[simp] theorem wr_overlay (s : Block) (f : Fld) (i k v : Nat) : (s.wr f i k v).overlay = s.overlay := by
  unfold wr; split <;> rfl

@[simp] theorem wr_deliv (s : Block) (f : Fld) (i k v : Nat) : (s.wr f i k v).deliv = s.deliv := by
  unfold wr; split <;> rfl

@[simp] theorem wr_kret (s : Block) (f : Fld) (i k v : Nat) : (s.wr f i k v).kret = s.kret := by
  unfold wr; split <;> rfl

@[simp] theorem wr_ftouch (s : Block) (f : Fld) (i k v : Nat) : (s.wr f i k v).ftouch = s.ftouch := by
  unfold wr; split <;> rfl

@[simp] theorem wr_loopWait (s : Block) (f : Fld) (i k v : Nat) : (s.wr f i k v).loopWait = s.loopWait := by
  unfold wr; split <;> rfl

@[simp] theorem wr_loopHist (s : Block) (f : Fld) (i k v : Nat) : (s.wr f i k v).loopHist = s.loopHist := by
  unfold wr; split <;> rfl

@[simp] theorem wr_capFifo (s : Block) (f : Fld) (i k v : Nat) : (s.wr f i k v).capFifo = s.capFifo := by
  unfold wr; split <;> rfl

@[simp] theorem wr_audQ (s : Block) (f : Fld) (i k v : Nat) : (s.wr f i k v).audQ = s.audQ := by
  unfold wr; split <;> rfl

@[simp] theorem wr_audRx (s : Block) (f : Fld) (i k v : Nat) : (s.wr f i k v).audRx = s.audRx := by
  unfold wr; split <;> rfl

@[simp] theorem wr_msgs (s : Block) (f : Fld) (i k v : Nat) : (s.wr f i k v).msgs = s.msgs := by
  unfold wr; split <;> rfl

@[simp] theorem wr_isl (s : Block) (f : Fld) (i k v : Nat) : (s.wr f i k v).isl = s.isl := by
  unfold wr; split <;> rfl

@[simp] theorem wr_metKept (s : Block) (f : Fld) (i k v : Nat) : (s.wr f i k v).metKept = s.metKept := by
  unfold wr; split <;> rfl

@[simp] theorem wr_metPage (s : Block) (f : Fld) (i k v : Nat) : (s.wr f i k v).metPage = s.metPage := by
  unfold wr; split <;> rfl

@[simp] theorem wr_metLog (s : Block) (f : Fld) (i k v : Nat) : (s.wr f i k v).metLog = s.metLog := by
  unfold wr; split <;> rfl

@[simp] theorem wr_metTamp (s : Block) (f : Fld) (i k v : Nat) : (s.wr f i k v).metTamp = s.metTamp := by
  unfold wr; split <;> rfl

@[simp] theorem wr_metPars (s : Block) (f : Fld) (i k v : Nat) : (s.wr f i k v).metPars = s.metPars := by
  unfold wr; split <;> rfl

@[simp] theorem wr_txQ (s : Block) (f : Fld) (i k v : Nat) : (s.wr f i k v).txQ = s.txQ := by
  unfold wr; split <;> rfl

@[simp] theorem wr_sent (s : Block) (f : Fld) (i k v : Nat) : (s.wr f i k v).sent = s.sent := by
  unfold wr; split <;> rfl

@[simp] theorem wr_seen (s : Block) (f : Fld) (i k v : Nat) : (s.wr f i k v).seen = s.seen := by
  unfold wr; split <;> rfl

@[simp] theorem wr_rxBuf (s : Block) (f : Fld) (i k v : Nat) : (s.wr f i k v).rxBuf = s.rxBuf := by
  unfold wr; split <;> rfl

@[simp] theorem wr_domPend (s : Block) (f : Fld) (i k v : Nat) : (s.wr f i k v).domPend = s.domPend := by
  unfold wr; split <;> rfl

@[simp] theorem wr_alarms (s : Block) (f : Fld) (i k v : Nat) : (s.wr f i k v).alarms = s.alarms := by
  unfold wr; split <;> rfl

@[simp] theorem wr_segAns (s : Block) (f : Fld) (i k v : Nat) : (s.wr f i k v).segAns = s.segAns := by
  unfold wr; split <;> rfl

@[simp] theorem wr_keyMat (s : Block) (f : Fld) (i k v : Nat) : (s.wr f i k v).keyMat = s.keyMat := by
  unfold wr; split <;> rfl

@[simp] theorem wr_keyData (s : Block) (f : Fld) (i k v : Nat) : (s.wr f i k v).keyData = s.keyData := by
  unfold wr; split <;> rfl

@[simp] theorem wr_keyOut (s : Block) (f : Fld) (i k v : Nat) : (s.wr f i k v).keyOut = s.keyOut := by
  unfold wr; split <;> rfl

@[simp] theorem wr_keyOp (s : Block) (f : Fld) (i k v : Nat) : (s.wr f i k v).keyOp = s.keyOp := by
  unfold wr; split <;> rfl

@[simp] theorem wr_sesFails (s : Block) (f : Fld) (i k v : Nat) : (s.wr f i k v).sesFails = s.sesFails := by
  unfold wr; split <;> rfl

@[simp] theorem wr_lockouts (s : Block) (f : Fld) (i k v : Nat) : (s.wr f i k v).lockouts = s.lockouts := by
  unfold wr; split <;> rfl

@[simp] theorem wr_stores (s : Block) (f : Fld) (i k v : Nat) : (s.wr f i k v).stores = s.stores := by
  unfold wr; split <;> rfl

@[simp] theorem wr_kretNew (s : Block) (f : Fld) (i k v : Nat) : (s.wr f i k v).kretNew = s.kretNew := by
  unfold wr; split <;> rfl

@[simp] theorem wr_recs (s : Block) (f : Fld) (i k v : Nat) : (s.wr f i k v).recs = s.recs := by
  unfold wr; split <;> rfl

@[simp] theorem wr_spill (s : Block) (f : Fld) (i k v : Nat) : (s.wr f i k v).spill = s.spill := by
  unfold wr; split <;> rfl

@[simp] theorem wr_updImg (s : Block) (f : Fld) (i k v : Nat) : (s.wr f i k v).updImg = s.updImg := by
  unfold wr; split <;> rfl

@[simp] theorem wr_places (s : Block) (f : Fld) (i k v : Nat) : (s.wr f i k v).places = s.places := by
  unfold wr; split <;> rfl

@[simp] theorem wr_owners (s : Block) (f : Fld) (i k v : Nat) : (s.wr f i k v).owners = s.owners := by
  unfold wr; split <;> rfl

@[simp] theorem wr_xfer (s : Block) (f : Fld) (i k v : Nat) : (s.wr f i k v).xfer = s.xfer := by
  unfold wr; split <;> rfl

@[simp] theorem wr_ckpt (s : Block) (f : Fld) (i k v : Nat) : (s.wr f i k v).ckpt = s.ckpt := by
  unfold wr; split <;> rfl

@[simp] theorem wr_recQ (s : Block) (f : Fld) (i k v : Nat) : (s.wr f i k v).recQ = s.recQ := by
  unfold wr; split <;> rfl

@[simp] theorem wr_smp (s : Block) (f : Fld) (i k v : Nat) : (s.wr f i k v).smp = s.smp := by
  unfold wr; split <;> rfl

@[simp] theorem wr_asks (s : Block) (f : Fld) (i k v : Nat) : (s.wr f i k v).asks = s.asks := by
  unfold wr; split <;> rfl

@[simp] theorem wr_sesAns (s : Block) (f : Fld) (i k v : Nat) : (s.wr f i k v).sesAns = s.sesAns := by
  unfold wr; split <;> rfl

@[simp] theorem wr_xouts (s : Block) (f : Fld) (i k v : Nat) : (s.wr f i k v).xouts = s.xouts := by
  unfold wr; split <;> rfl

@[simp] theorem wr_commitQ (s : Block) (f : Fld) (i k v : Nat) : (s.wr f i k v).commitQ = s.commitQ := by
  unfold wr; split <;> rfl

@[simp] theorem wr_splitIds (s : Block) (f : Fld) (i k v : Nat) : (s.wr f i k v).splitIds = s.splitIds := by
  unfold wr; split <;> rfl

@[simp] theorem wr_wire (s : Block) (f : Fld) (i k v : Nat) : (s.wr f i k v).wire = s.wire := by
  unfold wr; split <;> rfl

@[simp] theorem wr_handshakes (s : Block) (f : Fld) (i k v : Nat) : (s.wr f i k v).handshakes = s.handshakes := by
  unfold wr; split <;> rfl

@[simp] theorem wr_sesKeys (s : Block) (f : Fld) (i k v : Nat) : (s.wr f i k v).sesKeys = s.sesKeys := by
  unfold wr; split <;> rfl

@[simp] theorem wr_imgQ (s : Block) (f : Fld) (i k v : Nat) : (s.wr f i k v).imgQ = s.imgQ := by
  unfold wr; split <;> rfl

@[simp] theorem wr_imgWait (s : Block) (f : Fld) (i k v : Nat) : (s.wr f i k v).imgWait = s.imgWait := by
  unfold wr; split <;> rfl

@[simp] theorem wr_hist (s : Block) (f : Fld) (i k v : Nat) : (s.wr f i k v).hist = s.hist := by
  unfold wr; split <;> rfl

@[simp] theorem wr_farLast (s : Block) (f : Fld) (i k v : Nat) : (s.wr f i k v).farLast = s.farLast := by
  unfold wr; split <;> rfl

@[simp] theorem wr_pmap (s : Block) (f : Fld) (i k v : Nat) : (s.wr f i k v).pmap = s.pmap := by
  unfold wr; split <;> rfl

@[simp] theorem wr_dramBad (s : Block) (f : Fld) (i k v : Nat) : (s.wr f i k v).dramBad = s.dramBad := by
  unfold wr; split <;> rfl

/-! ### The operations built on it: the module with other cells -/

theorem wr_cells (s : Block) (f : Fld) (i k v : Nat) : s.wr f i k v = { s with cells := (s.wr f i k v).cells } := by
  unfold wr; split <;> rfl

theorem p_cells (s : Block) (f : Fld) (v : Nat) : s.p f v = { s with cells := (s.p f v).cells } := s.wr_cells f 0 0 v

theorem sat_cells (s : Block) (f : Fld) (i k n : Nat) : s.sat f i k n = { s with cells := (s.sat f i k n).cells } :=
  s.wr_cells f i k _

theorem wrap_cells (s : Block) (f : Fld) (i k n : Nat) : s.wrap f i k n = { s with cells := (s.wrap f i k n).cells } :=
  s.wr_cells f i k _

theorem orBit_cells (s : Block) (f : Fld) (i k b : Nat) : s.orBit f i k b = { s with cells := (s.orBit f i k b).cells } :=
  s.wr_cells f i k _

/-- Two modules that differ in their cells at most. -/
def SameBut (s t : Block) : Prop := t = { s with cells := t.cells }

theorem SameBut.refl (s : Block) : SameBut s s := rfl

theorem SameBut.trans {a b c : Block} (h1 : SameBut a b) (h2 : SameBut b c) : SameBut a c := by
  unfold SameBut at *
  rw [h1] at h2
  exact h2

theorem sameBut_wr (s : Block) (f : Fld) (i k v : Nat) : SameBut s (s.wr f i k v) := s.wr_cells f i k v

theorem sameBut_ite (s a b : Block) (c : Prop) [Decidable c] (ha : SameBut s a) (hb : SameBut s b) :
    SameBut s (if c then a else b) := by
  split
  · exact ha
  · exact hb

/-- One firing changes the cells only. -/
theorem sameBut_fireBits (s : Block) (n : Nat) : SameBut s (s.fireBits n) := by
  unfold fireBits
  exact sameBut_ite _ _ _ _ ((sameBut_wr ..).trans (sameBut_wr ..)) (sameBut_wr ..)

theorem sameBut_fireCount (s : Block) (n c : Nat) : SameBut s (s.fireCount n c) := by
  unfold fireCount
  exact sameBut_ite _ _ _ _ (sameBut_wr ..) (SameBut.refl s)

theorem sameBut_mergeOvf (s : Block) (n : Nat) : SameBut s (s.mergeOvf n) :=
  (sameBut_wr ..).trans (sameBut_wr ..)

theorem sameBut_fireOvf (s : Block) : SameBut s s.fireOvf := by
  unfold fireOvf
  exact sameBut_ite _ _ _ _ ((sameBut_fireBits ..).trans (sameBut_mergeOvf ..))
    ((sameBut_fireBits ..).trans (sameBut_fireCount ..))

/-- A firing of an event source changes the cells only (R51, R54). -/
theorem sameBut_fire (s : Block) (n : Nat) : SameBut s (s.fire n) := by
  unfold fire
  refine sameBut_ite _ _ _ _ (sameBut_ite _ _ _ _ ?_ ?_) ?_
  · exact (sameBut_fireBits ..).trans (sameBut_mergeOvf ..)
  · exact ((sameBut_fireBits ..).trans (sameBut_mergeOvf ..)).trans (sameBut_fireOvf _)
  · exact (sameBut_fireBits ..).trans (sameBut_fireCount ..)

theorem sameBut_fireIf (s : Block) (c : Bool) (n : Nat) : SameBut s (s.fireIf c n) := by
  unfold fireIf
  exact sameBut_ite _ _ _ _ (sameBut_fire s n) (SameBut.refl s)

/-- A recorded error changes the cells only (R48). -/
theorem sameBut_err (s : Block) (page code req tin off : Nat) (b : Option Nat) :
    SameBut s (s.err page code req tin off b) := by
  unfold err sat
  exact ((((((sameBut_wr ..).trans (sameBut_wr ..)).trans (sameBut_wr ..)).trans (sameBut_wr ..)).trans
    (sameBut_wr ..)).trans (sameBut_wr ..)).trans (sameBut_wr ..)

theorem sameBut_errR (s : Block) (page code : Nat) (r : Req) (off : Nat) (b : Option Nat) :
    SameBut s (s.errR page code r off b) := sameBut_err ..

theorem sameBut_refuse (s : Block) (page code : Nat) (r : Req) (off : Nat) : SameBut s (s.refuse page code r off) := by
  unfold refuse
  exact sameBut_ite _ _ _ _ (SameBut.refl s) (sameBut_errR ..)

end Block

/-! ### The state -/

@[simp] theorem State.reset_pending : State.reset.pending = [] := rfl
@[simp] theorem State.reset_m : State.reset.m = Block.reset := rfl

end Sys2Proof.Machine
end

