-- ==== Sys2Proof/Laws/Access.lean ====
section
/-!
SUPPORT. What the occasions of commands and the writes of command registers come to, each said once.
-/
namespace Sys2Proof.Machine
namespace Block

theorem onSup_run (s : Block) (f : Block → Block) (h : s.supRuns = true) : s.onSup f = f s := by simp [onSup, h]

theorem onSup_stop (s : Block) (f : Block → Block) (h : s.supRuns = false) : s.onSup f = s := by simp [onSup, h]

theorem onIsl_run (s : Block) (k : Nat) (f : Block → Block) (h : s.islandRuns k = true) : s.onIsl k f = f s := by
  simp [onIsl, h]

theorem onIsl_stop (s : Block) (k : Nat) (f : Block → Block) (h : s.islandRuns k = false) : s.onIsl k f = s := by
  simp [onIsl, h]

theorem onSupIsl_run (s : Block) (k : Nat) (f : Block → Block) (h : s.withSup k = true) : s.onSupIsl k f = f s := by
  unfold withSup at h; simp [onSupIsl, h]

theorem onMet_run (s : Block) (f : Island → Island) (h : s.islandUp 29 = true) : s.onMet f = s.island f := by
  simp [onMet, h]

/-- An access of a requester that can be made is its effect. -/
theorem acc_live (s : Block) (r : Req) (f : Block → Block × Nat) (h : s.live r = true) : s.acc r f = (f s).1 := by
  unfold live at h; simp [acc, h]

/-- An access of a requester that cannot be made changes nothing. -/
theorem acc_dead (s : Block) (r : Req) (f : Block → Block × Nat) (h : s.live r = false) : s.acc r f = s := by
  unfold live at h; simp [acc, h]

/-- What a requester may write takes the effect of the register's own rule. -/
theorem wreg_cmd (s : Block) (r : Req) (off v : Nat) (y : Block × Nat) (hm : s.mayWrite r off = true)
    (hk : (pageKind (off / 4096)).isNone = false) (ho : ¬ off % 4096 < 0x040) (hl : (regAt off).2.isEmpty = false)
    (hr : allRo (regAt off).2 = false) (hc : s.cmdWrite r off v = some y) : s.wreg r off v = y.1 := by
  unfold mayWrite at hm
  simp only [Bool.and_eq_true, Bool.or_eq_true, Bool.not_eq_true', Bool.and_eq_false_iff, decide_eq_false_iff_not] at hm
  obtain ⟨⟨h1, h2⟩, h3⟩ := hm
  unfold wreg
  rw [acc_live _ _ _ h1]
  have h4 : ¬ (0x060 ≤ off / 4096 ∧ off / 4096 ≤ 0x064 ∧ (!s.holds r .configure) = true ∧
      (False ∨ (!false) = true)) := by
    rintro ⟨a, b, c, _⟩
    rcases h3 with (h3 | h3) | h3
    · exact h3 a
    · exact h3 b
    · simp [h3] at c
  simp only [regWrite, hk, ho, hl, h2, h4, if_false, Bool.false_eq_true, Bool.not_true, blockWrite, hr, hc]

/-- A write of a header register on a page of the map is the header's own rule. -/
theorem wreg_header (s : Block) (r : Req) (page o v : Nat) (hp : (pageKind page).isNone = false) (hm : s.mayWrite r (page*4096+o) = true) (ho : o < 0x40) :
  s.wreg r (page*4096+o) v = (s.headerWrite r (page*4096+o) v).1 := by
  unfold mayWrite at hm
  simp only [Bool.and_eq_true, Bool.or_eq_true, Bool.not_eq_true', Bool.and_eq_false_iff, decide_eq_false_iff_not] at hm
  obtain ⟨⟨h1, h2⟩, h3⟩ := hm
  unfold wreg
  rw [acc_live _ _ _ h1]
  have e1 : (page*4096+o)/4096 = page := by omega
  have e2 : (page*4096+o)%4096 = o := by omega
  simp only [regWrite, e1, e2, hp, ho]
  rw [e1] at h3
  rcases h3 with (h3 | h3) | h3
  · simp [h3]
  · simp [h3]
  · simp [h3]

/-- A write of an RWS register that passes every check is staged. -/
theorem wreg_staged (s : Block) (r : Req) (q off v : Nat) (hq : reqHeld r = some q) (h : s.stagesAt r off v = true) (hk : (pageKind (off / 4096)).isNone = false) (ho : ¬ off % 4096 < 0x040) (hl : (regAt off).2.isEmpty = false)
    (hr : allRo (regAt off).2 = false) (hw : hasAcc (regAt off).2 .rws = true)
   (hc : s.cmdWrite r off v = none ∨ s.cmdWrite r off v = some (s.stageWrite r off v)) : s.wreg r off v = s.stagedAt r off v := by
  unfold stagesAt at h
  simp only [Bool.and_eq_true, Bool.not_eq_true', decide_eq_true_eq] at h
  obtain ⟨⟨⟨⟨hm, hd⟩, h1⟩, h2⟩, h3⟩ := h
  have hm' := hm
  unfold mayWrite at hm
  simp only [Bool.and_eq_true, Bool.or_eq_true, Bool.not_eq_true', Bool.and_eq_false_iff, decide_eq_false_iff_not] at hm
  obtain ⟨⟨g1, g2⟩, g3⟩ := hm
  have hst : s.stageWrite r off v = (s.wr HID.HELDHV off (holdKey r) 0).stageAll r off (s.stageList r off (s.selAt r off) v) := by
    unfold stageWrite
    simp only [g2, h1, h2, h3]
    cases r <;> simp_all [reqHeld]
  have h4 : ¬ (0x060 ≤ off / 4096 ∧ off / 4096 ≤ 0x064 ∧ (!s.holds r .configure) = true ∧
      (False ∨ (!false) = true)) := by
    rintro ⟨a, b, c, _⟩
    rcases g3 with (h3 | h3) | h3
    · exact h3 a
    · exact h3 b
    · simp [h3] at c
  unfold wreg
  rw [acc_live _ _ _ g1]
  unfold stagedAt
  rcases hc with hc | hc <;>
  simp only [regWrite, hk, ho, hl, g2, h4, if_false, Bool.false_eq_true, Bool.not_true, blockWrite, hr, hc, hw, if_true, hst]

end Block
end Sys2Proof.Machine
end

