-- ==== Sys2Proof/Laws/Cells.lean ====
section
/-!
SUPPORT. The laws of the register cells: what a field reads after a write of it, and that a write of one field leaves
every other value alone and keeps the canonical form.
-/
namespace Sys2Proof.Machine

theorem Cells.find_put_same (m : Cells) (q : Key) (v : Nat) : (m.put q v).find q = some v := by
  induction m with
  | nil => simp [Cells.put, Cells.find]
  | cons h t ih =>
    obtain ⟨k, w⟩ := h
    simp only [Cells.put]
    split
    · simp [Cells.find]
    · split
      · simp [Cells.find]
      · simp [Cells.find, *]

theorem Cells.find_put_other (m : Cells) (q x : Key) (v : Nat) (h : x ≠ q) : (m.put q v).find x = m.find x := by
  induction m with
  | nil => simp [Cells.put, Cells.find, Ne.symm h]
  | cons a t ih =>
    obtain ⟨k, w⟩ := a
    simp only [Cells.put]
    split
    · rename_i hk; subst hk; simp [Cells.find, Ne.symm h]
    · split
      · simp [Cells.find, Ne.symm h]
      · simp [Cells.find, ih]

theorem Cells.find_del_same (m : Cells) (q : Key) : (m.del q).find q = none := by
  induction m with
  | nil => rfl
  | cons a t ih =>
    obtain ⟨k, w⟩ := a
    simp only [Cells.del]
    split
    · exact ih
    · simp [Cells.find, *]

theorem Cells.find_del_other (m : Cells) (q x : Key) (h : x ≠ q) : (m.del q).find x = m.find x := by
  induction m with
  | nil => rfl
  | cons a t ih =>
    obtain ⟨k, w⟩ := a
    simp only [Cells.del]
    split
    · rename_i hk; subst hk; simp [Cells.find, Ne.symm h, ih]
    · simp [Cells.find, ih]

namespace Block

/-- A field reads what was last written to it, cut to its width. -/
@[simp] theorem rd_wr_same (s : Block) (f : Fld) (i k v : Nat) : (s.wr f i k v).rd f i k = v % 2 ^ f.w := by
  unfold wr rd
  split
  · rename_i h; simp [Cells.find_del_same, h]
  · simp [Cells.find_put_same]

/-- A write of one field, page and index leaves every other value alone. -/
theorem rd_wr_other (s : Block) (f g : Fld) (i k v x y : Nat) (h : (⟨g.code, x, y⟩ : Key) ≠ ⟨f.code, i, k⟩) :
    (s.wr f i k v).rd g x y = s.rd g x y := by
  unfold wr rd
  split
  · simp [Cells.find_del_other _ _ _ h]
  · simp [Cells.find_put_other _ _ _ _ h]

/-- Fields of different codes are apart. -/
theorem rd_wr_field (s : Block) (f g : Fld) (i k v x y : Nat) (h : g.code ≠ f.code) :
    (s.wr f i k v).rd g x y = s.rd g x y :=
  s.rd_wr_other f g i k v x y (by intro e; exact h (congrArg Key.f e))

/-- Different selected indices of a field are apart. -/
theorem rd_wr_index (s : Block) (f : Fld) (i k v x y : Nat) (h : y ≠ k) : (s.wr f i k v).rd f x y = s.rd f x y :=
  s.rd_wr_other f f i k v x y (by intro e; exact h (congrArg Key.k e))

/-- Different pages of a field are apart. -/
theorem rd_wr_page (s : Block) (f : Fld) (i k v x y : Nat) (h : x ≠ i) : (s.wr f i k v).rd f x y = s.rd f x y :=
  s.rd_wr_other f f i k v x y (by intro e; exact h (congrArg Key.i e))

end Block

/-! ### The canonical form -/

theorem Key.lt_iff (a b : Key) :
    a.lt b = true ↔ a.f < b.f ∨ (a.f = b.f ∧ (a.i < b.i ∨ (a.i = b.i ∧ a.k < b.k))) := by
  simp [Key.lt]

theorem Key.lt_trans {a b c : Key} (h1 : a.lt b = true) (h2 : b.lt c = true) : a.lt c = true := by
  rw [Key.lt_iff] at *; omega

theorem Key.lt_or_lt {a b : Key} (h : a ≠ b) : a.lt b = true ∨ b.lt a = true := by
  rw [Key.lt_iff, Key.lt_iff]
  by_contra hc
  apply h
  obtain ⟨af, ai, ak⟩ := a
  obtain ⟨bf, bi, bk⟩ := b
  simp only [Key.mk.injEq]
  simp only at hc
  omega

/-- The keys that a store lists lie above a key. -/
def Cells.above (q : Key) (m : Cells) : Prop := ∀ c ∈ m, q.lt c.1 = true

theorem Cells.wf_cons (k : Key) (v : Nat) (t : Cells) :
    Cells.wf ((k, v) :: t) = true ↔ t.above k ∧ t.wf = true := by
  induction t generalizing k v with
  | nil => simp [Cells.wf, Cells.above]
  | cons x t ih =>
    obtain ⟨b, w⟩ := x
    have hx := ih b w
    simp only [Cells.wf, Bool.and_eq_true, Cells.above, List.mem_cons] at hx ⊢
    constructor
    · rintro ⟨h1, h3⟩
      refine ⟨?_, h3⟩
      rintro c (rfl | hc)
      · exact h1
      · exact Key.lt_trans h1 ((hx.1 h3).1 c hc)
    · rintro ⟨h2, h3⟩
      exact ⟨h2 (b, w) (Or.inl rfl), h3⟩

theorem Cells.above_del (m : Cells) (q b : Key) (h : m.above b) : (m.del q).above b := by
  induction m with
  | nil => exact h
  | cons x t ih =>
    obtain ⟨k, w⟩ := x
    have ht : Cells.above b t := fun c hc => h c (List.mem_cons_of_mem _ hc)
    simp only [Cells.del]
    split
    · exact ih ht
    · intro c hc
      rcases List.mem_cons.1 hc with rfl | hc
      · exact h _ (List.mem_cons_self ..)
      · exact ih ht c hc

theorem Cells.above_put (m : Cells) (q b : Key) (v : Nat) (h : m.above b) (hb : b.lt q = true) : (m.put q v).above b := by
  induction m with
  | nil => intro c hc; simp [Cells.put] at hc; subst hc; exact hb
  | cons x t ih =>
    obtain ⟨k, w⟩ := x
    have ht : Cells.above b t := fun c hc => h c (List.mem_cons_of_mem _ hc)
    simp only [Cells.put]
    split
    · intro c hc
      rcases List.mem_cons.1 hc with rfl | hc
      · exact hb
      · exact ht c hc
    · split
      · intro c hc
        rcases List.mem_cons.1 hc with rfl | hc
        · exact hb
        · exact h c hc
      · intro c hc
        rcases List.mem_cons.1 hc with rfl | hc
        · exact h _ (List.mem_cons_self ..)
        · exact ih ht c hc

theorem Cells.wf_del (m : Cells) (q : Key) (h : m.wf = true) : (m.del q).wf = true := by
  induction m with
  | nil => exact h
  | cons x t ih =>
    obtain ⟨k, w⟩ := x
    obtain ⟨h2, h3⟩ := (Cells.wf_cons k w t).1 h
    simp only [Cells.del]
    split
    · exact ih h3
    · exact (Cells.wf_cons _ _ _).2 ⟨Cells.above_del t q k h2, ih h3⟩

theorem Cells.wf_put (m : Cells) (q : Key) (v : Nat) (h : m.wf = true) : (m.put q v).wf = true := by
  induction m with
  | nil => rfl
  | cons x t ih =>
    obtain ⟨k, w⟩ := x
    obtain ⟨h2, h3⟩ := (Cells.wf_cons k w t).1 h
    simp only [Cells.put]
    split
    · rename_i hk; subst hk; exact (Cells.wf_cons _ _ _).2 ⟨h2, h3⟩
    · rename_i hne
      split
      · rename_i hlt
        refine (Cells.wf_cons _ _ _).2 ⟨?_, h⟩
        intro c hc
        rcases List.mem_cons.1 hc with rfl | hc
        · exact hlt
        · exact Key.lt_trans hlt (h2 c hc)
      · rename_i hnlt
        refine (Cells.wf_cons _ _ _).2 ⟨Cells.above_put t q k v h2 ?_, ih h3⟩
        rcases Key.lt_or_lt hne with h1 | h1
        · exact h1
        · exact absurd h1 hnlt

namespace Block

/-- A write of a field keeps the canonical form of the cells. -/
theorem wf_wr (s : Block) (f : Fld) (i k v : Nat) (h : s.cells.wf = true) : (s.wr f i k v).cells.wf = true := by
  unfold wr
  split
  · exact Cells.wf_del _ _ h
  · exact Cells.wf_put _ _ _ h

/-- A field of which there is one reads what was last written to it. -/
@[simp] theorem g_p_same (s : Block) (f : Fld) (v : Nat) : (s.p f v).g f = v % 2 ^ f.w := s.rd_wr_same f 0 0 v

/-- Another field of which there is one is left alone. -/
theorem g_p_field (s : Block) (f g' : Fld) (v : Nat) (h : g'.code ≠ f.code) : (s.p f v).g g' = s.g g' :=
  s.rd_wr_field f g' 0 0 v 0 0 h

end Block

end Sys2Proof.Machine
end

