-- ==== Sys2Proof/Laws/Fire.lean ====
section
/-!
SUPPORT. What a firing of an event source and a recorded error leave in the registers (R48, R51, R54): the fields that they
write, and no other.
-/
namespace Sys2Proof.Machine
namespace Block

/-- The fields that firings write. -/
def firedFields : List Nat :=
  [HDR.EV_RAW.EV_RAW.code, HDR.EV_PEND.EV_PEND.code, EVR.SRC_COUNT.COUNT.code, EVR.EVR_STAT.MERGE_OVF.code,
   EVR.EVR_OVF_SRC.OVF_SRC.code]

/-- The fields of the error record of a page. -/
def errFields : List Nat :=
  [HDR.ERR_CODE.CODE.code, HDR.ERR_CODE.REQ.code, HDR.ERR_CODE.TIN.code, HDR.ERR_CODE.COUNT.code,
   HDR.ERR_ADDR.OFFSET.code, HDR.ERR_ADDR.BATCH.code, HDR.ERR_ADDR.BATCH_VALID.code]

theorem rd_fireBits (s : Block) (n : Nat) (f : Fld) (i k : Nat) (h : f.code ∉ firedFields) :
    (s.fireBits n).rd f i k = s.rd f i k := by
  simp only [firedFields, List.mem_cons, not_or] at h
  unfold fireBits orBit
  simp only
  split
  · rw [rd_wr_field _ _ _ _ _ _ _ _ h.2.1, rd_wr_field _ _ _ _ _ _ _ _ h.1]
  · rw [rd_wr_field _ _ _ _ _ _ _ _ h.1]

theorem rd_fireCount (s : Block) (n c : Nat) (f : Fld) (i k : Nat) (h : f.code ∉ firedFields) :
    (s.fireCount n c).rd f i k = s.rd f i k := by
  simp only [firedFields, List.mem_cons, not_or] at h
  unfold fireCount
  split
  · rw [rd_wr_field _ _ _ _ _ _ _ _ h.2.2.1]
  · rfl

theorem rd_mergeOvf (s : Block) (n : Nat) (f : Fld) (i k : Nat) (h : f.code ∉ firedFields) :
    (s.mergeOvf n).rd f i k = s.rd f i k := by
  simp only [firedFields, List.mem_cons, not_or] at h
  unfold mergeOvf
  rw [rd_wr_field _ _ _ _ _ _ _ _ h.2.2.2.2.1, rd_wr_field _ _ _ _ _ _ _ _ h.2.2.2.1]

theorem rd_fireOvf (s : Block) (f : Fld) (i k : Nat) (h : f.code ∉ firedFields) : s.fireOvf.rd f i k = s.rd f i k := by
  unfold fireOvf
  split
  · rw [rd_mergeOvf _ _ _ _ _ h, rd_fireBits _ _ _ _ _ h]
  · rw [rd_fireCount _ _ _ _ _ _ h, rd_fireBits _ _ _ _ _ h]

/-- A firing leaves every field alone but those of the event registers. -/
theorem rd_fire (s : Block) (n : Nat) (f : Fld) (i k : Nat) (h : f.code ∉ firedFields) :
    (s.fire n).rd f i k = s.rd f i k := by
  unfold fire
  split
  · split
    · rw [rd_mergeOvf _ _ _ _ _ h, rd_fireBits _ _ _ _ _ h]
    · rw [rd_fireOvf _ _ _ _ h, rd_mergeOvf _ _ _ _ _ h, rd_fireBits _ _ _ _ _ h]
  · rw [rd_fireCount _ _ _ _ _ _ h, rd_fireBits _ _ _ _ _ h]

theorem rd_fireIf (s : Block) (c : Bool) (n : Nat) (f : Fld) (i k : Nat) (h : f.code ∉ firedFields) :
    (s.fireIf c n).rd f i k = s.rd f i k := by
  unfold fireIf
  split
  · exact rd_fire _ _ _ _ _ h
  · rfl

/-- A recorded error leaves every field alone but those of the error record. -/
theorem rd_err (s : Block) (page code req tin off : Nat) (b : Option Nat) (f : Fld) (i k : Nat) (h : f.code ∉ errFields) :
    (s.err page code req tin off b).rd f i k = s.rd f i k := by
  simp only [errFields, List.mem_cons, not_or] at h
  obtain ⟨h1, h2, h3, h4, h5, h6, h7, _⟩ := h
  unfold err sat
  simp only
  rw [rd_wr_field _ _ _ _ _ _ _ _ h7, rd_wr_field _ _ _ _ _ _ _ _ h6, rd_wr_field _ _ _ _ _ _ _ _ h5,
    rd_wr_field _ _ _ _ _ _ _ _ h4, rd_wr_field _ _ _ _ _ _ _ _ h3, rd_wr_field _ _ _ _ _ _ _ _ h2,
    rd_wr_field _ _ _ _ _ _ _ _ h1]

theorem rd_refuse (s : Block) (page code : Nat) (r : Req) (off : Nat) (f : Fld) (i k : Nat) (h : f.code ∉ errFields) :
    (s.refuse page code r off).rd f i k = s.rd f i k := by
  unfold refuse errR
  split
  · rfl
  · exact rd_err _ _ _ _ _ _ _ _ _ _ h

/-- What an error record shows after an error is recorded on its page (R48). -/
theorem err_record (s : Block) (page code req tin off : Nat) (b : Option Nat) :
    (s.err page code req tin off b).rd HDR.ERR_CODE.CODE page 0 = code % 256 := by
  unfold err sat
  simp only
  rw [rd_wr_field _ _ _ _ _ _ _ _ (by decide), rd_wr_field _ _ _ _ _ _ _ _ (by decide),
    rd_wr_field _ _ _ _ _ _ _ _ (by decide), rd_wr_field _ _ _ _ _ _ _ _ (by decide),
    rd_wr_field _ _ _ _ _ _ _ _ (by decide), rd_wr_field _ _ _ _ _ _ _ _ (by decide), rd_wr_same]
  rfl

end Block
end Sys2Proof.Machine
end

