-- ==== Sys2Proof/Laws/Maps.lean ====
section
/-!
SUPPORT. The laws of sparse maps and of memories: a read after a write, and the canonical form that every operation keeps.
-/
namespace Sys2Proof.Machine

/-! ### Sparse maps -/

theorem AMap.find_put_same {α : Type} (m : AMap α) (q : Nat) (v : α) : (m.put q v).find q = some v := by
  induction m with
  | nil => simp [AMap.put, AMap.find]
  | cons h t ih =>
    obtain ⟨k, w⟩ := h
    simp only [AMap.put]
    split
    · simp [AMap.find]
    · split
      · simp [AMap.find]
      · simp [AMap.find, *]

theorem AMap.find_put_other {α : Type} (m : AMap α) (q x : Nat) (v : α) (h : x ≠ q) : (m.put q v).find x = m.find x := by
  induction m with
  | nil => simp [AMap.put, AMap.find, Ne.symm h]
  | cons a t ih =>
    obtain ⟨k, w⟩ := a
    simp only [AMap.put]
    split
    · rename_i hk; subst hk; simp [AMap.find, Ne.symm h]
    · split
      · simp [AMap.find, Ne.symm h]
      · simp [AMap.find, ih]

theorem AMap.find_del_same {α : Type} (m : AMap α) (q : Nat) : (m.del q).find q = none := by
  induction m with
  | nil => rfl
  | cons a t ih =>
    obtain ⟨k, w⟩ := a
    simp only [AMap.del]
    split
    · exact ih
    · simp [AMap.find, *]

theorem AMap.find_del_other {α : Type} (m : AMap α) (q x : Nat) (h : x ≠ q) : (m.del q).find x = m.find x := by
  induction m with
  | nil => rfl
  | cons a t ih =>
    obtain ⟨k, w⟩ := a
    simp only [AMap.del]
    split
    · rename_i hk; subst hk; simp [AMap.find, Ne.symm h, ih]
    · simp [AMap.find, ih]

/-! ### Memories -/

theorem Memory.read_insert_same (m : Memory) (a : Nat) (v : BitVec 8) : (m.insert a v).read a = v := by
  induction m with
  | nil => simp [Memory.insert, Memory.read]
  | cons h t ih =>
    obtain ⟨k, w⟩ := h
    simp only [Memory.insert]
    split
    · simp [Memory.read]
    · split
      · simp [Memory.read]
      · simp [Memory.read, *]

theorem Memory.read_insert_other (m : Memory) (a b : Nat) (v : BitVec 8) (h : b ≠ a) :
    (m.insert a v).read b = m.read b := by
  induction m with
  | nil => simp [Memory.insert, Memory.read, Ne.symm h]
  | cons x t ih =>
    obtain ⟨k, w⟩ := x
    simp only [Memory.insert]
    split
    · rename_i hk; subst hk; simp [Memory.read, Ne.symm h]
    · split
      · simp [Memory.read, Ne.symm h]
      · simp [Memory.read, ih]

theorem Memory.read_erase_same (m : Memory) (a : Nat) : (m.erase a).read a = Memory.unlisted := by
  induction m with
  | nil => rfl
  | cons x t ih =>
    obtain ⟨k, w⟩ := x
    simp only [Memory.erase]
    split
    · exact ih
    · simp [Memory.read, *]

theorem Memory.read_erase_other (m : Memory) (a b : Nat) (h : b ≠ a) : (m.erase a).read b = m.read b := by
  induction m with
  | nil => rfl
  | cons x t ih =>
    obtain ⟨k, w⟩ := x
    simp only [Memory.erase]
    split
    · rename_i hk; subst hk; simp [Memory.read, Ne.symm h, ih]
    · simp [Memory.read, ih]

/-- A read after a write to the same address gives the byte written. -/
theorem Memory.read_write_same (m : Memory) (a : Nat) (v : BitVec 8) : (m.write a v).read a = v := by
  unfold Memory.write
  split
  · rw [Memory.read_erase_same]; exact Eq.symm ‹_›
  · exact Memory.read_insert_same m a v

/-- A write leaves every other address alone. -/
theorem Memory.read_write_other (m : Memory) (a b : Nat) (v : BitVec 8) (h : b ≠ a) :
    (m.write a v).read b = m.read b := by
  unfold Memory.write
  split
  · exact Memory.read_erase_other m a b h
  · exact Memory.read_insert_other m a b v h

/-- The addresses that a memory lists lie above a bound. -/
def Memory.above (b : Nat) (m : Memory) : Prop := ∀ c ∈ m, b < c.1

theorem Memory.wf_cons (a : Nat) (v : BitVec 8) (t : Memory) :
    Memory.wf ((a, v) :: t) = true ↔ v ≠ Memory.unlisted ∧ t.above a ∧ t.wf = true := by
  induction t generalizing a v with
  | nil => simp [Memory.wf, Memory.above]
  | cons x t ih =>
    obtain ⟨b, w⟩ := x
    have hx := ih b w
    simp only [Memory.wf, Bool.and_eq_true, decide_eq_true_eq, bne_iff_ne, ne_eq, Memory.above, List.mem_cons] at hx ⊢
    constructor
    · rintro ⟨⟨h1, h2⟩, h3⟩
      refine ⟨h2, ?_, h3⟩
      rintro c (rfl | hc)
      · exact h1
      · exact Nat.lt_trans h1 ((hx.1 h3).2.1 c hc)
    · rintro ⟨h1, h2, h3⟩
      exact ⟨⟨h2 (b, w) (Or.inl rfl), h1⟩, h3⟩

theorem Memory.above_erase (m : Memory) (a b : Nat) (h : m.above b) : (m.erase a).above b := by
  induction m with
  | nil => exact h
  | cons x t ih =>
    obtain ⟨k, w⟩ := x
    have ht : Memory.above b t := fun c hc => h c (List.mem_cons_of_mem _ hc)
    simp only [Memory.erase]
    split
    · exact ih ht
    · intro c hc
      rcases List.mem_cons.1 hc with rfl | hc
      · exact h _ (List.mem_cons_self ..)
      · exact ih ht c hc

theorem Memory.above_insert (m : Memory) (a b : Nat) (v : BitVec 8) (h : m.above b) (hab : b < a) :
    (m.insert a v).above b := by
  induction m with
  | nil => intro c hc; simp [Memory.insert] at hc; subst hc; exact hab
  | cons x t ih =>
    obtain ⟨k, w⟩ := x
    have ht : Memory.above b t := fun c hc => h c (List.mem_cons_of_mem _ hc)
    simp only [Memory.insert]
    split
    · intro c hc
      rcases List.mem_cons.1 hc with rfl | hc
      · exact hab
      · exact ht c hc
    · split
      · intro c hc
        rcases List.mem_cons.1 hc with rfl | hc
        · exact hab
        · exact h c hc
      · intro c hc
        rcases List.mem_cons.1 hc with rfl | hc
        · exact h _ (List.mem_cons_self ..)
        · exact ih ht c hc

theorem Memory.wf_erase (m : Memory) (a : Nat) (h : m.wf = true) : (m.erase a).wf = true := by
  induction m with
  | nil => exact h
  | cons x t ih =>
    obtain ⟨k, w⟩ := x
    obtain ⟨h1, h2, h3⟩ := (Memory.wf_cons k w t).1 h
    simp only [Memory.erase]
    split
    · exact ih h3
    · exact (Memory.wf_cons _ _ _).2 ⟨h1, Memory.above_erase t a k h2, ih h3⟩

theorem Memory.wf_insert (m : Memory) (a : Nat) (v : BitVec 8) (hv : v ≠ Memory.unlisted) (h : m.wf = true) :
    (m.insert a v).wf = true := by
  induction m with
  | nil => simp [Memory.insert, Memory.wf, hv]
  | cons x t ih =>
    obtain ⟨k, w⟩ := x
    obtain ⟨h1, h2, h3⟩ := (Memory.wf_cons k w t).1 h
    simp only [Memory.insert]
    split
    · rename_i hk; subst hk; exact (Memory.wf_cons _ _ _).2 ⟨hv, h2, h3⟩
    · split
      · rename_i hlt
        refine (Memory.wf_cons _ _ _).2 ⟨hv, ?_, h⟩
        intro c hc
        rcases List.mem_cons.1 hc with rfl | hc
        · exact hlt
        · exact Nat.lt_trans hlt (h2 c hc)
      · rename_i hne hle
        exact (Memory.wf_cons _ _ _).2 ⟨h1, Memory.above_insert t a k v h2 (by omega), ih h3⟩

/-- Writing one byte keeps the canonical form. -/
theorem Memory.wf_write (m : Memory) (a : Nat) (v : BitVec 8) (h : m.wf = true) : (m.write a v).wf = true := by
  unfold Memory.write
  split
  · exact Memory.wf_erase m a h
  · exact Memory.wf_insert m a v ‹_› h

/-- Writing a number of bytes keeps the canonical form. -/
theorem Memory.wf_writeN (m : Memory) (a n v : Nat) (h : m.wf = true) : (m.writeN a n v).wf = true := by
  induction n generalizing m a v with
  | zero => exact h
  | succ n ih => exact ih _ _ _ (Memory.wf_write m a _ h)

/-- Bytes outside those written are as before. -/
theorem Memory.read_writeN_other (m : Memory) (a n v b : Nat) (h : b < a ∨ a + n ≤ b) :
    (m.writeN a n v).read b = m.read b := by
  induction n generalizing m a v with
  | zero => rfl
  | succ n ih =>
    rw [Memory.writeN, ih _ _ _ (by omega)]
    exact Memory.read_write_other m a b _ (by omega)

/-- The memories of the module after reset have the canonical form. -/
theorem reset_memWf : State.reset.m.memWf = true := by decide

end Sys2Proof.Machine
end

