-- ==== Sys2Proof/Laws/Issue.lean ====
section
/-!
SUPPORT. What the issue of a Naltin instruction comes to, said once: an issue that decodes runs its operation, and an
operation that completes leaves the scan it made.
-/
namespace Sys2Proof.Machine
namespace Block

/-! ### Performance counters change the cells only -/

theorem sameBut_perfPut (s : Block) (i v : Nat) : SameBut s (s.perfPut i v) :=
  (sameBut_wr ..).trans (sameBut_wr ..)

theorem sameBut_perfOvf (s : Block) (i : Nat) : SameBut s (s.perfOvf i) := by
  unfold perfOvf
  refine SameBut.trans ?_ (sameBut_fire _ _)
  exact sameBut_ite _ _ _ _ (sameBut_wr ..) (sameBut_wr ..)

theorem sameBut_perfAdd (s : Block) (i n : Nat) : SameBut s (s.perfAdd i n) := by
  unfold perfAdd perfBump
  refine sameBut_ite _ _ _ _ (sameBut_perfPut ..) (sameBut_ite _ _ _ _ (sameBut_ite _ _ _ _ ?_ ?_) ?_)
  · exact (sameBut_perfPut ..).trans (sameBut_perfPut ..)
  · exact ((sameBut_perfPut ..).trans (sameBut_perfPut ..)).trans (sameBut_perfOvf ..)
  · exact (sameBut_perfPut ..).trans (sameBut_perfOvf ..)

theorem sameBut_perfFold (s : Block) (ev : Nat) (u : Option Nat) (n : Nat) (l : List Nat) :
    SameBut s (s.perfFold ev u n l) := by
  induction l generalizing s with
  | nil => exact SameBut.refl s
  | cons i t ih => exact (sameBut_ite _ _ _ _ (sameBut_perfAdd ..) (SameBut.refl s)).trans (ih _)

/-- Counting an occurrence changes the cells only (R448). -/
theorem sameBut_perf (s : Block) (ev : Nat) (u : Option Nat) (n : Nat) : SameBut s (s.perf ev u n) := by
  unfold perf
  exact sameBut_ite _ _ _ _ (sameBut_perfFold ..) (SameBut.refl s)

theorem sameBut_cost (s : Block) (e cause n : Nat) : SameBut s (s.cost e cause n) := by
  unfold cost
  exact sameBut_ite _ _ _ _ (sameBut_perf ..) ((sameBut_perf ..).trans (sameBut_perf ..))

theorem sameBut_eccNote (s : Block) (e : Nat) (x : Ecc) : SameBut s (s.eccNote e x) := by
  cases x
  · exact SameBut.refl s
  · exact (sameBut_wr ..).trans (sameBut_fire ..)
  · exact (sameBut_wr ..).trans (sameBut_fire ..)
  · exact (sameBut_wr ..).trans (sameBut_fire ..)

theorem sameBut_waitOver (s : Block) (e : Nat) (c : Scan) : SameBut s (s.waitOver e c).1 := by
  unfold waitOver
  split
  · exact SameBut.refl s
  · exact (sameBut_wr ..).trans (sameBut_cost ..)

/-! ### The end of an issue -/

theorem SameBut.bench {s t : Block} (h : SameBut s t) : t.bench = s.bench := by
  have := congrArg Block.bench h; exact this

theorem SameBut.engQ {s t : Block} (h : SameBut s t) : t.engQ = s.engQ := by
  have := congrArg Block.engQ h; exact this

theorem SameBut.scans {s t : Block} (h : SameBut s t) : t.scans = s.scans := by
  have := congrArg Block.scans h; exact this

theorem smpCount_bench (s : Block) (e j insn pc bank stall lat rel : Nat) :
    (s.smpCount e j insn pc bank stall lat rel).bench = s.bench := by
  unfold smpCount
  simp only
  split
  · rfl
  · split
    · exact (sameBut_wr ..).bench
    · split
      · split
        · exact (((sameBut_wr ..).trans (sameBut_wr ..)).trans ((sameBut_wr ..).trans (sameBut_wr ..))).bench
        · exact (((sameBut_wr ..).trans (sameBut_wr ..)).trans (sameBut_wr ..)).bench
      · rw [(sameBut_fireIf ..).bench, (sameBut_fireIf ..).bench]
        exact ((sameBut_wr ..).trans (sameBut_wr ..)).bench

theorem smpCount_engQ (s : Block) (e j insn pc bank stall lat rel : Nat) :
    (s.smpCount e j insn pc bank stall lat rel).engQ = s.engQ := by
  unfold smpCount
  simp only
  split
  · rfl
  · split
    · exact (sameBut_wr ..).engQ
    · split
      · split
        · exact (((sameBut_wr ..).trans (sameBut_wr ..)).trans ((sameBut_wr ..).trans (sameBut_wr ..))).engQ
        · exact (((sameBut_wr ..).trans (sameBut_wr ..)).trans (sameBut_wr ..)).engQ
      · rw [(sameBut_fireIf ..).engQ, (sameBut_fireIf ..).engQ]
        exact ((sameBut_wr ..).trans (sameBut_wr ..)).engQ

theorem completed_bench (s : Block) (e j insn pc : Nat) (c : Scan) : (s.completed e j insn pc c).bench = s.bench := by
  unfold completed counted putScan
  rw [(sameBut_wr ..).bench]
  exact (smpCount_bench ..).trans (sameBut_perf ..).bench

theorem completed_engQ (s : Block) (e j insn pc : Nat) (c : Scan) : (s.completed e j insn pc c).engQ = s.engQ := by
  unfold completed counted putScan
  rw [(sameBut_wr ..).engQ]
  exact (smpCount_engQ ..).trans (sameBut_perf ..).engQ

theorem completed_scan (s : Block) (e j insn pc : Nat) (c : Scan) :
    (s.completed e j insn pc c).scan e j = some { c with walked := none, ans := none, stalls := [] } := by
  unfold completed scan
  rw [(sameBut_wr ..).scans]
  exact AMap.find_put_same _ _ _

theorem completed_stall (s : Block) (e j insn pc : Nat) (c : Scan) :
    (s.completed e j insn pc c).rd ENG.ENG_STATE.STALL e 0 = 0 := by
  unfold completed
  rw [rd_wr_same]
  rfl

/-- A double error in an operand's word leaves an instruction alone that has no operand in memory. -/
theorem eccOperand_spares (r : Run) (f : Run → NOut) (h : spares .operand r.ins = true) : eccOperand r f = f r := by
  unfold spares at h
  unfold eccOperand
  split <;> simp_all

/-- An issue that decodes to an instruction of the operation takes the effect of its outcome. -/
theorem issue_outcome (b : Block) (e : Fin 16) (ecc : Ecc) (j : Fin 8) (c0 : Scan) (i : NIns) (f : Run → NOut)
    (h : b.issues e j c0 i = true) (he : spares ecc i = true) :
    b.issue e ecc i.op f = (b.runOf e ecc j c0 i).s.outcome e.val j.val
      ((b.waitOver e.val c0).1.progWord e.val (b.waitOver e.val c0).2.bank (b.waitOver e.val c0).2.pc)
      (b.waitOver e.val c0).2 (f (b.runOf e ecc j c0 i)) := by
  unfold issues at h
  simp only [Bool.and_eq_true, decide_eq_true_eq] at h
  obtain ⟨⟨⟨⟨h1, h2⟩, h3⟩, h4⟩, h5⟩ := h
  have hu : ecc ≠ .uncorrectable := by rintro rfl; simp [spares] at he
  by_cases ho : ecc = .operand
  · subst ho
    have hx := eccOperand_spares (b.runOf e .operand j c0 i) f he
    simp only [runOf] at hx
    simp [issue, h1, h2, h3, h4, h5, runOf, hx]
  · simp [issue, h1, h2, h3, h4, h5, hu, ho, runOf]

end Block

/-- An operation whose outcome is `.ok` completes with the scan and the benches that it leaves. -/
theorem completes_of_ok {mk : Fin 16 → Ecc → Instr} {op : NOp} {f : Run → NOut}
    (hx : ∀ e ecc (s : State), exec (mk e ecc) s = .next { s with m := s.m.issue e ecc op f })
    {s : State} {e : Fin 16} {ecc : Ecc} {j : Fin 8} {c0 : Scan} {i : NIns} {b : Block} {c : Scan}
    (h : s.m.issues e j c0 i = true) (ho : i.op = op) (he : spares ecc i = true)
    (hf : f (s.m.runOf e ecc j c0 i) = .ok b c) :
    Completes (mk e ecc) s e j { c with walked := none, ans := none, stalls := [] } b.bench := by
  refine ⟨_, hx e ecc s, rfl, ?_, ?_, ?_⟩
  · subst ho
    simp only [Block.issue_outcome _ _ _ _ _ _ _ h he, hf, Block.outcome]
    exact Block.completed_scan ..
  · subst ho
    simp only [Block.issue_outcome _ _ _ _ _ _ _ h he, hf, Block.outcome]
    exact Block.completed_bench ..
  · subst ho
    simp only [Block.issue_outcome _ _ _ _ _ _ _ h he, hf, Block.outcome]
    exact Block.completed_stall ..

/-! ### Operations by the way they end -/

theorem cost_bench (r : Run) (k n : Nat) : (r.cost k n).s.bench = r.s.bench := (Block.sameBut_cost ..).bench
theorem runOf_bench (b : Block) (e ecc j c0 i) : (b.runOf e ecc j c0 i).s.bench = b.bench := by
  unfold Block.runOf
  exact (Block.sameBut_eccNote ..).bench.trans (Block.sameBut_waitOver ..).bench

/-- What an operation leaves that goes on after `n` cycles. -/
theorem done_scan (r : Run) (n : Nat) : ({ (r.cost 0 n).c.next with walked := none, ans := none, stalls := [] } : Scan) =
    r.c.after ((r.c.pc + 1) % 16384) n := by
  simp only [Run.cost, Scan.next, Scan.spend, Scan.after]

/-- What an operation leaves that jumps after `n` cycles. -/
theorem jump_scan (r : Run) (n t : Nat) : ({ (r.cost 0 n).c.goto t with walked := none, ans := none, stalls := [] } : Scan) =
    r.c.after t n := by
  simp only [Run.cost, Scan.goto, Scan.spend, Scan.after]

/-- An operation that goes on after `n` cycles completes. -/
theorem done_law {mk : Fin 16 → Ecc → Instr} {op : NOp} {f : Run → NOut}
    (hx : ∀ e ecc (s : State), exec (mk e ecc) s = .next { s with m := s.m.issue e ecc op f })
    {s : State} {e : Fin 16} {ecc : Ecc} {j : Fin 8} {c0 : Scan} {i : NIns} (h : s.m.issues e j c0 i = true) (ho : i.op = op)
    (he : spares ecc i = true) {r1 : Run} {n : Nat} (hf : f (s.m.runOf e ecc j c0 i) = r1.done n) {pc : Nat}
    (hp : r1.c.pc = pc) : Completes (mk e ecc) s e j (r1.c.after ((pc + 1) % 16384) n) r1.s.bench := by
  rw [Run.done] at hf
  have h1 := completes_of_ok hx h ho he hf
  rw [cost_bench, done_scan, hp] at h1
  exact h1

/-- An operation that jumps after `n` cycles completes. -/
theorem jump_law {mk : Fin 16 → Ecc → Instr} {op : NOp} {f : Run → NOut}
    (hx : ∀ e ecc (s : State), exec (mk e ecc) s = .next { s with m := s.m.issue e ecc op f })
    {s : State} {e : Fin 16} {ecc : Ecc} {j : Fin 8} {c0 : Scan} {i : NIns} (h : s.m.issues e j c0 i = true) (ho : i.op = op)
    (he : spares ecc i = true) {r1 : Run} {n t : Nat} (hf : f (s.m.runOf e ecc j c0 i) = r1.jump n t) :
    Completes (mk e ecc) s e j (r1.c.after t n) r1.s.bench := by
  rw [Run.jump] at hf
  have h1 := completes_of_ok hx h ho he hf
  rw [cost_bench, jump_scan] at h1
  exact h1

theorem argLaw_of {α : Type} {mk op} {f : Run → NOut} {n} {a : α → NArg} {g : α → Scan → Scan} (hx : ∀ e ecc (s : State), exec (mk e ecc) s = .next { s with m := s.m.issue e ecc op f })
   (hf : ∀ (r : Run) x, r.ins.arg = a x → f r = (r.set (g x r.c)).done n) (hg : ∀ x c, (g x c).pc = c.pc) : ArgLaw mk op n a g := by
  intro s e ecc j c0 x h he
  have := done_law hx h rfl he (hf _ x rfl) (hg _ _)
  have hb := runOf_bench s.m e ecc j c0 ⟨op, a x⟩
  rw [← hb]
  exact this

theorem setX_pc (c : Scan) (n : Fin 4) (v) : (c.setX n v).pc = c.pc := by
  unfold Scan.setX; split <;> rfl

theorem jump_of {mk op} {f : Run → NOut} {p : Scan → Bool} (hx : ∀ e ecc (s : State), exec (mk e ecc) s = .next { s with m := s.m.issue e ecc op f })
   (hf : ∀ r t, r.ins.arg = NArg.tgt t → f r = if p r.c then r.jump 2 t.val else r.done 1) : JumpLaw mk op p := by
  intro s e ecc j c0 t h he
  have hb := runOf_bench s.m e ecc j c0 ⟨op, .tgt t⟩
  have h2 := hf (s.m.runOf e ecc j c0 ⟨op, .tgt t⟩) t rfl
  show Completes _ _ _ _ (if p (s.m.runOf e ecc j c0 ⟨op, .tgt t⟩).c then (s.m.runOf e ecc j c0 ⟨op, .tgt t⟩).c.after _ _ else (s.m.runOf e ecc j c0 ⟨op, .tgt t⟩).c.after _ _) _
  rw [← hb]
  split
  · rename_i hc
    exact jump_law hx h rfl he (by rw [h2, if_pos hc])
  · rename_i hc
    exact done_law hx h rfl he (by rw [h2, if_neg hc]) rfl
theorem fault_law {mk : Fin 16 → Ecc → Instr} {op f} (hx : ∀ e ecc (s : State), exec (mk e ecc) s = .next { s with m := s.m.issue e ecc op f })
  {s : State} {e ecc j c0 i} (h : s.m.issues e j c0 i = true) (ho : i.op = op) (he : spares ecc i = true) {code ea area}
  (hf : f (s.m.runOf e ecc j c0 i) = .fault (s.m.runOf e ecc j c0 i).s (s.m.runOf e ecc j c0 i).c code ea area)  :
  FaultsWith (mk e ecc) s e ecc j c0 i code ea area := by
  subst ho
  unfold FaultsWith Answers
  simp only
  rw [hx, Block.issue_outcome _ _ _ _ _ _ _ h he, hf]
  rfl

end Sys2Proof.Machine
end

