-- ==== Sys2Proof/Tests/Slice0.lean ====
section
/-!
SUPPORT. Own tests: ill-formed commands that WellFormed refuses, words and results by hand from the spec's tables, and for
every statement with hypotheses concrete states and operands that meet them. A witness is a state after reset with some
register fields written.
-/
namespace Sys2Proof.Tests
open Sys2Proof Sys2Proof.Machine

set_option Elab.async false

/-! ### States -/

/-- The module after reset with values written into register fields: field, page instance, entry, value. -/
def put (l : List (Fld × Nat × Nat × Nat)) : Block := l.foldl (fun b x => b.wr x.1 x.2.1 x.2.2.1 x.2.2.2) Block.reset

/-- Session 0 is READY, of tin 0, with every right; session 1 of tin 1 with every right; session 2 of tin 2 with none. -/
def sessions : List (Fld × Nat × Nat × Nat) :=
  [(SES.SES_STATE.STATE, 0, 0, 2), (SES.SES_STATE.RIGHTS, 0, 0, 15), (SES.SES_STATE.STATE, 0, 1, 2),
   (SES.SES_STATE.TIN, 0, 1, 1), (SES.SES_STATE.RIGHTS, 0, 1, 15), (SES.SES_STATE.STATE, 0, 2, 2), (SES.SES_STATE.TIN, 0, 2, 2)]

/-- The module after reset with those sessions and more values. -/
def with_ (l : List (Fld × Nat × Nat × Nat)) : Block := put (sessions ++ l)

def st (m : Block) : State := { pending := [], m := m }
def r0 : Req := .ses 0
def r1 : Req := .ses 1
def r2 : Req := .ses 2
def fw : Req := .fw 0

/-- A scan that stands at word 64 of bank 0. -/
def scan0 : Scan :=
  { lb := false, bstk := [], acc := 0, x0 := 0, x1 := 0, x2 := 0, x3 := 0, cstk := [], pc := 64, z := false, n := false,
    c := false, v := false, vs := false, dz := false, pf := false, fire := false, first := false, ev := 0, rel := 0, due := 1,
    bank := 0, gen := 0, warmFirst := false, eDone := [], started := true, ready := true, pd := 0, cyc := 0, walked := none,
    ans := none, late := [], forced := false, stalls := [], wait := 0 }

/-- Engine 0 executes scan `c` of slot 0, whose code is words 64 to 127 of bank 0, with the word `w` at word 64; every area
of the slot has a window of one line. -/
def engine (w : Nat) (c : Scan) (l : List (Fld × Nat × Nat × Nat)) : Block :=
  let a := with_ ((HID.EXECUTING, 0, 0, 1) :: (List.range 8).flatMap (fun k =>
    [(ENG.AREA_WIN.BASE, 0, Block.winIdx 0 k 0, 4 * k), (ENG.AREA_WIN.LINES, 0, Block.winIdx 0 k 0, 1)]) ++ l)
  { a with bench := (Memory.writeN [] (Block.progAddr 0 0 1) 4 (64 + 65536 * 128)).writeN (Block.progAddr 0 0 64) 4 w,
           scans := [(0, c)] }

/-- The instruction `i` at the program counter of a scan, with the engine about to issue it. -/
def issuing (i : NIns) (c : Scan) (l : List (Fld × Nat × Nat × Nat)) : Block := engine i.encode c l

/-! ### Ill-formed commands are refused -/

def hd : Hdr := ⟨0, 5, false, 0xFF, 0, 0, 1, false, true, 0, 64, 1⟩
def lease : LeaseIn := ⟨5, 9, true, false, false, 0, 0, 10000⟩
def ann : Announce := ⟨1, 128, 248, 254, 65535, 128, 0, 37, true⟩
def tick0 : TickIn := ⟨[], 0, 8, [], [], false, [], 24000, 24000, 24000, 24000, 24000, 100, []⟩
def start0 : StartIn := ⟨900, false, false, false, [], true, true⟩
def hello : HelloIn := ⟨true, 0, 0, 4, 0, List.replicate 32 1, List.replicate 97 4⟩
def finish : FinishIn := ⟨true, List.replicate 100 0, List.replicate 96 0, true, true, 4, true, some (0, 15)⟩

/-- The operands of these commands are well-formed, at the ends of their ranges. -/
theorem test_wf_takes : ([.tickBoundary { tick0 with lc := 2 ^ 64 - 1, edges := 32768 }, .linkHeal { hd with octets := 2000, us := 249 },
    .halfLowRead (.peer 255 255 15 true) 0, .registerWrite r0 0 8 0, .leaseAck hd { lease with epoch := 2 ^ 32 - 1 },
    .ptpAnnounceRx 0 255 { ann with steps := 65535 }, .sesHello (.svc 1518) { hello with mode := 255 },
    .sesFinish (.ring hd) 63 { finish with ext := some (255, 15) }, .restartReady { start0 with damaged := [(255, true)] },
    .progOpenClear r0 0 ⟨[(16383, 0)], [(32767, 0)], [(7, 32767, 0)], []⟩, .xferLines hd 0 0 true [(65535, List.replicate 16 0)],
    .analogConversion 0 (-(2 ^ 31)) false false, .metrologyInterval [List.replicate 1600 (2 ^ 31 - 1)] [] [50000],
    .shadowOpenWrite fw (some [⟨2 ^ 48 - 1, 1, 3⟩]), .unknownFrameRx (.ring 0) (.untyped hd 255)] : List Instr).all (fun c => c.wf) = true := by decide +kernel

/-- One term for each check of WellFormed.lean on requesters, headers and payloads, which the check refuses. -/
theorem test_wf_refuses_payloads : ([.halfLowRead (.peer 256 0 0 false) 0, .halfLowRead (.peer 0 256 0 false) 0,
    .halfLowRead (.peer 0 0 16 false) 0, .linkHeal { hd with srcEpoch := 2 ^ 32 }, .linkHeal { hd with dstEpoch := 2 ^ 32 },
    .linkHeal { hd with seq := 65536 }, .linkHeal { hd with hops := 1024 }, .linkHeal { hd with octets := 63 },
    .linkHeal { hd with octets := 2001 }, .linkHeal { hd with us := 250 }, .leaseAck hd { lease with epoch := 2 ^ 32 },
    .leaseAck hd { lease with seq := 2 ^ 32 }, .leaseAck hd { lease with lc := 2 ^ 64 }, .ptpAnnounceRx 0 0 { ann with id := 2 ^ 64 },
    .ptpAnnounceRx 0 0 { ann with steps := 65536 }, .ptpAnnounceRx 0 0 { ann with utc := 65536 }, .ptpAnnounceRx 0 256 ann,
    .sesHello (.svc 63) hello, .sesHello (.svc 1519) hello, .sesHello (.svc 64) { hello with mode := 256 },
    .sesFinish (.svc 64) 0 { finish with ext := some (256, 0) }, .sesFinish (.svc 64) 0 { finish with ext := some (0, 16) },
    .progOpenClear r0 0 ⟨[(16384, 0)], [], [], []⟩, .progOpenClear r0 0 ⟨[], [(32768, 0)], [], []⟩,
    .progOpenClear r0 0 ⟨[], [], [(8, 0, 0)], []⟩, .progOpenClear r0 0 ⟨[], [], [(0, 32768, 0)], []⟩,
    .progOpenClear r0 0 ⟨[], [], [], [(8, ⟨[], []⟩)]⟩, .sesHello (.svc 64) { hello with nonce := List.replicate 31 0 },
    .sesHello (.svc 64) { hello with key := List.replicate 96 0 }, .sesHello (.svc 64) { hello with nonce := List.replicate 32 256 },
    .sesHello (.svc 64) { hello with key := List.replicate 97 256 }, .sesFinish (.svc 64) 0 { finish with body := List.replicate 1209 0 },
    .sesFinish (.svc 64) 0 { finish with auth := List.replicate 97 0 }, .sesFinish (.svc 64) 0 { finish with body := [256] },
    .sesFinish (.svc 64) 0 { finish with auth := [256] }, .shadowOpenWrite fw (some [⟨2 ^ 48, 0, 0⟩]),
    .shadowOpenWrite fw (some [⟨0, 2, 0⟩]), .shadowOpenWrite fw (some [⟨0, 0, 2 ^ 64⟩]), .unknownFrameRx .svc (.unknown 63),
    .unknownFrameRx .svc (.unknown 2001), .unknownFrameRx (.ring 0) (.untyped { hd with port := 2 } 0),
    .unknownFrameRx (.ring 1) (.untyped hd 0), .unknownFrameRx (.ring 0) (.untyped { hd with us := 250 } 0),
    .restartReady { start0 with damaged := [(256, true)] }, .tickBoundary { tick0 with lc := 2 ^ 64 },
    .tickBoundary { tick0 with edges := 32769 }, .tickBoundary { tick0 with vinA := 65536 }, .tickBoundary { tick0 with vinB := 65536 },
    .tickBoundary { tick0 with fs1 := 65536 }, .tickBoundary { tick0 with fs2 := 65536 }, .tickBoundary { tick0 with fs3 := 65536 },
    .tickBoundary { tick0 with power := 65536 }, .tickBoundary { tick0 with meas := [.tableBad (2 ^ 40)] }, .tickBoundary { tick0 with answered := List.replicate 129 0 },
    .tickBoundary { tick0 with slow := List.replicate 129 0 }, .tickBoundary { tick0 with noMirror := List.replicate 129 0 },
    .tickBoundary { tick0 with pvs := List.replicate 257 (0, 0) }] : List Instr).all (fun c => !c.wf) = true := by decide +kernel

/-- The same for the checks that a command makes of its own operands. -/
theorem test_wf_refuses_operands : ([.sealPoint (List.replicate 129 0), .registerWrite r0 0 3 0, .walkComplete 0 none (2 ^ 32),
    .ringStage hd 256 0 0 0 0 0, .ringStage hd 0 256 0 0 0 0, .ringStage hd 0 0 (2 ^ 40) 0 0 0, .ringStage hd 0 0 0 65536 0 0,
    .ringStage hd 0 0 0 0 0 (2 ^ 32), .ringStageAns hd 65536 0 0, .ringStageAns hd 0 256 0, .ringStageAns hd 0 0 256,
    .commitPrepare hd 0 (2 ^ 64) [], .commitPrepare hd 0 0 (List.replicate 33 0), .commitPrepare hd 0 0 [256],
    .dualWriteSettle (2 ^ 36) 0, .analogConversion 0 (2 ^ 31) false false,
    .msgReload r0 (List.replicate 257 ⟨0, 0, true⟩), .msgReload r0 [⟨0, 2 ^ 32, true⟩], .supervisionWindow 0 (2 ^ 62) 0 0 0,
    .supervisionWindow 0 0 (-(2 ^ 62) - 1) 0 0, .supervisionWindow 0 0 0 (2 ^ 62) 0, .supervisionWindow 0 0 0 0 (2 ^ 62),
    .earthMeasure 0 (2 ^ 32), .metrologyInterval (List.replicate 9 []) [] [], .metrologyInterval [] (List.replicate 49 []) [],
    .metrologyInterval [] [] (List.replicate 9 0), .metrologyInterval [[2 ^ 31]] [] [], .metrologyInterval [] [[-(2 ^ 31) - 1]] [],
    .metrologyInterval [] [] [2 ^ 20], .metrologyInterval [List.replicate 1601 0] [] [], .audioThermalMute (2 ^ 15),
    .audioThermalMute (-(2 ^ 15) - 1), .batteryBurst (List.replicate 49 []), .batteryBurst [[2 ^ 31]], .islandStart true true (2 ^ 32),
    .lrfVerifyDone true (2 ^ 32) 0 0, .lrfVerifyDone true 0 65536 0, .lrfVerifyDone true 0 0 (2 ^ 32),
    .ringToken hd (2 ^ 64) 0 0 0 false 0 0, .ringToken hd 0 (2 ^ 32) 0 0 false 0 0, .ringToken hd 0 0 (2 ^ 32) 0 false 0 0,
    .ringToken hd 0 0 0 (2 ^ 32) false 0 0, .ringToken hd 0 0 0 0 false 0 (2 ^ 32), .ringImage hd (2 ^ 64) [],
    .ringImage hd 0 [(2 ^ 48, [])], .ringImage hd 0 [(0, [2 ^ 32])], .ringAudio hd ⟨0, 2 ^ 64⟩, .ringAudio { hd with us := 250 } ⟨0, 0⟩,
    .ringFire hd (List.replicate 33 0), .ringFire hd [256]] : List Instr).all (fun c => !c.wf) = true := by decide +kernel

/-- The same, continued. -/
theorem test_wf_refuses_more_operands : ([.ringRequest hd 3 0 0 0 0 0 0, .ringRequest hd 1 16 0 0 0 0 0,
    .ringRequest hd 1 0 16 0 0 0 0, .ringRequest hd 1 0 0 256 0 0 0, .ringRequest hd 1 0 0 0 (2 ^ 40) 0 0,
    .ringRequest hd 1 0 0 0 0 65536 0, .ringResponse hd 65536 0 0, .ringResponse hd 0 256 0, .ringAlarm hd 1152 0 0,
    .ringAlarm hd 0 65536 0, .ringAlarm hd 0 0 256, .linkHello hd 65536 false false, .segAnswer 0 0 250 0 0 [],
    .segAnswer 0 0 0 256 0 [], .segAnswer 0 0 0 0 65536 [], .segAnswer 0 0 0 0 0 (List.replicate 17 0),
    .ptpSyncRx 0 256 true 0 0 0 0 0, .ptpSyncRx 0 0 true (2 ^ 64) 0 0 0 0, .ptpSyncRx 0 0 true 0 65536 0 0 0,
    .ptpSyncRx 0 0 true 0 0 (2 ^ 63) 0 0, .ptpSyncRx 0 0 true 0 0 0 (2 ^ 31) 0, .ptpSyncRx 0 0 true 0 0 0 0 250,
    .ptpPdelay 0 (2 ^ 32), .ptpNsRead r0 250000 0, .ptpNsRead r0 0 65536, .vbatLow 65536, .leaseFence (2 ^ 64),
    .leasePlace hd (2 ^ 32) 0 0 0 0 0 0, .leasePlace hd 0 (2 ^ 32) 0 0 0 0 0, .xferImage hd 0 0 (2 ^ 64) true [] [] false 0,
    .xferImage hd 0 0 0 true [] [32768] false 0, .xferImage hd 0 0 0 true [] [] false (2 ^ 32), .xferEntries hd 0 (2 ^ 64) true [],
    .xferEntries hd 0 0 true [(2 ^ 48, 0, 0)], .xferEntries hd 0 0 true [(0, 2 ^ 32, 0)], .xferDigest hd 0 (2 ^ 64) 0,
    .xferLines hd 0 (2 ^ 64) true [], .xferLines hd 0 0 true (List.replicate 29 (0, List.replicate 16 0)),
    .xferLines hd 0 0 true [(65536, List.replicate 16 0)], .xferLines hd 0 0 true [(0, [])], .xferEnd hd 0 (2 ^ 64) 0,
    .xferEnd hd 0 0 250, .peelSnapshotDone 0 0 250, .keyIntegSweep (List.replicate 65 0), .sesData (.svc 64) 0 (2 ^ 64) true [⟨true, 0, 0, 0⟩],
    .sesData (.svc 64) 0 0 true [], .sesData (.svc 64) 0 0 true (List.replicate 65 ⟨true, 0, 0, 0⟩),
    .sesData (.svc 64) 0 0 true [⟨true, 65536, 0, 0⟩], .sesData (.svc 64) 0 0 true [⟨true, 0, 2 ^ 48, 0⟩],
    .sesClose (.svc 64) 0 (2 ^ 64) true, .boardTempSample (2 ^ 31) 0 0 0, .boardTempSample 0 (2 ^ 31) 0 0,
    .boardTempSample 0 0 (2 ^ 31) 0, .boardTempSample 0 0 0 (2 ^ 31), .overPower 65536, .supplyDipEnd 65536 0,
    .supplyDipEnd 0 (2 ^ 32)] : List Instr).all (fun c => !c.wf) = true := by decide +kernel

/-! ### Commands without a table word, an empty queue -/

/-- The table gives no row bits: no word spells a command. -/
theorem test_no_table_word : decodeTableWord 8 0 = none ∧ decodeTableWord 32 0xFFFFFFFF = none := by decide

/-- The block idles on an empty queue. -/
theorem test_idle : step State.reset = .next State.reset := rfl

/-! ### Naltin: words and results -/

/-- Words by hand from the form table of R74 and the opcode table of R76, one a group of the table, and words that R75 calls
illegal: an opcode that is not assigned, and zero fields that are not zero. -/
theorem test_naltin_words : nalDecode 0x00000000 = some ⟨.nop, .none⟩ ∧ nalDecode 0x04000123 = some ⟨.jmp, .tgt 0x123⟩ ∧
    nalDecode 0x20400007 = some ⟨.ldb, .dir 1 7⟩ ∧ nalDecode 0x60F80002 = some ⟨.ldw, .ind 3 3 2⟩ ∧
    nalDecode 0x623FFFFF = some ⟨.ldi, .imm 0x3FFFFF⟩ ∧ nalDecode 0x7800001F = some ⟨.shl, .cnt 31⟩ ∧
    nalDecode 0xA0800005 = some ⟨.ldxi, .ximm 2 5⟩ ∧ nalDecode 0x00000001 = none ∧ nalDecode 0x1E000000 = none := by decide

/-- The scan of engine 0, slot 0, after one step with a command. -/
def after (c : Instr) (m : Block) : Option Scan :=
  match step { pending := [c], m := m } with
  | .next t => t.m.scan 0 0
  | _ => none

/-- The scan after a step that issues `i` on a scan. -/
def ran (i : NIns) (c : Scan) : Option Scan := after (naltinCommand i.op 0 .ok) (issuing i c [])

/-- ADDI of -1 on 0x80000000 overflows to 0x7FFFFFFF with V and VS set and C set (R79). -/
theorem test_addi_overflow : (ran ⟨.addi, .imm 0x3FFFFF⟩ { scan0 with acc := 0x80000000 }).map
    (fun c => (c.acc, c.v, c.vs, c.pc, c.cyc)) = some (0x7FFFFFFF, true, true, 65, 1) := by decide +kernel

/-- NEG of the most negative word leaves it, with V and VS set (R79). -/
theorem test_neg_most_negative : (ran ⟨.neg, .none⟩ { scan0 with acc := 0x80000000 }).map (fun c => (c.acc, c.v, c.vs)) =
    some (0x80000000, true, true) := by decide +kernel

/-- DJNZ on 1 falls through; on 0 it wraps to 0xFFFFFFFF and jumps (R76). -/
theorem test_djnz_ends : (ran ⟨.djnz, .xtgt 3 70⟩ { scan0 with x3 := 1 }).map (fun c => (c.x3, c.pc, c.cyc)) = some (0, 65, 1) ∧
    (ran ⟨.djnz, .xtgt 3 70⟩ scan0).map (fun c => (c.x3, c.pc, c.cyc)) = some (0xFFFFFFFF, 70, 2) := by decide +kernel

/-- ANDNS leaves s AND NOT LB (R77). -/
theorem test_andns : (ran ⟨.andns, .none⟩ { scan0 with bstk := [true] }).map (fun c => (c.lb, c.bstk)) = some (true, []) := by
  decide +kernel

/-- STB writes bit 33 of the M window, and LDW of word 1 then reads it (R73, R76, R92). -/
theorem test_stb_then_word : (ran ⟨.stb, .dir 2 33⟩ { scan0 with lb := true }).map (fun c => (c.pc, c.cyc)) = some (65, 9) := by
  decide +kernel

/-- A rising edge against a clear E bit (R82): LB stays 1, and the E bit takes it. -/
theorem test_edgr_rises : (ran ⟨.edgr, .dir 4 0⟩ { scan0 with lb := true }).map (fun c => c.lb) = some true := by decide +kernel

/-! ### Naltin: witnesses -/

/-- Whether engine 0 is about to issue `i` on scan `c`, with registers written. -/
def issuable (i : NIns) (c : Scan) (l : List (Fld × Nat × Nat × Nat)) : Bool := (issuing i c l).issues 0 0 c i

/-- Every operation of the table, with an argument of its form, is issued from some state: the hypothesis of the statements
of the register forms, control and stack instructions, and of `NaltinDecodeOfEncode`. -/
theorem witness_register_and_control_forms : ([⟨.nop, .none⟩, ⟨.levt, .none⟩, ⟨.ldtk, .none⟩, ⟨.ldst, .none⟩, ⟨.clst, .none⟩,
    ⟨.notB, .none⟩, ⟨.set1, .none⟩, ⟨.clr1, .none⟩, ⟨.neg, .none⟩, ⟨.ldi, .imm 0x3FFFFF⟩, ⟨.addi, .imm 0⟩, ⟨.ldih, .imm10 1023⟩,
    ⟨.shl, .cnt 31⟩, ⟨.shr, .cnt 0⟩, ⟨.sar, .cnt 1⟩, ⟨.ldxi, .ximm 3 0⟩, ⟨.addxi, .ximm 0 5⟩, ⟨.tax, .xreg 3⟩, ⟨.txa, .xreg 0⟩,
    ⟨.jmp, .tgt 16383⟩, ⟨.jb1, .tgt 0⟩, ⟨.jb0, .tgt 64⟩, ⟨.jz, .tgt 65⟩, ⟨.jnz, .tgt 127⟩, ⟨.djnz, .xtgt 3 64⟩, ⟨.call, .tgt 64⟩]
    : List NIns).all (fun i => i.wf && issuable i scan0 [] && ([.ok, .corrected, .operand] : List Ecc).all (fun x => spares x i)) =
    true ∧ spares .corrected ⟨.ldw, .dir 0 0⟩ = true := by decide +kernel

/-- RET, PUSHB and the combining instructions with an entry on their stack, and at the ends of the stacks' depths. -/
theorem witness_stacks : issuable ⟨.ret, .none⟩ { scan0 with cstk := [70] } [] = true ∧ issuable ⟨.ret, .none⟩ scan0 [] = true ∧
    issuable ⟨.call, .tgt 64⟩ { scan0 with cstk := List.replicate 16 65 } [] = true ∧
    issuable ⟨.call, .tgt 64⟩ { scan0 with cstk := List.replicate 15 65 } [] = true ∧
    issuable ⟨.pushb, .none⟩ { scan0 with bstk := List.replicate 31 true } [] = true ∧
    issuable ⟨.pushb, .none⟩ { scan0 with bstk := List.replicate 32 true } [] = true ∧
    ([⟨.ands, .none⟩, ⟨.andns, .none⟩, ⟨.ors, .none⟩, ⟨.xors, .none⟩] : List NIns).all (fun i => issuable i scan0 [] &&
      issuable i { scan0 with bstk := [true] } []) = true ∧
    issuable ⟨.endS, .none⟩ scan0 [] = true ∧ issuable ⟨.endS, .none⟩ { scan0 with bstk := [false] } [] = true := by
  decide +kernel

/-- A run that issues `i` on a scan. -/
def run (i : NIns) (c : Scan) (l : List (Fld × Nat × Nat × Nat)) : Run := (issuing i c l).runOf 0 .ok 0 c i

/-- An operand of every readable area, its last bit in the window, and the P area with a point that is not valid. -/
theorem witness_operand_bits :
    ([0, 1, 2, 3, 4] : List (Fin 8)).all (fun a => issuable ⟨.ldb, .dir a 511⟩ scan0 []) = true ∧
    ([5, 6] : List (Fin 8)).all (fun a => issuable ⟨.ldb, .dir a 7⟩ scan0 []) = true ∧
    issuable ⟨.ldb, .dir 7 7⟩ scan0 [] = true ∧
    (let r := run ⟨.ldb, .dir 0 511⟩ scan0 []; r.ea < r.opWin.cap (r.unit true) ∧ r.area ≤ 4) ∧
    (let r := run ⟨.ldb, .dir 5 7⟩ scan0 []; r.ea < r.opWin.cap (r.unit true) ∧ r.area = 5) ∧
    (let r := run ⟨.ldb, .dir 6 7⟩ scan0 []; r.ea < r.opWin.cap (r.unit true) ∧ r.area = 6) ∧
    (let r := run ⟨.ldb, .dir 7 7⟩ scan0 []; r.ea < r.opWin.cap (r.unit true) ∧ r.area = 7 ∧ r.pValid = false) ∧
    (let r := run ⟨.ldw, .dir 4 15⟩ scan0 []; r.ea < r.opWin.cap (r.unit false) ∧ r.area ≤ 4) ∧
    (let r := run ⟨.ldw, .dir 7 7⟩ scan0 []; r.ea < r.opWin.cap (r.unit false) ∧ r.area = 7 ∧ r.pValid = false) := by
  decide +kernel

/-- The operand bit and word are what the hypotheses of the operand statements name. -/
theorem witness_operands_read : (run ⟨.ldb, .dir 0 511⟩ scan0 []).bitIs (run ⟨.ldb, .dir 0 511⟩ scan0 []) false ∧
    (run ⟨.ldw, .dir 2 15⟩ scan0 []).wordIs (run ⟨.ldw, .dir 2 15⟩ scan0 []) 0 := ⟨fun _ => rfl, fun _ => rfl⟩

/-- The bit and word instructions that read an operand, and the late-flag instructions within the I window. -/
theorem witness_operand_forms : ([.ldb, .ldbn, .andb, .andbn, .orb, .orbn, .xorb] : List NOp).all (fun o =>
      issuable ⟨o, .dir 2 511⟩ scan0 []) = true ∧
    ([.ldw, .add, .sub, .mul, .div, .andw, .orw, .xorw, .cmpeq, .cmpne, .cmplt, .cmple, .cmpgt, .cmpge] : List NOp).all (fun o =>
      issuable ⟨o, .ind 2 1 15⟩ scan0 []) = true ∧
    ([.ldl, .andl, .orl] : List NOp).all (fun o => issuable ⟨o, .dir 0 15⟩ scan0 [] &&
      decide ((run ⟨o, .dir 0 15⟩ scan0 []).ea < (run ⟨o, .dir 0 15⟩ scan0 []).opWin.cap .word)) = true := by
  decide +kernel

/-- Stores to a journalled window at its last bit and word, edges, SHIFTA over the whole window, timers and counters. -/
theorem witness_stores_and_entries : ([.stb, .setb, .rstb] : List NOp).all (fun o => issuable ⟨o, .dir 2 511⟩ scan0 [] &&
      decide ((run ⟨o, .dir 2 511⟩ scan0 []).ea < (run ⟨o, .dir 2 511⟩ scan0 []).opWin.cap ((run ⟨o, .dir 2 511⟩ scan0 []).unit true)))
      = true ∧
    ([.edgr, .edgf] : List NOp).all (fun o => issuable ⟨o, .dir 4 511⟩ scan0 [] &&
      decide ((run ⟨o, .dir 4 511⟩ scan0 []).ea < (run ⟨o, .dir 4 511⟩ scan0 []).opWin.cap .bit)) = true ∧
    (issuable ⟨.stw, .dir 1 15⟩ scan0 [] = true ∧ (run ⟨.stw, .dir 1 15⟩ scan0 []).ea < (run ⟨.stw, .dir 1 15⟩ scan0 []).opWin.cap .word) ∧
    (issuable ⟨.shifta, .dir 2 0⟩ { scan0 with x3 := 16 } [] = true ∧
      (let r := run ⟨.shifta, .dir 2 0⟩ { scan0 with x3 := 16 } []; r.ea + r.c.x3.toNat - 1 < r.opWin.cap .word)) ∧
    ([.ton, .tof, .tp, .tonr, .trst, .ldt] : List NOp).all (fun o => issuable ⟨o, .dir 5 7⟩ scan0 [] &&
      decide ((run ⟨o, .dir 5 7⟩ scan0 []).ea < (run ⟨o, .dir 5 7⟩ scan0 []).opWin.cap .entry)) = true ∧
    ([.ctu, .ctd, .cts, .crst, .ldc] : List NOp).all (fun o => issuable ⟨o, .dir 6 7⟩ scan0 [] &&
      decide ((run ⟨o, .dir 6 7⟩ scan0 []).ea < (run ⟨o, .dir 6 7⟩ scan0 []).opWin.cap .entry)) = true := by
  decide +kernel

/-- An illegal word at PC, a word whose AREA its opcode does not list (EDGR on area I), and an operand that a double error may
meet. -/
theorem witness_illegal : (engine 1 scan0 []).running 0 = some (0, scan0) ∧ (engine 1 scan0 []).mayIssue 0 scan0 = true ∧
    ((engine 1 scan0 []).waitOver 0 scan0).1.inCode 0 0 scan0 = true ∧ nalDecode ((engine 1 scan0 []).progWord 0 0 64) = none ∧
    nalDecode ((issuing ⟨.edgr, .dir 0 0⟩ scan0 []).progWord 0 0 64) = some ⟨.edgr, .dir 0 0⟩ ∧
    (⟨.edgr, .dir 0 0⟩ : NIns).areaOk = false ∧ issuable ⟨.edgr, .dir 0 0⟩ scan0 [] = false ∧
    (let i : NIns := ⟨.ldw, .dir 0 15⟩
     let b := issuing i scan0 []
     let r := b.runOf 0 .operand 0 scan0 i
     issuable i scan0 [] = true ∧ nalDecode (b.progWord 0 0 64) = some i ∧ spares .operand i = false ∧ r.area ≤ 4 ∧
       r.ea < r.opWin.cap (r.unit false)) := by decide +kernel

/-- END with an empty branch stack: in time with a credit, and overrun. -/
theorem witness_end : (let r := run ⟨.endS, .none⟩ scan0 []; r.c.bstk = [] ∧ r.s.overran 0 0 = false ∧
      r.s.rd ENG.ENG_BQ_CREDIT.CREDITS 0 0 ≠ 0) ∧
    (let r := run ⟨.endS, .none⟩ scan0 [(TSK.TSK_STAT.STATE, 0, 0, 6)]; r.c.bstk = [] ∧ r.s.overran 0 0 = true) := by decide +kernel

/-- A module about to issue `i` with the P entry 0 valid, of a bit or a word. -/
def pointAt (i : NIns) (wide : Bool) (c : Scan) : Block :=
  let m := issuing i c []
  { m with bench := m.bench.writeN (Block.lineAddr 0 28 + 4) 4 (if wide then 0x80200000 else 0x80000000) }

/-- The run that this issue makes. -/
def pointRun (i : NIns) (wide : Bool) (c : Scan) : Run := (pointAt i wide c).runOf 0 .ok 0 c i

/-- P writes: a valid bit point and a valid word point of this module whose walk is done, with a credit. -/
theorem witness_point_stores :
    let c : Scan := { scan0 with lb := true, acc := 9, walked := some (.pt 0x200000) }
    ([.stb, .setb, .rstb] : List NOp).all (fun o =>
      let r := pointRun ⟨o, .dir 7 0⟩ false c
      (pointAt ⟨o, .dir 7 0⟩ false c).issues 0 0 c ⟨o, .dir 7 0⟩ && decide (r.ea < r.opWin.cap (r.unit true)) && r.pValid && !r.pWide && (r.pEntryOf (.pt 0x200000) true 1).isSome &&
        decide (r.s.rd ENG.ENG_BQ_CREDIT.CREDITS 0 0 ≠ 0)) = true ∧
    (let r := pointRun ⟨.stw, .dir 7 0⟩ true c
     (pointAt ⟨.stw, .dir 7 0⟩ true c).issues 0 0 c ⟨.stw, .dir 7 0⟩ && decide (r.ea < r.opWin.cap (r.unit false)) && r.pValid && r.pWide && (r.pEntryOf (.pt 0x200000) false 9).isSome) = true := by
  decide +kernel

/-- A walk and a direct read of another module that an engine waits for. -/
theorem witness_stalls :
    (let c : Scan := { scan0 with lb := true }
     let m := issuing ⟨.ldb, .dir 7 0⟩ c [(ENG.ENG_STATE.STALL, 0, 0, 1)]
     let b : Block := { m with bench := m.bench.writeN (Block.lineAddr 0 28 + 4) 4 0x80000000 }
     b.running 0 = some (0, c) ∧ b.engRuns 0 = true ∧ b.rd ENG.ENG_STATE.STALL 0 0 = 1 ∧ b.walkFirst = some 0 ∧
       (b.pPending 0 0 c).isSome = true) ∧
    (let c : Scan := { scan0 with walked := some (.far 7 0 0 0), wait := 2 }
     let b := issuing ⟨.ldb, .dir 7 0⟩ c [(ENG.ENG_STATE.STALL, 0, 0, 2)]
     b.running 0 = some (0, c) ∧ b.engRuns 0 = true ∧ b.rd ENG.ENG_STATE.STALL 0 0 = 2 ∧ c.ans = none ∧ c.walked ≠ some .lost) := by
  decide +kernel

/-! ### The module, header registers, events -/

/-- MOD_CMD: a session of tin 0 and one of tin 1 whose commands pass the checks of R59. -/
theorem witness_mod_commands : (with_ []).mayWrite r0 0x000048 = true ∧ (with_ []).mayWrite r1 0x000048 = true ∧
    (with_ []).modCmdCode r0 0x01 = 0 ∧ (with_ []).modCmdCode r1 0x02 = 0 ∧ (with_ []).modCmdCode r0 0x10 = 0 ∧
    (with_ []).modCmdCode r0 0x11 = 0 ∧ (with_ []).modCmdCode r0 0x20 = 0 := by decide +kernel

/-- Header registers: the first page of the map, with a batch of the requester's own and with one of another's. -/
theorem witness_header : reqHeld r0 = some 4 ∧ (pageKind 0).isNone = false ∧
    (with_ []).mayWrite r0 0x020 = true ∧
    (let b : Block := { with_ [] with batches := [(63, (with_ []).newBatch r0 false false false)] }
     b.mayWrite r0 0x020 = true ∧ (b.batches.find 63).any (fun x => decide (x.opener = r0)) = true ∧
     (0x13F#32).toNat.testBit 8 = true ∧ (b.batches.find ((0x13F#32).toNat % 64)).any (fun x => decide (x.opener = r1)) = false) ∧
    (with_ []).on HDR.PAGE_CTRL.LOCK 0 0 = false ∧ (with_ []).preparedOn 0 = false ∧ (with_ []).rd HDR.PAGE_CTRL.ENABLE 0 0 ≤ 1 := by
  decide +kernel

/-- Module events: a fire input asserts, a seal point is due, source 3 waits before a round and in one, an island runs. -/
theorem witness_module_events : Block.reset.supRuns = true ∧
    (let b : Block := { put [(MOD.MOD_FIRE_IN1.EN, 0, 3, 1), (DIO.DIO_CH_CFG.MODE, 0, 0, 1)] with points := [(dchBase 0, 1)] }
     b.fireInOn 7 = true) ∧
    Block.reset.sealed = false ∧
    (let b := put [(EVR.SRC_COUNT.COUNT, 0, 3, 1)]
     b.roundLeft = [] ∧ b.roundStart.roundFirst b.roundStart.roundLeft = some 3) ∧
    (let b := put [(EVR.SRC_COUNT.COUNT, 0, 3, 1), (HID.INROUND, 0, 3, 1)]
     b.roundLeft ≠ [] ∧ b.roundFirst b.roundLeft = some 3) ∧
    Block.reset.islandUp 16 = true ∧ ({ Block.reset with recQ := [(0, 1)] } : Block).recSnaps 0 = [] := by decide +kernel

/-- Credits at the ends of the queues' depths, stalled and not, an entry that waits, and entries to take. -/
theorem witness_credits :
    let q : QEnt := ⟨.slot 0 0, 1, 0, false, 0, none⟩
    (let b := put [(ENG.ENG_BQ_CREDIT.CREDITS, 15, 0, 63)]
     b.rd ENG.ENG_BQ_CREDIT.CREDITS 15 0 + (b.engQueue 15).length < 64 ∧ b.rd ENG.ENG_STATE.STALL 15 0 ≠ 3) ∧
    (put [(ENG.ENG_BQ_CREDIT.CREDITS, 0, 0, 0), (ENG.ENG_STATE.STALL, 0, 0, 3)]).rd ENG.ENG_STATE.STALL 0 0 = 3 ∧
    (let b := put [(BAT.LOOP_Q_CREDIT.CREDITS, 0, 0, 127)]
     b.g BAT.LOOP_Q_CREDIT.CREDITS + b.loopQ.length < 128 ∧ b.loopWait = [] ∧
       ({ b with loopWait := [q] } : Block).loopWait = [q]) ∧
    (let b := put [(RCTL.RX_Q_CREDIT.CREDITS, 0, 0, 511)]
     b.g RCTL.RX_Q_CREDIT.CREDITS < 512 ∧
       (b.p RCTL.RX_Q_CREDIT.CREDITS (b.g RCTL.RX_Q_CREDIT.CREDITS + 1)).rxNext = none ∧ b.imgWait = []) ∧
    (let b : Block := { put [(RCTL.RX_Q_CREDIT.CREDITS, 0, 0, 0)] with rxBuf := [⟨hd, .response 0 0 0⟩] }
     b.g RCTL.RX_Q_CREDIT.CREDITS < 512 ∧ b.imgWait = [] ∧
       ((b.p RCTL.RX_Q_CREDIT.CREDITS 1).rxNext.map fun x => x.h) = some hd) ∧
    (let b : Block := { put [] with imgQ := [⟨0, 1, 0⟩] }; b.imgQ ≠ [] ∧ b.imgWait = [] ∧
       ({ b with imgWait := [⟨hd, 1, 0, 0⟩] } : Block).imgWait ≠ []) ∧
    (put [(AUD.RING_Q_CREDIT.CREDITS, 0, 15, 3)]).rd AUD.RING_Q_CREDIT.CREDITS 0 15 < 4 ∧
    Block.reset.fixedFree = true ∧ (({ Block.reset with engQ := [(3, [q])] } : Block).engQueue 3 = [q]) := by decide +kernel

/-- Tick boundaries: the module runs, with and without the supervisor island, and with the audio island; without the time
island; HALT; OFF with and without the RTC. -/
theorem witness_tick_boundary : (Block.reset.g HID.PWRST = 0 ∧ Block.reset.supRuns = true ∧ Block.reset.islandUp 32 = true) ∧
    (let b := put [(HID.ISLANDDOWN, 0, 0, 1)]; b.g HID.PWRST = 0 ∧ b.islandUp 32 = true ∧ b.supRuns = false ∧ b.islandUp 28 = true) ∧
    (let b := put [(HID.ISLANDDOWN, 0, 32, 1)]; b.g HID.PWRST = 0 ∧ b.islandUp 32 = false) ∧
    (put [(HID.PWRST, 0, 0, 1)]).g HID.PWRST = 1 ∧
    (let b := put [(HID.PWRST, 0, 0, 2)]; 2 ≤ b.g HID.PWRST ∧ b.islandUp 33 = true) ∧
    (let b := put [(HID.PWRST, 0, 0, 3), (HID.ISLANDDOWN, 0, 33, 1)]; 2 ≤ b.g HID.PWRST ∧ b.islandUp 33 = false) := by decide +kernel

/-- Register accesses: an aligned 32-bit write, 8 bits, a misaligned one, and the read of a low half. -/
theorem witness_register_access : (with_ []).live r0 = true ∧ Block.widthCode 0x002068 4 = 0 ∧ Block.widthCode 0x002068 1 = 0x0D ∧
    Block.widthCode 0x00206A 4 = 0x08 ∧ hasAcc (regAt (0x00206A / 4 * 4)).2 .rws = false ∧
    ([0x0A1048, 0x05C058] : List Nat).all (fun o => isLow o && (with_ []).selOk r0 .read o) = true ∧
    (with_ []).mayWrite r0 (0x0F0 * 4096 + 0x014) = true ∧ (pageKind 0x0F0).isNone = false ∧
    (with_ []).mayWrite r0 (0x0F0 * 4096 + 0x01C) = true := by decide +kernel

/-- A write of an RWS register without a tag: its target, and the batch that the module opens for it. -/
theorem witness_register_stage :
    let b := with_ []
    let a := b.wr HID.HELDHV 0x020044 (holdKey r0) 0
    let n : Batch := { a.newBatch r0 false true false with
      st := .requested, ctick := a.nextCommitTick, entries := (b.stageList r0 0x020044 (b.selAt r0 0x020044) 1).map fun x => ⟨x.1, x.2, r0, 0, none⟩ }
    b.stagesAt r0 0x020044 1 = true ∧ (pageKind 0x020).isNone = false ∧ (regAt 0x020044).2.isEmpty = false ∧
      allRo (regAt 0x020044).2 = false ∧ hasAcc (regAt 0x020044).2 .rws = true ∧ b.cmdWrite r0 0x020044 1 = none ∧
      (b.stageList r0 0x020044 (b.selAt r0 0x020044) 1).length = 1 ∧ a.tagNow r0 = none ∧ a.own HDR.BATCH_TAG.ENDED 0 r0 ≠ 1 ∧
      a.singleCode n = 0 ∧ a.lowestId = some 0 := by decide +kernel

/-- An access of a session that is not READY cannot be made, nor any while the supervisor island is down. -/
theorem witness_dead_requester : requester (.batOpen (.ses 63) true) = some (.ses 63) ∧ Block.reset.live (.ses 63) = false ∧
    (put [(HID.ISLANDDOWN, 0, 0, 1)]).live fw = false := by decide +kernel

/-! ### Engines and tasks -/

/-- Task events: a capture in progress, an overrun scan at its watchdog, a due snapshot, a CRC to show, a scan that waits. -/
theorem witness_task_events :
    (let b : Block := { put [] with scans := [(0, { scan0 with ready := false })] }
     b.supRuns = true ∧ (b.scan 0 0).map (fun c => c.ready) = some false) ∧
    (let b : Block := { put [(TSK.TSK_STAT.STATE, 0, 0, 6)] with scans := [(0, scan0)] }
     b.islandUp 1 = true ∧ b.overran 0 0 = true ∧ (b.scan 0 0).isSome = true ∧ b.rd HID.WDOGAT 0 0 ≤ b.tick) ∧
    (put [(HID.SNAPREAD, 0, 0, 1)]).on HID.SNAPREAD 0 0 = true ∧
    (let b : Block := { put [(HID.CRCRUN, 0, 0, 1)] with progs := [(0, ⟨[], [], [], [], [], 0⟩), (1, ⟨[], [], [], [], [], 0⟩)] }
     b.on HID.CRCRUN 0 0 = true ∧ ((b.freeBank 0).bind fun k => b.prog 0 k).isSome = true) ∧
    (let b : Block := { put [(TSK.TSK_STAT.STATE, 0, 0, 3)] with scans := [(0, { scan0 with started := false })] }
     b.on HID.EXECUTING 0 0 = false ∧ b.bestScan 0 (b.waitingScans 0) = some 0 ∧ (b.scan 0 0).isSome = true) := by decide +kernel

/-- Engine commands at the last engine: a closed bank, an open one with its window register, and a STOPPED slot. -/
theorem witness_engine_commands :
    (let b := with_ []
     b.live r0 = true ∧ b.on ENG.ENG_CTRL.PROG_OPEN 15 0 = false ∧ b.on ENG.ENG_CTRL.SWAP 15 0 = false ∧
       b.on ENG.ENG_STATE.SWAP_PEND 15 0 = false ∧ b.mayWrite r0 0x01F050 = true ∧ b.mayWrite r0 0x01F05C = true ∧
       b.mayWrite r0 0x02F054 = true) ∧
    (let b := with_ [(ENG.ENG_CTRL.PROG_OPEN, 15, 0, 1), (ENG.AREA_SEL.BANK, 15, 4, 1)]
     b.on ENG.ENG_CTRL.PROG_OPEN 15 0 = true ∧ b.mayWrite r0 0x01F064 = true ∧
       b.freeBank 15 = some (b.own ENG.AREA_SEL.BANK 15 r0) ∧ bits (0x8007FF#32).toNat 23 12 ≤ 2048) ∧
    (let b := with_ [(TSK.TSK_STAT.STATE, 15, 7, 7), (TSK.SLOT_SEL.SLOT, 15, 4, 7)]
     b.holds r0 .configure = true ∧ b.tinOf r0 = 0 ∧ b.rd TSK.TSK_STAT.STATE 15 (b.own TSK.SLOT_SEL.SLOT 15 r0) = 7) := by
  decide +kernel

/-! ### Batches -/

/-- Session 0 has batch 0 open under its tag. -/
def tagged (l : List (Fld × Nat × Nat × Nat)) (b : Batch) : Block :=
  { with_ ((HDR.BATCH_TAG.VALID, 0, 4, 1) :: l) with batches := [(0, b)] }

def batch0 : Batch := (with_ []).newBatch r0 false false false

/-- Staging: into the tagged batch, into one of another requester's target (which dooms it), and without a tag. -/
theorem witness_staging :
    ((tagged [] batch0).tagNow r0 = some 0 ∧ (tagged [] batch0).stageCode 0 batch0 (.point 0x200000) = 0) ∧
    (let e : Entry := ⟨.point 0x200000, 1, r1, 0, none⟩
     let b : Block := { tagged [] batch0 with batches := [(0, batch0), (1, { batch0 with opener := r1, entries := [e] })] }
     b.tagNow r0 = some 0 ∧ b.stageCode 0 batch0 (.point 0x200000) = 0x03 ∧ batch0.st = .opened) ∧
    (let b := with_ []
     b.tagNow r0 = none ∧ b.own HDR.BATCH_TAG.ENDED 0 r0 ≠ 1 ∧ b.lowestId = some 0 ∧
       b.singleCode { b.newBatch r0 false true false with st := .requested, ctick := b.nextCommitTick,
                                                          entries := [⟨.point 0x200000, 1, r0, 0, none⟩] } = 0) := by decide +kernel

/-- BAT_OPEN and BAT_CMD: a free ID, an opened batch with the first commit tick that is in time and the last, a cross-module
batch, and the selected batch. -/
theorem witness_batch_commands : reqHeld r0 = some 4 ∧ (with_ []).mayWrite r0 0x002040 = true ∧ (with_ []).mayWrite r0 0x002044 = true ∧
    (with_ []).on HDR.PAGE_CTRL.ENABLE 0x002 0 = true ∧ (with_ []).on MOD.MOD_STATUS.GRID_FREE 0 0 = false ∧
    (with_ []).lowestId = some 0 ∧ batch0.st = .opened ∧ batch0.xmod = false ∧ (tagged [] batch0).tagNow r0 = some 0 ∧
    (let b := tagged [(BAT.BAT_CTICK_L.CTICK_L, 0, 4, 1)] batch0; b.nextCommitTick ≤ b.ctickOf r0) ∧
    (let b := tagged [(BAT.BAT_CTICK_L.CTICK_L, 0, 4, 240000)] batch0
     b.nextCommitTick ≤ b.ctickOf r0 ∧ b.ctickOf r0 ≤ b.tick + 240000) ∧
    (let b := tagged [] { batch0 with xmod := true }; b.tagNow r0 = some 0 ∧ b.on MOD.MOD_STATUS.GRID_FREE 0 0 = false) ∧
    (tagged [] batch0).tin0cfg r0 = true ∧ ((tagged [] batch0).batches.find ((tagged [] batch0).rd BAT.BAT_SEL.ID 0 4)).isSome = true := by
  decide +kernel

/-- A ring whose east port is up, to module 7. -/
def ring (l : List (Fld × Nat × Nat × Nat)) : Block :=
  with_ ([(RING.PORT_STAT.LINK, 0, 0, 1), (MOD.MOD_ID.MODULE_ID, 0, 0, 7)] ++ l)

/-- Batch events at their limits, and COMMIT frames past their checks. -/
theorem witness_batch_events_and_commit_frames :
    (let b : Block := { put [] with tick := 40000, batches := [(63, batch0)] }
     b.supRuns = true ∧ b.batches.find 63 = some batch0 ∧ batch0.openedAt + b.g BAT.BAT_CFG.OPEN_LIMIT ≤ b.tick ∧
       ({ batch0 with st := .doomed } : Batch).ctick = 0) ∧
    (let b := put [(HID.RESTART, 0, 0, 1), (RISE.RISE_WAKE.SLOTS, 0, 0, 7)]
     b.powerStart = true ∧ b.g RISE.RISE_WAKE.SLOTS < 8) ∧
    ((ring []).withSup 30 = true ∧ ((ring []).receive { hd with ls := true } 0x05 true).2 = .taken ∧
      ([7, 9] : List Nat).contains ((ring []).receive { hd with ls := true } 0x05 true).1.selfId = true) ∧
    (let b : Block := { ring [] with batches := [(0, { batch0 with xmod := true, st := .sealed })] }
     (b.receive hd 0x05 true).2 = .taken ∧ ((b.receive hd 0x05 true).1.recordBatch 7 0).isSome = true) := by decide +kernel

/-- A ring module 7 whose tables give the first 2 MiB to its own points from 0x200000 and the next to module 9. -/
def mapped (l : List (Fld × Nat × Nat × Nat)) : Block :=
  ({ ring ([(XLT.XLT_TBL_LIMIT.LIMIT, 0, 0, 100), (XLT.XLT_ROOT0.ROOT0, 0, 0, 1)] ++ l) with
     pmap := [⟨0, 1, 0x0020000000070003⟩, ⟨0x200000, 1, 0x90003⟩] } : Block).buildTables 1

/-- What frame type `ty` of header `hd` leaves of a module that it reaches with a credit. -/
def reached (ty : Nat) (b : Block) : Block := (b.receive hd ty hd.ls).1.takeRxCredit

/-- Frames for translation: taken, with a credit; an IMAGE word of module 9's point and one of this module's for a tick to come;
a REQUEST that a page allows; a RESPONSE that a scan waits for; a STAGE into an opened part and its answer. -/
theorem witness_translation_frames : (ring []).withSup 30 = true ∧
    ([0x03, 0x07, 0x08, 0x09, 0x0A] : List Nat).all (fun ty => decide (((ring []).receive hd ty hd.ls).2 = .taken) &&
      ((ring []).receive hd ty hd.ls).1.rxDirect) = true ∧
    (let a := reached 3 (mapped [])
     ((mapped []).receive hd 3 hd.ls).2 = .taken ∧ a.imgWait = [] ∧ a.locate 0x200000 = some (9, 0, 0) ∧ 9 ≠ a.selfId ∧
       a.g XLT.IMG_Q_CREDIT.CREDITS ≠ 0 ∧ a.locate 0 = some (7, 0, 0x200000) ∧ a.selfId = 7 ∧ a.ownerOk 0x200000 5 0 = true ∧
       a.tick < 1) ∧
    (let a := reached 7 (ring [])
     a.staleTarget hd = false ∧ a.pageAllows (.peer 5 0 15 false) .read 0 0xFFFFFC = true) ∧
    (let q : Ask := ⟨1, 5, .scan 0 0 0, none⟩
     let a := reached 8 ({ ring [] with asks := [q], scans := [(0, scan0)] } : Block)
     a.askOf 5 1 false = some q ∧ a.scan 0 0 = some scan0 ∧ scan0.rel = 0) ∧
    (let n : Batch := { batch0 with remote := true, coord := (5, 3), opener := .peer 5 0 15 false }
     let a := reached 9 ({ ring [] with batches := [(2, n)] } : Block)
     let r := Req.peer 5 0 (Block.writeRights 0 0x200000) hd.ls
     let a1 := (a.p HID.PEERTAG 3).p HID.PEERSEL 0
     a.partOf 5 3 = some (2, n) ∧ a1.peerCode hd r .write 0 0x200000 = 0 ∧ a1.pointCode 0x200000 = 0 ∧ a1.tagNow r = some 2 ∧
       a1.batches.find 2 = some n ∧ a1.stageCode 2 n (.point 0x200000) = 0) ∧
    (let q : Ask := ⟨1, 5, .nobody, some 0⟩
     (reached 0xA ({ ring [] with asks := [q] } : Block)).askOf 5 1 true = some q) ∧
    (let x : RxHeld := ⟨hd, .response 0 0 0⟩
     let b : Block := { ring [] with rxBuf := [x] }
     b.g RCTL.RX_Q_CREDIT.CREDITS ≠ 0 ∧ b.rxNext = some x ∧ b.imgWait = []) := by decide +kernel

/-- Translation commands: the shadow opens and closes, a prewarm starts and is refused, table bounds and roots at their
ends, the walk-fault record, and TIN_GRANT open and locked. -/
theorem witness_translation_commands : reqKind fw = 1 ∧ (with_ []).live fw = true ∧
    ((with_ []).on XLT.XLT_CTRL.SHADOW_OPEN 0 0 = false ∧ (with_ []).on XLT.XLT_STAT.HOLD_OLD 0 0 = false) ∧
    (put [(XLT.XLT_CTRL.SHADOW_OPEN, 0, 0, 1)]).on XLT.XLT_CTRL.SHADOW_OPEN 0 0 = true ∧
    (with_ []).pwStartCode ≠ 0 ∧ (put [(XLT.XLT_TBL_LIMIT.LIMIT, 0, 0, 100)]).pwStartCode = 0 ∧
    (with_ []).g PWR.PWR_STAT.LADDER < 2 ∧ reqKind r0 ≠ 1 ∧
    (put [(XLT.XLT_STAT.HOLD_OLD, 0, 0, 1)]).on XLT.XLT_STAT.HOLD_OLD 0 0 = true ∧
    (let b := put [(XLT.XLT_TBL_LIMIT.LIMIT, 0, 0, 0x200000)]
     b.on HDR.PAGE_CTRL.LOCK 0x040 0 = false ∧ b.mayWrite fw 0x040048 = true ∧
       (0x1FFFFF#32).toNat % 2 ^ 28 < b.g XLT.XLT_TBL_LIMIT.LIMIT ∧ b.mayWrite fw 0x04004C = true ∧
       b.g XLT.XLT_TBL_BASE.BASE < (0x200000#32).toNat % 2 ^ 28 ∧ (0x200000#32).toNat % 2 ^ 28 ≤ 0x200000) ∧
    (let b := put [(XLT.XLT_CTRL.SHADOW_OPEN, 0, 0, 1), (XLT.XLT_STAT.ACTIVE, 0, 0, 1)]
     b.g XLT.XLT_CTRL.SHADOW_OPEN ≠ 0 ∧ b.mayWrite fw 0x040050 = true ∧ b.g XLT.XLT_STAT.ACTIVE ≠ 0) ∧
    (let b := put [(XLT.XLT_CTRL.SHADOW_OPEN, 0, 0, 1)]; b.mayWrite fw 0x040054 = true ∧ b.g XLT.XLT_STAT.ACTIVE ≠ 1) ∧
    (with_ []).mayWrite r0 0x040080 = true ∧
    ((with_ []).mayWrite r0 0x041048 = true ∧ (with_ []).on HDR.PAGE_CTRL.LOCK 0x041 0 = false) ∧
    (let b := with_ [(HDR.PAGE_CTRL.LOCK, 0x041, 0, 1)]
     b.mayWrite r0 0x041048 = true ∧ b.on HDR.PAGE_CTRL.LOCK 0x041 0 = true ∧ (0xF#32).toNat % 16 ≠ b.g TIN.TIN_GRANT.OPER) := by
  decide +kernel

/-- A table whose roots are pages 1 and 4: each root leads over two pages to a leaf of 2 MiB. -/
def tables : Memory :=
  ((((((Memory.writeN [] 0x1000 8 0x2001).writeN 0x2000 8 0x3001).writeN 0x3000 8 3).writeN 0x4000 8 0x5001).writeN 0x5000 8
    0x6001).writeN 0x6000 8 3)

/-- Translation events: a prewarm in progress, an old generation without users, a sweep, and a dual write whose leaf stands
in both roots. -/
theorem witness_translation_events : (put [(XLT.XLT_STAT.PW_BUSY, 0, 0, 1)]).on XLT.XLT_STAT.PW_BUSY 0 0 = true ∧
    (let b : Block := { put [(XLT.XLT_STAT.HOLD_OLD, 0, 0, 1)] with sealed := true }
     b.sealed = true ∧ b.on XLT.XLT_STAT.HOLD_OLD 0 0 = true ∧ b.oldUser = false) ∧
    (put [(XLT.XLT_STAT.SWEEP, 0, 0, 1)]).on XLT.XLT_STAT.SWEEP 0 0 = true ∧
    (let o : OvEnt := ⟨0, 1, 3⟩
     let b : Block := { put [(XLT.XLT_TBL_LIMIT.LIMIT, 0, 0, 100), (XLT.XLT_ROOT0.ROOT0, 0, 0, 1), (XLT.XLT_ROOT1.ROOT1, 0, 0, 4)]
       with dram := tables, overlay := [o] }
     b.overlay.find? (fun x => x.page == 0 && x.level == 1) = some o ∧
       b.leafPlace (o.page * leafSpan o.level) 3 (b.g XLT.XLT_ROOT0.ROOT0) = some (1, 0x3000) ∧
       ({ b with dram := b.dram.writeN 0x3000 8 o.leaf, dramBad := b.dramBad.filter fun x => x != 0x3000 } : Block).leafPlace
         (o.page * leafSpan o.level) 3 (b.g XLT.XLT_ROOT1.ROOT1) = some (1, 0x6000)) := by
  decide +kernel

/-- Staged commands at the ends of their operands. -/
theorem witness_staged : reqHeld r0 = some 4 ∧ (with_ []).rd ENG.ENG_CTRL.PROG_OPEN 15 0 ≤ 1 ∧
    (with_ []).rd ENG.ENG_CTRL.DET_STRICT 15 0 ≤ 1 ∧ (with_ []).stagesAt r0 0x01F040 1 = true ∧
    (with_ []).on ENG.ENG_CTRL.PROG_OPEN 15 0 = false ∧ ((with_ []).freeBank 15).isSome = true ∧
    ((with_ []).crcStart 15).stagesAt r0 0x01F040 1 = true ∧
    (let b := with_ [(ENG.ENG_CTRL.PROG_OPEN, 15, 0, 1), (ENG.ENG_CTRL.DET_STRICT, 15, 0, 1)]; b.stagesAt r0 0x01F040 7 = true) ∧
    (with_ []).g XLT.XLT_CTRL.SHADOW_OPEN ≤ 1 ∧
    (with_ []).stagesAt r0 0x040040 1 = true ∧ (with_ []).stagesAt r0 0x04006C 0xFFFFFFFF = true ∧
    (let b := with_ [(AUD.SRC_SEL.SRC, 0, 4, 7)]
     b.stagesAt r0 0x060054 (255 + 256 * 255 + 65536 * 255 + 2 ^ 24) = true ∧ b.stagesAt r0 0x060054 (2 ^ 25 + b.mpWord r0) = true) ∧
    (let b := with_ [(MOD.MOD_ID.PAIRED, 0, 0, 1), (PAIR.PAIR_STAT.ROLE, 0, 0, 1)]
     b.stagesAt r0 0x0B0044 (1 + 4 * b.g PAIR.PAIR_CTRL.BACK + 65536 * b.g PAIR.PAIR_CTRL.HOLD) = true ∧
       b.stagesAt r0 0x0B0044 (2 + 65536 * 400) = true) ∧
    (with_ []).stagesAt r0 0x0D2040 7 = true ∧ (with_ []).stagesAt r0 0x0B104C (255 + 256 * 15 + 4096 * 7 + 2 ^ 15) = true ∧
    (with_ []).stagesAt r0 0x0E0040 1 = true ∧ (with_ []).stagesAt r0 0x0E0040 2 = true ∧ (with_ []).stagesAt r0 0x0E0040 4 = true ∧
    (with_ []).stagesAt r0 0x0A1048 0xFFFFFFFF = true := by decide +kernel

/-! ### The field, audio and metrology -/

/-- Inputs of channel 95 with and without a filter, a filtered edge each way, a wire break; outputs that drive, with open load,
in and out of an overload; slices in each state. -/
theorem witness_inputs_outputs_slices :
    (let b := put [(DIO.DIO_CH_CFG.MODE, 5, 15, 1)]
     b.islandRuns 23 = true ∧ b.isIn 95 = true ∧ b.dch DIO.DIO_CH_CFG.FILTER 95 = 0 ∧ b.g HID.PWRST = 0 ∧
       b.on HID.ISLANDDOWN 0 0 = false) ∧
    (put [(DIO.DIO_CH_CFG.MODE, 5, 15, 3), (DIO.DIO_CH_CFG.FILTER, 5, 15, 1)]).dch DIO.DIO_CH_CFG.FILTER 95 ≠ 0 ∧
    (let b := put [(DIO.DIO_CH_CFG.MODE, 5, 15, 3), (HID.DTERM, 5, 15, 1)]
     b.withSup 23 = true ∧ b.isIn 95 = true ∧ b.dch HID.DTERM 95 = 1 ∧ b.dch HID.DFILT 95 ≠ 1 ∧
       b.dch DIO.DIO_CH_CFG.MODE 95 = 3 ∧ b.dch HID.DWB 95 = 0) ∧
    (let b := put [(DIO.DIO_CH_CFG.MODE, 5, 15, 1), (HID.DFILT, 5, 15, 1)]
     b.isIn 95 = true ∧ b.dch HID.DTERM 95 = 0 ∧ b.dch HID.DFILT 95 ≠ 0) ∧
    (let b := put [(DIO.DIO_CH_CFG.MODE, 0, 0, 4), (DIO.DIO_CH_CFG.OL_EN, 0, 0, 1), (HID.DDRIVE, 0, 0, 1)]
     b.islandRuns 18 = true ∧ b.withSup 18 = true ∧ b.isOut 0 = true ∧ b.dch HID.DDRIVE 0 = 1 ∧
       b.dch DIO.DIO_CH_CFG.OL_EN 0 = 1 ∧ b.dch HID.DOL 0 = 0 ∧ b.rd HID.OVEPISODE 5 0 ≠ 1 ∧ b.islandRuns 23 = true) ∧
    (put [(HID.OVEPISODE, 5, 0, 1)]).rd HID.OVEPISODE 5 0 = 1 ∧
    (let b := put [(AIO.AIO_STAT.STATE, 2, 0, 0), (AIO.SLICE_CFG.TIMEOUT, 2, 0, 1)]
     b.islandRuns 26 = true ∧ b.slState 8 = 0 ∧ b.slTimeout 8 ≠ 0) ∧
    (let b := put [(AIO.AIO_STAT.STATE, 2, 0, 0), (AIO.SLICE_CFG.TIMEOUT, 2, 0, 10), (HID.SLAGE, 0, 8, 39)]
     b.slState 8 = 0 ∧ 4 * b.slTimeout 8 * 9999 < (b.rd HID.SLAGE 0 8 + 1) * 10000) ∧
    ((put []).slCause 0).testBit (causeBit .fsLow) = false ∧ (put []).slState 0 ≠ 2 ∧ (put []).g HID.PWRST ≤ 1 ∧
    (let b := (put [(HID.RESTART, 0, 0, 1), (HID.UNCFG, 0, 0, 0)]).setSlCause 0 0x3F
     b.islandRuns 18 = true ∧ ([.fsLow, .conn, .isl, .cfg] : List SliceCause).all (fun x => (b.slCause 0).testBit (causeBit x)) = true ∧
       b.g HID.RESTART ≠ 0 ∧ b.on HID.UNCFG 0 0 = false) ∧
    (let b : Block := { put [(DIO.DIO_STAT.STATE, 0, 0, 2)] with tick := 1 }
     b.slState 0 = 2 ∧ (b.slCause 0).testBit (causeBit .conn) = false ∧ b.withSup 18 = true ∧ b.slCause 0 = 0 ∧
       b.rd HID.SLCLEAR 0 0 < b.tick) := by decide +kernel

/-- Field commands at the last page: loop, channel latches and rearm, by a session with the right and by one without. -/
theorem witness_field_commands :
    (let b := with_ []
     b.mayWrite r0 0x03F068 = true ∧ b.lp LOOP.LOOP_CFG.LS 240 ≠ 1 ∧ b.mayWrite r0 0x05504C = true ∧ b.holds r0 .configure = true ∧
       b.mayWrite r0 (slPage 8 * 4096 + 0x06C) = true ∧ b.mayWrite r0 (slPage 5 * 4096 + 0x05C) = true ∧ b.tin01cfg r0 = true) ∧
    (let b := with_ [(LOOP.LOOP_CFG.LS, 15, 0, 1), (LOOP.LOOP_CFG.TIN, 15, 0, 2)]
     b.mayWrite r2 0x03F068 = false ∧ b.lp LOOP.LOOP_CFG.LS 240 = 1 ∧ b.tinOf r2 = 2) ∧
    (let b := with_ [(LOOP.LOOP_CFG.LS, 15, 0, 1), (LOOP.LOOP_CFG.TIN, 15, 0, 2), (SES.SES_STATE.RIGHTS, 0, 2, 15)]
     b.mayWrite r2 0x03F068 = true ∧ b.tinOf r2 ≠ 0 ∧ b.tinOf r2 ≠ 1) ∧
    (let b : Block := { with_ [(MOD.MOD_ID.MODULE_ID, 0, 0, 7), (SES.SES_STATE.RIGHTS, 0, 2, 3)] with pmap := [⟨0, 0, 0x0010000000070203⟩] }
     b.mayWrite r2 0x05004C = true ∧ b.holds r2 .configure = false) ∧
    (with_ []).mayWrite r2 (slPage 8 * 4096 + 0x06C) = true ∧ (with_ []).tin01cfg r2 = false := by decide +kernel

/-- Capture channel 47 in its modes, standstill, its FIFO; an analog input. -/
theorem witness_capture_and_analog :
    (let b := put [(CAP.CAP_CFG.MODE, 0, 47, 1)]
     b.withSup 27 = true ∧ b.on HDR.PAGE_CTRL.ENABLE 0x05C 0 = true ∧ b.rd CAP.CAP_CFG.MODE 0 47 = 1 ∧
       bitN (b.rd HID.CAPLINE 0 47) 0 ≠ b2n true ∧ b.rd CAP.CAP_CFG.EDGE 0 47 = 0 ∧ b.rd HID.CAPST 0 47 < 2) ∧
    (put [(CAP.CAP_CFG.MODE, 0, 46, 3)]).rd CAP.CAP_CFG.MODE 0 46 = 3 ∧
    (let b := put [(CAP.CAP_CFG.MODE, 0, 47, 2), (CAP.CAP_CFG.EDGE, 0, 47, 1), (HID.CAPST, 0, 47, 2)]
     b.rd CAP.CAP_CFG.MODE 0 47 = 2 ∧ bitN (b.rd HID.CAPLINE 0 47) 0 ≠ b2n true ∧ b.rd CAP.CAP_CFG.EDGE 0 47 = 1 ∧
       2 ≤ b.rd HID.CAPST 0 47 ∧
       ({ b with tick := 100000 } : Block).stillPast 100000 47 = true) ∧
    ((put []).rd CAP.CAP_CFG.MODE 0 47 = 0 ∧ (put [(HDR.PAGE_CTRL.ENABLE, 0x05C, 0, 0)]).on HDR.PAGE_CTRL.ENABLE 0x05C 0 = false) ∧
    (let b := put [(CAP.CAP_CFG.MODE, 0, 46, 3)]
     Block.quadStep (b.rd HID.CAPLINE 0 46) 3 = none ∧ Block.quadStep (b.rd HID.CAPLINE 0 46) 1 ≠ none) ∧
    (let b : Block := { with_ [(CAP.CAP_SEL.CH, 0, 4, 47)] with capFifo := [(47, [⟨5, true⟩])] }
     b.live r0 = true ∧ b.selOk r0 .read 0x05C058 = true ∧ b.capFifoOf (b.own CAP.CAP_SEL.CH 0 r0) = [⟨5, true⟩]) ∧
    (let b := put [(AIO.AIO_CH_CFG.MODE, 2, 15, 4)]; b.withSup 26 = true ∧ b.aIn 47 = true) := by decide +kernel

/-- Commands of the audio pages: a new message set of the largest length, and a zone to commission. -/
theorem witness_audio_commands :
    (let b := with_ []
     b.live r0 = true ∧ b.holds r0 .configure = true ∧ (List.range 4).any b.mpOn = false ∧
       ([(255, (⟨86400000, true⟩ : MsgInfo))].map fun m => m.2.len).sum ≤ 86400000 ∧ [(255, (⟨86400000, true⟩ : MsgInfo))] ≠ b.msgFlash ∧
       b.live r1 = true ∧ b.holds r1 .configure = true ∧ b.tinOf r1 = 1) ∧
    (let b := with_ [(ZONE.ZONE_SEL.ENTRY, 3, 4, 3)]
     let z := 4 * 3 + b.own ZONE.ZONE_SEL.ENTRY 3 r0
     b.mayWrite r0 0x06407C = true ∧ b.holds r0 .configure = true ∧ ¬ (1 ≤ b.zoneLine z ∧ b.zoneLine z ≤ 3) ∧ b.zn HID.COMMLEFT z = 0) := by decide +kernel

/-- Audio events: a player's last repeat, a talkback line, a supervised zone, an earth measurement at its bounds, and the
autonomous state entered with and without a fire, muted and left. -/
theorem witness_audio_events :
    (let b : Block := { put [(HID.MPST, 0, 3, 1), (HID.MPMSG, 0, 3, 255), (HID.MPREP, 0, 3, 1)] with msgs := [(255, ⟨5, true⟩)] }
     b.islandRuns 28 = true ∧ b.mpEnds (b.g HID.AUDBLK + 1) 3 = true ∧ b.on AUD.AUD_STAT.AUTONOMOUS 0 0 = false) ∧
    (let b := put [(AUD.SRC_CFG.PHANTOM, 0, 3, 1)]
     b.withSup 28 = true ∧ b.on AUD.SRC_CFG.PHANTOM 0 3 = true ∧ b.driving = true ∧ b.on AUD.SRC_STAT.OPEN 0 3 = false) ∧
    (let b := put []
     b.zoneSup 15 = true ∧ b.g HID.AUDBLK % 1000 = 0 ∧ b.rd HID.ZWIN 0 15 ≠ b.g HID.AUDBLK + 1 ∧
       supVolt (b.zn ZONE.ZONE_CFG.VDIV 15) (10 ^ 12) < 65536 ∧ supAmp (b.zn ZONE.ZONE_CFG.RSH 15) (10 ^ 12) < 65536 ∧
       supMag (b.zn ZONE.ZONE_CFG.VDIV 15) (b.zn ZONE.ZONE_CFG.RSH 15) (10 ^ 12) (10 ^ 12) < 2 ^ 20) ∧
    (let b := put [(ZONE.ZONE_CFG.EARTH_EN, 3, 3, 1)]
     b.zn ZONE.ZONE_CFG.EARTH_EN 15 ≠ 0 ∧ b.on HDR.PAGE_CTRL.ENABLE (0x061 + 15 / 4) 0 = true ∧ b.zn ZONE.ZONE_STAT.EARTH 15 ≤ 1) ∧
    (let s1 := ((put []).noteCuts (List.range 16)).p AUD.AUD_STAT.AUTONOMOUS 1
     7 ≤ (put [(HID.AUDMISS, 0, 0, 7)]).g HID.AUDMISS ∧ (put []).on AUD.AUD_STAT.AUTONOMOUS 0 0 = false ∧ s1.on MOD.MOD_STATUS.FIRE 0 0 = false) ∧
    (let b := put [(MOD.MOD_STATUS.FIRE, 0, 0, 1), (AUD.AUD_FIRE.EN, 0, 0, 1), (ZONE.ZONE_CFG.FIRE_EN, 3, 3, 1), (HID.REQF, 15, 0, 0x24)]
     let s1 := (b.noteCuts (List.range 16)).p AUD.AUD_STAT.AUTONOMOUS 1
     s1.on MOD.MOD_STATUS.FIRE 0 0 = true ∧ s1.on AUD.AUD_FIRE.EN 0 0 = true ∧ s1.fireZones = [15] ∧
       (s1.promoteAll s1.fireZones).on HID.AUDPROMOF 0 0 = false) ∧
    (let b := put [(AUD.AUD_STAT.AUTONOMOUS, 0, 0, 1), (PWR.PWR_STAT.LADDER, 0, 0, 4)]
     b.on AUD.AUD_STAT.AUTONOMOUS 0 0 = true ∧ b.g PWR.PWR_STAT.LADDER = 4) ∧
    (let b := put [(AUD.AUD_STAT.AUTONOMOUS, 0, 0, 1)]
     b.withSup 28 = true ∧ b.on AUD.AUD_STAT.AUTONOMOUS 0 0 = true ∧ b.g PWR.PWR_STAT.LADDER ≠ 4 ∧ b.g HID.AUDMISS = 0 ∧ b.on HID.AUDPROMOF 0 0 = false ∧
       ((List.range 16).any fun z => b.on HID.AUDCUT 0 z) = false) := by decide +kernel

/-- The metrology island, powered by its cell and running its image of bank 0. -/
def isle : Island := { Island.reset with running := some 0, vCount := [(7, 2)] }

/-- Island events: each hypothesis of the statement, and what the link and a command owe the module. -/
theorem witness_metrology_events : ({ Block.reset with isl := isle } : Block).islandUp 29 = true ∧
    (isle.powered = true ∧ isle.bat = false ∧ isle.running.isSome = true ∧ isle.vPresent.testBit 7 = false ∧
      2 ≤ (isle.vCount.find 7).getD 0 ∧ isle.modSupply = false ∧ isle.mains = false ∧ isle.vbat = true ∧ isle.cover = false ∧
      isle.lost = false ∧ (isle.bank isle.installed).isSome = true) ∧
    (let b : Block := { put [(KEY.KEY_STAT.ROOT, 0, 0, 1)] with isl := isle }
     isle.debug = !(decide (b.g HID.PWRST ≤ 1) && b.on KEY.KEY_STAT.ROOT 0 0)) ∧
    ({ isle with running := none } : Island).running = none ∧
    (let x : Island := { isle with mains := true, vPresent := 0xFF }
     (x.modSupply || x.mains) = true ∧ (x.setAbsent 0 && x.setAbsent 1) = false ∧
       (let y : Island := { x with vPresent := clrBit x.vPresent 7, vCount := x.vCount.del 7 }
        (y.setAbsent 0 && y.setAbsent 1) = false)) ∧
    (let x : Island := { isle with bat := true, days := 1 }
     x.bat = true ∧ x.budgetOut = false ∧ x.running.isSome = true ∧ x.bursts = 0 ∧
       x.batStart + 86400 * x.days ≤ ({ x with sec := 86400 } : Island).sec) ∧
    (let x : Island := { isle with bat := true, bursts := 1, burst := 10, since := 40000 }; 4000 * x.burst ≤ x.since) ∧
    (let x : Island := { isle with loading := true, ended := true, words := [0, 0], loadLen := 8, minRoll := 65535 }
     x.loading = true ∧ x.ended = true ∧ 4 * x.words.length = x.loadLen ∧ 65534 < x.minRoll ∧ x.minRoll ≤ 65535 ∧ x.running = some 0) ∧
    (let x : Island := { isle with loading := true, idle := 40000 }; x.loading = true ∧ x.ended = false ∧ 40000 ≤ x.idle) ∧
    (let b : Block := { put [(MET.MET_SEAL.LINK, 0, 0, 1)] with
       tick := 4000
       isl := { isle with link := some ⟨0, 0, 4, false, 0, 0, []⟩, out := [.log ⟨0, 1, 0, 0, 0, 0, 0⟩], result := some 0 } }
     b.supRuns = true ∧ b.isl.link.isSome = true ∧ b.on MET.MET_SEAL.LINK 0 0 = true ∧ b.g HID.METRX + 4000 ≤ b.tick ∧
       b.isl.out = [.log ⟨0, 1, 0, 0, 0, 0, 0⟩] ∧ b.isl.result = some 0) := by
  decide +kernel

/-- MET_CMD: accepted and refused, with arguments at their ends, and a load in progress. -/
theorem witness_metrology_commands :
    (with_ []).mayWrite r0 0x070058 = true ∧ (with_ []).metCmdCode r0 = 0 ∧ (with_ [(MET.MET_CMD_STAT.BUSY, 0, 0, 1)]).metCmdCode r0 ≠ 0 ∧
    (let a := 30 + 256 + 65536 * 255; bits a 4 0 ≤ 30 ∧ bits a 15 8 ≠ 0 ∧ bits a 23 16 ≠ 0) ∧
    (let b : Block := { with_ [] with isl := { isle with loading := true } }
     b.mayWrite r0 0x070068 = true ∧ b.isl.loading = true ∧ b.isl.ended = false) := by decide +kernel

/-! ### Rings, segments, time -/

/-- What the arrival of header `h` leaves of a module, before its TYPE is looked at. -/
def arrived (b : Block) (h : Hdr) : Block := (b.rxCount (netPort h.port) h.octets true).heard h

/-- A TOKEN at a port that is up: the own mark at the master, by either port, and at another node; another master's, which goes
on; the async token of another master and the master's own; a first duplicate. -/
theorem witness_ring_cycle :
    (let own : Hdr := { hd with src := 7 }
     (ring []).withSup 30 = true ∧ (ring []).portUp hd.port = true ∧ (ring []).ownMark own = true ∧ own.hops < 320 ∧ own.us < 210 ∧
       (ring []).on RCTL.RCTL_STAT.MASTER 0 0 = false ∧ (ring [(RCTL.RCTL_STAT.MASTER, 0, 0, 1)]).on RCTL.RCTL_STAT.MASTER 0 0 = true ∧
       (ring [(RCTL.RCTL_STAT.MASTER, 0, 0, 1)]).on RCTL.RCTL_STAT.ISO_OVER 0 0 = false ∧ (ring []).on HID.DUPSEEN 0 0 = false ∧
       own.port.val ≠ 1 ∧ (let b := ring [(RING.PORT_STAT.LINK, 1, 0, 1), (RCTL.RCTL_STAT.MASTER, 0, 0, 1)]
        b.portUp { hd with port := 1 }.port = true ∧ b.ownMark { own with port := 1 } = true)) ∧
    ((ring []).ownMark hd = false ∧
      (let x := ((arrived (ring []) hd).tokenPass hd 1 0 0 319 true).take hd 0x01
       x.2 = .taken ∧ x.1.on RCTL.RCTL_STAT.MASTER 0 0 = false)) ∧
    (let h : Hdr := { hd with us := 209 }
     h.us < 210 ∧ (ring []).ownMark h = false ∧ ((arrived (ring []) h).take h 0x02).2 = .taken) := by decide +kernel

/-- LINK frames of a neighbour, BREAK and HEAL past their checks, FIRE of each class, ALARM. -/
theorem witness_ring_control :
    hd.port.val < 2 ∧ (ring []).portUp hd.port = true ∧ (ring []).ownMark hd = false ∧ (ring []).stale hd = false ∧
    ((ring []).receive hd 0x0C true).2 = .taken ∧ ((ring []).g HID.HEALAT = 0) ∧
    (((ring []).receive { hd with ls := true } 0x06 true).2 = .taken ∧ ([7] : List Nat).contains (ring []).selfId = true) ∧
    ((ring []).receive hd 0x06 true).2 = .taken ∧ ((ring []).receive hd 0x0B hd.ls).2 = .taken := by decide +kernel

/-- Port events: a missed token, audio of the last three ticks, 4 ticks of silence, a healed ring, a port without a link whose
rate is tried for 200 ticks, one with preemption, and a fire that is 9 ticks old. -/
theorem witness_ring_ports :
    ((ring []).g HID.TOKENAT ≠ (ring []).tick + 1 ∧ (ring []).g HID.TMISSAT ≠ (ring []).tick + 1 ∧
      (ring []).on RCTL.RCTL_CFG.MASTER_EN 0 0 = false) ∧
    (let x := ({ ring [] with tick := 8 } : Block).receive hd 0x04 true
     x.2 = .taken ∧ x.1.tick < 6 + 3 ∧ x.1.on AUD.AUD_STAT.AUTONOMOUS 0 0 = false) ∧
    (let b : Block := { ring [(HID.RINGFIRE, 0, 0, 1)] with tick := 9 }
     b.rd HID.LINKAT 0 1 + 4 ≤ b.tick ∧ b.on HID.RINGFIRE 0 0 = true ∧ b.g HID.FIRERXAT + 9 ≤ b.tick) ∧
    (let b : Block := { put [(RING.PORT_STAT.LINK, 0, 0, 1), (RING.PORT_STAT.LINK, 1, 0, 1), (RCTL.RCTL_STAT.STATE, 0, 0, 2),
                             (HID.PBROKEN, 0, 0, 1), (HID.LINKAT, 0, 0, 15), (HID.LINKAT, 0, 1, 15)] with tick := 16 }
     b.g RCTL.RCTL_STAT.STATE = 2 ∧ b.on HID.PBROKEN 0 0 = true ∧ b.linked16 0 = true ∧ b.linked16 1 = true ∧ b.g HID.HEALAT = 0) ∧
    (let b : Block := { put [(RING.PORT_CFG.RATE, 1, 0, 2)] with tick := 200 }
     b.rd RING.PORT_CFG.RATE 1 0 = 2 ∧ b.rd RING.PORT_STAT.LINK 1 0 = 0 ∧ b.rd HID.RTRYAT 0 1 + 200 ≤ b.tick) ∧
    ((ring []).on RING.PORT_STAT.LINK 0 0 = true ∧ (ring []).on RING.PORT_CFG.PREEMPT_EN 0 0 = true) := by decide +kernel

/-- Segment 7 polls node 31, whose answer is of its type or of another; the service port waits for the wake pattern. -/
theorem witness_segment_and_service :
    (let b := put [(HID.SEGPOLL, 7, 0, 1), (HID.SEGASKED, 7, 31, 1), (SEG.NODE_CFG.TYPE, 7, 31, 65535)]
     b.withSup 31 = true ∧ b.segRuns 7 = true ∧ b.rd HID.SEGPOLL 7 0 ≠ 0 ∧
       b.on HID.SEGASKED 7 31 = true ∧ 249 < 250 * b.rd SEG.SEG_CFG.PERIOD 7 0 ∧
       65535 = b.rd SEG.NODE_CFG.TYPE 7 31 ∧ 65534 ≠ b.rd SEG.NODE_CFG.TYPE 7 31) ∧
    (let b := put [(SVC.SVC_STAT.LINK, 0, 0, 1), (SVC.SVC_CFG.MODE, 0, 0, 2)]
     b.on HDR.PAGE_CTRL.ENABLE 0x090 0 = true ∧ b.on SVC.SVC_STAT.LINK 0 0 = true ∧ b.g SVC.SVC_CFG.MODE = 2 ∧
       b.g SVC.SVC_STAT.WOKEN = 0 ∧ (0#32).toNat = b.g SVC.SVC_WAKE.KEY ∧ (1#32).toNat ≠ b.g SVC.SVC_WAKE.KEY) ∧
    (put []).withSup (portIsland (.seg 7)) = true ∧ (ring []).netUp (.ring 0) = true ∧
    (put [(SVC.SVC_STAT.LINK, 0, 0, 1)]).netUp .svc = true := by decide +kernel

/-- PTP: a linked port, a usable Sync, a better Announce, 4,000 ticks without Sync, a grandmaster-capable module, PTP_ADJ at its
limit; the RTC domain's events; and an hour's autoset. -/
theorem witness_time :
    ((ring []).withSup 32 = true ∧ (ring []).on RING.PORT_STAT.LINK 0 0 = true) ∧
    (let b := put [(RING.PORT_STAT.LINK, 1, 0, 1), (HID.GMKNOWN, 0, 0, 1), (PTP.PTP_GM_L.GM_L, 0, 0, 1)]
     b.portUp ⟨1, by omega⟩ = true ∧ b.syncUsable 1 (b.g PTP.PTP_CFG.DOMAIN) false 1 65535 249 = true) ∧
    (ann.id ≠ (ring []).ownClockId ∧ (ring []).on HID.GMKNOWN 0 0 = false ∧ (ring []).on PTP.PTP_CFG.GM_EN 0 0 = false ∧
      (ring []).ptpState ≠ 5) ∧
    (let b : Block := { put [(PTP.PTP_STAT.STATE, 0, 0, 3)] with tick := 4000 }; b.g HID.SYNCAT + 4000 ≤ b.tick ∧ b.ptpState = 3) ∧
    (let b : Block := { put [(PTP.PTP_CFG.GM_EN, 0, 0, 1)] with tick := 12000 }
     b.on PTP.PTP_CFG.GM_EN 0 0 = true ∧ b.ptpState ≠ 5 ∧ b.ptpState ≠ 4 ∧ b.g HID.ANNAT + 12000 ≤ b.tick) ∧
    (let b := with_ [(PTP.PTP_STAT.STATE, 0, 0, 5)]
     b.mayWrite r0 0x0A006C = true ∧ b.tin0cfg r0 = true ∧ b.ptpState = 5 ∧ b.g HID.ADJLEFT = 0 ∧
       (sgn 32 (1000000000#32).toNat).natAbs ≤ 1000000000 ∧ b.live r0 = true) ∧
    (let b := put [(RTC.RTC_STAT.WRITE_PEND, 0, 0, 1), (RTC.ALM0_H.EN, 0, 0, 1), (RTC.ALM1_H.EN, 0, 0, 1), (RTC.RTC_STAT.OSF, 0, 0, 0)]
     b.islandUp 33 = true ∧ b.on RTC.RTC_STAT.WRITE_PEND 0 0 = true ∧ b.on (Block.almEn 0) 0 0 = true ∧
       b.on (Block.almEn 1) 0 0 = true ∧ b.on HID.ALMMATCH 0 1 = false ∧ b.on RTC.RTC_STAT.OSF 0 0 = false ∧
       b.on RTC.RTC_STAT.ON_VBAT 0 0 = false ∧ b.g HID.LANDLEFT ≤ 1 ∧ b.g HID.VBATLO = 0) ∧
    ((put []).almEdges 0 9 = none ∧
      (put [(RTC.ALM0_H.EN, 0, 0, 1), (RTC.ALM0_H.CMP_SUB, 0, 0, 1), (RTC.ALM0_L.MATCH_L, 0, 0, 5)]).almEdges 0 9 = some 5 ∧ (put [(HID.VBATLO, 0, 0, 1)]).g HID.VBATLO ≠ 0) ∧
    (put [(RTC.RTC_STAT.ON_VBAT, 0, 0, 1)]).on RTC.RTC_STAT.ON_VBAT 0 0 = true ∧
    (let b : Block := { put [(RTC.RTC_CFG.AUTOSET, 0, 0, 1), (PTP.PTP_STAT.STATE, 0, 0, 3), (PTP.PTP_STAT.TIME_VALID, 0, 0, 1)]
       with tick := 14399999 }
     b.autosetDue (b.tick + 1) = true ∧ b.sealed = false ∧ b.heldByOther 64 (.reg 0x0A1048 0) = false ∧ b.entryFree = true ∧
       b.lowestId = some 0) := by decide +kernel

/-! ### Pairs and peel -/

/-- A paired module 7 in position 0 whose pair link is up and whose witness is module 9. -/
def pair (l : List (Fld × Nat × Nat × Nat)) : Block :=
  with_ ([(MOD.MOD_ID.PAIRED, 0, 0, 1), (MOD.MOD_ID.MODULE_ID, 0, 0, 7), (PAIR.PAIR_STAT.LINK, 0, 0, 1),
    (PAIR.PAIR_CFG.WITNESS, 0, 0, 9)] ++ l)

/-- A frame of the partner, and one of the witness. -/
def hp : Hdr := { hd with port := 2, src := 7, pos := true }
def hw : Hdr := { hd with port := 2, src := 9 }

/-- What is left of a LEASE frame that is taken at the lease clock `lc`. -/
def leased (b : Block) (h : Hdr) (lc : Nat) : Block := (b.leaseRx h lc).1

/-- LEASE frames between partners: taken, for an active, a waiting, a synced and a swapping partner, and in a joint start. -/
theorem witness_partner_lease :
    ((pair []).withSup 30 = true ∧ ((pair []).leaseRx hp 10000).2 = true ∧ (leased (pair []) hp 10000).fromPartner hp = true ∧
      (leased (pair []) hp 10000).selfId = 7) ∧
    (let b := leased (pair [(PAIR.PAIR_STAT.ROLE, 0, 0, 1)]) hp 3999
     (b.notePartner.ackSeq 0).role = 1 ∧ (b.notePartner.p HID.SEENAT 0).waiting = false) ∧
    ((leased (pair [(PAIR.PAIR_STAT.ROLE, 0, 0, 2)]) hp 10000).notePartner.ackSeq 0).role ≠ 1 ∧
    (let b := leased (pair [(PAIR.PAIR_STAT.ROLE, 0, 0, 2), (PAIR.PAIR_STAT.SYNCED, 0, 0, 1)]) hp 10000
     let s3 := (b.notePartner.p HID.SEENAT (b.g HID.LEASENOW)).p PAIR.PAIR_AGE.TEST_AGE 0
     b.waiting = true ∧ Block.newer 1 b.epoch = true ∧ b.role = 2 ∧ b.syncedFlag = true ∧ s3.waiting = true ∧ s3.jointOpen = false ∧
       Block.newer 0 s3.epoch = false ∧ s3.epoch = 0 % 2 ^ 32 ∧ s3.epoch ≠ (2 ^ 32 - 1) % 2 ^ 32 ∧
       Block.newer (2 ^ 32 - 1) s3.epoch = false ∧ Block.newer 1 s3.epoch = true ∧ (s3.adoptEpoch (b2n hp.pos) 1).epoch = 1 % 2 ^ 32) ∧
    (leased (pair [(HID.JOINT, 0, 0, 1)]) hp 10000).jointOpen = true ∧
    (let b := leased (pair [(PAIR.PAIR_STAT.ROLE, 0, 0, 2)]) hp 10000; b.role = 2 ∧ b.syncedFlag = false) ∧
    (let b := leased (pair [(HID.SWAPAT, 0, 0, 5)]) hp 10000; b.g HID.SWAPAT ≠ 0 ∧ (b.g HID.SWAPAT - 1) % 2 ^ 32 = 4 % 2 ^ 32) := by
  decide +kernel

/-- LEASE frames with a witness: pair 5 is held, silent for 6.0 ms and less; the module's own witness answers, in a joint start
and not; a pair is served; a newer takeover; renewals of the partner that is held, of a new one, and of another. -/
theorem witness_witness_lease :
    (let b := leased (ring [(MOD.MOD_ID.MODULE_ID, 0, 0, 9), (HID.WITEPOCH, 0, 5, 1), (HID.WITSEEN, 0, 5, 4000)]) hd 10000
     ((ring [(MOD.MOD_ID.MODULE_ID, 0, 0, 9)]).leaseRx hd 10000).2 = true ∧ lease.wit.val = b.selfId ∧
       b.rd HID.WITEPOCH 0 lease.pair.val ≠ 0 ∧ 6000 ≤ b.leaseSince HID.WITSEEN 5 ∧ b.fromPartner hd = false ∧
       b.witServes 5 = true ∧ Block.newer 1 (b.rd HID.WITEPOCH 0 5 - 1) = true ∧
       (let s2 := b.witHold 5 1 0; s2.rd HID.WITEPOCH 0 5 = 1 % 2 ^ 32 + 1 ∧ s2.rd HID.WITPOS 0 5 = 0) ∧
       Block.newer 0 (b.rd HID.WITEPOCH 0 5 - 1) = false ∧ b.rd HID.WITEPOCH 0 5 = 0 % 2 ^ 32 + 1 ∧ b.rd HID.WITPOS 0 5 = b2n hd.pos) ∧
    (leased (ring [(HID.WITEPOCH, 0, 5, 1), (HID.WITSEEN, 0, 5, 4001)]) hd 10000).leaseSince HID.WITSEEN 5 < 6000 ∧
    (let b := leased (ring [(MOD.MOD_ID.MODULE_ID, 0, 0, 9), (HID.WITEPOCH, 0, 5, 1), (HID.WITPOS, 0, 5, 1)]) hd 10000
     Block.newer 0 (b.rd HID.WITEPOCH 0 5 - 1) = false ∧ b.rd HID.WITPOS 0 5 ≠ b2n hd.pos ∧ (8 : Nat) ≠ b.selfId) ∧
    (let b := leased (pair [(PAIR.PAIR_STAT.ROLE, 0, 0, 2), (HID.JOINT, 0, 0, 1)]) hw 10000
     ((pair []).leaseRx hw 10000).2 = true ∧ b.selfId = 7 ∧ b.fromWitness hw = true ∧ b.noteWitness.waiting = true ∧
       0 % 2 = b.noteWitness.posn ∧ b.noteWitness.on HID.JOINT 0 0 = true) ∧
    (leased (pair [(PAIR.PAIR_STAT.ROLE, 0, 0, 2)]) hw 10000).noteWitness.on HID.JOINT 0 0 = false := by decide +kernel

/-- The lease clock's events at their limits. -/
theorem witness_lease_timers :
    (let b := pair [(PAIR.PAIR_STAT.ROLE, 0, 0, 1)]
     let c := b.p HID.LEASENOW 4000
     b.g HID.PWRST ≤ 1 ∧ c.paired = true ∧ c.role = 1 ∧ 4000 ≤ c.leaseSince HID.ACKEDAT 0 ∧
       (b.p HID.LEASENOW 3999).leaseLapsed = false) ∧
    (let b := pair [(PAIR.PAIR_STAT.ROLE, 0, 0, 1)]
     let a := b.leaseAt 3999
     b.supRuns = true ∧ b.islandUp 32 = true ∧ a.paired = true ∧ a.role = 1 ∧ a.on HID.LEAVING 0 0 = false ∧ a.g HID.RENLAST = 0 ∧
       ((pair [(HID.RENLAST, 0, 0, 3000)]).leaseAt 3999).g HID.RENLAST + 1000 ≤ 3999 + 1) ∧
    (let a := (pair [(PAIR.PAIR_STAT.ROLE, 0, 0, 2)]).leaseAt 5000
     a.paired = true ∧ a.waiting = true ∧ a.jointOpen = false ∧ a.g PAIR.PAIR_CFG.WITNESS ≠ 0 ∧ 5000 ≤ a.leaseSince HID.SEENAT 0 ∧
       1000 ≤ a.leaseSince HID.TREQAT 0) ∧
    (let a := (pair [(PAIR.PAIR_STAT.ROLE, 0, 0, 3), (HID.TAKEPEND, 0, 0, 1)]).leaseAt 0
     a.paired = true ∧ a.waiting = true ∧ a.on HID.TAKEPEND 0 0 = true) ∧
    (let a := (pair [(PAIR.PAIR_STAT.ROLE, 0, 0, 2), (HID.GRANT, 0, 0, 1)]).leaseAt 6000
     a.paired = true ∧ a.waiting = true ∧ a.on HID.TAKEPEND 0 0 = false ∧ a.lapseTakes = true) ∧
    (let a : Block := { (pair [(HID.JOINTWAIT, 0, 0, 1)]).leaseAt 0 with tick := 80 }
     a.paired = true ∧ a.on HID.JOINTWAIT 0 0 = true ∧ a.g HID.JOINTAT + 80 ≤ a.tick) ∧
    (let a := (pair [(HID.CLAIMON, 0, 255, 1)]).leaseAt 2000
     a.on HID.CLAIMON 0 255 = true ∧ 255 ≠ a.selfId ∧ 2000 ≤ a.leaseSince HID.CLAIMAT 255) ∧
    (let a := (pair [(HID.CLAIMON, 0, 7, 1), (HID.JOINT, 0, 0, 1)]).leaseAt 2000
     let s1 := a.wr HID.CLAIMON 0 7 0
     a.on HID.CLAIMON 0 7 = true ∧ 7 = a.selfId ∧ s1.on HID.JOINT 0 0 = true ∧ s1.on PAIR.PAIR_STAT.WITNESS_OK 0 0 = false ∧
       s1.on PAIR.PAIR_STAT.LINK 0 0 = true ∧ a.rd HID.CLAIMPOS 0 7 = s1.posn) ∧
    (let b := pair [(HID.FENCEAT, 0, 0, 1)]; (b.leaseAt 0).g HID.FENCEAT ≠ 0 ∧ (b.leaseAt 0).g HID.FENCEAT ≤ b.tick + 1) ∧
    (let a := (pair [(PAIR.PAIR_STAT.PARTNER, 0, 0, 1), (PAIR.PAIR_STAT.WITNESS_OK, 0, 0, 1)]).leaseAt 6000
     a.on PAIR.PAIR_STAT.PARTNER 0 0 = true ∧ 6000 ≤ a.leaseSince HID.PARTNERAT 0 ∧ a.on PAIR.PAIR_STAT.WITNESS_OK 0 0 = true ∧
       6000 ≤ a.leaseSince HID.WITNESSAT 0) := by decide +kernel

/-- Pair commands of each kind of session and role, a drill that passes and one that fails, a day of the active role with and
without a drill due, a resynchronisation that ends. -/
theorem witness_pair_commands :
    (let b := pair [(PAIR.PAIR_STAT.ROLE, 0, 0, 2)]
     b.mayWrite r0 0x0B0048 = true ∧ b.tin01cfg r0 = true ∧ b.paired = true ∧ b.waiting = true ∧ b.role ≠ 1 ∧
       b.mayWrite r2 0x0B0048 = true ∧ b.tin01cfg r2 = false) ∧
    (let b := pair [(PAIR.PAIR_STAT.ROLE, 0, 0, 1), (HID.DRILLAT, 0, 0, 1), (PAIR.PAIR_CTRL.BACK, 0, 0, 0), (PAIR.PAIR_CFG.DRILL_DAYS, 0, 0, 0)]
     b.role = 1 ∧ b.g HID.DRILLAT ≠ 0 ∧ b.g HID.DRILLAT ≤ b.tick + 1 ∧ b.on PAIR.PAIR_CTRL.BACK 0 0 = false ∧
       (b.drillSet.filter fun c => !b.phys c) = [] ∧ b.paired = true ∧
       ({ b with tick := Block.dayTicks } : Block).g HID.DAYAT + Block.dayTicks ≤ Block.dayTicks ∧
       (b.sat PAIR.PAIR_AGE.TEST_AGE 0 0 1).g PAIR.PAIR_CFG.DRILL_DAYS = 0) ∧
    (let b := pair [(HID.DRILLON, 0, 3, 1), (DIO.DIO_CH_CFG.MODE, 0, 3, 4)]; (b.drillSet.filter fun c => !b.phys c) = [3]) ∧
    (let b := (pair [(PAIR.PAIR_CFG.DRILL_DAYS, 0, 0, 1)]).sat PAIR.PAIR_AGE.TEST_AGE 0 0 1
     b.g PAIR.PAIR_CFG.DRILL_DAYS ≠ 0 ∧ b.g PAIR.PAIR_AGE.TEST_AGE = b.g PAIR.PAIR_CFG.DRILL_DAYS) ∧
    (pair [(PAIR.PAIR_CTRL.BACK, 0, 0, 1)]).on PAIR.PAIR_CTRL.BACK 0 0 = true ∧
    ((pair [(PAIR.PAIR_STAT.ROLE, 0, 0, 1)]).role = 1 ∧ (pair [(PAIR.PAIR_STAT.ROLE, 0, 0, 1)]).mayWrite r0 0x0B0048 = true) ∧
    (let b := pair [(HID.RESYNC, 0, 0, 1), (HID.MODSTATE, 0, 0, 1)]
     b.on HID.RESYNC 0 0 = true ∧ b.on HID.MODSTATE 0 0 = true ∧ ((List.range 128).all fun k => !b.on HID.DSLOT 0 k) = true) := by
  decide +kernel

/-- STATE_XFER frames of the partner at a standby that captures slot 0, at the last slot and for module state. -/
theorem witness_transfers :
    (let b : Block := { pair [(PAIR.PAIR_STAT.ROLE, 0, 0, 2)] with scans := [(0, { scan0 with ready := false })] }
     let s1 := (b.xferRx hp).1
     b.withSup 30 = true ∧ (b.xferRx hp).2 = true ∧ s1.fromPartner hp = true ∧ s1.role = 2 ∧ s1.waiting = true ∧
       (s1.scan 0 0).map (fun c => (c.ready, c.rel)) = some (false, 0) ∧ (254 : Nat) ≠ 0xFF ∧
       ((s1.wr HID.DIGAT 0 (Block.xferKey 254) 1).wr HID.DIGCRC 0 (Block.xferKey 254) 0).rd HID.OWNAT 0 (Block.xferKey 254) ≠ 1) := by
  decide +kernel

/-- Peel: a PLACE frame, a snapshot that is not held, and survival of a parked slot with a checkpoint, by who may ask. -/
theorem witness_peel :
    ((ring []).withSup 30 = true ∧ ((ring []).receive hd 0x0D true).2 = .taken) ∧
    (let x : Ckpt := ⟨7, 0, [(0, List.replicate 16 0)]⟩
     let b : Block := { with_ [(HID.PEELWAIT, 0, 1, 1), (PEEL.PEEL_CFG.GROUP, 0, 1, 5), (PEEL.PEEL_CFG.AUTO, 0, 1, 1),
       (TSK.TSK_CFG.KIND, 0, 1, 1), (PEEL.PEEL_SEL.SLOT, 0, 4, 1)] with
         ckpt := [(1, x)], bench := Memory.writeN [] (Block.progAddr 0 0 4) 4 0x80000000 }
     b.supRuns = true ∧ b.on HID.SNAPHELD 0 1 = false ∧ b.rd HID.PEELWAIT 0 1 ≠ 0 ∧ b.localSource 0 1 = none ∧
       b.ckpt.find (scanKey 0 1) = some x ∧ b.parked 0 1 = true ∧ b.takeCode 0 1 = 0 ∧ b.on PEEL.PEEL_CFG.AUTO 0 1 = true ∧
       b.own PEEL.PEEL_SEL.SLOT 0 r0 = 1 ∧ b.mayWrite r0 0x0B1068 = true ∧ b.tin01cfg r0 = true ∧
       b.mayWrite r2 0x0B1068 = true ∧ b.tin01cfg r2 = false ∧ x.tick + b.rd TSK.TSK_PERIOD.PERIOD 0 1 > b.tick ∧
       ({ b with ckpt := [] } : Block).ckpt.find (scanKey 0 1) = none ∧
       (let c : Block := { b with tick := 39, cells := (b.wr HID.TOKENAT 0 0 40).cells }
        c.rd HID.HEARD 0 x.src + 40 ≤ c.tick + 1 ∧ c.g HID.TOKENAT ≠ 0 ∧ c.tick ≤ c.g HID.TOKENAT ∧
          x.tick + c.rd TSK.TSK_PERIOD.PERIOD 0 1 ≤ c.tick)) ∧
    (let b := with_ [(HID.PEELWAIT, 0, 1, 1), (PEEL.PEEL_STAT.STATE, 0, 0, 3), (PEEL.PEEL_DST.SLOT, 0, 0, 1), (PEEL.PEEL_HTICK_L.HTICK_L, 0, 0, 1)]
     b.on HID.SNAPHELD 0 1 = false ∧ b.rd HID.PEELWAIT 0 1 ≠ 0 ∧ b.localSource 0 1 = some 0) := by decide +kernel

/-! ### Keys and sessions -/

/-- A vault with a secret in slot 16, a wrapping key in slot 17, and signing keys in slots 2 and 18, with the words that
session 0 wrote to KEY_DATA and a new attribute word. -/
def vault (data : List Nat) : Block :=
  { with_ [(KEY.KEY_ATTR.ATTR, 0, 16, 0x43), (KEY.KEY_ATTR.ATTR, 0, 17, 0x8B), (KEY.KEY_ATTR.ATTR, 0, 2, 0x207),
           (KEY.KEY_ATTR.ATTR, 0, 18, 0x07), (KEY.KEY_NEWATTR.NEWATTR, 0, 4, 0x03)] with keyData := [(4, data)] }

/-- The code of an operation that session 0 gives. -/
def vaultCode (op src aux : Nat) (data : List Nat) : Nat :=
  let b := vault data
  b.keyOpCode ⟨r0, op, src, aux, b.keyIn r0, b.own KEY.KEY_NEWATTR.NEWATTR 0 r0⟩ (b.tinOf r0)

/-- Every vault operation passes its checks somewhere and fails them somewhere, while no operation runs. DEBUG_DISARM has no
check to fail. -/
theorem witness_key_commands :
    ((vault []).mayWrite r0 0x0C0054 = true ∧ (vault []).on KEY.KEY_RESULT.BUSY 0 0 = false ∧ (vault []).tin0cfg r0 = true ∧
      (vault []).meterRead r0 15 = true) ∧
    ([vaultCode 1 63 0 (List.replicate 8 7), vaultCode 2 63 0 [], vaultCode 3 16 63 [1, 65], vaultCode 4 16 17 [],
      vaultCode 5 63 17 [1], vaultCode 6 16 0 [], vaultCode 7 18 0 [], vaultCode 8 0 15 [], vaultCode 9 0 0 (List.replicate 28 0),
      vaultCode 10 0 0 [], vaultCode 11 0 0 (List.replicate 28 0)] = List.replicate 11 0) ∧
    ([vaultCode 1 15 0 (List.replicate 8 7), vaultCode 2 16 0 [], vaultCode 3 18 63 [1, 65], vaultCode 4 2 17 [],
      vaultCode 5 63 17 [], vaultCode 6 15 0 [], vaultCode 7 16 0 [], vaultCode 8 0 16 [], vaultCode 9 0 0 [],
      vaultCode 11 0 0 []] = [0x02, 0x0A, 0x08, 0x02, 0x08, 0x08, 0x08, 0x08, 0x08, 0x08]) := by decide +kernel

/-- KEY_DATA with 127 and 128 words, a sweep of no slot and of a filled one, and operations that end with and without a change
of an attribute word. -/
theorem witness_key_operations :
    ((vault (List.replicate 127 0)).mayWrite r0 0x0C0050 = true ∧ ((vault (List.replicate 127 0)).keyIn r0).length < 128 ∧
      128 ≤ ((vault (List.replicate 128 0)).keyIn r0).length) ∧
    ((vault []).live r0 = true ∧ (vault []).selOk r0 .read 0x0C0058 = true ∧ (vault []).withSup 34 = true ∧
      (([0, 63] : List (Fin 64)).map fun k => k.val).filter (fun k => ((vault []).keyAttr k).testBit 0) = []) ∧
    (let d := ({ vault [] with keyOp := none } : Block).keyEffect ⟨r0, 10, 0, 0, [], 0⟩ true 0
     let e := ({ vault [] with keyOp := none } : Block).keyEffect ⟨r0, 6, 16, 0, [], 0⟩ true 0
     d.2 = 0 ∧ d.1.keyAttrs = (vault []).keyAttrs ∧ e.2 = 0 ∧ e.1.keyAttrs ≠ (vault []).keyAttrs) := by decide +kernel

/-- The module with its service port up, its certificate, a trust anchor in slot 3, and session 5 in a handshake over it. -/
def service : Block :=
  with_ [(SVC.SVC_STAT.LINK, 0, 0, 1), (SVC.SVC_CFG.MODE, 0, 0, 1), (HID.DEVCERT, 0, 0, 1), (KEY.KEY_STAT.ROOT, 0, 0, 0), (KEY.KEY_ATTR.ATTR, 0, 3, 0x409),
    (HID.UNCFG, 0, 0, 0), (SES.SES_STATE.STATE, 0, 5, 1), (SES.SES_STATE.SERVICE, 0, 5, 1), (SES.SES_STATE.SERVICE, 0, 0, 1)]

/-- A session frame that is taken at the service port. -/
def served : Block := (service.sesRx (.svc 64)).1

/-- HELLO of mode 0 that passes and one whose operands fail; one of a source that is locked out, and one that finds
no free entry; FINISH that passes and one without proof; CLOSE and DATA of a READY session. -/
theorem witness_session_frames :
    (service.withSup 34 = true ∧ (service.sesRx (.svc 64)).2 = true ∧ served.lockedOut (srcNum (.svc 64)) = false ∧
      served.freeSes = some 3 ∧ served.helloCode (.svc 64) hello = 0 ∧ served.helloCode (.svc 64) { hello with wf := false } = 0x08) ∧
    ({ served with lockouts := [⟨srcNum (.svc 64), 0⟩] } : Block).lockedOut (srcNum (.svc 64)) = true ∧
    (let b := (List.range 64).foldl (fun (b : Block) k => b.wr SES.SES_STATE.STATE 0 k 2) served
     b.freeSes = none ∧ b.helloCode (.svc 64) hello = 0x0A ∧ b.on HDR.PAGE_CTRL.ENABLE 0x0C1 0 = true) ∧
    (served.rd SES.SES_STATE.STATE 0 5 = 1 ∧ served.sesFrom 5 (.svc 64) = true ∧
      served.finishCode 5 { finish with anchor := 3 } = 0 ∧ served.finishCode 5 { finish with anchor := 3, proof := false } = 0x0B) ∧
    (let a := service.sesFrame (.svc 64) 0 1 true
     let rd : SesOp := ⟨false, 0, 0x100040, 0⟩
     a.2 = true ∧ ((a.1.wrap HID.ANSNO 0 0 1).sesOps 0 (a.1.g HID.ANSNO) [] [rd]).1.rd SES.SES_STATE.STATE 0 0 = 2) := by
  decide +kernel

/-- Sessions at the ends of their times, and SES_CMD.CLOSE of a READY session, of a handshake, and by who may not. -/
theorem witness_session_ends :
    (let b : Block := { service with tick := 8000 }
     b.supRuns = true ∧ b.rd SES.SES_STATE.STATE 0 5 = 1 ∧ b.rd HID.SESHELLO 0 5 + 8000 ≤ b.tick) ∧
    (let b : Block := { service with tick := 4000 * service.g SES.SES_CFG.IDLE }
     b.rd SES.SES_STATE.STATE 0 0 = 2 ∧ b.rd HID.SESLAST 0 0 + 4000 * b.g SES.SES_CFG.IDLE ≤ b.tick) ∧
    (let b : Block := { service with tick := 4000 * (3600 * service.g SES.SES_CFG.LIFE) }
     b.rd SES.SES_STATE.STATE 0 0 = 2 ∧ b.rd HID.SESREADY 0 0 + 4000 * (3600 * b.g SES.SES_CFG.LIFE) ≤ b.tick) ∧
    (let b : Block := { service with cells := (service.wr SES.SES_SEL.SESSION 0 4 5).cells }
     b.mayWrite r0 0x0C1058 = true ∧ b.own SES.SES_SEL.SESSION 0 r0 = 5 ∧ b.tin0cfg r0 = true ∧ b.rd SES.SES_STATE.STATE 0 5 = 1) ∧
    (service.mayWrite r2 0x0C1058 = true ∧ service.own SES.SES_SEL.SESSION 0 r2 = 0 ∧ service.tin0cfg r2 = false ∧
      r2 ≠ .ses 0 ∧ service.own SES.SES_SEL.SESSION 0 r0 = 0 ∧ service.rd SES.SES_STATE.STATE 0 0 ≠ 1) := by decide +kernel

/-! ### Stores and updates -/

/-- A store that is being written, for the first time and again; a record that waits for its spill; REC_SEL. -/
theorem witness_stores :
    (let b : Block := { put [(STO.STO_STAT.WRITING, 0, 0x31, 1), (HID.STORETRY, 0, 0x10, 1)] with
       stores := [(0x31, { (Store.initial 0x31) with writing := some ⟨1, 0, [], [], [], none, []⟩ })] }
     b.islandRuns 35 = true ∧ b.on STO.STO_STAT.WRITING 0 0x31 = true ∧ (b.sto 0x31).writing.isSome = true ∧
       b.on HID.STORETRY 0 0x31 = false ∧ b.on HID.STORETRY 0 0x10 = true) ∧
    ((with_ []).mayWrite r0 0x0D1040 = true ∧ (with_ []).live r0 = true ∧ reqHeld r0 = some 4) := by decide +kernel

/-- A record that has not been spilled, in store state and with REC_SEL writable. -/
theorem witness_spill :
    (let b : Block := { put [(HID.SPILLING, 0, 0, 1)] with recs := [(1, ⟨1, 0, 0, false, 0, 0, [], 0, 1, false, []⟩)] }
     b.withSup 35 = true ∧ b.unspilled ≠ [] ∧ b.on HID.SPILLING 0 0 = true) := by decide +kernel

/-- Updates of session 0: a slot that is empty, one that takes its header's words, one whose payload is complete, a trial; and
session 1, which may not. -/
theorem witness_update_commands :
    (let b := with_ [(SES.SES_STATE.RIGHTS, 0, 2, 2)]
     b.mayWrite r0 0x0D2044 = true ∧ b.tin0cfg r0 = true ∧ b.on HDR.PAGE_CTRL.ENABLE 0x0D2 0 = true ∧
       b.g PWR.PWR_STAT.LADDER = 0 ∧ b.updLoading 1 = false ∧ b.updNamed 1 = false ∧ b.on UPD.UPD_STAT.TRIAL 0 0 = false ∧
       b.mayWrite r1 0x0D2044 = true ∧ b.tin0cfg r1 = false) ∧
    (let b := with_ [(UPD.UPD_STAT.TRIAL, 0, 0, 1)]
     b.on UPD.UPD_STAT.TRIAL 0 0 = true ∧ b.g UPD.UPD_ROLLBACK.RUN ≤ b.g UPD.UPD_ROLLBACK.MIN) ∧
    (let b : Block := { with_ [(Block.updState 1, 0, 0, 2), (HID.UPDLEN, 0, 1, 129)] with
       updImg := [(1, List.replicate 120 0 ++ [4] ++ List.replicate 8 0)] }
     b.live r0 = true ∧ b.updLoading 1 = true ∧ b.g (Block.updSesF 1) = 0 ∧ b.g (Block.updState 1) = 2 ∧
       b.updHdr 1 8 = 4 ∧ b.rd HID.UPDLEN 0 1 = 128 + b.updHdr 1 8 / 4) ∧
    (let b := with_ [(Block.updState 1, 0, 0, 1), (HID.UPDSES, 0, 0, 2)]
     b.mayWrite r0 0x0D2048 = true ∧ b.rd HID.UPDSES 0 0 = 2 ∧ b.updLoading 1 = true ∧ b.g (Block.updSesF 1) = 0 ∧
       b.on HID.UPDPROOF 0 1 = false ∧ b.g (Block.updState 1) = 1) := by decide +kernel

/-- A header that proves, one that does not, and the trial's watchdog. -/
theorem witness_update_events :
    (let hdr : List Nat := [0x4752474E, 0x00010200, 0x96400000, 0x00FF0000, 0, 0, 0, 0, 4] ++ List.replicate 120 0
     let b : Block := { with_ [(Block.updState 0, 0, 0, 1), (HID.UPDPROOF, 0, 0, 1), (HID.UPDLEN, 0, 0, 129)] with
       updImg := [(0, hdr.reverse)] }
     b.supRuns = true ∧ b.on HID.UPDPROOF 0 0 = true ∧ b.g (Block.updState 0) = 1 ∧
       b.proofCode (b.updHdr 0) true = 0 ∧ b.proofCode (b.updHdr 0) false = 0x0B) ∧
    (let b := put [(UPD.UPD_STAT.TRIAL, 0, 0, 1), (HID.STARTPEND, 0, 0, 1)]
     let n := b.g HID.RESTARTAT + 10000 + 400 * b.g PTP.PTP_LIMITS.START_WAIT
     b.g HID.PWRST = 0 ∧ b.g HID.RESTARTAT + 10000 + 400 * b.g PTP.PTP_LIMITS.START_WAIT ≤ ({ b with tick := n } : Block).tick ∧
       b.g HID.ACTSLOT = 0 ∧ b.on UPD.UPD_STAT.TRIAL 0 0 = true ∧ b.on HID.STARTPEND 0 0 = true) ∧
    (put [(HID.ACTSLOT, 0, 0, 2)]).g HID.ACTSLOT ≠ 0 := by
  decide +kernel

/-! ### Power, performance and life -/

/-- Supplies: of a dual module, an input that is lost and one that returns; a warning in force and none; OFF and DARK; a dip. -/
theorem witness_supplies :
    (let b := put [(PWR.PWR_CFG.DUAL, 0, 0, 1)]
     b.on PWR.PWR_CFG.DUAL 0 0 = true ∧ b.g HID.PWRST ≤ 1 ∧ b.on PWR.PWR_STAT.LOST 0 0 = false ∧ b.on PWR.PWR_STAT.WARN 0 0 = false) ∧
    (let b := put [(PWR.PWR_STAT.LOST, 0, 0, 1), (PWR.PWR_STAT.A_OK, 0, 0, 0), (PWR.PWR_STAT.B_OK, 0, 0, 0)]
     b.on PWR.PWR_STAT.LOST 0 0 = true ∧ b.on PWR.PWR_STAT.A_OK 0 0 = false ∧ b.on PWR.PWR_STAT.B_OK 0 0 = false) ∧
    (let b := put [(PWR.PWR_STAT.WARN, 0, 0, 1)]
     b.on PWR.PWR_STAT.WARN 0 0 = true ∧ b.g HID.PWRST ≤ 1 ∧ b.g PWR.PWR_STAT.LADDER ≠ 4 ∧
       b.g HID.WARNAT + 380 ≤ ({ b with tick := 380 } : Block).tick) ∧
    (let b := put [(HID.PWRST, 0, 0, 2)]
     b.g HID.PWRST = 2 ∧ b.islandUp 33 = true ∧ b.rtcCount < b.g HID.OFFRTC + 65536 ∧
       (let c := put [(HID.PWRST, 0, 0, 2), (RTC.RTC_TICK_L.TICK_L, 0, 0, 65536)]; c.g HID.OFFRTC + 65536 ≤ c.rtcCount)) ∧
    (put [(HID.PWRST, 0, 0, 3)]).g HID.PWRST = 3 ∧
    (let b := put [(HID.DIPON, 0, 0, 1)]; b.on HID.DIPON 0 0 = true ∧ b.g HID.PWRST ≤ 1) := by decide +kernel

/-- Stage 4, HALT below 80 °C with a sensor that is valid, a power of 1023 W, and PEAK_CLR. -/
theorem witness_heat :
    (let b := put [(PWR.PWR_STAT.LADDER, 0, 0, 4)]; b.g PWR.PWR_STAT.LADDER = 4 ∧ b.g HID.PWRST = 0) ∧
    (let b := put [(HID.PWRST, 0, 0, 1), (PWR.PWR_STAT.SENS_VALID, 0, 0, 1), (HID.BOARDCNT, 0, 0, 1), (HID.BOARDSUM, 0, 0, 799)]
     b.g HID.PWRST = 1 ∧ b.g PWR.PWR_STAT.SENS_VALID ≠ 0 ∧ b.boardGe 800 = false) ∧
    ((with_ []).supRuns = true ∧ (with_ []).mayWrite r0 0x0F0050 = true) := by decide +kernel

/-- Counter 63 at its maximum; a sample record, LIFE_SAVE by session 0 and session 1, and a minute without sensors. -/
theorem witness_performance_and_life :
    (let b := put [(PERF.PERF_CTRL.RUN, 0, 0, 1), (PERF.PERF_CFG.EN, 0, 63, 1), (PERF.PERF_CNT_L.CNT_L, 0, 63, 0xFFFFFFFF),
       (PERF.PERF_CNT_H.CNT_H, 0, 63, 0xFFFF)]
     b.supRuns = true ∧ b.perfRunning = true ∧ b.on PERF.PERF_CFG.EN 0 63 = true ∧ b.perfChained 63 = false ∧
       b.perfVal 63 = 2 ^ 48 - 1) ∧
    (let b := with_ []
     b.live r0 = true ∧ b.selOk r0 .read 0x0E006C = true ∧ b.mayWrite r0 0x0E104C = true ∧ b.tin0cfg r0 = true ∧
       b.mayWrite r1 0x0E104C = true ∧ b.tin0cfg r1 = false ∧ b.g HID.PWRST = 0 ∧ b.g PWR.PWR_STAT.LADDER ≤ 1 ∧
       b.g PWR.PWR_STAT.SENS_VALID = 0 ∧ b.islandUp 0 = true ∧ b.on HID.LIFEDUE 0 0 = false) ∧
    (put [(HID.LIFEDUE, 0, 0, 1)]).on HID.LIFEDUE 0 0 = true := by decide +kernel

/-- A restart in progress of cause 2, warm, a cold start whose root fuses cannot be read, and one that is too hot. -/
theorem witness_restarts :
    (let b := put [(HID.RESTART, 0, 0, 3), (HID.RESTARTKIND, 0, 0, 1)]
     b.supRuns = true ∧ b.g HID.RESTART ≠ 0 ∧ b.on HID.VAULTSTOP 0 0 = false ∧ b.g HID.RESTART - 1 = 2) ∧
    (let b := put [(HID.RESTART, 0, 0, 1)]
     b.supRuns = true ∧ b.g HID.RESTART - 1 = 0 ∧ ({ start0 with rootFail := true } : StartIn).rootFail = true ∧ b.g HID.TSNUM = 0 ∧
       start0.rootFail = false) ∧
    (let b := put [(HID.RESTART, 0, 0, 7), (HID.TSNUM, 0, 0, 1), (PWR.PWR_STAT.SENS_VALID, 0, 0, 1), (HID.BOARDCNT, 0, 0, 1),
       (HID.BOARDSUM, 0, 0, 1100)]
     b.g HID.RESTART - 1 = 6 ∧ b.g HID.TSNUM ≠ 0 ∧ b.g PWR.PWR_STAT.SENS_VALID ≠ 0 ∧ b.boardGe 1100 = true) := by
  decide +kernel

end Sys2Proof.Tests
end

section
/-!
The statements of the scope family. A command that stages is one register write: what stands in the way of
`wreg_staged` besides `stagesAt` is a fact about the register's offset and the rule of its page, so each command is that
lemma at its own offset. ENG_CTRL and XLT_CTRL, whose write has a part that acts at once (R99, R187), come first.
-/
namespace Sys2Proof.Machine

/-! ### Registers with a staged field -/

/-- A register at an offset past the header, one of whose fields is staged (R1). -/
def isStagedReg (off : Nat) : Bool := decide (0x040 ≤ off % 4096) && hasAcc (regAt off).2 .rws

theorem isEmpty_of_hasAcc {l : List Fld} {a : Acc} (h : hasAcc l a = true) : l.isEmpty = false := by
  cases l with
  | nil => simp [hasAcc] at h
  | cons f t => rfl

theorem allRo_of_hasAcc_rws {l : List Fld} (h : hasAcc l .rws = true) : allRo l = false := by
  simp only [hasAcc, List.any_eq_true, beq_iff_eq] at h
  obtain ⟨f, hf, hacc⟩ := h
  simp only [allRo, List.all_eq_false]
  exact ⟨f, hf, by simp [hacc]⟩

theorem pageKind_of_regAt {off : Nat} (h : (regAt off).2.isEmpty = false) : (pageKind (off / 4096)).isNone = false := by
  unfold regAt at h
  split at h
  next => simp at h
  next hp => rw [hp]; rfl

namespace Block

/-- `stageWrite` at a register write that passes every check: the write is staged. -/
theorem stageWrite_staged (s : Block) (r : Req) (q off v : Nat) (hq : reqHeld r = some q)
    (h : s.stagesAt r off v = true) : (s.stageWrite r off v).1 = s.stagedAt r off v := by
  simp only [stagesAt, mayWrite, Bool.and_eq_true, Bool.not_eq_true', decide_eq_true_eq] at h
  obtain ⟨⟨⟨⟨⟨⟨_, hsel⟩, _⟩, hdl⟩, hhigh⟩, hcode⟩, hsome⟩ := h
  unfold stageWrite stagedAt
  -- A task, whose staged write waits for its deadline (R43), holds no copy of BATCH_TAG, so `hq` excludes it.
  cases r <;> simp_all [reqHeld]

/-- A write of a staged register without a rule of its own, past every check, is staged. -/
theorem wreg_plain_staged (s : Block) (r : Req) (q off v : Nat) (hq : reqHeld r = some q) (ho : isStagedReg off = true)
    (hc : s.cmdWrite r off v = none) (h : s.stagesAt r off v = true) : s.wreg r off v = s.stagedAt r off v := by
  simp only [isStagedReg, Bool.and_eq_true, decide_eq_true_eq] at ho
  obtain ⟨hpast, hrws⟩ := ho
  have hne := isEmpty_of_hasAcc hrws
  exact s.wreg_staged r q off v hq h (pageKind_of_regAt hne) (Nat.not_lt.2 hpast) hne (allRo_of_hasAcc_rws hrws) hrws
    (.inl hc)

/-- A write of a staged register whose own rule brings the module to `a` and then stages, past every check before and
after, is staged there. -/
theorem wreg_ruled_staged (s a : Block) (r : Req) (q off v : Nat) (hq : reqHeld r = some q)
    (ho : isStagedReg off = true) (hc : s.cmdWrite r off v = some (a.stageWrite r off v)) (hm : s.mayWrite r off = true)
    (h : a.stagesAt r off v = true) : s.wreg r off v = a.stagedAt r off v := by
  simp only [isStagedReg, Bool.and_eq_true, decide_eq_true_eq] at ho
  obtain ⟨hpast, hrws⟩ := ho
  have hne := isEmpty_of_hasAcc hrws
  rw [s.wreg_cmd r off v _ hm (pageKind_of_regAt hne) (Nat.not_lt.2 hpast) hne (allRo_of_hasAcc_rws hrws) hc]
  exact a.stageWrite_staged r q off v hq h

theorem mayWrite_of_stagesAt {s : Block} {r : Req} {off v : Nat} (h : s.stagesAt r off v = true) :
    s.mayWrite r off = true := by
  simp only [stagesAt, Bool.and_eq_true] at h
  exact h.1.1.1.1

/-! ### ENG_CTRL (R99, R137) -/

/-- The module with what a write of ENG_CTRL that restates PROG_OPEN does at once: while PROG_OPEN is 0, the CRC of a bank
that no slot has adopted starts (assumption 118). -/
def engCtrlRestated (s : Block) (e : Nat) : Block :=
  if s.on ENG.ENG_CTRL.PROG_OPEN e 0 = false ∧ (s.freeBank e).isSome then s.crcStart e else s

theorem isStagedReg_engCtrl (e : Fin 16) : isStagedReg (0x010040 + 0x1000 * e.val) = true := by
  revert e; decide

theorem regAt_engCtrl (e : Fin 16) : (regAt (0x010040 + 0x1000 * e.val)).1 = e.val := by
  revert e; decide

theorem cmdWrite_engCtrl (s : Block) (r : Req) (e : Fin 16) (v : Nat) :
    s.cmdWrite r (0x010040 + 0x1000 * e.val) v = some (s.engCtrlWrite r e.val (0x010040 + 0x1000 * e.val) v) := by
  have hp : (0x010040 + 0x1000 * e.val) / 4096 = 0x010 + e.val := by omega
  have ho : (0x010040 + 0x1000 * e.val) % 4096 = 0x040 := by omega
  have he : 0x010 ≤ 0x010 + e.val ∧ 0x010 + e.val < 0x020 := by omega
  have h0 : 0x010 + e.val ≠ 0x000 := by omega
  have h2 : 0x010 + e.val ≠ 0x002 := by omega
  simp only [cmdWrite, hp, ho, regAt_engCtrl, if_neg h0, if_neg h2, if_pos he, if_true]

/-- Closing a program bank that is not open starts its CRC at most, whatever the loader placed. -/
theorem progClose_closed (s : Block) (e : Nat) (l : ProgLoad) (h : s.on ENG.ENG_CTRL.PROG_OPEN e 0 = false) :
    s.progClose e l = s.engCtrlRestated e := by
  simp [progClose, progOpenClear, engCtrlRestated, h]

/-- A write of ENG_CTRL whose bit 1 is PROG_OPEN as it stands stages the rest. -/
theorem engCtrlWrite_restating (s : Block) (r : Req) (e off v : Nat)
    (h : v.testBit 1 = s.on ENG.ENG_CTRL.PROG_OPEN e 0) :
    s.engCtrlWrite r e off v = (s.engCtrlRestated e).stageWrite r off v := by
  cases hopen : s.on ENG.ENG_CTRL.PROG_OPEN e 0 with
  | false => simp [engCtrlWrite, h, hopen, progClose_closed]
  | true => simp [engCtrlWrite, engCtrlRestated, h, hopen]

/-- Bit 1 of a word that holds a bit in place 1, beside a bit 0 and higher bits. -/
theorem testBit_one_of_fields (x y : Nat) (hx : x ≤ 1) : (1 + 2 * x + 4 * y).testBit 1 = (x != 0) := by
  rw [Nat.testBit_eq_decide_div_mod_eq]
  have : (1 + 2 * x + 4 * y) / 2 ^ 1 % 2 = x := by omega
  rw [this]
  interval_cases x <;> rfl

/-! ### XLT_CTRL (R187, R188) -/

/-- A write of XLT_CTRL that restates SHADOW_OPEN and starts no prewarm stages the rest. -/
theorem xltCtrlWrite_restating (s : Block) (r : Req) (v : Nat)
    (hopen : v.testBit 1 = s.on XLT.XLT_CTRL.SHADOW_OPEN 0 0) (hpw : v.testBit 2 = false) :
    s.xltCtrlWrite r v = s.stageWrite r 0x040040 v := by
  simp [xltCtrlWrite, hopen, hpw]

end Block

/-! ### Commands that are one staged write -/

/-- A command that is one write of a staged register without a rule of its own answers with the write staged. -/
theorem answers_plain_staged {c : Instr} {s : State} {r : Req} {q off v : Nat} (hq : reqHeld r = some q)
    (he : exec c s = .next { s with m := s.m.wreg r off v }) (ho : isStagedReg off = true)
    (hc : s.m.cmdWrite r off v = none) (h : s.m.stagesAt r off v = true) : Answers c s (s.m.stagedAt r off v) := by
  rw [Answers, he, s.m.wreg_plain_staged r q off v hq ho hc h]

/-- ENG_SWAP_STAGE restates PROG_OPEN and DET_STRICT beside SWAP = 1, so SWAP is staged after what the restated
PROG_OPEN does at once. -/
theorem engSwapStage_answers (s : State) (r : Req) (q : Nat) (hq : reqHeld r = some q) (e : Fin 16)
    (hpo : s.m.rd ENG.ENG_CTRL.PROG_OPEN e.val 0 ≤ 1) (v : Nat)
    (hv : v = 1 + 2 * s.m.rd ENG.ENG_CTRL.PROG_OPEN e.val 0 + 4 * s.m.rd ENG.ENG_CTRL.DET_STRICT e.val 0)
    (hs : s.m.stagesAt r (0x010040 + 0x1000 * e.val) v = true)
    (ha : (s.m.engCtrlRestated e.val).stagesAt r (0x010040 + 0x1000 * e.val) v = true) :
    Answers (.engSwapStage r e) s ((s.m.engCtrlRestated e.val).stagedAt r (0x010040 + 0x1000 * e.val) v) := by
  have hbit : v.testBit 1 = s.m.on ENG.ENG_CTRL.PROG_OPEN e.val 0 := by
    rw [hv]; exact Block.testBit_one_of_fields _ _ hpo
  have hc := s.m.cmdWrite_engCtrl r e v
  rw [s.m.engCtrlWrite_restating r e.val _ v hbit] at hc
  have hw := s.m.wreg_ruled_staged _ r q _ v hq (Block.isStagedReg_engCtrl e) hc (Block.mayWrite_of_stagesAt hs) ha
  rw [Answers, ← hw, hv]
  rfl

/-- XLT_SWAP_STAGE restates SHADOW_OPEN and leaves PW_START 0, so nothing acts at once. -/
theorem xltSwapStage_answers (s : State) (r : Req) (q : Nat) (hq : reqHeld r = some q)
    (hso : s.m.g XLT.XLT_CTRL.SHADOW_OPEN ≤ 1)
    (h : s.m.stagesAt r 0x040040 (1 + 2 * s.m.g XLT.XLT_CTRL.SHADOW_OPEN) = true) :
    Answers (.xltSwapStage r) s (s.m.stagedAt r 0x040040 (1 + 2 * s.m.g XLT.XLT_CTRL.SHADOW_OPEN)) := by
  have hopen : (1 + 2 * s.m.g XLT.XLT_CTRL.SHADOW_OPEN).testBit 1 = s.m.on XLT.XLT_CTRL.SHADOW_OPEN 0 0 :=
    Block.testBit_one_of_fields _ 0 hso
  have hpw : (1 + 2 * s.m.g XLT.XLT_CTRL.SHADOW_OPEN).testBit 2 = false := Nat.testBit_lt_two_pow (by omega)
  have hc := congrArg some (s.m.xltCtrlWrite_restating r _ hopen hpw)
  have hw := s.m.wreg_ruled_staged s.m r q 0x040040 _ hq (by decide) hc (Block.mayWrite_of_stagesAt h) h
  rw [Answers, ← hw]
  rfl

/-- Settles O33: each command is one write of a staged register, at that register's offset. -/
theorem stagedCommandsAreStaged : Obligations.StagedCommandsAreStaged := by
  intro s r q hq
  refine ⟨fun e hpo _ => ?engSwap, xltSwapStage_answers s r q hq, fun w => ?dualWrite, fun m n g => ?mpStart, ?mpStop,
    fun v hv => ?pairSwap, fun b h => ?pairDrill, fun k x => ?updActivate, fun m e j => ?peelGo, fun run => ?perfRun,
    ?perfClear, ?perfSnap, fun w => ?rtcSec⟩
  case engSwap => exact engSwapStage_answers s r q hq e hpo _ rfl
  case pairSwap => subst hv; exact answers_plain_staged hq rfl (by decide) rfl
  case dualWrite | mpStart | mpStop | pairDrill | updActivate | peelGo | perfRun | perfClear | perfSnap | rtcSec =>
    exact answers_plain_staged hq rfl (by decide) rfl

/-! ### The state after reset -/

/-- Settles O4: no command waits after reset, and no store lists anything. -/
theorem resetIsWellFormed : Obligations.ResetIsWellFormed := by
  have hcells : State.reset.m.cells.wf = true := rfl
  have hpoints : State.reset.m.points.wf = true := rfl
  exact ⟨rfl, by rw [Block.wf, hcells, reset_memWf, hpoints]; rfl⟩

/-- After reset no cell is listed, so every field reads as its reset value, on every page and at every index. -/
@[simp] theorem Block.rd_reset (f : Fld) (i k : Nat) : Block.reset.rd f i k = f.rst := rfl

/-- Settles O5: each value is the reset value that the field's table row gives. -/
theorem resetValuesStand : Obligations.ResetValuesStand := by
  simp only [Obligations.ResetValuesStand, State.reset_m, Block.rd_reset, forall_const]
  decide

end Sys2Proof.Machine
end

section
/-!
The statements of the tower model's family. An access of a requester is one use of `Block.acc`, so an access that cannot
be made is `Block.acc_dead`. For the events, credits, supplies and heat each operation's rule is stated once, as the
operation at a state where its conditions hold; a command then answers that rule.
-/
namespace Sys2Proof.Machine

/-! ### Accesses of a requester (R17, R395) -/

/-- A command that is an access of its own makes one access of its requester, and does nothing else. -/
theorem exec_access {c : Instr} {r : Req} (h : requester c = some r) (s : State) :
    ∃ f : Block → Block × Nat, exec c s = .next { s with m := s.m.acc r f } := by
  cases c
  case halfLowRead r' off =>
    cases h
    -- A read of an offset that is no lower half is no access at all: its effect is the module as it stands.
    by_cases hlow : isLow off.val = true
    · exact ⟨_, by rw [exec, execHalfLowRead, if_pos hlow, Block.rreg]⟩
    · exact ⟨fun a => (a, 0), by rw [exec, execHalfLowRead, if_neg hlow, Block.acc, ite_self]⟩
  -- Every other command is no access, or is one of `wreg`, `rreg` and `ptpRead`, which are `acc` by definition.
  all_goals cases h <;> exact ⟨_, rfl⟩

/-- Settles O60: an access that cannot be made is no effect of `acc`. -/
theorem accessNeedsLiveRequester : Obligations.AccessNeedsLiveRequester := by
  intro s c r hr hdead
  obtain ⟨f, hf⟩ := exec_access hr s
  rw [hf, s.m.acc_dead r f hdead]

/-! ### Answers of commands -/

/-- A command that brings the module to `b` answers `b` in any form that equals it. -/
theorem answers_of_eq {c : Instr} {s : State} {a b : Block} (he : exec c s = .next { s with m := a }) (h : a = b) :
    Answers c s b := h ▸ he

/-- A command that needs the supervisor island answers its effect while that island runs. -/
theorem answers_onSup {c : Instr} {s : State} {f : Block → Block} {b : Block}
    (he : exec c s = .next { s with m := s.m.onSup f }) (hrun : s.m.supRuns = true) (h : f s.m = b) : Answers c s b :=
  answers_of_eq he ((s.m.onSup_run f hrun).trans h)

namespace Block

theorem supPowered_of_supRuns {s : Block} (h : s.supRuns = true) : s.supPowered = true := by
  simp only [supRuns, Bool.and_eq_true] at h
  exact h.1

/-! ### Module events -/

theorem fireInput_on {s : Block} {i : Nat} (h : s.fireInOn i = true) :
    s.fireInput i = (s.p MOD.MOD_FIRE_SRC.LOCAL (setBit (s.g MOD.MOD_FIRE_SRC.LOCAL) i)).p HID.FIREASK 1 := if_pos h

theorem sealPoint_unsealed {s : Block} (h : s.sealed = false) (ans : List Nat) :
    s.sealPoint ans = { s.sealAll (s.tick + 1) ans s.batches with sealed := true } := if_neg (by simp [h])

/-- The router goes on with a round that has sources left. -/
theorem routerServe_continues {s : Block} {n : Nat} (hp : s.supPowered = true) (hl : s.roundLeft ≠ [])
    (hn : s.roundFirst s.roundLeft = some n) : s.routerServe = (s.serveSrc n).roundEnd := by
  simp [routerServe, hp, hl, hn]

/-- The router starts a new round when the last one has no source left. -/
theorem routerServe_starts {s : Block} {n : Nat} (hp : s.supPowered = true) (hl : s.roundLeft = [])
    (hn : s.roundStart.roundFirst s.roundStart.roundLeft = some n) :
    s.routerServe = (s.roundStart.serveSrc n).roundEnd := by
  simp [routerServe, hp, hl, hn]

/-- A delivery of a source that snapshots nothing has nothing denied to it. -/
theorem recorderDelivery_bare {s : Block} {src n : Nat} {l : List (Nat × Nat)} (hq : s.recQ = (src, n) :: l)
    (hs : s.recSnaps src = []) : s.recorderDelivery = ({ s with recQ := l } : Block).recDeliver src n [] 0 := by
  simp [recorderDelivery, hq, hs]

/-! ### Credits -/

theorem engReturn_running {s : Block} {e : Nat}
    (hroom : s.rd ENG.ENG_BQ_CREDIT.CREDITS e 0 + (s.engQueue e).length < 64) (h : s.rd ENG.ENG_STATE.STALL e 0 ≠ 3) :
    s.engReturn e = s.wr ENG.ENG_BQ_CREDIT.CREDITS e 0 (s.rd ENG.ENG_BQ_CREDIT.CREDITS e 0 + 1) := by
  rw [engReturn, if_pos hroom, if_neg (by rwa [rd_wr_field _ _ _ _ _ _ _ _ (by decide)])]

theorem engReturn_stalled {s : Block} {e : Nat}
    (hroom : s.rd ENG.ENG_BQ_CREDIT.CREDITS e 0 + (s.engQueue e).length < 64) (h : s.rd ENG.ENG_STATE.STALL e 0 = 3) :
    s.engReturn e = (s.wr ENG.ENG_BQ_CREDIT.CREDITS e 0 (s.rd ENG.ENG_BQ_CREDIT.CREDITS e 0 + 1)).wr
      ENG.ENG_STATE.STALL e 0 0 := by
  rw [engReturn, if_pos hroom, if_pos (by rwa [rd_wr_field _ _ _ _ _ _ _ _ (by decide)])]

theorem loopReturn_idle {s : Block} (hroom : s.g BAT.LOOP_Q_CREDIT.CREDITS + s.loopQ.length < 128)
    (h : s.loopWait = []) :
    s.loopReturn = s.p BAT.LOOP_Q_CREDIT.CREDITS (s.g BAT.LOOP_Q_CREDIT.CREDITS + 1) := by
  simp only [loopReturn, if_pos hroom, h]

theorem loopReturn_waiting {s : Block} {q : QEnt} {l : List QEnt}
    (hroom : s.g BAT.LOOP_Q_CREDIT.CREDITS + s.loopQ.length < 128) (h : s.loopWait = q :: l) :
    s.loopReturn = { s with loopWait := l, loopQ := s.loopQ ++ [q] } := by
  simp only [loopReturn, if_pos hroom, h]

/-- The module with one more credit of the ring-receive queue. -/
def rxCredited (s : Block) : Block := s.p RCTL.RX_Q_CREDIT.CREDITS (s.g RCTL.RX_Q_CREDIT.CREDITS + 1)

theorem rxReturn_blocked {s : Block} (h : s.imgWait ≠ []) : s.rxReturn = s := if_neg fun hc => h hc.2

theorem rxReturn_empty {s : Block} (hroom : s.g RCTL.RX_Q_CREDIT.CREDITS < 512) (hw : s.imgWait = [])
    (h : s.rxCredited.rxNext = none) : s.rxReturn = s.rxCredited := by
  rw [rxCredited] at h ⊢
  simp only [rxReturn, hroom, hw, h, and_self, if_true]

theorem rxReturn_releases {s : Block} {x : RxHeld} (hroom : s.g RCTL.RX_Q_CREDIT.CREDITS < 512) (hw : s.imgWait = [])
    (h : s.rxCredited.rxNext = some x) : s.rxReturn = (s.rxCredited.rxTake x).xlateTake x := by
  rw [rxCredited] at h ⊢
  simp only [rxReturn, hroom, hw, h, and_self, if_true]

/-- Translation that waits with no word goes on with none. -/
theorem imageWords_nothing_waits {s : Block} (h : s.imgWait = []) : s.imageWords s.imgWait = s := by
  rw [h]
  exact congrArg (fun w => ({ s with imgWait := w } : Block)) h.symm

theorem imgReturn_takes {s : Block} {x : RVal} {l : List RVal} (hq : s.imgQ = x :: l) (hw : s.imgWait = []) :
    s.imgReturn = (({ s with imgQ := l } : Block).remoteArrives x.addr x.tick x.val).p XLT.IMG_Q_CREDIT.CREDITS
      (min 1024 (s.g XLT.IMG_Q_CREDIT.CREDITS + 1)) := by
  simp only [imgReturn, hq]
  exact imageWords_nothing_waits ((wr_imgWait ..).trans hw)

theorem txReturn_below {s : Block} {x : Nat} (h : s.rd AUD.RING_Q_CREDIT.CREDITS 0 x < 4) :
    s.txReturn x = s.wr AUD.RING_Q_CREDIT.CREDITS 0 x (s.rd AUD.RING_Q_CREDIT.CREDITS 0 x + 1) := if_pos h

theorem acceptEng_oldest {s : Block} {e : Nat} {q : QEnt} {l : List QEnt} (hq : s.engQueue e = q :: l)
    (h : s.fixedFree = true) : s.acceptEng e = ({ s with engQ := s.engQ.put e l } : Block).acceptEnt q := by
  simp only [acceptEng, hq, if_pos h]

theorem acceptLoop_oldest {s : Block} {q : QEnt} {l : List QEnt} (hq : s.loopQ = q :: l) (h : s.fixedFree = true) :
    s.acceptLoop = ({ s with loopQ := l } : Block).acceptEnt q := by
  simp only [acceptLoop, hq, if_pos h]

end Block

/-- Settles O21: each event's own rule, while the supervisor island runs. -/
theorem moduleEventsTakeEffect : Obligations.ModuleEventsTakeEffect := by
  intro s hrun
  have hp := Block.supPowered_of_supRuns hrun
  refine ⟨fun i hon => ?fireInput, ?lampTest, fun l hseal => ?sealing, fun n hleft hn => ?roundGoesOn,
    fun n hleft hn => ?roundStarts, fun e he => ?delivery, fun src n l hq hs => ?recorder⟩
  case fireInput => exact answers_onSup rfl hrun (Block.fireInput_on hon)
  case lampTest => exact answers_onSup rfl hrun rfl
  case sealing => exact answers_onSup rfl hrun (congrArg (·.mirrorSealed s.m) (Block.sealPoint_unsealed hseal _))
  case roundGoesOn => exact answers_onSup rfl hrun (Block.routerServe_continues hp hleft hn)
  case roundStarts => exact answers_onSup rfl hrun (Block.routerServe_starts hp hleft hn)
  case delivery =>
    have heng : s.m.engRuns e.val = true := by rw [Block.engRuns, hrun, he]; rfl
    exact answers_of_eq rfl (if_pos heng)
  case recorder => exact answers_onSup rfl hrun (Block.recorderDelivery_bare hq hs)

/-- Settles O22: each queue's own rule, while the supervisor island runs. -/
theorem creditsMove : Obligations.CreditsMove := by
  intro s hrun
  refine ⟨fun e hroom => ⟨fun h => ?engRuns, fun h => ?engStalled⟩,
    fun hroom => ⟨fun h => ?loopIdle, fun q l h => ?loopWaits⟩,
    ⟨fun hw => ?rxBlocked, fun hw hroom => ⟨fun h => ?rxEmpty, fun x h => ?rxFrame⟩⟩,
    fun x l hq hw => ?img, fun x h => ?tx, fun hfree => ⟨fun e q l hq => ?acceptEng, fun q l hq => ?acceptLoop⟩⟩
  case engRuns => exact answers_onSup rfl hrun (Block.engReturn_running hroom h)
  case engStalled => exact answers_onSup rfl hrun (Block.engReturn_stalled hroom h)
  case loopIdle => exact answers_onSup rfl hrun (Block.loopReturn_idle hroom h)
  case loopWaits => exact answers_onSup rfl hrun (Block.loopReturn_waiting hroom h)
  case rxBlocked => exact answers_onSup rfl hrun (Block.rxReturn_blocked hw)
  case rxEmpty => exact answers_onSup rfl hrun (Block.rxReturn_empty hroom hw h)
  case rxFrame => exact answers_onSup rfl hrun (Block.rxReturn_releases hroom hw h)
  case img => exact answers_onSup rfl hrun (Block.imgReturn_takes hq hw)
  case tx => exact answers_onSup rfl hrun (Block.txReturn_below h)
  case acceptEng => exact answers_onSup rfl hrun (Block.acceptEng_oldest hq hfree)
  case acceptLoop => exact answers_onSup rfl hrun (Block.acceptLoop_oldest hq hfree)

/-! ### Cells that are kept -/

theorem Cells.find_filter_kept (m : Cells) (keep : Nat → Bool) (q : Key) (h : keep q.f = true) :
    Cells.find (m.filter fun c => keep c.1.f) q = m.find q := by
  induction m with
  | nil => rfl
  | cons c t ih =>
    obtain ⟨k, v⟩ := c
    by_cases hk : keep k.f = true
    · simp only [List.filter_cons, hk, if_true, Cells.find, ih]
    · have hne : k ≠ q := by rintro rfl; exact hk h
      simp only [List.filter_cons, hk, if_false, Cells.find, hne, ih, Bool.false_eq_true]

namespace Block

/-! ### What stays beside the fields of a list -/

/-- Two modules that differ at most in the cells of the fields that a list names. -/
def TouchesOnly (l : List Nat) (s t : Block) : Prop :=
  SameBut s t ∧ ∀ (f : Fld) (i k : Nat), f.code ∉ l → t.rd f i k = s.rd f i k

theorem TouchesOnly.refl (l : List Nat) (s : Block) : TouchesOnly l s s := ⟨SameBut.refl s, fun _ _ _ _ => rfl⟩

theorem TouchesOnly.trans {l : List Nat} {a b c : Block} (h1 : TouchesOnly l a b) (h2 : TouchesOnly l b c) :
    TouchesOnly l a c :=
  ⟨h1.1.trans h2.1, fun f i k hf => (h2.2 f i k hf).trans (h1.2 f i k hf)⟩

theorem TouchesOnly.tick {l : List Nat} {s t : Block} (h : TouchesOnly l s t) : t.tick = s.tick := by
  obtain ⟨hcells, _⟩ := h
  rw [SameBut] at hcells
  rw [hcells]

theorem touchesOnly_wr {l : List Nat} (s : Block) (f : Fld) (i k v : Nat) (h : f.code ∈ l) :
    TouchesOnly l s (s.wr f i k v) :=
  ⟨sameBut_wr .., fun g x y hg => s.rd_wr_field f g i k v x y fun e => hg (by rwa [e])⟩

theorem touchesOnly_ite {l : List Nat} {s a b : Block} (c : Prop) [Decidable c] (ha : TouchesOnly l s a)
    (hb : TouchesOnly l s b) : TouchesOnly l s (if c then a else b) := by
  split
  · exact ha
  · exact hb

theorem touchesOnly_fire {l : List Nat} (s : Block) (n : Nat) (h : firedFields ⊆ l) : TouchesOnly l s (s.fire n) :=
  ⟨sameBut_fire s n, fun f i k hf => s.rd_fire n f i k fun e => hf (h e)⟩

/-- The fields that a firing writes which may be held, and those of the FAULT lamp that follows (R61, R447). -/
def notedFields : List Nat := HID.HELDEV.code :: MOD.MOD_STATUS.FAULT.code :: firedFields

theorem firedFields_subset_noted : firedFields ⊆ notedFields := fun _ h => .tail _ (.tail _ h)

theorem touchesOnly_fireHeld {l : List Nat} (s : Block) (n : Nat) (h : notedFields ⊆ l) :
    TouchesOnly l s (s.fireHeld n) :=
  touchesOnly_ite _ (touchesOnly_fire s n fun _ hf => h (firedFields_subset_noted hf))
    (touchesOnly_wr _ _ _ _ _ (h (.head _)))

theorem touchesOnly_noteFault {l : List Nat} (s : Block) (h : notedFields ⊆ l) : TouchesOnly l s s.noteFault := by
  have hfault := touchesOnly_wr s MOD.MOD_STATUS.FAULT 0 0 (b2n s.faultLamp) (h (.tail _ (.head _)))
  exact touchesOnly_ite _ (.refl l s) (hfault.trans
    (touchesOnly_ite _ (touchesOnly_fire _ _ fun _ hf => h (firedFields_subset_noted hf)) (.refl l _)))

/-! ### Supplies -/

theorem inputLost_dual {s : Block} (b : Bool) (hd : s.on PWR.PWR_CFG.DUAL 0 0 = true) (hp : s.g HID.PWRST ≤ 1)
    (hl : s.on PWR.PWR_STAT.LOST 0 0 = false) :
    s.inputLost b = (((s.p (if b then PWR.PWR_STAT.B_OK else PWR.PWR_STAT.A_OK) 0).p PWR.PWR_STAT.LOST 1).fireHeld
      (if b then EV.PWR.INPUT_B_LOST else EV.PWR.INPUT_A_LOST)).noteFault := by
  simp [inputLost, hd, hl, Nat.not_lt.2 hp]

theorem inputBack_lost {s : Block} (b : Bool) (hl : s.on PWR.PWR_STAT.LOST 0 0 = true)
    (hf : s.on (if b then PWR.PWR_STAT.B_OK else PWR.PWR_STAT.A_OK) 0 0 = false) :
    s.inputBack b = (((s.p (if b then PWR.PWR_STAT.B_OK else PWR.PWR_STAT.A_OK) 1).p PWR.PWR_STAT.LOST 0).fireHeld
      EV.PWR.INPUT_BACK).noteFault := by
  simp [inputBack, hl, hf]

theorem supplyWarn_first {s : Block} (hw : s.on PWR.PWR_STAT.WARN 0 0 = false) (hp : s.g HID.PWRST ≤ 1) :
    s.supplyWarn = (((((((s.p PWR.PWR_STAT.WARN 1).p HID.WARNAT s.tick).p PWR.PWR_STAT.A_OK 0).p PWR.PWR_STAT.B_OK 0).sat
      PWR.PWR_COUNT.WARNINGS 0 0 1).fireHeld EV.PWR.SUPPLY_WARN).snapAsk.p HID.SPILLING 1).stoRequests [0x01, 0x31] :=
  if_neg (by simp [hw, hp])

/-- The module after SUPPLY_OK, before spilling ends (R426). -/
def supplyBack (s : Block) (b : Bool) : Block :=
  ((s.p PWR.PWR_STAT.WARN 0).p (if b then PWR.PWR_STAT.B_OK else PWR.PWR_STAT.A_OK) 1).fireHeld EV.PWR.SUPPLY_OK

/-- The fields that a returning supply writes. -/
def supplyBackFields : List Nat :=
  PWR.PWR_STAT.WARN.code :: PWR.PWR_STAT.A_OK.code :: PWR.PWR_STAT.B_OK.code :: notedFields

theorem touchesOnly_supplyBack (s : Block) (b : Bool) : TouchesOnly supplyBackFields s (s.supplyBack b) := by
  refine .trans (.trans (touchesOnly_wr _ _ _ _ _ (.head _)) (touchesOnly_wr _ _ _ _ _ ?_))
    (touchesOnly_fireHeld _ _ fun _ h => .tail _ (.tail _ (.tail _ h)))
  cases b <;> decide

theorem supplyBack_warn (s : Block) (b : Bool) : (s.supplyBack b).on PWR.PWR_STAT.WARN 0 0 = false := by
  have hother : (if b then PWR.PWR_STAT.B_OK else PWR.PWR_STAT.A_OK).code ≠ PWR.PWR_STAT.WARN.code := by
    cases b <;> decide
  rw [on, supplyBack, (touchesOnly_fireHeld _ _ (List.Subset.refl _)).2 _ _ _ (by decide),
    p, rd_wr_field _ _ _ _ _ _ _ _ hother.symm, p, rd_wr_same]
  rfl

/-- Below stage 4 of the ladder the spill ends as a supply returns. -/
theorem supplyOk_spill_ends {s : Block} (b : Bool) (hw : s.on PWR.PWR_STAT.WARN 0 0 = true) (hp : s.g HID.PWRST ≤ 1)
    (hl : s.g PWR.PWR_STAT.LADDER ≠ 4) : s.supplyOk b = (s.supplyBack b).p HID.SPILLING 0 := by
  have hladder : (s.supplyBack b).g PWR.PWR_STAT.LADDER = s.g PWR.PWR_STAT.LADDER :=
    (s.touchesOnly_supplyBack b).2 _ 0 0 (by decide)
  rw [supplyOk, if_neg (by simp [hw, hp])]
  exact if_neg (hladder ▸ hl)

/-- The standby rail is lost once it has held for its 2.0 s (R427). -/
theorem railLoss_after_hold {s : Block} (hoff : s.g HID.PWRST = 2) (h : s.g HID.OFFRTC + 65536 ≤ s.rtcCount) :
    s.railLoss = ((({ s with relLog := [] } : Block).p HID.PWRST 3).rtcSwitch true) := by
  have hrail : s.railHolds = false := by simp [railHolds, h]
  exact if_neg (by simp [hoff, hrail])

theorem railLoss_held {s : Block} (hup : s.islandUp 33 = true) (h : s.rtcCount < s.g HID.OFFRTC + 65536) :
    s.railLoss = s := by
  have hrail : s.railHolds = true := by simp [railHolds, hup, h]
  exact if_pos (.inr hrail)

/-- A start from OFF (`off` true) or DARK, as `powerUp` names the two. -/
theorem powerUp_from {s : Block} (off : Bool) (h : s.g HID.PWRST = if off then 2 else 3) :
    s.powerUp =
      let s1 := ((s.rtcSwitch false).p HID.PWRST 0).p PWR.PWR_STAT.WARN 0
      let s2 := ({ s1 with bench := [], shared := [], points := [] } : Block).restartBegin (if off then 1 else 0) off
      let s3 := ((s2.setAll HID.DREPEND 0 (List.range 96)).slicesWake (List.range 9)).wakeNone
      (if off then s3.sat PWR.PWR_COUNT.BROWNOUTS 0 0 1 else s3).dipCount := by
  have hoff : (s.g HID.PWRST == 2) = off := by cases off <;> simp [h]
  rw [powerUp, if_neg (by cases off <;> simp [h]), hoff]

theorem dipEnd_powered {s : Block} (low us : Nat) (hd : s.on HID.DIPON 0 0 = true) (hp : s.g HID.PWRST ≤ 1) :
    s.dipEnd low us = (s.p HID.DIPON 0).lifeAdd 1 (dipBin low us) 1 := by
  simp [dipEnd, hd, hp]

theorem islandLoss_other {s : Block} {k : Nat} (h : k < 18 ∨ 27 ≤ k) :
    s.islandLoss k = s.wr HID.ISLANDDOWN 0 k 1 := if_neg (by omega)

theorem islandLoss_slice {s : Block} {k : Nat} (h1 : 18 ≤ k) (h2 : k < 27) :
    s.islandLoss k = (s.wr HID.ISLANDDOWN 0 k 1).causeSet (k - 18) 2 := if_pos ⟨h1, h2⟩

/-! ### Heat -/

theorem haltEnter_stage4 {s : Block} (hl : s.g PWR.PWR_STAT.LADDER = 4) (hp : s.g HID.PWRST = 0) :
    s.haltEnter = (((s.linksDown.p MOD.MOD_STATUS.RUN 0).p HID.PWRST 1).wr HID.HELDEV 0 EV.PWR.THERMAL_STOP 1).noteFault :=
  if_neg (by simp [hl, hp])

theorem haltExit_cooled {s : Block} (hp : s.g HID.PWRST = 1) (hv : s.g PWR.PWR_STAT.SENS_VALID ≠ 0)
    (hb : s.boardGe 800 = false) :
    s.haltExit = (({ (s.p HID.PWRST 0) with bench := [], shared := [] } : Block).restartBegin 6 true).wakeNone :=
  if_neg (by simp [hp, hv, hb])

theorem overPower_shown {s : Block} {pw : Nat} (h : pw ≤ 4095) :
    s.overPower pw = ((s.p PWR.PWR_POWER.POWER pw).p PWR.PWR_POWER.PEAK (max (s.g PWR.PWR_POWER.PEAK) pw)).fireIf
      (decide (pw > 780)) EV.PWR.OVER_POWER := by
  rw [overPower, Nat.min_eq_left h]

theorem wreg_peakClr {s : Block} {r : Req} (h : s.mayWrite r 0x0F0050 = true) :
    s.wreg r 0x0F0050 (2 ^ 31) = s.p PWR.PWR_POWER.PEAK (s.g PWR.PWR_POWER.POWER) :=
  s.wreg_cmd r 0x0F0050 (2 ^ 31) (s.peakClr, 0) h rfl (by decide) rfl rfl rfl

/-- The fields that a temperature sample writes beside the number of samples. -/
def boardFields : List Nat :=
  [HID.TSHIST.code, PWR.PWR_TS01.TS0.code, PWR.PWR_TS01.TS1.code, PWR.PWR_TS23.TS2.code, PWR.PWR_TS23.TS3.code,
    PWR.PWR_STAT.SENS_VALID.code, HID.SERIALNO.code, HID.BOARDSUM.code, HID.BOARDCNT.code, PWR.PWR_BOARD.BOARD.code] ++
  notedFields

theorem notedFields_subset_board : notedFields ⊆ boardFields := List.subset_append_right _ _

theorem tsFld_mem_board (i : Nat) : (tsFld i).code ∈ boardFields := by
  unfold tsFld
  split_ifs <;> decide

theorem touchesOnly_tsPush (s : Block) (i : Nat) (v : Int) : TouchesOnly boardFields s (s.tsPush i v) := by
  have hhist (a : Block) (k v : Nat) : TouchesOnly boardFields a (a.wr HID.TSHIST i k v) :=
    touchesOnly_wr _ _ _ _ _ (by decide)
  exact ((((hhist s _ _).trans (hhist _ _ _)).trans (hhist _ _ _)).trans (hhist _ _ _)).trans
    (touchesOnly_wr _ _ _ _ _ (tsFld_mem_board i))

/-- The four samples of a reading. -/
def tsPushes (s : Block) (t0 t1 t2 t3 : Int) : Block := (((s.tsPush 0 t0).tsPush 1 t1).tsPush 2 t2).tsPush 3 t3

theorem touchesOnly_tsPushes (s : Block) (t0 t1 t2 t3 : Int) : TouchesOnly boardFields s (s.tsPushes t0 t1 t2 t3) :=
  (((touchesOnly_tsPush ..).trans (touchesOnly_tsPush ..)).trans (touchesOnly_tsPush ..)).trans (touchesOnly_tsPush ..)

/-- The module with the number of its samples counted, and with the sensors shown that are valid then (R435). -/
def sampled (s : Block) (t0 t1 t2 t3 : Int) : Block :=
  (s.tsPushes t0 t1 t2 t3).p HID.TSNUM (min (s.g HID.TSNUM + 1) 4)
def sensed (s : Block) : Block := s.p PWR.PWR_STAT.SENS_VALID (s.validSensors.foldl setBit 0)

/-- The module with the temperature of the hottest of some sensors shown. -/
def boardShown (s : Block) (v : List Nat) : Block :=
  match s.hottest v with
  | none => (s.takeFree.1).p PWR.PWR_BOARD.BOARD (Config.freeWord s.takeFree.2 % 65536)
  | some i => ((s.p HID.BOARDSUM (uns 32 (s.tsSum i))).p HID.BOARDCNT (s.g HID.TSNUM)).p PWR.PWR_BOARD.BOARD
      (uns 16 (meanShown (s.tsSum i) (s.g HID.TSNUM)))

theorem touchesOnly_boardShown (s : Block) (v : List Nat) : TouchesOnly boardFields s (s.boardShown v) := by
  have hwr (a : Block) (f : Fld) (v : Nat) (h : f.code ∈ boardFields) : TouchesOnly boardFields a (a.p f v) :=
    touchesOnly_wr _ _ _ _ _ h
  unfold boardShown
  split
  · exact (hwr s HID.SERIALNO _ (by decide)).trans (hwr _ _ _ (by decide))
  · exact ((hwr _ _ _ (by decide)).trans (hwr _ _ _ (by decide))).trans (hwr _ _ _ (by decide))

theorem boardTemp_eq (s : Block) (t0 t1 t2 t3 : Int) :
    s.boardTemp t0 t1 t2 t3 =
      let a := s.sampled t0 t1 t2 t3
      let b := a.sensed.boardShown a.validSensors
      (if a.validSensors.length < ((List.range 4).filter fun i => (s.g PWR.PWR_STAT.SENS_VALID).testBit i).length
        then b.fireHeld EV.PWR.SENSOR_FAIL else b).noteFault := rfl

/-- What follows the count of the samples leaves that count alone. -/
theorem touchesOnly_boardTemp (s : Block) (t0 t1 t2 t3 : Int) :
    TouchesOnly boardFields (s.sampled t0 t1 t2 t3) (s.boardTemp t0 t1 t2 t3) := by
  rw [boardTemp_eq]
  have hshown := (touchesOnly_wr (s.sampled t0 t1 t2 t3) PWR.PWR_STAT.SENS_VALID 0 0 _ (by decide)).trans
    (touchesOnly_boardShown (s.sampled t0 t1 t2 t3).sensed (s.sampled t0 t1 t2 t3).validSensors)
  exact (touchesOnly_ite _ (hshown.trans (touchesOnly_fireHeld _ _ notedFields_subset_board)) hshown).trans
    (touchesOnly_noteFault _ notedFields_subset_board)

theorem boardTemp_tick (s : Block) (t0 t1 t2 t3 : Int) : (s.boardTemp t0 t1 t2 t3).tick = s.tick :=
  calc (s.boardTemp t0 t1 t2 t3).tick
    _ = (s.sampled t0 t1 t2 t3).tick := (s.touchesOnly_boardTemp t0 t1 t2 t3).tick
    _ = (s.tsPushes t0 t1 t2 t3).tick := wr_tick ..
    _ = s.tick := (s.touchesOnly_tsPushes t0 t1 t2 t3).tick

theorem boardTemp_samples (s : Block) (t0 t1 t2 t3 : Int) :
    (s.boardTemp t0 t1 t2 t3).g HID.TSNUM = min (s.g HID.TSNUM + 1) 4 :=
  calc (s.boardTemp t0 t1 t2 t3).g HID.TSNUM
    _ = (s.sampled t0 t1 t2 t3).g HID.TSNUM := (s.touchesOnly_boardTemp t0 t1 t2 t3).2 _ 0 0 (by decide)
    _ = min (s.g HID.TSNUM + 1) 4 % 2 ^ 3 := rd_wr_same ..
    _ = min (s.g HID.TSNUM + 1) 4 := Nat.mod_eq_of_lt (by omega)

/-! ### The end of the hold-up (R426) -/

theorem holdupOver_of {s : Block} (h : s.g HID.PWRST = 1 ∨ s.g HID.WARNAT + 380 ≤ s.tick) :
    s.holdupOver = true := by
  simp only [holdupOver, Bool.or_eq_true, decide_eq_true_eq]
  rcases h with h | h
  · exact .inl (.inl (by simp [h]))
  · exact .inr h

/-- Two modules whose engines and whose loop engine wait with the same entries for the batch controller. -/
def SameQueues (s t : Block) : Prop := t.engQ = s.engQ ∧ t.loopQ = s.loopQ

theorem SameQueues.refl (s : Block) : SameQueues s s := ⟨rfl, rfl⟩

theorem SameQueues.trans {a b c : Block} (h1 : SameQueues a b) (h2 : SameQueues b c) : SameQueues a c :=
  ⟨h2.1.trans h1.1, h2.2.trans h1.2⟩

theorem SameBut.sameQueues {s t : Block} (h : SameBut s t) : SameQueues s t := by
  rw [SameBut] at h
  rw [h]
  exact ⟨rfl, rfl⟩

theorem sameQueues_ite {s a b : Block} (c : Prop) [Decidable c] (ha : SameQueues s a) (hb : SameQueues s b) :
    SameQueues s (if c then a else b) := by
  split
  · exact ha
  · exact hb

/-! #### Outputs -/

theorem sameBut_offAll (s : Block) (l : List Nat) : SameBut s (s.offAll l) := by
  induction l generalizing s with
  | nil => exact SameBut.refl s
  | cons c t ih => exact (((sameBut_wr ..).trans (sameBut_wr ..)).trans (sameBut_wr ..)).trans (ih _)

theorem sameBut_analogMute (s : Block) (l : List Nat) : SameBut s (s.analogMute l) := by
  induction l generalizing s with
  | nil => exact SameBut.refl s
  | cons c t ih =>
    exact (sameBut_ite _ _ _ _ ((sameBut_wr ..).trans (sameBut_wr ..)) (SameBut.refl s)).trans (ih _)

theorem sameBut_outputsOff (s : Block) : SameBut s s.outputsOff := (sameBut_offAll ..).trans (sameBut_analogMute ..)

/-! #### Counters of ports and of life -/

theorem sameBut_stat (s : Block) (p : NetPort) (k n : Nat) : SameBut s (s.stat p k n) := by
  unfold stat
  exact sameBut_ite _ _ _ _ (SameBut.refl s)
    (sameBut_ite _ _ _ _ (((sameBut_wr ..).trans (sameBut_wr ..)).trans (sameBut_fire ..)) (sameBut_wr ..))

theorem sameBut_statOct (s : Block) (p : NetPort) (k n : Nat) : SameBut s (s.statOct p k n) :=
  (sameBut_wr ..).trans (sameBut_stat ..)

theorem sameBut_lifeCheck (s : Block) : SameBut s s.lifeCheck := by
  unfold lifeCheck
  have hreplace (c : Prop) [Decidable c] :
      SameBut s (if c then (s.p LIFE.LIFE_STAT.REPLACE 1).fire EV.LIFE.REPLACE_DUE else s) :=
    sameBut_ite _ _ _ _ ((sameBut_wr ..).trans (sameBut_fire ..)) (SameBut.refl s)
  exact sameBut_ite _ _ _ _ ((hreplace _).trans ((sameBut_wr ..).trans (sameBut_fire ..))) (hreplace _)

theorem sameBut_lifeAdd (s : Block) (hist bin n : Nat) : SameBut s (s.lifeAdd hist bin n) :=
  (sameBut_wr ..).trans (sameBut_lifeCheck _)

/-! #### Frames and links -/

theorem sameQueues_onWire (s : Block) (p : Fin 3) (head : List Nat) (octets : Nat) (express both : Bool) :
    SameQueues s (s.onWire p head octets express both) := by
  have hwire : SameQueues s { s with wire := s.wire ++ [⟨p, head, octets⟩] } := ⟨rfl, rfl⟩
  have hcounted := hwire.trans ((sameBut_stat _ (netPort p) 19 1).trans (sameBut_statOct _ (netPort p) 20 octets)).sameQueues
  have hexpress (c : Prop) [Decidable c] :=
    sameQueues_ite c (hcounted.trans (sameBut_stat _ (netPort p) 21 1).sameQueues) hcounted
  exact sameQueues_ite _ ((hexpress _).trans (sameBut_stat ..).sameQueues) (hexpress _)

theorem sameQueues_txPort (s : Block) (f : TxFrame) (both : Bool) (p : Fin 3) : SameQueues s (s.txPort f both p) :=
  sameQueues_ite _ (.refl s) (sameQueues_ite _ (sameBut_stat ..).sameQueues (sameQueues_onWire ..))

theorem sameQueues_txOver (s : Block) (f : TxFrame) (both : Bool) (l : List (Fin 3)) :
    SameQueues s (s.txOver f both l) := by
  induction l generalizing s with
  | nil => exact .refl s
  | cons p t ih => exact (sameQueues_txPort ..).trans (ih _)

theorem sameQueues_send (s : Block) (f : TxFrame) : SameQueues s (s.send f) := by
  have hover := sameQueues_txOver s f (decide (((s.txPorts f).filter fun p => decide (p.val < 2)).length > 1)) (s.txPorts f)
  have hcount (a : Block) := (sameBut_wr a HID.TXSEQ 0 f.body.type (a.rd HID.TXSEQ 0 f.body.type + 1)).sameQueues
  exact sameQueues_ite _ (.refl s) (hover.trans (hcount _))

theorem sameQueues_declareBreak (s : Block) (p : Nat) : SameQueues s (s.declareBreak p) :=
  sameQueues_ite _ (.refl s) (((sameBut_wr ..).trans (sameBut_wr ..)).sameQueues.trans (sameQueues_send ..))

theorem sameBut_setDegraded (s : Block) (p : Nat) (v : Bool) : SameBut s (s.setDegraded p v) :=
  ((sameBut_wr ..).trans (sameBut_fireIf ..)).trans (sameBut_wr ..)

theorem sameQueues_ringDown (s : Block) (p : Fin 2) : SameQueues s (s.ringDown p) := by
  have hstate {t : Block} (c : Prop) [Decidable c] (h : SameQueues s t) :
      SameQueues s (if c then t.p RCTL.RCTL_STAT.STATE 0 else t) :=
    sameQueues_ite c (h.trans (sameBut_wr ..).sameQueues) h
  refine sameQueues_ite _ (.refl s) (hstate _ (.trans (SameBut.sameQueues ?_) (sameQueues_declareBreak ..)))
  exact (sameBut_wr ..).trans (sameBut_wr ..) |>.trans (sameBut_wr ..) |>.trans (sameBut_wr ..) |>.trans (sameBut_wr ..)
    |>.trans (sameBut_wr ..) |>.trans (sameBut_wr ..) |>.trans (sameBut_wr ..) |>.trans (sameBut_setDegraded ..)
    |>.trans (sameBut_stat ..) |>.trans (sameBut_lifeAdd ..) |>.trans (sameBut_fire ..)

theorem sameBut_svcDown (s : Block) : SameBut s s.svcDown :=
  sameBut_ite _ _ _ _ ((((((sameBut_wr ..).trans (sameBut_wr ..)).trans (sameBut_wr ..)).trans (sameBut_stat ..)).trans
    (sameBut_lifeAdd ..)).trans (sameBut_fire ..)) (SameBut.refl s)

theorem sameBut_pairLink (s : Block) (up : Bool) : SameBut s (s.pairLink up) :=
  sameBut_ite _ _ _ _ (sameBut_wr ..)
    (sameBut_ite _ _ _ _ ((sameBut_wr ..).trans (sameBut_lifeAdd ..)) (SameBut.refl s))

theorem sameQueues_linksDown (s : Block) : SameQueues s s.linksDown :=
  ((sameQueues_ringDown ..).trans (sameQueues_ringDown ..)).trans
    (((sameBut_svcDown _).trans (sameBut_pairLink ..)).trans (sameBut_wr ..)).sameQueues

/-! #### Stores and the recorder -/

theorem sameQueues_putSto (s : Block) (id : Nat) (st : Store) : SameQueues s (s.putSto id st) := ⟨rfl, rfl⟩

theorem sameQueues_stoInterrupt (s : Block) (l : List Nat) : SameQueues s (s.stoInterrupt l) := by
  induction l generalizing s with
  | nil => exact .refl s
  | cons id t ih =>
    exact (sameQueues_ite _ ((sameQueues_putSto ..).trans ((sameBut_wr ..).trans (sameBut_wr ..)).sameQueues)
      (.refl s)).trans (ih _)

theorem sameQueues_recPowerLoss (s : Block) : SameQueues s s.recPowerLoss := by
  have hlost : SameQueues s (s.sat REC.REC_COUNT.LOST 0 0 s.unspilled.length) := (sameBut_wr ..).sameQueues
  exact .trans hlost (sameBut_wr _ REC.REC_NEWEST.NEWEST 0 0 _).sameQueues

theorem recPowerLoss_recs (s : Block) : s.recPowerLoss.recs = [] := wr_recs ..

/-! #### The audio island's power -/

theorem rd_audLost (s : Block) (f : Fld) (i k : Nat) (h : codeIn audCells f.code = false) :
    s.audLost.rd f i k = s.rd f i k := by
  have hfind := Cells.find_filter_kept s.cells (fun c => !codeIn audCells c) ⟨f.code, i, k⟩ (by simp [h])
  exact congrArg (·.getD f.rst) hfind

/-! #### OFF -/

/-- The module as it enters OFF, before its benches lose their contents (R427): its work stops, its outputs and links go
down, and what was being written or was recorded on chip is lost. -/
def switchedOff (s : Block) : Block := (s.endReleases.outputsOff.linksDown.stoInterrupt storeIds).recPowerLoss

theorem switchedOff_queues (s : Block) : s.switchedOff.engQ = [] ∧ s.switchedOff.loopQ = [] := by
  have hend : s.endReleases.engQ = [] ∧ s.endReleases.loopQ = [] := ⟨rfl, rfl⟩
  have hsame : SameQueues s.endReleases s.switchedOff :=
    (((sameBut_outputsOff _).sameQueues.trans (sameQueues_linksDown _)).trans (sameQueues_stoInterrupt ..)).trans
      (sameQueues_recPowerLoss _)
  exact ⟨hsame.1.trans hend.1, hsame.2.trans hend.2⟩

/-- The module in OFF: its power state and the time of the RTC domain are noted, and what has no power is lost. -/
def offNoted (s : Block) : Block :=
  (((s.p MOD.MOD_STATUS.RUN 0).p HID.RESTART 0).p HID.PWRST 2).p HID.OFFRTC s.rtcCount

theorem sameBut_offNoted (s : Block) : SameBut s s.offNoted :=
  ((sameBut_wr ..).trans (sameBut_wr ..)).trans ((sameBut_wr ..).trans (sameBut_wr ..))

theorem offNoted_recs (s : Block) : s.offNoted.recs = s.recs := by simp only [offNoted, p, wr_recs]

theorem offNoted_state (s : Block) : s.offNoted.g HID.PWRST = 2 := by
  rw [offNoted, g_p_field _ _ _ _ (by decide), g_p_same]
  rfl

/-- The module without the contents of its benches and of the audio island (R427). -/
def powerless (s : Block) : Block := { s.audLost.debugFollow with bench := [], shared := [] }

theorem powerless_engQ (s : Block) : s.powerless.engQ = s.engQ := rfl
theorem powerless_loopQ (s : Block) : s.powerless.loopQ = s.loopQ := rfl
theorem powerless_recs (s : Block) : s.powerless.recs = s.recs := rfl

theorem powerless_state (s : Block) : s.powerless.g HID.PWRST = s.g HID.PWRST := s.rd_audLost HID.PWRST 0 0 (by decide)

theorem holdupEnd_off {s : Block} (hw : s.on PWR.PWR_STAT.WARN 0 0 = true) (hp : s.g HID.PWRST ≤ 1)
    (h : s.g HID.PWRST = 1 ∨ s.g HID.WARNAT + 380 ≤ s.tick) :
    s.holdupEnd = s.switchedOff.offNoted.powerless :=
  if_neg (by simp [hw, hp, holdupOver_of h])

end Block

/-- Settles O55: the rule of each supply, and of heat and HALT. -/
theorem suppliesAndHeatTakeEffect : Obligations.SuppliesAndHeatTakeEffect := by
  refine ⟨fun s => ⟨fun b => ⟨fun hd hp hl => ?inputLost, fun hl hf => ?inputBack, fun hw hp hl => ?supplyOk⟩,
      fun hw hp => ?supplyWarn, fun hw hp h => ?holdupEnd,
      fun hoff => ⟨fun h => ?railLost, fun hup h => ?railHeld⟩, fun off h => ?powerUp, ?dipBegin,
      fun low us hd hp => ?dipEnd, fun k => ⟨fun h => ?otherClock, fun h1 h2 => ?sliceClock⟩⟩,
    fun s => ⟨fun hl hp => ?haltEnter, fun hp hv hb => ?haltExit, fun t0 t1 t2 t3 h => ?sample, fun pw hrun h => ?power,
      fun r h => ?peakClr⟩⟩
  case inputLost => exact answers_of_eq rfl (s.m.inputLost_dual b hd hp hl)
  case inputBack => exact answers_of_eq rfl (s.m.inputBack_lost b hl hf)
  case supplyOk =>
    have hback := s.m.touchesOnly_supplyBack b
    refine ⟨_, rfl, rfl, ?_⟩
    rw [Block.supplyOk_spill_ends b hw hp hl]
    refine ⟨?warn, ?spill, ?bench⟩
    case warn =>
      rw [Block.on, Block.p, Block.rd_wr_field _ _ _ _ _ _ _ _ (by decide)]
      exact s.m.supplyBack_warn b
    case spill => rw [Block.on, Block.p, Block.rd_wr_same]; rfl
    case bench => exact (Block.wr_bench ..).trans hback.1.bench
  case supplyWarn => exact answers_of_eq rfl (Block.supplyWarn_first hw hp)
  case holdupEnd =>
    obtain ⟨heng, hloop⟩ := s.m.switchedOff_queues
    have hnoted := s.m.switchedOff.sameBut_offNoted
    refine ⟨_, rfl, rfl, ?_⟩
    rw [Block.holdupEnd_off hw hp h]
    refine ⟨?off, rfl, rfl, ?engines, ?loops, ?records, rfl⟩
    case off => rw [Block.powerless_state, Block.offNoted_state]
    case engines => rw [Block.powerless_engQ, hnoted.sameQueues.1, heng]
    case loops => rw [Block.powerless_loopQ, hnoted.sameQueues.2, hloop]
    case records => rw [Block.powerless_recs, Block.offNoted_recs, Block.switchedOff, Block.recPowerLoss_recs]
  case railLost => exact answers_of_eq rfl (Block.railLoss_after_hold hoff h)
  case railHeld => exact answers_of_eq rfl (Block.railLoss_held hup h)
  case powerUp => exact answers_of_eq rfl (Block.powerUp_from off h)
  case dipBegin => exact answers_of_eq rfl rfl
  case dipEnd => exact answers_of_eq rfl (Block.dipEnd_powered low us hd hp)
  case otherClock => exact answers_of_eq rfl (congrArg Block.noteFault (Block.islandLoss_other h))
  case sliceClock => exact answers_of_eq rfl (congrArg Block.noteFault (Block.islandLoss_slice h1 h2))
  case haltEnter => exact answers_of_eq rfl (Block.haltEnter_stage4 hl hp)
  case haltExit => exact answers_of_eq rfl (Block.haltExit_cooled hp hv hb)
  case sample =>
    have hoccasion : (s.m.supRuns || s.m.g HID.PWRST == 1 || s.m.g HID.PWRST == 2) = true := by simpa [or_assoc] using h
    refine ⟨_, rfl, rfl, ?_⟩
    rw [if_pos hoccasion]
    exact ⟨s.m.boardTemp_samples t0 t1 t2 t3, s.m.boardTemp_tick t0 t1 t2 t3⟩
  case power => exact answers_onSup rfl hrun (Block.overPower_shown h)
  case peakClr => exact answers_of_eq rfl (Block.wreg_peakClr h)

end Sys2Proof.Machine
end

section
/-!
The statements of the register pages' family. A command of MOD_CMD and a write of the header are each one register write, so
they are `wreg_cmd` and `wreg_header` at their offset. What one staged entry does to its batch is said of `stage` and
`stageSingle`, by the outcome of their checks; an untagged register write is one use of it.
-/
namespace Sys2Proof.Machine
namespace Block

/-! ### Staging one entry (R41, R42, R152) -/

theorem SameBut.batches {s t : Block} (h : SameBut s t) : t.batches = s.batches := by
  have hbatches := congrArg Block.batches h
  exact hbatches

theorem poolEvent_batches (s old : Block) : (s.poolEvent old).batches = s.batches := (sameBut_fireIf ..).batches

/-- An entry that passes the checks of its batch joins it. -/
theorem stage_joins {s : Block} {id : Nat} {b : Batch} {e : Entry} (hb : s.batches.find id = some b)
    (h : s.stageCode id b e.tgt = 0) :
    s.stage id e = ((s.putBatch id { b with entries := b.entries ++ [e] }).poolEvent s, 0) := by
  simp only [stage, hb, h, if_true]

/-- An entry that a check of its batch refuses dooms the batch. -/
theorem stage_dooms {s : Block} {id : Nat} {b : Batch} {e : Entry} (hb : s.batches.find id = some b)
    (h : s.stageCode id b e.tgt ≠ 0) :
    s.stage id e = (s.doomBatch id (s.stageCode id b e.tgt) 0, s.stageCode id b e.tgt) := by
  simp only [stage, hb, if_neg h]

/-- A batch that is OPEN or REQUESTED becomes DOOMED under its ID. -/
theorem doomBatch_find {s : Block} {id : Nat} {b : Batch} (code peer : Nat) (hb : s.batches.find id = some b)
    (hst : b.st = .opened ∨ b.st = .requested) :
    (s.doomBatch id code peer).batches.find id = some { b with st := .doomed, code := code, peer := peer } := by
  simp only [doomBatch, hb, if_pos hst, (sameBut_fire ..).batches]
  exact AMap.find_put_same ..

/-- One write under a tag is one entry staged in the tagged batch. -/
theorem stageFor_tagged {s : Block} {r : Req} {id : Nat} (h : s.tagNow r = some id) (t : Target) (v epoch : Nat)
    (addr : Option Nat) :
    s.stageFor r [(t, v)] epoch addr = s.stage id ⟨t, v, r, epoch, addr⟩ := by
  simp only [stageFor, h, List.map_cons, List.map_nil, stageEach]
  split
  next s1 hs => rw [hs]
  next => rfl

/-- The batch that the module opens for an untagged write's entries, REQUESTED for the next tick whose seal point has not
passed (R42). -/
def ownBatch (s : Block) (r : Req) (l : List Entry) : Batch :=
  { s.newBatch r false true false with st := .requested, ctick := s.nextCommitTick, entries := l }

/-- An untagged write whose own batch passes every check has that batch under the lowest free ID. -/
theorem stageSingle_opens {s : Block} {r : Req} {id : Nat} {l : List Entry}
    (hend : s.own HDR.BATCH_TAG.ENDED 0 r ≠ 1) (hid : s.lowestId = some id) (hcode : s.singleCode (s.ownBatch r l) = 0) :
    (s.stageSingle r l).2 = 0 ∧ (s.stageSingle r l).1.batches.find id = some (s.ownBatch r l) := by
  rw [ownBatch] at hcode ⊢
  simp only [stageSingle, if_neg hend, hcode, openBatch, hid, ne_eq, not_true_eq_false, if_false, true_and,
    poolEvent_batches, (sameBut_fireIf ..).batches]
  exact AMap.find_put_same ..

/-- One untagged write is staged in a batch of its own. -/
theorem stageFor_untagged {s : Block} {r : Req} (h : s.tagNow r = none) (t : Target) (v epoch : Nat) (addr : Option Nat) :
    s.stageFor r [(t, v)] epoch addr = s.stageSingle r [⟨t, v, r, epoch, addr⟩] := by
  simp only [stageFor, h, List.map_cons, List.map_nil]

end Block

/-- Settles O27: one entry is staged under a tag by `stage`, and without one by `stageSingle`. -/
theorem stagingFillsABatch : Obligations.StagingFillsABatch := by
  intro s r t v
  refine ⟨fun id b ht hb hc => ?joins, fun id b ht hb hc hst => ?dooms, fun id ht hend hid hc => ?opens⟩
  case joins =>
    rw [Block.stageFor_tagged ht, Block.stage_joins hb hc, Block.poolEvent_batches]
    exact ⟨rfl, AMap.find_put_same ..⟩
  case dooms =>
    rw [Block.stageFor_tagged ht, Block.stage_dooms hb hc]
    exact ⟨rfl, Block.doomBatch_find _ _ hb hst⟩
  case opens =>
    rw [Block.stageFor_untagged ht]
    exact Block.stageSingle_opens hend hid hc

namespace Block

/-! ### MOD_CMD (R59) -/

/-- What a requester may write to MOD_CMD is taken as a command. -/
theorem wreg_modCmd {s : Block} {r : Req} {c : Nat} (h : s.mayWrite r 0x000048 = true) :
    s.wreg r 0x000048 c = (s.modCmd r (c % 256)).1 :=
  s.wreg_cmd r 0x000048 c _ h rfl (by decide) rfl rfl rfl

/-- The module with a command of session `n` in CMD_PEND, where it waits for the next boundary. -/
def cmdPending (s : Block) (n c : Nat) : Block := (s.p HID.CMDPEND c).p HID.FIRECMDREQ (n + 1)

/-- A command that passes its checks waits in CMD_PEND; FIRE_ENTER asks for MOD_FIRE besides. -/
theorem modCmd_pends {s : Block} {n : Fin 64} {c : Nat} (h : s.modCmdCode (.ses n) c = 0) (hlamp : c ≠ 0x20) :
    (s.modCmd (.ses n) c).1 =
      if c = 0x01 then ((s.cmdPending n.val c).p MOD.MOD_FIRE_SRC.CMD 1).p HID.FIREASK 1 else s.cmdPending n.val c := by
  simp only [modCmd, h, hlamp, cmdPending, ne_eq, not_true_eq_false, if_false]

theorem modCmd_lampTest {s : Block} {r : Req} (h : s.modCmdCode r 0x20 = 0) :
    (s.modCmd r 0x20).1 = s.p HID.LAMPTEST 1 := by
  simp only [modCmd, h, ne_eq, not_true_eq_false, if_false, if_true]

end Block

/-- Settles O6: each command is its own code written to MOD_CMD. -/
theorem modCommandsTakeEffect : Obligations.ModCommandsTakeEffect := by
  intro s n hm
  refine ⟨fun h => ?fireEnter, fun h => ?fireReset, fun h => ?warm, fun h => ?cold, fun h => ?lampTest⟩
  case lampTest => exact answers_of_eq rfl ((Block.wreg_modCmd hm).trans (Block.modCmd_lampTest h))
  all_goals exact answers_of_eq rfl ((Block.wreg_modCmd hm).trans (Block.modCmd_pends h (by decide)))

/-! ### The header (R38) -/

theorem page_of_offset (page : Nat) {o : Nat} (h : o < 4096) : (page * 4096 + o) / 4096 = page := by omega

/-- The register at an offset of the header, on a page of the map: the header's fields there. -/
theorem regAt_header {page o : Nat} (hp : (pageKind page).isNone = false) (ho : o < 0x40) :
    (regAt (page * 4096 + o)).2 = hdrFields.filter fun f => f.off == o := by
  have hoff : (page * 4096 + o) % 4096 = o := by omega
  rw [regAt, page_of_offset page (by omega), hoff]
  split
  next h => rw [h] at hp; cases hp
  next => rw [if_pos ho]

namespace Block

/-- A register of the header names no object of an owner tin: a field of the header has no selector, or is held once per
requester. -/
theorem selOwner_header {page o : Nat} (s : Block) (r : Req) (hp : (pageKind page).isNone = false) (ho : o < 0x40) :
    s.selOwner r (page * 4096 + o) = none := by
  have hsel : ∀ f ∈ hdrFields, f.sel = .none ∨ f.sel = .req := by decide
  simp only [selOwner, regAt_header hp ho]
  split
  next => rfl
  next f l hl =>
    have hf : f ∈ hdrFields := List.mem_of_mem_filter (hl ▸ List.mem_cons_self)
    obtain h | h := hsel f hf <;> rw [h]

/-- Who may write one register of a page's header may write every other. -/
theorem mayWrite_header {s : Block} {r : Req} {page : Nat} (o o' : Nat) (hp : (pageKind page).isNone = false)
    (ho : o < 0x40) (ho' : o' < 0x40) (h : s.mayWrite r (page * 4096 + o) = true) :
    s.mayWrite r (page * 4096 + o') = true := by
  have hpage (x : Nat) (hx : x < 0x40) := page_of_offset page (show x < 4096 by omega)
  simpa only [mayWrite, selOk, selOwner_header s r hp ho, selOwner_header s r hp ho',
    hpage o ho, hpage o' ho'] using h

/-- A tag that names a batch of the requester's own, or none, is taken. -/
theorem tagWrite_own {s : Block} {r : Req} {q v : Nat} (p : Nat) (hq : reqHeld r = some q)
    (h : v.testBit 8 = true → (s.batches.find (v % 64)).any (fun b => decide (b.opener = r)) = true) :
    (s.tagWrite r p v).1 = ((s.wr HDR.BATCH_TAG.ID 0 q (v % 64)).wr HDR.BATCH_TAG.VALID 0 q (bitN v 8)).wr
      HDR.BATCH_TAG.ENDED 0 q 0 := by
  have hpass : (v.testBit 8 && !(s.batches.find (v % 64)).any fun b => decide (b.opener = r)) = false := by
    cases hv : v.testBit 8
    · rfl
    · simp [h hv]
  simp only [tagWrite, hq, hpass, setTag, setOwn, Bool.false_eq_true, if_false]

/-- A tag that names no batch of the requester's own is refused. -/
theorem tagWrite_foreign {s : Block} {r : Req} {q v : Nat} (p : Nat) (hq : reqHeld r = some q) (hv : v.testBit 8 = true)
    (h : (s.batches.find (v % 64)).any (fun b => decide (b.opener = r)) = false) :
    (s.tagWrite r p v).1 = s.refuse p 0x08 r (p * 4096 + 0x020) := by
  simp only [tagWrite, hq, hv, h, Bool.not_false, Bool.and_self, if_true]

/-- A lock of a page that is not locked and that no confirmed part targets acts, and leaves ENABLE as it stands. -/
theorem ctrlWrite_locks {s : Block} (r : Req) {page : Nat} (hl : s.on HDR.PAGE_CTRL.LOCK page 0 = false)
    (hprep : s.preparedOn page = false) (hen : s.rd HDR.PAGE_CTRL.ENABLE page 0 ≤ 1) :
    (s.ctrlWrite r page (2 + s.rd HDR.PAGE_CTRL.ENABLE page 0)).1 =
      (s.wr HDR.PAGE_CTRL.LOCK page 0 1).fire EV.MOD.PAGE_LOCKED := by
  have hlock : (2 + s.rd HDR.PAGE_CTRL.ENABLE page 0).testBit 1 = true := by
    rw [Nat.testBit_eq_decide_div_mod_eq, decide_eq_true_eq]; omega
  have henable : bitN (2 + s.rd HDR.PAGE_CTRL.ENABLE page 0) 0 =
      ((s.wr HDR.PAGE_CTRL.LOCK page 0 1).fire EV.MOD.PAGE_LOCKED).rd HDR.PAGE_CTRL.ENABLE page 0 := by
    rw [rd_fire _ _ _ _ _ (by decide), rd_wr_field _ _ _ _ _ _ _ _ (by decide), bitN]
    omega
  simp only [ctrlWrite, hlock, hprep, Bool.and_false, Bool.false_eq_true, if_false, if_true, lockPage, locked, hl]
  rw [if_pos henable]

/-! What a write of each register of the header does. -/

theorem headerWrite_ctrl (s : Block) (r : Req) (page v : Nat) :
    s.headerWrite r (page * 4096 + 0x008) v = s.ctrlWrite r page v := by
  simp [headerWrite, page_of_offset]

theorem headerWrite_evEnable (s : Block) (r : Req) (page v : Nat) :
    s.headerWrite r (page * 4096 + 0x014) v = (s.evEnable page v, 0) := by
  simp [headerWrite, page_of_offset]

theorem headerWrite_evClear (s : Block) (r : Req) (page v : Nat) :
    s.headerWrite r (page * 4096 + 0x01C) v = (s.evClear page v, 0) := by
  simp [headerWrite, page_of_offset]

theorem headerWrite_tag (s : Block) (r : Req) (page v : Nat) :
    s.headerWrite r (page * 4096 + 0x020) v = s.tagWrite r page v := by
  simp [headerWrite, page_of_offset]

theorem headerWrite_errClear (s : Block) (r : Req) (page : Nat) {v : Nat} (hv : v.testBit 31 = true) :
    s.headerWrite r (page * 4096 + 0x024) v = (s.errClear page, 0) := by
  simp [headerWrite, page_of_offset, hv]

end Block

/-- Settles O19: each command is one write of its header register. -/
theorem headerCommandsTakeEffect : Obligations.HeaderCommandsTakeEffect := by
  intro s r q page hq hp hm
  have hwr (o v : Nat) (ho : o < 0x40) := s.m.wreg_header r page.val o v hp
    (Block.mayWrite_header 0x020 o hp (by decide) ho hm) ho
  refine ⟨fun w htag => ?tag, ?errClear, fun hl hprep hen => ?lock⟩
  case tag =>
    refine answers_of_eq rfl ?_
    rw [hwr 0x020 _ (by decide), Block.headerWrite_tag, Block.tagWrite_own _ hq htag]
  case errClear =>
    refine answers_of_eq rfl ?_
    rw [hwr 0x024 _ (by decide), Block.headerWrite_errClear _ _ _ (by decide)]
    rfl
  case lock =>
    refine answers_of_eq rfl ?_
    rw [hwr 0x008 _ (by decide), Block.headerWrite_ctrl, Block.ctrlWrite_locks r hl hprep hen]

/-- Settles O20: a refusal writes the error record only, so the tag stands. -/
theorem foreignBatchTagRefused : Obligations.ForeignBatchTagRefused := by
  intro s r q page w hq hp hm hv hown
  refine ⟨_, rfl, ?refused, ?id, ?valid⟩
  all_goals simp only [s.m.wreg_header r page.val 0x020 _ hp hm (by decide), Block.headerWrite_tag,
    Block.tagWrite_foreign _ hq hv hown]
  case id => exact Block.rd_refuse _ _ _ _ _ _ _ _ (by decide)
  case valid => exact Block.rd_refuse _ _ _ _ _ _ _ _ (by decide)

/-! ### Lower halves of 64-bit quantities (R37) -/

/-- A lower half lies neither on page KEY nor on page REC, and on pages PTP and PERF it is none of the registers whose
read has an effect of its own. -/
theorem page_of_isLow {off : Nat} (h : isLow off = true) :
    off / 4096 ≠ 0x0C0 ∧ off / 4096 ≠ 0x0D1 ∧ (off / 4096 = 0x0A0 → off % 4096 = 0x064) ∧
      (off / 4096 = 0x0E0 → off % 4096 ≠ 0x06C) := by
  unfold isLow at h
  dsimp only at h
  split_ifs at h <;> simp only [Bool.or_eq_true, beq_iff_eq] at h <;> omega

/-- The lower halves of one page leave the same remainder at 8; page MOD alone has one of either kind. -/
theorem mod_eight_of_isLow {off : Nat} (h : isLow off = true) :
    (off / 4096 = 0x000 ∧ (off % 4096 = 0x04C ∨ off % 4096 = 0x068)) ∨ (off / 4096 ≠ 0x000 ∧ off % 8 =
      if off / 4096 = 0x002 ∨ off / 4096 / 16 = 0x002 ∨ off / 4096 = 0x05C ∨ off / 4096 = 0x0A1 then 0 else 4) := by
  unfold isLow at h
  dsimp only at h
  split_ifs at h <;> simp only [Bool.or_eq_true, beq_iff_eq] at h <;> split_ifs <;> omega

/-- No offset is both an upper and a lower half: no two lower halves of a page lie 4 apart. -/
theorem isHigh_of_isLow {off : Nat} (h : isLow off = true) : isHigh off = false := by
  by_contra hhigh
  simp only [isHigh, Bool.not_eq_false, Bool.and_eq_true, decide_eq_true_eq] at hhigh
  obtain ⟨hge, hlow⟩ := hhigh
  have hpage : (off - 4) / 4096 = off / 4096 := by omega
  have hhere := mod_eight_of_isLow h
  have hbelow := mod_eight_of_isLow hlow
  rw [hpage] at hbelow
  split_ifs at hhere hbelow <;> omega

namespace Block

/-! ### Register accesses (R36, R37) -/

/-- The module after what a read of a lower half pops (R242). -/
def lowPopped (s : Block) (r : Req) (off : Nat) : Block :=
  if off = 0x05C058 then s.capPop (s.own CAP.CAP_SEL.CH 0 r) else s

/-- A read of a lower half that the requester may select gives its value, and keeps the upper half of that moment. -/
theorem readReg_low {s : Block} {r : Req} {off : Nat} (h : isLow off = true) (hsel : s.selOk r .read off = true) :
    s.readReg r off =
      (((s.lowPopped r off).wr HID.SNAPH off (holdKey r) ((s.lowPopped r off).regVal r (off + 4))).wr HID.SNAPHV off
        (holdKey r) 1, 0, s.regVal r off) := by
  obtain ⟨hkey, hrec, hptp, hperf⟩ := page_of_isLow h
  have hdenied : s.recDenied r off = false := by
    have hrange : (decide (0x0D1080 ≤ off) && decide (off < 0x0D10C0)) = false := by
      simp only [Bool.and_eq_false_iff, decide_eq_false_iff_not]; omega
    simp only [recDenied, hrange, Bool.false_and]
  have hout : off ≠ 0x0C0058 := by omega
  have hsmp : off ≠ 0x0E006C := by omega
  have hns : off ≠ 0x0A0054 := by omega
  have htime : ¬ (0x0A0058 ≤ off ∧ off ≤ 0x0A0060) := by omega
  have hvalue : s.readValue r off = s.regVal r off := by
    rw [readValue, if_neg (by simp [isHigh_of_isLow h]), if_neg fun hc => htime ⟨hc.1, hc.2.1⟩]
  simp only [readReg, hsel, hdenied, hvalue, readEffect, h, hout, hsmp, hns, htime, lowPopped, Bool.not_true, Bool.or_false,
    Bool.false_eq_true, if_false, if_true]

/-- An access of an allowed width and alignment is the write itself. -/
theorem regWriteAcc_allowed {s : Block} {r : Req} {off size v : Nat} (h : widthCode off size = 0) :
    s.regWriteAcc r off size v = s.regWrite r off v := by
  simp only [regWriteAcc, h, ne_eq, not_true_eq_false, if_false]

/-- An access of another width or alignment, at a register that stages nothing, is refused. -/
theorem regWriteAcc_refused {s : Block} {r : Req} {off size v : Nat} (h : widthCode off size ≠ 0)
    (hacc : hasAcc (regAt (off / 4 * 4)).2 .rws = false) :
    (s.regWriteAcc r off size v).1 = s.refuse (off / 4096) (widthCode off size) r off := by
  simp only [regWriteAcc, if_pos h, hacc, Bool.false_eq_true, if_false]

theorem widthCode_word {off : Nat} (h : off % 4 = 0) : widthCode off 4 = 0 := by
  simp only [widthCode, h, ne_eq, not_true_eq_false, if_false]

/-- What a write of a register does to the batches is what its staging does: a refusal changes the cells only. -/
theorem stageAll_batches (s : Block) (r : Req) (off : Nat) (l : List (Target × Nat)) :
    (s.stageAll r off l).1.batches = (s.stageFor r l 0 none).1.batches := by
  unfold stageAll
  split
  next s1 hs => rw [hs]
  next s1 c _ hs => rw [hs]; exact (sameBut_errR ..).batches

/-- An untagged write of one entry, past every check, is REQUESTED in a batch that the module opens for it. -/
theorem stagedAt_opens {s : Block} {r : Req} {off v id : Nat} {x : Target × Nat}
    (hx : s.stageList r off (s.selAt r off) v = [x]) {a : Block} (ha : a = s.wr HID.HELDHV off (holdKey r) 0)
    (htag : a.tagNow r = none) (hend : a.own HDR.BATCH_TAG.ENDED 0 r ≠ 1) (hid : a.lowestId = some id)
    (hcode : a.singleCode (a.ownBatch r [⟨x.1, x.2, r, 0, none⟩]) = 0) :
    (s.stagedAt r off v).batches.find id = some (a.ownBatch r [⟨x.1, x.2, r, 0, none⟩]) := by
  rw [stagedAt, hx, ← ha, stageAll_batches, stageFor_untagged htag]
  exact (stageSingle_opens hend hid hcode).2

end Block

/-- A register write of an allowed width and alignment is the requester's write of that register. -/
theorem exec_registerWrite {off : Fin 16777216} {size : Nat} (h : Block.widthCode off.val size = 0) (s : State) (r : Req)
    (w : Word) : exec (.registerWrite r off size w) s = .next { s with m := s.m.wreg r off.val w.toNat } := by
  rw [exec, execRegisterWrite]
  simp only [Block.regWriteAcc_allowed h, Block.wreg]

/-- A word access of a header register at its own offset is the header's rule. -/
theorem answers_headerWrite {s : State} {r : Req} {off : Fin 16777216} {page o : Nat} {w : Word} {b : Block}
    (hp : (pageKind page).isNone = false) (hm : s.m.mayWrite r (page * 4096 + o) = true)
    (hoff : off.val = page * 4096 + o) (ho : o < 0x40) (halign : o % 4 = 0)
    (h : (s.m.headerWrite r (page * 4096 + o) w.toNat).1 = b) : Answers (.registerWrite r off 4 w) s b := by
  have hwidth : Block.widthCode off.val 4 = 0 := Block.widthCode_word (by omega)
  refine answers_of_eq (exec_registerWrite hwidth s r w) ?_
  rw [hoff, s.m.wreg_header r page o _ hp hm ho, h]

/-- Settles O24: an access of an allowed form is one register write, and a read of a lower half one register read. -/
theorem registerAccessesComplete : Obligations.RegisterAccessesComplete := by
  intro s r off size w
  refine ⟨fun q id x hq hwidth hst hk ho hl hr hw hc hx htag hend hcode hid => ?staged, fun page hp hm hoff => ?evEnable,
    fun page hp hm hoff => ?evClear, fun hlive hwidth => ?write, fun hlive hwidth hacc => ?refused,
    fun hlive hlow hsel => ?low⟩
  case staged =>
    have hstaged := s.m.wreg_staged r q off.val w.toNat hq hst hk (Nat.not_lt.2 ho) hl hr hw (.inl hc)
    refine ⟨_, exec_registerWrite hwidth s r w, rfl, ?_⟩
    rw [hstaged]
    exact Block.stagedAt_opens hx rfl htag hend hid hcode
  case evEnable => exact answers_headerWrite hp hm hoff (by decide) rfl (by rw [Block.headerWrite_evEnable])
  case evClear => exact answers_headerWrite hp hm hoff (by decide) rfl (by rw [Block.headerWrite_evClear])
  case write => exact answers_of_eq (exec_registerWrite hwidth s r w) (s.m.acc_live r _ hlive)
  case refused => exact answers_of_eq rfl ((s.m.acc_live r _ hlive).trans (Block.regWriteAcc_refused hwidth hacc))
  case low =>
    refine answers_of_eq (by rw [exec, execHalfLowRead, if_pos hlow]) ?_
    rw [Block.rreg, s.m.acc_live r _ hlive, Block.readReg_low hlow hsel]
    rfl

end Sys2Proof.Machine
end

section
/-!
The statements of the engines' family, the instruction word first (R74 to R76). An opcode and its operation, and an
argument and its bits under a form, determine each other; a word is an opcode above an argument's 25 bits.
-/
namespace Sys2Proof.Machine

/-! ### Opcodes (R76) -/

theorem NOp.ofCode_code (op : NOp) : NOp.ofCode op.code = some op := by cases op <;> rfl

theorem NOp.code_lt (op : NOp) : op.code < 128 := by cases op <;> decide

theorem NOp.code_of_ofCode {c : Nat} {op : NOp} (h : NOp.ofCode c = some op) : op.code = c := by
  unfold NOp.ofCode at h
  split at h <;> cases h
  all_goals rfl

/-! ### Arguments (R74) -/

theorem NArg.bits_lt (a : NArg) : a.bits < 33554432 := by
  cases a <;> simp only [NArg.bits] <;> omega

theorem finMod_eq {n v : Nat} (x : Fin n) (h0 : 0 < n) (h : v % n = x.val) : finMod n v h0 = x := Fin.ext h

/-- The bits of an argument of a form are read back as the argument. -/
theorem nalArg_bits : ∀ {a : NArg} {f : NForm}, a.hasForm f = true → nalArg f a.bits = some a
  | .none, .none, _ => rfl
  | .tgt t, .tgt, _ => by
    rw [NArg.bits, nalArg, if_pos t.isLt, finMod_eq t _ (by omega)]
  | .xtgt n t, .xtgt, _ => by
    rw [NArg.bits, nalArg, if_pos (by omega), finMod_eq n _ (by omega), finMod_eq t _ (by omega)]
  | .dir ar a, .mem, _ => by
    rw [NArg.bits, nalArg, if_pos (by omega), finMod_eq ar _ (by omega), finMod_eq a _ (by omega)]
  | .ind ar n d, .mem, _ => by
    rw [NArg.bits, nalArg, if_neg (by omega), finMod_eq ar _ (by omega), finMod_eq n _ (by omega),
      finMod_eq d _ (by omega)]
  | .imm v, .imm, _ => by
    rw [NArg.bits, nalArg, if_pos v.isLt, finMod_eq v _ (by omega)]
  | .imm10 v, .imm10, _ => by
    rw [NArg.bits, nalArg, if_pos v.isLt, finMod_eq v _ (by omega)]
  | .cnt n, .cnt, _ => by
    rw [NArg.bits, nalArg, if_pos n.isLt, finMod_eq n _ (by omega)]
  | .ximm n v, .ximm, _ => by
    rw [NArg.bits, nalArg, if_pos (by omega), finMod_eq n _ (by omega), finMod_eq v _ (by omega)]
  | .xreg n, .xreg, _ => by
    rw [NArg.bits, nalArg, if_pos (by omega), finMod_eq n _ (by omega)]

/-- What bits are read as has the form, and has those bits. -/
theorem bits_of_nalArg {f : NForm} {b : Nat} {a : NArg} (hb : b < 33554432) (h : nalArg f b = some a) :
    a.hasForm f = true ∧ a.bits = b := by
  cases f
  case mem =>
    rw [nalArg] at h
    split at h
    all_goals
      obtain rfl := Option.some.inj h
      refine ⟨rfl, ?_⟩
      simp only [NArg.bits, finMod]
      omega
  all_goals
    obtain ⟨hzero, h⟩ := Option.ite_none_right_eq_some.1 h
    obtain rfl := Option.some.inj h
    refine ⟨rfl, ?_⟩
    simp only [NArg.bits, finMod]
    omega

/-! ### Words -/

theorem nalDecode_of_parts {w : Nat} {op : NOp} {a : NArg} (hop : NOp.ofCode (w / 33554432 % 128) = some op)
    (ha : nalArg op.form (w % 33554432) = some a) : nalDecode w = some ⟨op, a⟩ := by
  simp only [nalDecode, hop, ha, Option.map_some]

theorem NIns.encode_code (i : NIns) : i.encode / 33554432 % 128 = i.op.code := by
  have hcode := i.op.code_lt
  have hbits := i.arg.bits_lt
  rw [NIns.encode]
  omega

theorem NIns.encode_bits (i : NIns) : i.encode % 33554432 = i.arg.bits := by
  have hbits := i.arg.bits_lt
  rw [NIns.encode]
  omega

/-- Settles O7: the opcode and the argument's bits are read back, each from its own part of the word. -/
theorem naltinDecodeOfEncode : Obligations.NaltinDecodeOfEncode := fun i hwf =>
  nalDecode_of_parts (by rw [i.encode_code, NOp.ofCode_code]) (by rw [i.encode_bits, nalArg_bits hwf])

/-- Settles O8: the word's two parts are those of the instruction that they are read as. -/
theorem naltinEncodeOfDecode : Obligations.NaltinEncodeOfDecode := by
  intro w i hw h
  unfold nalDecode at h
  split at h
  next => cases h
  next op hop =>
    obtain ⟨a, ha, rfl⟩ := Option.map_eq_some_iff.1 h
    obtain ⟨hform, hbits⟩ := bits_of_nalArg (Nat.mod_lt _ (by decide)) ha
    refine ⟨hform, ?_⟩
    rw [NIns.encode, NOp.code_of_ofCode hop, hbits]
    omega

/-- Settles O9: each word is decoded. -/
theorem naltinWords : Obligations.NaltinWords := by
  unfold Obligations.NaltinWords
  decide

end Sys2Proof.Machine
end

section
/-!
The Naltin instructions. An operation that completes does so in one of two ways, `Run.done` or `Run.jump`, so each law is
the equation that brings the operation's meaning to one of them; operands come first, as they are read within their
window.
-/
namespace Sys2Proof.Machine

/-! ### Operands within their window (R70 to R73, R76, R91) -/

namespace Run

theorem bounded_within {r : Run} {u : NUnit} (h : r.ea < r.opWin.cap u) (k : NOut) : r.bounded u k = k := if_pos h

/-- A read of a point that is not valid fails: it reads 0, and sets PF (R88, R91). -/
theorem pRead_invalid {r : Run} (h : r.pValid = false) (bit : Bool) (k : Run → Nat → NOut) :
    r.pRead bit k = k (r.set r.c.setPf) 0 := by
  rw [pRead, h]
  rfl

theorem bitIs_memory {r : Run} (h : r.ea < r.opWin.cap (r.unit true)) (ha : r.area ≤ 4) :
    r.bitIs r ((r.word (r.ea / 32)).testBit (r.ea % 32)) := by
  intro k
  rw [withBit, bounded_within h]
  split
  case h_4 => rfl
  all_goals omega

theorem bitIs_timer {r : Run} (h : r.ea < r.opWin.cap (r.unit true)) (ha : r.area = 5) :
    r.bitIs r ((r.word (2 * r.ea + 1)).testBit 29) := by
  intro k
  simp only [withBit, bounded_within h, ha]

theorem bitIs_counter {r : Run} (h : r.ea < r.opWin.cap (r.unit true)) (ha : r.area = 6) :
    r.bitIs r (counterQ (r.word (2 * r.ea)) (r.word (2 * r.ea + 1))) := by
  intro k
  simp only [withBit, bounded_within h, ha]

theorem bitIs_invalidPoint {r : Run} (h : r.ea < r.opWin.cap (r.unit true)) (ha : r.area = 7) (hv : r.pValid = false) :
    r.bitIs (r.set r.c.setPf) false := by
  intro k
  simp only [withBit, bounded_within h, ha, pRead_invalid hv]
  rfl

theorem wordIs_memory {r : Run} (h : r.ea < r.opWin.cap (r.unit false)) (ha : r.area ≤ 4) :
    r.wordIs r (BitVec.ofNat 32 (r.word r.ea)) := by
  intro k
  rw [withWord, bounded_within h]
  split
  case h_2 => rfl
  case h_1 => omega

theorem wordIs_invalidPoint {r : Run} (h : r.ea < r.opWin.cap (r.unit false)) (ha : r.area = 7)
    (hv : r.pValid = false) : r.wordIs (r.set r.c.setPf) 0 := by
  intro k
  simp only [withWord, bounded_within h, ha, pRead_invalid hv]
  rfl

end Run

/-- Settles O58: by the operand's area. -/
theorem operandsAreReadInTheirWindow : Obligations.OperandsAreReadInTheirWindow := fun _ =>
  ⟨fun h => ⟨Run.bitIs_memory h, Run.bitIs_timer h, Run.bitIs_counter h, Run.bitIs_invalidPoint h⟩,
    fun h => ⟨Run.wordIs_memory h, Run.wordIs_invalidPoint h⟩⟩

/-! ### The register and immediate forms (R64, R74, R76, R79, R80) -/

/-! The fields of an argument, as an operation reads them. -/

theorem Run.imm_eq {r : Run} {v : Fin 4194304} (h : r.ins.arg = .imm v) : r.imm = sext22 v.val := by simp only [Run.imm, h]

theorem Run.imm10_eq {r : Run} {v : Fin 1024} (h : r.ins.arg = .imm10 v) : r.imm10 = BitVec.ofNat 32 v.val := by
  simp only [Run.imm10, h]

theorem Run.count_eq {r : Run} {n : Fin 32} (h : r.ins.arg = .cnt n) : r.count = n.val := by simp only [Run.count, h]

theorem Run.imm_eq_ximm {r : Run} {n : Fin 4} {v : Fin 4194304} (h : r.ins.arg = .ximm n v) : r.imm = sext22 v.val := by
  simp only [Run.imm, h]

theorem Run.reg_eq_ximm {r : Run} {n : Fin 4} {v : Fin 4194304} (h : r.ins.arg = .ximm n v) : r.reg = n := by
  simp only [Run.reg, h]

theorem Run.reg_eq_xreg {r : Run} {n : Fin 4} (h : r.ins.arg = .xreg n) : r.reg = n := by simp only [Run.reg, h]

theorem Run.reg_eq_xtgt {r : Run} {n : Fin 4} {t : Fin 16384} (h : r.ins.arg = .xtgt n t) : r.reg = n := by
  simp only [Run.reg, h]

theorem Run.target_eq {r : Run} {t : Fin 16384} (h : r.ins.arg = .tgt t) : r.target = t.val := by
  simp only [Run.target, h]

theorem Run.target_eq_xtgt {r : Run} {n : Fin 4} {t : Fin 16384} (h : r.ins.arg = .xtgt n t) : r.target = t.val := by
  simp only [Run.target, h]

section
variable {mk : Fin 16 → Ecc → Instr} {op : NOp} {f : Run → NOut}

/-- The law of an operation without an argument, from what it does of any run. -/
theorem regLaw_of {g : Scan → Scan} (hx : ∀ e ecc (s : State), exec (mk e ecc) s = .next { s with m := s.m.issue e ecc op f })
    (hf : ∀ r : Run, f r = (r.set (g r.c)).done 1) (hg : ∀ c, (g c).pc = c.pc) : RegLaw mk op g :=
  argLaw_of hx (fun r _ _ => hf r) fun _ => hg

/-- The law of a bit instruction, from what it does of its operand bit. -/
theorem bitLaw_of {g : Bool → Bool → Bool}
    (hx : ∀ e ecc (s : State), exec (mk e ecc) s = .next { s with m := s.m.issue e ecc op f })
    (hf : ∀ r : Run, f r = r.withBit fun r1 b => (r1.set (r1.c.setLb (g r1.c.lb b))).done 1) : BitLaw mk op g :=
  fun _ _ _ _ _ _ _ _ h ho he hb => done_law hx h ho he ((hf _).trans (hb _)) rfl

/-- The law of a word instruction, from what it does of its operand word. -/
theorem wordLaw_of {n : Nat} {g : Scan → Word → Scan}
    (hx : ∀ e ecc (s : State), exec (mk e ecc) s = .next { s with m := s.m.issue e ecc op f })
    (hf : ∀ r : Run, f r = r.withWord fun r1 w => (r1.set (g r1.c w)).done n) (hg : ∀ c w, (g c w).pc = c.pc) :
    WordLaw mk op n g :=
  fun _ _ _ _ _ _ _ _ h ho he hw => done_law hx h ho he ((hf _).trans (hw _)) (hg _ _)

variable {s : State} {e : Fin 16} {ecc : Ecc} {j : Fin 8} {c0 : Scan} {i : NIns}

/-- An operation that goes on with a scan of the same PC completes with it, and leaves the benches alone. -/
theorem completes_done {c : Scan} {n : Nat}
    (hx : ∀ e ecc (s : State), exec (mk e ecc) s = .next { s with m := s.m.issue e ecc op f })
    (h : s.m.issues e j c0 i = true) (ho : i.op = op) (he : spares ecc i = true)
    (hf : f (s.m.runOf e ecc j c0 i) = ((s.m.runOf e ecc j c0 i).set c).done n)
    (hpc : c.pc = (s.m.waitOver e.val c0).2.pc) :
    Completes (mk e ecc) s e j (c.after (s.m.waitOver e.val c0).2.succ n) s.m.bench :=
  runOf_bench s.m e ecc j c0 i ▸ done_law hx h ho he hf hpc

/-- An operation that jumps completes with the scan that it leaves, and leaves the benches alone. -/
theorem completes_jump {c : Scan} {n t : Nat}
    (hx : ∀ e ecc (s : State), exec (mk e ecc) s = .next { s with m := s.m.issue e ecc op f })
    (h : s.m.issues e j c0 i = true) (ho : i.op = op) (he : spares ecc i = true)
    (hf : f (s.m.runOf e ecc j c0 i) = ((s.m.runOf e ecc j c0 i).set c).jump n t) :
    Completes (mk e ecc) s e j (c.after t n) s.m.bench :=
  runOf_bench s.m e ecc j c0 i ▸ jump_law hx h ho he hf

end

theorem divW_pc (c : Scan) (w : Word) : (c.divW w).pc = c.pc := by
  unfold Scan.divW
  split <;> rfl

/-- Settles O10: each operation goes on with the scan that it makes. -/
theorem registerFormsComplete : Obligations.RegisterFormsComplete := by
  refine ⟨⟨?nop, ?levt, ?ldtk, ?ldst, ?clst, ?notB, ?set1, ?clr1, ?neg⟩, ?ldi, ?addi, ?ldih, ?shl, ?shr, ?sar, ?ldxi,
    ?addxi, ?tax, ?txa⟩
  case ldi => exact argLaw_of (by intros; rfl) (fun r v h => by rw [Run.opLdi, Run.imm_eq h]) fun _ _ => rfl
  case addi => exact argLaw_of (by intros; rfl) (fun r v h => by rw [Run.opAddi, Run.imm_eq h]) fun _ _ => rfl
  case ldih => exact argLaw_of (by intros; rfl) (fun r v h => by rw [Run.opLdih, Run.imm10_eq h]) fun _ _ => rfl
  case shl => exact argLaw_of (by intros; rfl) (fun r n h => by rw [Run.opShl, Run.count_eq h]) fun _ _ => rfl
  case shr => exact argLaw_of (by intros; rfl) (fun r n h => by rw [Run.opShr, Run.count_eq h]) fun _ _ => rfl
  case sar => exact argLaw_of (by intros; rfl) (fun r n h => by rw [Run.opSar, Run.count_eq h]) fun _ _ => rfl
  case ldxi =>
    exact argLaw_of (by intros; rfl) (fun r x h => by rw [Run.opLdxi, Run.imm_eq_ximm h, Run.reg_eq_ximm h])
      fun _ _ => setX_pc ..
  case addxi =>
    exact argLaw_of (by intros; rfl) (fun r x h => by rw [Run.opAddxi, Run.imm_eq_ximm h, Run.reg_eq_ximm h])
      fun _ _ => setX_pc ..
  case tax =>
    exact argLaw_of (by intros; rfl) (fun r n h => by rw [Run.opTax, Run.reg_eq_xreg h]) fun _ _ => setX_pc ..
  case txa => exact argLaw_of (by intros; rfl) (fun r n h => by rw [Run.opTxa, Run.reg_eq_xreg h]) fun _ _ => rfl
  all_goals exact regLaw_of (by intros; rfl) (fun _ => rfl) fun _ => rfl

/-! ### Operands that are read (R73, R76, R79) -/

/-- Settles O11: each operation goes on with the scan that it makes of its operand. -/
theorem operandReadsComplete : Obligations.OperandReadsComplete := by
  refine ⟨⟨?ldb, ?ldbn, ?andb, ?andbn, ?orb, ?orbn, ?xorb⟩, ⟨?ldw, ?add, ?sub, ?mul, ?div, ?andw, ?orw, ?xorw, ?cmpeq,
    ?cmpne, ?cmplt, ?cmple, ?cmpgt, ?cmpge⟩,
    fun s e ecc j c0 a => ⟨fun h he hin => ?ldl, fun h he hin => ?andl, fun h he hin => ?orl⟩⟩
  case ldb | ldbn | andb | andbn | orb | orbn | xorb => exact bitLaw_of (by intros; rfl) fun _ => rfl
  case div => exact wordLaw_of (by intros; rfl) (fun _ => rfl) divW_pc
  case ldl | andl | orl => exact completes_done (by intros; rfl) h rfl he (Run.bounded_within hin _) rfl
  all_goals exact wordLaw_of (by intros; rfl) (fun _ => rfl) fun _ _ => rfl

/-! ### Jumps and the two stacks (R76 to R78) -/

/-- An instruction without an operand in memory runs unless its own word has a double error. -/
theorem spares_of_not_mem {ecc : Ecc} {i : NIns} (hu : ecc ≠ .uncorrectable) (hm : i.arg.isMem = false) :
    spares ecc i = true := by
  unfold spares
  split
  case h_1 => exact absurd rfl hu
  case h_2 | h_3 => simp_all [NArg.isMem]
  case h_4 => rfl

namespace Run

theorem branch_eq {r : Run} {t : Nat} (ht : r.target = t) (c : Bool) :
    r.branch c = if c then r.jump 2 t else r.done 1 := by rw [branch, ht]

theorem opDjnz_eq {r : Run} {n : Fin 4} {t : Fin 16384} (ha : r.ins.arg = .xtgt n t) :
    r.opDjnz = if r.c.x n - 1 ≠ 0 then (r.set (r.c.setX n (r.c.x n - 1))).jump 2 t.val
      else (r.set (r.c.setX n (r.c.x n - 1))).done 1 := by
  have ht (c : Scan) : (r.set c).target = t.val := target_eq_xtgt ha
  rw [opDjnz, reg_eq_xtgt ha, branch_eq (ht _)]
  simp only [bne_iff_ne]

theorem opCall_room {r : Run} {t : Fin 16384} (ht : r.ins.arg = .tgt t) (h : r.c.cstk.length < 16) :
    r.opCall = (r.set { r.c with cstk := r.c.succ :: r.c.cstk }).jump 2 t.val := by
  rw [opCall, if_neg (by omega), target_eq ht]
  rfl

theorem opCall_full {r : Run} (h : r.c.cstk.length = 16) : r.opCall = .fault r.s r.c 7 0 0 := if_pos (by omega)

theorem opRet_cons {r : Run} {t : Nat} {l : List Nat} (h : r.c.cstk = t :: l) :
    r.opRet = (r.set { r.c with cstk := l }).jump 2 t := by
  unfold opRet
  split <;> simp_all

theorem opRet_nil {r : Run} (h : r.c.cstk = []) : r.opRet = .fault r.s r.c 8 0 0 := by
  unfold opRet
  split <;> simp_all

theorem opPushb_room {r : Run} (h : r.c.bstk.length < 32) :
    r.opPushb = (r.set { r.c with bstk := r.c.lb :: r.c.bstk }).done 1 := if_neg (by omega)

theorem opPushb_full {r : Run} (h : r.c.bstk.length = 32) : r.opPushb = .fault r.s r.c 4 0 0 := if_pos (by omega)

theorem combine_cons {r : Run} {p : Bool} {l : List Bool} (h : r.c.bstk = p :: l) (f : Bool → Bool → Bool) :
    r.combine f = (r.set { r.c with lb := f p r.c.lb, bstk := l }).done 1 := by
  simp only [combine, Scan.popWith, h]

theorem combine_nil {r : Run} (h : r.c.bstk = []) (f : Bool → Bool → Bool) :
    r.combine f = .fault r.s r.c 5 0 0 := by
  simp only [combine, Scan.popWith, h]

theorem opEnd_left {r : Run} (h : r.c.bstk ≠ []) : r.opEnd = .fault r.s r.c 6 0 0 := if_pos h

end Run

section
variable {s : State} {e : Fin 16} {ecc : Ecc} {j : Fin 8} {c0 : Scan}

/-- CALL with room on the call stack. -/
theorem call_completes {t : Fin 16384} (hu : ecc ≠ .uncorrectable) (h : s.m.issues e j c0 ⟨.call, .tgt t⟩ = true)
    (hl : (s.m.waitOver e.val c0).2.cstk.length < 16) :
    Completes (.nCall e ecc) s e j
      (({ (s.m.waitOver e.val c0).2 with
        cstk := (s.m.waitOver e.val c0).2.succ :: (s.m.waitOver e.val c0).2.cstk } : Scan).after t.val 2) s.m.bench :=
  completes_jump (by intros; rfl) h rfl (spares_of_not_mem hu rfl) (Run.opCall_room rfl hl)

/-- RET with an index on the call stack. -/
theorem ret_completes {t : Nat} {l : List Nat} (hu : ecc ≠ .uncorrectable) (h : s.m.issues e j c0 ⟨.ret, .none⟩ = true)
    (hl : (s.m.waitOver e.val c0).2.cstk = t :: l) :
    Completes (.nRet e ecc) s e j (({ (s.m.waitOver e.val c0).2 with cstk := l } : Scan).after t 2) s.m.bench :=
  completes_jump (by intros; rfl) h rfl (spares_of_not_mem hu rfl) (Run.opRet_cons hl)

/-- DJNZ jumps while the index register does not reach 0. -/
theorem djnz_completes {n : Fin 4} {t : Fin 16384} (hu : ecc ≠ .uncorrectable)
    (h : s.m.issues e j c0 ⟨.djnz, .xtgt n t⟩ = true) :
    let c := (s.m.waitOver e.val c0).2
    let x := c.x n - 1
    Completes (.nDjnz e ecc) s e j (if x ≠ 0 then (c.setX n x).after t.val 2 else (c.setX n x).after c.succ 1)
      s.m.bench := by
  intro c x
  have he := spares_of_not_mem (i := ⟨.djnz, .xtgt n t⟩) hu rfl
  split
  next hx => exact completes_jump (by intros; rfl) h rfl he ((Run.opDjnz_eq rfl).trans (if_pos hx))
  next hx => exact completes_done (by intros; rfl) h rfl he ((Run.opDjnz_eq rfl).trans (if_neg hx)) (setX_pc ..)

/-- What a scan keeps of its registers where an instruction completes with one that differs in the call stack alone. -/
theorem keeps_of_completes {c : Instr} {c1 : Scan} {pc n : Nat} {l : List Nat} {mem : Memory}
    (h : Completes c s e j (({ c1 with cstk := l } : Scan).after pc n) mem) :
    ∃ t, exec c s = .next t ∧ ∃ d, t.m.scan e.val j.val = some d ∧ d.lb = c1.lb ∧ d.acc = c1.acc ∧ d.x0 = c1.x0 ∧
      d.x1 = c1.x1 ∧ d.x2 = c1.x2 ∧ d.x3 = c1.x3 ∧ d.bstk = c1.bstk := by
  obtain ⟨t, ht, _, hscan, _, _⟩ := h
  exact ⟨t, ht, _, hscan, rfl, rfl, rfl, rfl, rfl, rfl, rfl⟩

end

/-- Settles O12: each instruction goes on or jumps, with the stack that it leaves. -/
theorem controlAndStackInstructionsComplete : Obligations.ControlAndStackInstructionsComplete := by
  refine ⟨⟨?jmp, ?jb1, ?jb0, ?jz, ?jnz, fun s e ecc j c0 hu => ⟨fun n t h => djnz_completes hu h,
    fun t h hl => call_completes hu h hl, fun t l h hl => ret_completes hu h hl⟩⟩,
    fun s e ecc j c0 p l hu => ⟨fun h hl => ?pushb, fun h hl => ?ands, fun h hl => ?andns, fun h hl => ?ors,
      fun h hl => ?xors⟩⟩
  case jmp | jb1 | jb0 | jz | jnz =>
    exact jump_of (by intros; rfl) fun r t h => Run.branch_eq (Run.target_eq h) _
  case pushb =>
    exact completes_done (by intros; rfl) h rfl (spares_of_not_mem hu rfl) (Run.opPushb_room hl) rfl
  case ands | andns | ors | xors =>
    exact completes_done (by intros; rfl) h rfl (spares_of_not_mem hu rfl) (Run.combine_cons hl _) rfl

/-- Settles O13: beside the two faults, CALL and RET change PC, the call stack and the count of cycles alone. -/
theorem callAndRetOnTheCallStack : Obligations.CallAndRetOnTheCallStack := by
  intro s e ecc j c0 hu c keeps
  refine ⟨fun t h => ⟨fun hl => ?full, fun hl => keeps_of_completes (call_completes hu h hl)⟩,
    fun h => ⟨fun hl => ?empty, fun hl => ?ret⟩⟩
  case full => exact fault_law (by intros; rfl) h rfl (spares_of_not_mem hu rfl) (Run.opCall_full hl)
  case empty =>
    exact fault_law (by intros; rfl) h rfl (spares_of_not_mem hu rfl) (Run.opRet_nil (List.length_eq_zero_iff.1 hl))
  case ret =>
    obtain ⟨t, l, hstk⟩ := List.exists_cons_of_length_pos (Nat.pos_of_ne_zero hl)
    exact keeps_of_completes (ret_completes hu h hstk)

/-- Settles O14: each of them ends its issue in a fault, with the scan as it stood. -/
theorem branchStackFaults : Obligations.BranchStackFaults := by
  intro s e ecc j c0 hu c
  refine ⟨fun h hl => ?pushb, fun h hl => ?ands, fun h hl => ?andns, fun h hl => ?ors, fun h hl => ?xors,
    fun h hl => ?endS⟩
  case pushb => exact fault_law (by intros; rfl) h rfl (spares_of_not_mem hu rfl) (Run.opPushb_full hl)
  case ands | andns | ors | xors =>
    exact fault_law (by intros; rfl) h rfl (spares_of_not_mem hu rfl)
      (Run.combine_nil (List.length_eq_zero_iff.1 hl) _)
  case endS =>
    exact fault_law (by intros; rfl) h rfl (spares_of_not_mem hu rfl)
      (Run.opEnd_left fun hnil => hl (List.length_eq_zero_iff.2 hnil))

end Sys2Proof.Machine
end

section
/-!
What ends in a program fault before or instead of an instruction's own effect (R66, R75, R95), and the events and commands
of the engines and their tasks.
-/
namespace Sys2Proof.Machine

/-! ### Illegal words, unlisted areas and double errors (R66, R75, R95) -/

/-- A word decodes to nothing when no well-formed instruction makes it. -/
theorem nalDecode_eq_none_iff {w : Nat} (hw : w < 2 ^ 32) :
    nalDecode w = none ↔ ∀ i : NIns, i.wf = true → i.encode ≠ w := by
  constructor
  · rintro hnone i hwf rfl
    rw [naltinDecodeOfEncode i hwf] at hnone
    cases hnone
  · intro hno
    cases hdec : nalDecode w with
    | none => rfl
    | some i =>
      obtain ⟨hwf, henc⟩ := naltinEncodeOfDecode w i hw hdec
      exact absurd henc (hno i hwf)

/-- The command of an operation issues it, with the meaning of that operation. -/
theorem exec_naltinCommand (op : NOp) :
    ∃ f : Run → NOut, ∀ e ecc (s : State), exec (naltinCommand op e ecc) s = .next { s with m := s.m.issue e ecc op f } := by
  cases op <;> exact ⟨_, fun _ _ _ => rfl⟩

/-- Engine `e` fetches word `w` for scan `c` of slot `j`: it executes that scan and waits for nothing, and PC lies in the
slot's code (R66, R69, R96). -/
def Block.fetches (b : Block) (e : Fin 16) (j : Fin 8) (c : Scan) (w : Nat) : Prop :=
  b.running e = some (j, c) ∧ b.mayIssue e.val c = true ∧
    (b.waitOver e.val c).1.inCode e.val j.val (b.waitOver e.val c).2 = true ∧
    (b.waitOver e.val c).1.progWord e.val (b.waitOver e.val c).2.bank (b.waitOver e.val c).2.pc = w

namespace Block

section
variable {b : Block} {e : Fin 16} {ecc : Ecc} {j : Fin 8} {c : Scan} {w : Nat} {i : NIns}

theorem issueIllegal_faults (h : b.fetches e j c w) (hdec : nalDecode w = none) (hu : ecc ≠ .uncorrectable) :
    b.issueIllegal e ecc =
      ((b.waitOver e.val c).1.eccNote e.val ecc).faulted e.val j.val (b.waitOver e.val c).2 1 w 0 0 := by
  obtain ⟨hrun, hmay, hcode, rfl⟩ := h
  simp [issueIllegal, hrun, hmay, hcode, hdec, hu]

/-- A double error in the instruction's word is a fault, whatever the instruction is. -/
theorem issue_uncorrectable (h : b.fetches e j c w) (hdec : nalDecode w = some i) (f : Run → NOut) :
    b.issue e .uncorrectable i.op f =
      (b.runOf e .uncorrectable j c i).s.faulted e.val j.val (b.runOf e .uncorrectable j c i).c 0xC w 0 0 := by
  obtain ⟨hrun, hmay, hcode, rfl⟩ := h
  simp [issue, runOf, hrun, hmay, hcode, hdec]

theorem issue_unlistedArea (h : b.fetches e j c w) (hdec : nalDecode w = some i) (hu : ecc ≠ .uncorrectable)
    (ha : i.areaOk = false) (f : Run → NOut) :
    b.issue e ecc i.op f = (b.runOf e ecc j c i).s.faulted e.val j.val (b.runOf e ecc j c i).c 2 w
      ((b.runOf e ecc j c i).ea % 2 ^ 21) i.arg.area := by
  obtain ⟨hrun, hmay, hcode, rfl⟩ := h
  simp [issue, runOf, hrun, hmay, hcode, hdec, hu, ha, Run.area]

/-- Where the double error lies in a word that an operand reads, the outcome is that of `eccOperand`. -/
theorem issue_operand (h : b.fetches e j c w) (hdec : nalDecode w = some i) (ha : i.areaOk = true) (f : Run → NOut) :
    b.issue e .operand i.op f = (b.runOf e .operand j c i).s.outcome e.val j.val w (b.waitOver e.val c).2
      (eccOperand (b.runOf e .operand j c i) f) := by
  obtain ⟨hrun, hmay, hcode, rfl⟩ := h
  simp [issue, runOf, hrun, hmay, hcode, hdec, ha]

end

/-- A double error in an operand's word takes the place of the completion. -/
theorem eccOperand_faultAt {r : Run} {f : Run → NOut} {s : Block} {c : Scan} (hm : spares .operand r.ins = false)
    (hf : f r = .ok s c) : eccOperand r f = r.faultAt 0xC := by
  unfold spares at hm
  unfold eccOperand
  rw [hf]
  split <;> simp_all

end Block

/-- Settles O17: a word that is no instruction by the round trips; each fault by its own branch of the issue. -/
theorem illegalWordsFault : Obligations.IllegalWordsFault := by
  refine ⟨fun w hw => nalDecode_eq_none_iff hw, fun s e ecc j c0 hu hrun hmay hcode => ?_⟩
  have hfetch : s.m.fetches e j c0 _ := ⟨hrun, hmay, hcode, rfl⟩
  refine ⟨fun hdec => ?illegal, fun i hdec ha => ?area, fun i hdec => ?fetch, fun i hdec ha hm hop har hin => ?operand⟩
  case illegal => exact answers_of_eq rfl (Block.issueIllegal_faults hfetch hdec hu)
  case area =>
    obtain ⟨f, hx⟩ := exec_naltinCommand i.op
    exact answers_of_eq (hx e ecc s) (Block.issue_unlistedArea hfetch hdec hu ha f)
  case fetch =>
    obtain ⟨f, hx⟩ := exec_naltinCommand i.op
    exact answers_of_eq (hx e .uncorrectable s) (Block.issue_uncorrectable hfetch hdec f)
  case operand =>
    have hword := Run.wordIs_memory hin har
    obtain ⟨f, hx, b, c, hf⟩ : ∃ f, (∀ e ecc (s : State), exec (naltinCommand i.op e ecc) s =
        .next { s with m := s.m.issue e ecc i.op f }) ∧ ∃ b c, f (s.m.runOf e .operand j c0 i) = .ok b c := by
      rcases hop with hop | hop | hop <;> rw [hop] <;> exact ⟨_, fun _ _ _ => rfl, _, _, hword _⟩
    refine answers_of_eq (hx e .operand s) ((Block.issue_operand hfetch hdec ha f).trans ?_)
    rw [Block.eccOperand_faultAt hm hf]
    rfl

/-! ### Task events and the ends of stalls (R63, R91, R96, R115, R118, R133, R137) -/

namespace Block

theorem captureDone_captures {s : Block} {e j : Nat} {c : Scan} (hc : s.scan e j = some c) (hr : c.ready = false) :
    s.captureDone e j = ((s.makeReady e j).taskAlert TSK.TSK_ALERT.CAP_SLOW e j).perf 0x091 none 1 := by
  simp [captureDone, hc, hr]

/-- The watchdog of a scan that has overrun aborts it, at its tick or later. -/
theorem wdogExpire_aborts {s : Block} {e j n : Nat} (ho : s.overran e j = true) (hc : (s.scan e j).isSome = true)
    (hn : s.rd HID.WDOGAT e j ≤ n) : s.wdogExpire e j n = s.abortScan e j := by
  simp [wdogExpire, ho, hc, hn]

theorem progCrcDone_shows {s : Block} {e b : Nat} {q : Prog} (hr : s.on HID.CRCRUN e 0 = true)
    (hb : s.freeBank e = some b) (hq : s.prog e b = some q) :
    s.progCrcDone e = ((({ s with progs := s.progs.put (e * 2 + b) { q with crc := crc32c (s.bankBytes e b) 65536 } } :
      Block).wr ENG.ENG_PROG_CRC.CRC e 0 (crc32c (s.bankBytes e b) 65536)).wr HID.CRCRUN e 0 0).fire
        (EV.ENG.CRC_DONE e) := by
  simp [progCrcDone, hr, hb, hq]

/-- An engine that executes nothing takes the best of the scans that wait. -/
theorem scanStart_idle {s : Block} {e k : Nat} {c : Scan} (hrun : s.engRuns e = true)
    (hidle : s.on HID.EXECUTING e 0 = false) (hk : s.bestScan e (s.waitingScans e) = some k)
    (hc : s.scan e k = some c) : s.scanStart e = s.takeScan e k c := by
  simp [scanStart, hrun, hidle, hk, hc]

section
variable {s : Block} {e : Fin 16} {j : Fin 8} {c : Scan}

/-- The walk that the walker serves ends: its result stands for the instruction, and the walker goes on (R178). -/
theorem walkComplete_served {write : Bool} {r : Run} (ecc : Option (Fin 4)) (cyc : Nat)
    (hc : s.running e = some (j, c)) (hrun : s.engRuns e.val = true) (hst : s.rd ENG.ENG_STATE.STALL e.val 0 = 1)
    (hw : s.walkFirst = some e.val) (hp : s.pPending e j c = some (write, r)) :
    let r1 := (r.cost 0 5).cost 1 (min cyc 1280)
    let x := r1.s.pWalkFull e j write r.pAddr (s.scanGen c) (ecc.map fun n => n.val)
    s.walkComplete e ecc cyc = ((x.1.putScan e.val j.val { r1.c with walked := some x.2 }).wr
      ENG.ENG_STATE.STALL e.val 0 0).walkNext := by
  simp [walkComplete, hc, hrun, hst, hw, hp]

/-- A direct read that has no answer is lost at the end of ENG_PTIMEOUT (R91). -/
theorem pReadTimeout_lost (hc : s.running e = some (j, c)) (hrun : s.engRuns e.val = true)
    (hst : s.rd ENG.ENG_STATE.STALL e.val 0 = 2) (ha : c.ans = none) (hl : c.walked ≠ some .lost) :
    let n := 800 * s.rd ENG.ENG_PTIMEOUT.TIMEOUT e.val 0
    s.pReadTimeout e = (((s.dropAsks e.val j.val).cost e.val 2 n).putScan e.val j.val
      { c.spend n with walked := some .lost, wait := 0, stalls := c.stalls ++ [(2, n)] }).wr
        ENG.ENG_STATE.STALL e.val 0 0 := by
  simp [pReadTimeout, hc, hrun, hst, ha, hl]

end
end Block

/-- Settles O25: each event's own rule, under the conditions on the state that it asks for. -/
theorem taskEventsAndStallsTakeEffect : Obligations.TaskEventsAndStallsTakeEffect := by
  refine ⟨fun s e j hsup => ⟨fun c hc hr => ?capture, fun hisl ho hc hn => ?wdog, fun hread => ?snapshot,
    fun b q hr hb hq => ?crc, fun k c hisl hidle hk hc => ?start⟩,
    fun s e j c hc hrun => ⟨fun ecc cyc write r hst hw hp => ?walk, fun hst ha hl => ?timeout⟩⟩
  case capture => exact answers_onSup rfl hsup (Block.captureDone_captures hc hr)
  case wdog =>
    have hrun : s.m.engRuns e.val = true := by rw [Block.engRuns, hsup, hisl]; rfl
    exact answers_of_eq rfl ((if_pos hrun).trans (Block.wdogExpire_aborts ho hc hn))
  case snapshot => exact answers_onSup rfl hsup (if_pos hread)
  case crc => exact answers_onSup rfl hsup (Block.progCrcDone_shows hr hb hq)
  case start =>
    have hrun : s.m.engRuns e.val = true := by rw [Block.engRuns, hsup, hisl]; rfl
    exact answers_of_eq rfl (Block.scanStart_idle hrun hidle hk hc)
  case walk => exact answers_of_eq rfl (Block.walkComplete_served ecc cyc hc hrun hst hw hp)
  case timeout => exact answers_of_eq rfl (Block.pReadTimeout_lost hc hrun hst ha hl)

/-! ### Commands of an engine's pages (R95, R99, R100, R120) -/

/-- A register at an offset past the header on a page of the map, that is not read-only. -/
def isWritableReg (off : Nat) : Bool :=
  decide (0x040 ≤ off % 4096) && !(regAt off).2.isEmpty && !allRo (regAt off).2

namespace Block

/-- A command register that a requester may write takes the effect of the rule that its page gives it. -/
theorem wreg_ruled {s : Block} {r : Req} {off v : Nat} {y : Block × Nat} (hm : s.mayWrite r off = true)
    (ho : isWritableReg off = true) (hc : s.cmdWrite r off v = some y) : s.wreg r off v = y.1 := by
  simp only [isWritableReg, Bool.and_eq_true, decide_eq_true_eq, Bool.not_eq_true'] at ho
  obtain ⟨⟨hpast, hne⟩, hro⟩ := ho
  exact s.wreg_cmd r off v y hm (pageKind_of_regAt hne) (Nat.not_lt.2 hpast) hne hro hc

section
variable {s : Block} {r : Req} {e : Fin 16}

/-- The command registers of an engine's page below are its own. -/
theorem engCmd_regAt (e : Fin 16) : ∀ o ∈ [0x050, 0x05C, 0x064],
    isWritableReg (0x010000 + o + 0x1000 * e.val) = true ∧ (regAt (0x010000 + o + 0x1000 * e.val)).1 = e.val := by
  revert e; decide

theorem tskCmd_regAt (e : Fin 16) :
    isWritableReg (0x020054 + 0x1000 * e.val) = true ∧ (regAt (0x020054 + 0x1000 * e.val)).1 = e.val := by
  revert e; decide

/-- A write of ENG_FAULT, ENG_LOAD or AREA_WIN (R95, R99, R100). -/
theorem wreg_engCmd {o : Nat} (v : Nat) (ho : o ∈ [0x050, 0x05C, 0x064])
    (hm : s.mayWrite r (0x010000 + o + 0x1000 * e.val) = true) :
    s.wreg r (0x010000 + o + 0x1000 * e.val) v =
      if o = 0x050 then (if v.testBit 31 then s.engFaultClear e.val else s)
      else if o = 0x05C then (if v.testBit 31 then s.engPeakClr e.val else s)
      else (s.areaWinWrite r e.val (v % 2048) (bits v 23 12)).1 := by
  obtain ⟨hwr, hat⟩ := engCmd_regAt e o ho
  simp only [List.mem_cons, List.not_mem_nil, or_false] at ho
  have hp : (0x010000 + o + 0x1000 * e.val) / 4096 = 0x010 + e.val := by omega
  have hoff : (0x010000 + o + 0x1000 * e.val) % 4096 = o := by omega
  have he : 0x010 ≤ 0x010 + e.val ∧ 0x010 + e.val < 0x020 := by omega
  have h0 : 0x010 + e.val ≠ 0x000 := by omega
  have h2 : 0x010 + e.val ≠ 0x002 := by omega
  have hc (y : Block × Nat) := wreg_ruled (v := v) (y := y) hm hwr
  simp only [cmdWrite, hp, hoff, hat, if_neg h0, if_neg h2, if_pos he] at hc
  rcases ho with rfl | rfl | rfl <;> exact hc _ rfl

/-- A write of TSK_CMD (R120, R144). -/
theorem wreg_tskCmd (v : Nat) (hm : s.mayWrite r (0x020054 + 0x1000 * e.val) = true) :
    s.wreg r (0x020054 + 0x1000 * e.val) v = (s.tskCmdWrite r e.val v).1 := by
  obtain ⟨hwr, hat⟩ := tskCmd_regAt e
  have hp : (0x020054 + 0x1000 * e.val) / 4096 = 0x020 + e.val := by omega
  have ho : (0x020054 + 0x1000 * e.val) % 4096 = 0x054 := by omega
  have he : ¬ (0x010 ≤ 0x020 + e.val ∧ 0x020 + e.val < 0x020) := by omega
  have ht : 0x020 ≤ 0x020 + e.val ∧ 0x020 + e.val < 0x030 := by omega
  have h0 : 0x020 + e.val ≠ 0x000 := by omega
  have h2 : 0x020 + e.val ≠ 0x002 := by omega
  refine wreg_ruled hm hwr ?_
  simp only [cmdWrite, hp, ho, hat, if_neg h0, if_neg h2, if_neg he, if_pos ht, if_true]

theorem progOpenSet_opens (hs : s.on ENG.ENG_CTRL.SWAP e.val 0 = false)
    (hpend : s.on ENG.ENG_STATE.SWAP_PEND e.val 0 = false) :
    s.progOpenSet r e.val =
      (((s.wr ENG.ENG_CTRL.PROG_OPEN e.val 0 1).wr HID.PROGCOPIED e.val 0 0).wrap HID.PROGNO e.val 0 1, 0) := by
  rw [progOpenSet, hs, hpend]
  rfl

/-- A window is set in the bank that no slot has adopted, while that bank is open (R99). -/
theorem areaWinWrite_sets {base lines : Nat} (hfree : s.freeBank e.val = some (s.own ENG.AREA_SEL.BANK e.val r))
    (hopen : s.on ENG.ENG_CTRL.PROG_OPEN e.val 0 = true) (hl : lines ≤ 2048) :
    let k := winIdx (s.own ENG.AREA_SEL.SLOT e.val r) (s.own ENG.AREA_SEL.AREA e.val r) (s.own ENG.AREA_SEL.BANK e.val r)
    s.areaWinWrite r e.val base lines =
      ((s.wr ENG.AREA_WIN.BASE e.val k base).wr ENG.AREA_WIN.LINES e.val k lines, 0) := by
  have hopen : s.rd ENG.ENG_CTRL.PROG_OPEN e.val 0 ≠ 0 := by simpa [on] using hopen
  simp [areaWinWrite, hfree, hopen, Nat.not_lt.2 hl]

/-- RESUME of a STOPPED slot by a session that may reach it (R120). -/
theorem tskResume_pends {n : Fin 64} (hcfg : s.holds (.ses n) .configure = true)
    (htin : s.tinOf (.ses n) = 0 ∨
      s.tinOf (.ses n) = s.rd TSK.TSK_CFG.TIN e.val (s.own TSK.SLOT_SEL.SLOT e.val (.ses n)))
    (hst : s.rd TSK.TSK_STAT.STATE e.val (s.own TSK.SLOT_SEL.SLOT e.val (.ses n)) = 7) :
    s.tskResume (.ses n) e.val = (s.wr HID.RESUMEPEND e.val (s.own TSK.SLOT_SEL.SLOT e.val (.ses n)) 1, 0) := by
  have hok : (s.tinOf (.ses n) == 0 ||
      s.tinOf (.ses n) == s.rd TSK.TSK_CFG.TIN e.val (s.own TSK.SLOT_SEL.SLOT e.val (.ses n))) = true := by
    simpa using htin
  simp [tskResume, hcfg, hok, hst]

end
end Block

/-- Settles O26: each command is an access with its rule, or a write of its command register. -/
theorem engineCommandsTakeEffect : Obligations.EngineCommandsTakeEffect := by
  intro s r e
  refine ⟨fun hl hclosed hs hpend => ?progSet, fun l hl hopen => ?progClear, fun w hm hfree hopen hw => ?areaWin,
    fun hm => ?fault, fun hm => ?peak, fun hm => ?execClr, fun n hr hm hcfg => ?resume⟩
  case progSet =>
    refine answers_of_eq rfl ((s.m.acc_live r _ hl).trans ?_)
    rw [hclosed, Block.progOpenSet_opens hs hpend]
    rfl
  case progClear => exact answers_of_eq rfl ((s.m.acc_live r _ hl).trans (if_pos hopen))
  case areaWin =>
    refine answers_of_eq rfl ((Block.wreg_engCmd (o := 0x064) w.toNat (by decide) hm).trans ?_)
    exact congrArg Prod.fst (Block.areaWinWrite_sets hfree hopen hw)
  case fault => exact answers_of_eq rfl (Block.wreg_engCmd (o := 0x050) (2 ^ 31) (by decide) hm)
  case peak => exact answers_of_eq rfl (Block.wreg_engCmd (o := 0x05C) (2 ^ 31) (by decide) hm)
  case execClr => exact answers_of_eq rfl (Block.wreg_tskCmd 2 hm)
  case resume =>
    subst hr
    intro j htin hst
    refine answers_of_eq rfl ((Block.wreg_tskCmd 1 hm).trans ?_)
    exact congrArg Prod.fst (Block.tskResume_pends hcfg htin hst)

end Sys2Proof.Machine
end

section
/-!
The frame of the register forms fails in one count: a double error that the bench code finds in an operand's word is
counted in ENG_ECC.UNCORR (R66) also by an instruction that has no operand in memory, which it spares, and
`countedFields` does not list that field. (Nor does it list `HID.SERIALNO`, the number of the free values taken, which
moves where the issue ends a wait.)
-/
namespace Sys2Proof.Machine

/-- A scan that stands at word 0 of bank 0. -/
def scanAtWord0 : Scan :=
  { lb := false, bstk := [], acc := 0, x0 := 0, x1 := 0, x2 := 0, x3 := 0, cstk := [], pc := 0, z := false, n := false,
    c := false, v := false, vs := false, dz := false, pf := false, fire := false, first := false, ev := 0, rel := 0,
    due := 0, bank := 0, gen := 0, warmFirst := false, eDone := [], started := true, ready := true, pd := 0, cyc := 0,
    walked := none, ans := none, late := [], forced := false, stalls := [], wait := 0 }

/-- Engine 0 executes that scan for slot 0, whose code ends before word 1; word 0 of bank 0 is NOP. -/
def nopAtWord0 : Block :=
  { Block.reset.wr HID.EXECUTING 0 0 1 with bench := [(Block.progAddr 0 0 1 + 2, 1)], scans := [(scanKey 0 0, scanAtWord0)] }

theorem nopAtWord0_issues : nopAtWord0.issues 0 0 scanAtWord0 ⟨.nop, .none⟩ = true := by decide

/-- NOP is issued with a double error noted for an operand that it does not read: UNCORR counts it. -/
theorem nopAtWord0_counts : (nopAtWord0.issue 0 .operand .nop Run.opNop).rd ENG.ENG_ECC.UNCORR 0 0 = 1 := by decide

/-- Refutes O59: NOP, with a double error noted for an operand, moves ENG_ECC.UNCORR from 0 to 1. -/
theorem not_registerFormsFrame : ¬ Obligations.RegisterFormsFrame := by
  intro h
  obtain ⟨t, ht, _, _, _, hrest⟩ := h ⟨[], nopAtWord0⟩ 0 .operand 0 scanAtWord0 ⟨.nop, .none⟩ nopAtWord0_issues rfl rfl
  have hkept := hrest ENG.ENG_ECC.UNCORR 0 0 (by decide)
  cases ht
  rw [nopAtWord0_counts] at hkept
  exact absurd hkept (by decide)

end Sys2Proof.Machine
end

section
/-!
Stores, timers and counters. A write of a retentive word waits for the lines of a snapshot that have not been read yet
(R134), in a number of cycles that the model leaves open, `Config.waitCycles` (assumption 31); the statements of the stores,
the timers and the counters count none. So each of the two holds exactly where every open wait takes 0 cycles, and neither
it nor its negation can be proved of the model. Every rule below counts the wait, `Run.waited`, as the model does.
-/
namespace Sys2Proof.Machine

/-! ### What journal copies are made of (R92) -/

namespace Block

/-- Two modules whose benches hold the same bytes and whose journalled lines are in the same state. -/
def SameLines (s t : Block) : Prop :=
  t.bench = s.bench ∧ ∀ e l, t.rd HID.LINE_CUR e l = s.rd HID.LINE_CUR e l ∧ t.rd HID.LINE_DIRTY e l = s.rd HID.LINE_DIRTY e l

theorem SameLines.refl (s : Block) : SameLines s s := ⟨rfl, fun _ _ => ⟨rfl, rfl⟩⟩

theorem SameLines.trans {a b c : Block} (h1 : SameLines a b) (h2 : SameLines b c) : SameLines a c :=
  ⟨h2.1.trans h1.1, fun e l => ⟨(h2.2 e l).1.trans (h1.2 e l).1, (h2.2 e l).2.trans (h1.2 e l).2⟩⟩

theorem TouchesOnly.sameLines {l : List Nat} {s t : Block} (h : TouchesOnly l s t) (hc : HID.LINE_CUR.code ∉ l)
    (hd : HID.LINE_DIRTY.code ∉ l) : SameLines s t :=
  ⟨h.1.bench, fun _ _ => ⟨h.2 _ _ _ hc, h.2 _ _ _ hd⟩⟩

section
variable {s t : Block} (h : SameLines s t)
include h

theorem SameLines.dataWord (e l w : Nat) : t.dataWord e l w = s.dataWord e l w := by
  rw [Block.dataWord, Block.dataWord, h.1]

theorem SameLines.wordLine (e : Nat) (win : Win) (area w : Nat) : t.wordLine e win area w = s.wordLine e win area w := by
  obtain ⟨hcur, hdirty⟩ := h.2 e (win.base + w / 16)
  simp only [Block.wordLine, lineCopy, hcur, hdirty]

theorem SameLines.setDataWord (e l w v : Nat) : SameLines (s.setDataWord e l w v) (t.setDataWord e l w v) :=
  ⟨congrArg (fun m : Memory => m.writeN (lineAddr e l + 4 * w) 4 v) h.1, h.2⟩

theorem SameLines.setWinWord (e : Nat) (win : Win) (area w v : Nat) :
    SameLines (s.setWinWord e win area w v) (t.setWinWord e win area w v) := by
  rw [Block.setWinWord, Block.setWinWord, h.wordLine]
  exact h.setDataWord ..

/-- The same line is marked dirty in both. -/
theorem SameLines.markDirty (e l : Nat) : SameLines (s.wr HID.LINE_DIRTY e l 1) (t.wr HID.LINE_DIRTY e l 1) := by
  refine ⟨by rw [wr_bench, wr_bench, h.1], fun e' l' => ⟨?_, ?_⟩⟩
  · rw [rd_wr_field _ _ _ _ _ _ _ _ (by decide), rd_wr_field _ _ _ _ _ _ _ _ (by decide), (h.2 e' l').1]
  · by_cases hkey : (⟨HID.LINE_DIRTY.code, e', l'⟩ : Key) = ⟨HID.LINE_DIRTY.code, e, l⟩
    · obtain ⟨-, rfl, rfl⟩ := Key.mk.injEq .. ▸ hkey
      rw [rd_wr_same, rd_wr_same]
    · rw [rd_wr_other _ _ _ _ _ _ _ _ hkey, rd_wr_other _ _ _ _ _ _ _ _ hkey, (h.2 e' l').2]

end

theorem SameLines.copyWords {s t : Block} (h : SameLines s t) (e src dst n : Nat) :
    SameLines (s.copyWords e src dst n) (t.copyWords e src dst n) := by
  induction n generalizing s t with
  | zero => exact h
  | succ n ih =>
    rw [Block.copyWords, Block.copyWords, h.dataWord]
    exact ih (h.setDataWord ..)

theorem SameLines.dirtyLine {s t : Block} (h : SameLines s t) (e : Nat) (win : Win) (l : Nat) :
    SameLines (s.dirtyLine e win l) (t.dirtyLine e win l) := by
  simp only [Block.dirtyLine, (h.2 e l).1]
  exact (h.copyWords ..).markDirty ..

theorem SameLines.journalWrite {s t : Block} (h : SameLines s t) (e : Nat) (win : Win) (area w v : Nat) :
    SameLines (s.journalWrite e win area w v).1 (t.journalWrite e win area w v).1 ∧
      (t.journalWrite e win area w v).2 = (s.journalWrite e win area w v).2 := by
  have hon : t.on HID.LINE_DIRTY e (win.base + w / 16) = s.on HID.LINE_DIRTY e (win.base + w / 16) := by
    rw [on, on, (h.2 ..).2]
  rw [Block.journalWrite, Block.journalWrite, hon]
  by_cases hdirty : s.on HID.LINE_DIRTY e (win.base + w / 16) = true
  · rw [if_pos hdirty, if_pos hdirty]
    exact ⟨h.setWinWord .., rfl⟩
  · rw [if_neg hdirty, if_neg hdirty]
    exact ⟨(h.dirtyLine ..).setWinWord .., rfl⟩

/-- Journalled writes make the same benches, and cost the same cycles, whatever else the modules hold. -/
theorem SameLines.journalWrites {s t : Block} (h : SameLines s t) (e : Nat) (win : Win) (area : Nat)
    (l : List (Nat × Nat)) :
    SameLines (s.journalWrites e win area l).1 (t.journalWrites e win area l).1 ∧
      (t.journalWrites e win area l).2 = (s.journalWrites e win area l).2 := by
  induction l generalizing s t with
  | nil => exact ⟨h, rfl⟩
  | cons x l ih =>
    obtain ⟨w, v⟩ := x
    obtain ⟨hfirst, hcost⟩ := h.journalWrite e win area w v
    obtain ⟨hrest, hcosts⟩ := ih hfirst
    exact ⟨hrest, by rw [Block.journalWrites, Block.journalWrites, hcost, hcosts]⟩

/-! ### The cells that a wait changes (R134, R448) -/

/-- The fields that a performance counter writes, and the firing of its overflow. -/
def perfFields : List Nat :=
  [PERF.PERF_CNT_L.CNT_L.code, PERF.PERF_CNT_H.CNT_H.code, PERF.PERF_OVF_L.OVF_L.code, PERF.PERF_OVF_H.OVF_H.code] ++
    firedFields

theorem touchesOnly_perfPut (s : Block) (i v : Nat) : TouchesOnly perfFields s (s.perfPut i v) :=
  (touchesOnly_wr _ _ _ _ _ (by decide)).trans (touchesOnly_wr _ _ _ _ _ (by decide))

theorem touchesOnly_perfOvf (s : Block) (i : Nat) : TouchesOnly perfFields s (s.perfOvf i) :=
  (touchesOnly_ite _ (touchesOnly_wr _ _ _ _ _ (by decide)) (touchesOnly_wr _ _ _ _ _ (by decide))).trans
    (touchesOnly_fire _ _ (List.subset_append_right ..))

theorem touchesOnly_perfAdd (s : Block) (i n : Nat) : TouchesOnly perfFields s (s.perfAdd i n) := by
  have hput (s : Block) (i v : Nat) := touchesOnly_perfPut s i v
  have hovf (s : Block) (i : Nat) := touchesOnly_perfOvf s i
  exact touchesOnly_ite _ (hput ..) (touchesOnly_ite _ (touchesOnly_ite _ ((hput ..).trans (hput ..))
    (((hput ..).trans (hput ..)).trans (hovf ..))) ((hput ..).trans (hovf ..)))

theorem touchesOnly_perfFold (s : Block) (ev : Nat) (u : Option Nat) (n : Nat) (l : List Nat) :
    TouchesOnly perfFields s (s.perfFold ev u n l) := by
  induction l generalizing s with
  | nil => exact .refl ..
  | cons i l ih => exact (touchesOnly_ite _ (touchesOnly_perfAdd ..) (.refl ..)).trans (ih _)

theorem touchesOnly_perf (s : Block) (ev : Nat) (u : Option Nat) (n : Nat) :
    TouchesOnly perfFields s (s.perf ev u n) := touchesOnly_ite _ (touchesOnly_perfFold ..) (.refl ..)

theorem touchesOnly_cost (s : Block) (e cause n : Nat) : TouchesOnly perfFields s (s.cost e cause n) :=
  touchesOnly_ite _ (touchesOnly_perf ..) ((touchesOnly_perf ..).trans (touchesOnly_perf ..))

theorem sameLines_cost (s : Block) (e cause n : Nat) : SameLines s (s.cost e cause n) :=
  (touchesOnly_cost ..).sameLines (by decide) (by decide)

theorem touchesOnly_setLines (s : Block) (f : Fld) (e v : Nat) (l : List Nat) :
    TouchesOnly [f.code] s (s.setLines f e v l) := by
  induction l generalizing s with
  | nil => exact .refl ..
  | cons x l ih => exact (touchesOnly_wr _ _ _ _ _ (.head _)).trans (ih _)

end Block

/-! ### A store with its wait and its journal copies (R92, R134) -/

/-- A scan after `n` cycles more, with the stalls `st` of its instruction. -/
def Scan.progress (c : Scan) (n : Nat) (st : List (Nat × Nat)) : Scan := { c with cyc := c.cyc + n, stalls := st }

theorem Scan.progress_after (c : Scan) (n : Nat) (st : List (Nat × Nat)) (pc k : Nat) :
    (c.progress n st).after pc k = c.after pc (n + k) := by
  simp only [Scan.progress, Scan.after, Nat.add_assoc]

/-- A change of a scan that neither reads nor changes its PC, its count of cycles and its stalls. -/
structure Scan.Apart (g : Scan → Scan) : Prop where
  progress : ∀ c n st, g (c.progress n st) = (g c).progress n st
  pc : ∀ c, (g c).pc = c.pc

theorem Scan.apart_id : Scan.Apart id := ⟨fun _ _ _ => rfl, fun _ => rfl⟩

theorem Run.set_id (r : Run) : r.set (id r.c) = r := rfl

theorem Run.cost_after (r : Run) (cause n pc k : Nat) : (r.cost cause n).c.after pc k = r.c.after pc (n + k) := by
  simp only [Run.cost, Scan.spend, Scan.after, Nat.add_assoc]

namespace Run

/-- The cycles that writes of words make an instruction wait for a snapshot (R134). -/
def waited (r : Run) (l : List (Nat × Nat)) : Nat :=
  if (r.s.snapWaits r.e.val r.j.val r.area r.opWin (l.map fun x => x.1)).isEmpty then 0
  else Config.waitCycles r.s.takeFree.2

theorem waited_eq_zero (h : ∀ n, Config.waitCycles n = 0) (r : Run) (l : List (Nat × Nat)) : r.waited l = 0 := by
  rw [waited, h, ite_self]

/-- The journalled writes of an instruction, from the module as it stands: the module with them, and their cycles. -/
def writes (r : Run) (l : List (Nat × Nat)) : Block × Nat := r.s.journalWrites r.e.val r.opWin r.area l

/-- The run after writes of words, with their wait, their journal copies and `k` cycles more of the same cause. -/
def stored (r : Run) (cause k : Nat) (l : List (Nat × Nat)) : Run :=
  let r1 := r.snapWait (l.map fun x => x.1)
  let x := r1.s.journalWrites r.e.val r.opWin r.area l
  ({ r1 with s := x.1 } : Run).cost cause (k + x.2)

theorem store_eq_stored (r : Run) (l : List (Nat × Nat)) : r.store l = r.stored 4 0 l := by
  simp only [store, stored, Nat.zero_add]

theorem sameLines_snapWait (r : Run) (l : List Nat) : Block.SameLines r.s (r.snapWait l).s := by
  simp only [snapWait]
  split
  · exact .refl _
  · have hfree : Block.SameLines r.s r.s.takeFree.1 :=
      (Block.touchesOnly_wr (l := [HID.SERIALNO.code]) _ _ _ _ _ (.head _)).sameLines (by decide) (by decide)
    exact (hfree.trans ((Block.touchesOnly_setLines ..).sameLines (by decide) (by decide))).trans
      (Block.sameLines_cost ..)

theorem snapWait_scan (r : Run) (l : List (Nat × Nat)) :
    ∃ st, (r.snapWait (l.map fun x => x.1)).c = r.c.progress (r.waited l) st := by
  simp only [snapWait, waited]
  split <;> exact ⟨_, rfl⟩

theorem stored_bench (r : Run) (cause k : Nat) (l : List (Nat × Nat)) : (r.stored cause k l).s.bench = (r.writes l).1.bench :=
  (cost_bench ..).trans ((sameLines_snapWait r _).journalWrites ..).1.1

theorem stored_scan (r : Run) (cause k : Nat) (l : List (Nat × Nat)) :
    ∃ st, (r.stored cause k l).c = r.c.progress (r.waited l + (k + (r.writes l).2)) st := by
  have hcost := ((sameLines_snapWait r (l.map fun x => x.1)).journalWrites r.e.val r.opWin r.area l).2
  obtain ⟨st, hwait⟩ := r.snapWait_scan l
  refine ⟨st ++ [(cause, k + (r.writes l).2)], ?_⟩
  simp only [stored, cost, hwait, hcost, Scan.progress, Scan.spend, writes, Nat.add_assoc]

end Run

section
variable {mk : Fin 16 → Ecc → Instr} {op : NOp} {f : Run → NOut}
  (hx : ∀ e ecc (s : State), exec (mk e ecc) s = .next { s with m := s.m.issue e ecc op f })
  {s : State} {e : Fin 16} {ecc : Ecc} {j : Fin 8} {c0 : Scan} {i : NIns} (h : s.m.issues e j c0 i = true) (ho : i.op = op)
  (he : spares ecc i = true)
include hx h ho he

/-- An instruction that writes words and then goes on completes after its cycles, those of its wait and those of its
journal copies. -/
theorem completes_stored {g : Scan → Scan} (hg : Scan.Apart g) {cause k n : Nat} {l : List (Nat × Nat)}
    (hf : f (s.m.runOf e ecc j c0 i) = (((s.m.runOf e ecc j c0 i).stored cause k l).set
      (g ((s.m.runOf e ecc j c0 i).stored cause k l).c)).done n) :
    let r := s.m.runOf e ecc j c0 i
    Completes (mk e ecc) s e j ((g r.c).after r.c.succ (r.waited l + (k + (r.writes l).2) + n)) (r.writes l).1.bench := by
  intro r
  obtain ⟨st, hst⟩ := r.stored_scan cause k l
  have hpc : (r.stored cause k l).c.pc = r.c.pc := by rw [hst]; rfl
  have hdone := done_law hx h ho he hf ((hg.pc _).trans hpc)
  have hscan : (g (r.stored cause k l).c).after r.c.succ n =
      (g r.c).after r.c.succ (r.waited l + (k + (r.writes l).2) + n) := by
    rw [hst, hg.progress, Scan.progress_after]
  exact r.stored_bench cause k l ▸ hscan ▸ hdone

/-- The same of an instruction whose writes are an operand's. -/
theorem completes_store {g : Scan → Scan} (hg : Scan.Apart g) {n : Nat} {l : List (Nat × Nat)}
    (hf : f (s.m.runOf e ecc j c0 i) = (((s.m.runOf e ecc j c0 i).store l).set
      (g ((s.m.runOf e ecc j c0 i).store l).c)).done n) :
    let r := s.m.runOf e ecc j c0 i
    Completes (mk e ecc) s e j ((g r.c).after r.c.succ (r.waited l + (r.writes l).2 + n)) (r.writes l).1.bench := by
  intro r
  rw [Run.store_eq_stored] at hf
  have hdone := completes_stored hx h ho he hg hf
  simpa only [Nat.zero_add] using hdone

end

/-! ### Stores to journalled areas (R73, R76, R81, R82, R84) -/

/-- The word that a write of an operand's bit makes of the operand's word. -/
def Run.bitWrite (r : Run) (b : Bool) : List (Nat × Nat) := [(r.ea / 32, putBit (r.word (r.ea / 32)) (r.ea % 32) b)]

namespace Run

theorem storeBit_within {r : Run} (b : Bool) (ha : r.area ≠ 7) (h : r.ea < r.opWin.cap (r.unit true)) :
    r.storeBit b = (r.store (r.bitWrite b)).done 1 := by
  rw [storeBit, bounded_within h, if_neg ha]
  rfl

theorem storeBitIf_true {r : Run} (b : Bool) (hlb : r.c.lb = true) : r.storeBitIf b = r.storeBit b := if_pos hlb

theorem storeBitIf_false {r : Run} (b : Bool) (hlb : r.c.lb = false) (h : r.ea < r.opWin.cap (r.unit true)) :
    r.storeBitIf b = r.done 1 := by
  rw [storeBitIf, if_neg (by simp [hlb]), bounded_within h]

theorem opStw_within {r : Run} (ha : r.area ≠ 7) (h : r.ea < r.opWin.cap (r.unit false)) :
    r.opStw = (r.store [(r.ea, r.c.acc.toNat)]).done 1 := by
  rw [opStw, bounded_within h, if_neg ha]

/-- What an edge instruction makes of a scan (R82, R84). -/
def edged (r : Run) (f : Bool → Bool → Bool) (c : Scan) : Scan :=
  { c with lb := if r.quiet then false else f ((r.word (r.ea / 32)).testBit (r.ea % 32)) r.c.lb,
           eDone := if r.c.first && r.c.warmFirst then r.ea :: r.c.eDone else r.c.eDone }

theorem apart_edged (r : Run) (f : Bool → Bool → Bool) : Scan.Apart (r.edged f) := ⟨fun _ _ _ => rfl, fun _ => rfl⟩

theorem edge_within {r : Run} (f : Bool → Bool → Bool) (h : r.ea < r.opWin.cap .bit) :
    r.edge f = ((r.store (r.bitWrite r.c.lb)).set (r.edged f (r.store (r.bitWrite r.c.lb)).c)).done 1 := by
  rw [edge, bounded_within h]
  rfl

theorem opShifta_within {r : Run} (h1 : 1 ≤ r.c.x3.toNat) (h2 : r.c.x3.toNat ≤ 256)
    (h : r.ea + r.c.x3.toNat - 1 < r.opWin.cap .word) :
    r.opShifta = (r.stored 5 (r.c.x3.toNat + 2) (r.shifted r.c.x3.toNat)).done 0 := by
  rw [opShifta, if_neg (by omega), if_neg (by omega)]
  rfl

/-- A P write of a point that has been walked, and takes the value, stages its entry for a credit (R88, R90, R93). -/
theorem pWrite_takes {r : Run} {bit : Bool} {w : Nat} {p : PRes} {x : Entry} (hv : r.pValid = true)
    (hwide : r.pWide = !bit) (hp : r.c.walked = some p) (hx : r.pEntryOf p bit w = some x)
    (hc : r.s.rd ENG.ENG_BQ_CREDIT.CREDITS r.e.val 0 ≠ 0) (k : Run → NOut) :
    r.pWrite bit w k =
      k (({ r with s := r.s.pushEnt r.e.val (r.s.slotEnt' r.e.val r.j.val r.c (some x)) } : Run).cost 0 1) := by
  have hkind : bit ≠ r.pWide := by rw [hwide]; cases bit <;> decide
  simp only [pWrite, hv, Bool.not_true, Bool.false_eq_true, if_false, if_neg hkind, pWalk, hp, hx, if_neg hc]

theorem storeBit_point {r : Run} (b : Bool) (ha : r.area = 7) (h : r.ea < r.opWin.cap (r.unit true)) :
    r.storeBit b = r.pWrite true (b2n b) fun r1 => r1.done 1 := by
  rw [storeBit, bounded_within h, if_pos ha]

theorem opStw_point {r : Run} (ha : r.area = 7) (h : r.ea < r.opWin.cap (r.unit false)) :
    r.opStw = r.pWrite false r.c.acc.toNat fun r1 => r1.done 1 := by
  rw [opStw, bounded_within h, if_pos ha]

end Run

theorem pushEnt_bench (s : Block) (e : Nat) (q : QEnt) : (s.pushEnt e q).bench = s.bench := by
  rw [Block.pushEnt, (Block.sameBut_fireIf ..).bench, Block.wr_bench]

theorem pushEnt_engQueue (s : Block) (e : Nat) (q : QEnt) : (s.pushEnt e q).engQueue e = s.engQueue e ++ [q] := by
  rw [Block.engQueue, Block.pushEnt, (Block.sameBut_fireIf ..).engQ, Block.wr_engQ, AMap.find_put_same]
  rfl

theorem runOf_engQ (b : Block) (e : Fin 16) (ecc : Ecc) (j : Fin 8) (c : Scan) (i : NIns) :
    (b.runOf e ecc j c i).s.engQ = b.engQ :=
  (Block.sameBut_eccNote ..).engQ.trans (Block.sameBut_waitOver ..).engQ

section
variable {mk : Fin 16 → Ecc → Instr} {op : NOp} {f : Run → NOut}
  (hx : ∀ e ecc (s : State), exec (mk e ecc) s = .next { s with m := s.m.issue e ecc op f })
include hx

/-- An operation that completes leaves the queues of the engines as its outcome has them. -/
theorem engQ_of_ok {s t : State} {e : Fin 16} {ecc : Ecc} {j : Fin 8} {c0 : Scan} {i : NIns} {b : Block} {c : Scan}
    (h : s.m.issues e j c0 i = true) (ho : i.op = op) (he : spares ecc i = true)
    (hf : f (s.m.runOf e ecc j c0 i) = .ok b c) (ht : exec (mk e ecc) s = .next t) : t.m.engQ = b.engQ := by
  subst ho
  rw [hx, Block.issue_outcome _ _ _ _ _ _ _ h he, hf] at ht
  cases ht
  exact Block.completed_engQ ..

/-- The law of a store to the P area, from what the operation does there. -/
theorem pWriteLaw_of {bit : Bool} {v : Scan → Option Nat}
    (hf : ∀ (r : Run) (w : Nat), r.area = 7 → r.ea < r.opWin.cap (r.unit bit) → v r.c = some w →
      f r = r.pWrite bit w fun r1 => r1.done 1) : PWriteLaw mk op bit v := by
  intro s e ecc j c0 i p x w h ho he ha hin hv hwide hp hw hent hcred r
  have hop := (hf r w ha hin hw).trans (Run.pWrite_takes hv hwide hp hent hcred _)
  have hdone := done_law hx h ho he hop rfl
  rw [cost_bench, pushEnt_bench, runOf_bench, Run.cost_after] at hdone
  refine ⟨hdone, fun t ht => ?_⟩
  have hq : t.m.engQueue e.val = (r.s.pushEnt e.val (r.s.slotEnt' e.val j.val r.c (some x))).engQueue e.val := by
    have hcost (a : Run) : (a.cost 0 1).s.engQ = a.s.engQ := (Block.sameBut_cost ..).engQ
    rw [Block.engQueue, engQ_of_ok hx h ho he hop ht, hcost, hcost]
    rfl
  rw [hq, pushEnt_engQueue, Block.engQueue, runOf_engQ]
  rfl

end

/-! ### The laws where no wait takes a cycle -/

section
variable {mk : Fin 16 → Ecc → Instr} {op : NOp} {f : Run → NOut} (hw : ∀ n, Config.waitCycles n = 0)
  (hx : ∀ e ecc (s : State), exec (mk e ecc) s = .next { s with m := s.m.issue e ecc op f })
include hw hx

/-- An instruction that writes an operand's words completes after its cycles and those of its journal copies. -/
theorem completes_unwaited {s : State} {e : Fin 16} {ecc : Ecc} {j : Fin 8} {c0 : Scan} {i : NIns}
    (h : s.m.issues e j c0 i = true) (ho : i.op = op) (he : spares ecc i = true) {g : Scan → Scan} (hg : Scan.Apart g)
    {n : Nat} {l : List (Nat × Nat)}
    (hf : f (s.m.runOf e ecc j c0 i) = (((s.m.runOf e ecc j c0 i).store l).set
      (g ((s.m.runOf e ecc j c0 i).store l).c)).done n) :
    let r := s.m.runOf e ecc j c0 i
    Completes (mk e ecc) s e j ((g r.c).after r.c.succ ((r.writes l).2 + n)) (r.writes l).1.bench := by
  have hdone := completes_store hx h ho he hg hf
  simpa only [Run.waited_eq_zero hw, Nat.zero_add] using hdone

/-- The same of an instruction that does nothing but write its operand's words. -/
theorem completes_unwaited_store {s : State} {e : Fin 16} {ecc : Ecc} {j : Fin 8} {c0 : Scan} {i : NIns}
    (h : s.m.issues e j c0 i = true) (ho : i.op = op) (he : spares ecc i = true) {n : Nat} {l : List (Nat × Nat)}
    (hf : f (s.m.runOf e ecc j c0 i) = ((s.m.runOf e ecc j c0 i).store l).done n) :
    let r := s.m.runOf e ecc j c0 i
    Completes (mk e ecc) s e j (r.c.after r.c.succ ((r.writes l).2 + n)) (r.writes l).1.bench :=
  completes_unwaited hw hx h ho he Scan.apart_id (hf.trans (congrArg (Run.done · n) (Run.set_id _).symm))

/-- The law of a bit store, from what the operation does within its window. -/
theorem bitStoreLaw_of {g : Bool → Option Bool}
    (hnone : ∀ r : Run, r.ea < r.opWin.cap (r.unit true) → g r.c.lb = none → f r = r.done 1)
    (hsome : ∀ (r : Run) (b : Bool), r.area ≠ 7 → r.ea < r.opWin.cap (r.unit true) → g r.c.lb = some b →
      f r = (r.store (r.bitWrite b)).done 1) : BitStoreLaw mk op g := by
  intro s e ecc j c0 i h ho he ha hin r
  split
  next hg => exact completes_done hx h ho he (hnone r hin hg) rfl
  next b hg =>
    exact completes_unwaited_store hw hx h ho he (hsome r b ha hin hg)

/-- The law of an edge instruction, which is its meaning within the window. -/
theorem edgeLaw_of {g : Bool → Bool → Bool} (hf : ∀ r : Run, f r = r.edge g) : EdgeLaw mk op g := by
  intro s e ecc j c0 i h ho he hin r
  exact completes_unwaited hw hx h ho he (Run.apart_edged r g) ((hf r).trans (Run.edge_within g hin))

/-- The law of an operation on an entry, from what it does of the entry's words: `g` are the words that it writes, and `G`
what it makes of the scan, which for the writes is the scan after them. -/
theorem entryLaw_of {n : Nat} {G : Scan → Nat → Nat → Scan → Scan} {g : Scan → Nat → Nat → Option (Nat × Nat)}
    {k : Run → Nat → Nat → NOut} (hf : ∀ r, f r = r.withEntry (k r)) (hG : ∀ c w0 w1, Scan.Apart (G c w0 w1))
    (hnone : ∀ r w0 w1, g r.c w0 w1 = none → k r w0 w1 = (r.set (G r.c w0 w1 r.c)).done n)
    (hsome : ∀ r w0 w1 x, g r.c w0 w1 = some x →
      k r w0 w1 = ((r.putEntry x.1 x.2).set (G r.c w0 w1 (r.putEntry x.1 x.2).c)).done n) :
    EntryLaw mk op n (fun c w0 w1 => G c w0 w1 c) g := by
  intro s e ecc j c0 i h ho he hin r w0 w1
  have hop : f r = k r w0 w1 := (hf r).trans (Run.bounded_within hin _)
  split
  next hg => exact completes_done hx h ho he (hop.trans (hnone r _ _ hg)) ((hG ..).pc _)
  next x hg =>
    exact completes_unwaited hw hx h ho he (hG r.c w0 w1) (hop.trans (hsome r _ _ x hg))

end

/-- The laws of the stores, where no open wait takes a cycle. -/
theorem storesComplete_of_waits (hw : ∀ n, Config.waitCycles n = 0) : Obligations.StoresComplete := by
  refine ⟨⟨?stb, ?setb, ?rstb, ?edgr, ?edgf, fun s e ecc j c0 a h he ha hin => ?stw⟩, ⟨?stbP, ?setbP, ?rstbP, ?stwP⟩,
    fun s e ecc j c0 a h he h1 h2 hin => ?shifta⟩
  case stb =>
    refine bitStoreLaw_of hw (by intros; rfl) (fun r hin hg => nomatch hg) fun r b ha hin hg => ?_
    cases hg
    exact Run.storeBit_within _ ha hin
  case setb | rstb =>
    refine bitStoreLaw_of hw (by intros; rfl) (fun r hin hg => ?_) fun r b ha hin hg => ?_
    · exact Run.storeBitIf_false _ (by simpa using hg) hin
    · obtain ⟨hlb, hb⟩ := Option.ite_none_right_eq_some.1 hg
      cases hb
      exact (Run.storeBitIf_true _ hlb).trans (Run.storeBit_within _ ha hin)
  case edgr | edgf => exact edgeLaw_of hw (by intros; rfl) fun _ => rfl
  case stw => exact completes_unwaited_store hw (by intros; rfl) h rfl he (Run.opStw_within ha hin)
  case stbP =>
    refine pWriteLaw_of (by intros; rfl) fun r w ha hin hv => ?_
    cases hv
    exact Run.storeBit_point _ ha hin
  case setbP | rstbP =>
    refine pWriteLaw_of (by intros; rfl) fun r w ha hin hv => ?_
    obtain ⟨hlb, hb⟩ := Option.ite_none_right_eq_some.1 hv
    cases hb
    exact (Run.storeBitIf_true _ hlb).trans (Run.storeBit_point _ ha hin)
  case stwP =>
    refine pWriteLaw_of (by intros; rfl) fun r w ha hin hv => ?_
    cases hv
    exact Run.opStw_point ha hin
  case shifta =>
    have hop := (Run.opShifta_within h1 h2 hin).trans (congrArg (Run.done · 0) (Run.set_id _).symm)
    have hdone := completes_stored (mk := .nShifta) (by intros; rfl) h rfl he Scan.apart_id hop
    simp only [Run.waited_eq_zero hw, Nat.zero_add] at hdone
    exact hdone

/-! ### Timers and counters (R85 to R87) -/

/-- A timer entry after a timer instruction of scan `c` (R85). -/
def timerNext (k : TKind) (c : Scan) (w0 w1 : Nat) : TEnt :=
  { TEnt.ofWords w0 w1 with preset := (timerPreset c.acc).1 }.exec k c.rel c.lb

section
variable {mk : Fin 16 → Ecc → Instr} {op : NOp} {f : Run → NOut} (hw : ∀ n, Config.waitCycles n = 0)
  (hx : ∀ e ecc (s : State), exec (mk e ecc) s = .next { s with m := s.m.issue e ecc op f })
include hw hx

theorem timerLaw_of (k : TKind) (hf : ∀ r : Run, f r = r.timer k) :
    EntryLaw mk op 3
      (fun c w0 w1 => ({ c with lb := (timerNext k c w0 w1).q } : Scan).setV (timerPreset c.acc).2)
      (fun c w0 w1 => some ((timerNext k c w0 w1).base, (timerNext k c w0 w1).word1)) :=
  entryLaw_of hw hx (G := fun c w0 w1 d => (d.setLb (timerNext k c w0 w1).q).setV (timerPreset c.acc).2) hf
    (fun _ _ _ => ⟨fun _ _ _ => rfl, fun _ => rfl⟩) (fun _ _ _ hg => nomatch hg) (fun _ _ _ _ hg => by cases hg; rfl)

theorem counterLaw_of (up : Bool) (hf : ∀ r : Run, f r = r.counter up) :
    EntryLaw mk op 2
      (fun c w0 w1 => ({ c with lb := (counterStep up c.acc c.lb w0 w1).2.2.1 } : Scan).setV
        (counterStep up c.acc c.lb w0 w1).2.2.2)
      (fun c w0 w1 => some ((counterStep up c.acc c.lb w0 w1).1, (counterStep up c.acc c.lb w0 w1).2.1)) :=
  entryLaw_of hw hx
    (G := fun c w0 w1 d => (d.setLb (counterStep up c.acc c.lb w0 w1).2.2.1).setV (counterStep up c.acc c.lb w0 w1).2.2.2)
    hf (fun _ _ _ => ⟨fun _ _ _ => rfl, fun _ => rfl⟩) (fun _ _ _ hg => nomatch hg)
    (fun _ _ _ _ hg => by cases hg; rfl)

/-- The law of an operation that writes an entry where LB = 1 and does nothing else (R73). -/
theorem entryWriteLaw_of {x : Scan → Nat → Nat → Nat × Nat}
    (hf : ∀ r : Run, f r = r.withEntry fun w0 w1 =>
      if r.c.lb then (r.putEntry (x r.c w0 w1).1 (x r.c w0 w1).2).done 2 else r.done 2) :
    EntryLaw mk op 2 (fun c _ _ => c) (fun c w0 w1 => if c.lb then some (x c w0 w1) else none) := by
  refine entryLaw_of hw hx (G := fun _ _ _ => id) hf (fun _ _ _ => Scan.apart_id) (fun r w0 w1 hg => ?_)
    fun r w0 w1 y hg => ?_
  · exact if_neg (by simpa using hg)
  · obtain ⟨hlb, hy⟩ := Option.ite_none_right_eq_some.1 hg
    cases hy
    exact (if_pos hlb).trans (congrArg (Run.done · 2) (Run.set_id _).symm)

/-- The law of an operation that reads an entry into the scan. -/
theorem entryReadLaw_of {n : Nat} {v : Scan → Nat → Nat → Word}
    (hf : ∀ r : Run, f r = r.withEntry fun w0 w1 => (r.set (r.c.setAcc (v r.c w0 w1))).done n) :
    EntryLaw mk op n (fun c w0 w1 => c.setAcc (v c w0 w1)) (fun _ _ _ => none) :=
  entryLaw_of hw hx (G := fun c w0 w1 d => d.setAcc (v c w0 w1)) hf (fun _ _ _ => ⟨fun _ _ _ => rfl, fun _ => rfl⟩)
    (fun _ _ _ _ => rfl) (fun _ _ _ _ hg => nomatch hg)

end

/-- The laws of the timers and counters, where no open wait takes a cycle. -/
theorem timersAndCountersComplete_of_waits (hw : ∀ n, Config.waitCycles n = 0) :
    Obligations.TimersAndCountersComplete := by
  refine ⟨⟨?ton, ?tof, ?tp, ?tonr, ?trst, ?ldt⟩, ?ctu, ?ctd, ?cts, ?crst, ?ldc⟩
  case ton | tof | tp | tonr => exact timerLaw_of hw (by intros; rfl) _ fun _ => rfl
  case ctu | ctd => exact counterLaw_of hw (by intros; rfl) _ fun _ => rfl
  case trst | cts | crst => exact entryWriteLaw_of hw (by intros; rfl) fun _ => rfl
  case ldt | ldc => exact entryReadLaw_of hw (by intros; rfl) fun _ => rfl

end Sys2Proof.Machine
end

section
/-!
The converse: an engine that is about to write a retentive word whose line a snapshot has not read yet, in a module that
has taken any number `n` of free values, waits `Config.waitCycles n` cycles, which the two statements do not count.
-/
namespace Sys2Proof.Machine

namespace Block

/-- A module that has taken `n` free values. -/
def numbered (b : Block) (n : Nat) : Block := { b with cells := b.cells.put ⟨HID.SERIALNO.code, 0, 0⟩ n }

section
variable (b : Block) (n : Nat) (e : Fin 16) (j : Fin 8) {c : Scan} (hc : c.wait = 0) (i : NIns)

theorem rd_numbered {f : Fld} (h : f.code ≠ HID.SERIALNO.code) (x y : Nat) : (b.numbered n).rd f x y = b.rd f x y := by
  rw [rd, numbered, Cells.find_put_other _ _ _ _ fun hk => h (congrArg Key.f hk)]
  rfl

theorem takeFree_numbered : (b.numbered n).takeFree.2 = n := by
  rw [takeFree, rd, numbered, Cells.find_put_same]
  rfl

theorem win_numbered (x y bank area : Nat) : (b.numbered n).win x y bank area = b.win x y bank area := by
  rw [win, win, b.rd_numbered n (by decide), b.rd_numbered n (by decide)]

theorem snapWaits_numbered (x y area : Nat) (w : Win) (l : List Nat) :
    (b.numbered n).snapWaits x y area w l = b.snapWaits x y area w l := by
  simp only [snapWaits, retLine, g, on, b.rd_numbered n (f := HID.SNAPREAD) (by decide),
    b.rd_numbered n (f := HID.LINE_DIRTY) (by decide), b.rd_numbered n (f := HID.SNAPGOT) (by decide),
    b.rd_numbered n (f := TSK.RET_CFG.T_RET) (by decide), b.rd_numbered n (f := TSK.RET_CFG.C_RET) (by decide)]
  rfl

include hc

theorem issues_numbered : (b.numbered n).issues e j c i = b.issues e j c i := by
  have hrun : (b.numbered n).running e = b.running e := by
    rw [running, running, on, on, b.rd_numbered n (by decide), b.rd_numbered n (by decide)]
    rfl
  have hmay : (b.numbered n).mayIssue e.val c = b.mayIssue e.val c := by
    simp only [mayIssue, engRuns, supRuns, islandUp, g, on, b.rd_numbered n (f := ENG.ENG_STATE.STALL) (by decide),
      b.rd_numbered n (f := HID.PWRST) (by decide), b.rd_numbered n (f := HID.ISLANDDOWN) (by decide)]
  rw [issues, issues, waitOver, waitOver, if_pos hc, if_pos hc, hrun, hmay]
  rfl

theorem runOf_numbered : (b.numbered n).runOf e .ok j c i = ⟨b.numbered n, e, j, c, i⟩ := by
  rw [runOf, waitOver, if_pos hc]
  rfl

/-- Where a snapshot has not read a line of the writes, their wait is the open value of the number taken. -/
theorem waited_numbered {l : List (Nat × Nat)}
    (hl : (b.snapWaits e.val j.val i.arg.area (b.win e.val j.val c.bank i.arg.area) (l.map fun x => x.1)).isEmpty = false) :
    ((b.numbered n).runOf e .ok j c i).waited l = Config.waitCycles n := by
  rw [b.runOf_numbered n e j hc i, Run.waited, Run.opWin, Run.win, b.win_numbered, b.snapWaits_numbered]
  refine (if_neg ?_).trans (congrArg _ (b.takeFree_numbered n))
  exact Bool.not_eq_true _ ▸ hl

end
end Block

/-- An instruction takes one number of cycles. -/
theorem completes_cycles_unique {c : Instr} {s : State} {e : Fin 16} {j : Fin 8} {d : Scan} {pc m n : Nat} {mem mem' : Memory}
    (h1 : Completes c s e j (d.after pc m) mem) (h2 : Completes c s e j (d.after pc n) mem') : m = n := by
  obtain ⟨t, ht, -, hscan, -, -⟩ := h1
  obtain ⟨t', ht', -, hscan', -, -⟩ := h2
  obtain rfl : t = t' := Host.Outcome.next.inj (ht.symm.trans ht')
  have hcyc := congrArg Scan.cyc (Option.some.inj (hscan.symm.trans hscan'))
  exact Nat.add_left_cancel hcyc

theorem Run.opCrst_set {r : Run} (hlb : r.c.lb = true) (hin : r.ea < r.opWin.cap .entry) :
    r.opCrst = (r.store [(2 * r.ea, 0), (2 * r.ea + 1, r.word (2 * r.ea + 1))]).done 2 :=
  (Run.bounded_within hin _).trans (if_pos hlb)

section
variable {s : State} {e : Fin 16} {ecc : Ecc} {j : Fin 8} {c0 : Scan} {i : NIns} (h : s.m.issues e j c0 i = true)
  (he : spares ecc i = true)
include h he

/-- The law of STB leaves no cycle for a wait. -/
theorem waited_zero_of_stbLaw (hlaw : BitStoreLaw .nStb .stb fun lb => some lb) (ho : i.op = .stb) (ha : i.arg.area ≠ 7)
    (hin : (s.m.runOf e ecc j c0 i).ea < (s.m.runOf e ecc j c0 i).opWin.cap ((s.m.runOf e ecc j c0 i).unit true)) :
    (s.m.runOf e ecc j c0 i).waited ((s.m.runOf e ecc j c0 i).bitWrite (s.m.runOf e ecc j c0 i).c.lb) = 0 := by
  have hop := (Run.storeBit_within (r := s.m.runOf e ecc j c0 i) (s.m.runOf e ecc j c0 i).c.lb ha hin).trans
    (congrArg (Run.done · 1) (Run.set_id _).symm)
  have hstore := completes_store (f := Run.opStb) (mk := .nStb) (by intros; rfl) h ho he Scan.apart_id hop
  have hcycles := completes_cycles_unique hstore (hlaw s e ecc j c0 i h ho he ha hin)
  exact Nat.add_eq_right.1 (Nat.add_right_cancel hcycles)

/-- The law of CRST leaves no cycle for a wait. -/
theorem waited_zero_of_crstLaw (hlaw : EntryLaw .nCrst .crst 2 (fun c _ _ => c) fun c _ w1 => if c.lb then some (0, w1) else none)
    (ho : i.op = .crst) (hlb : (s.m.runOf e ecc j c0 i).c.lb = true)
    (hin : (s.m.runOf e ecc j c0 i).ea < (s.m.runOf e ecc j c0 i).opWin.cap .entry) :
    (s.m.runOf e ecc j c0 i).waited [(2 * (s.m.runOf e ecc j c0 i).ea, 0), (2 * (s.m.runOf e ecc j c0 i).ea + 1,
      (s.m.runOf e ecc j c0 i).word (2 * (s.m.runOf e ecc j c0 i).ea + 1))] = 0 := by
  have hop := (Run.opCrst_set hlb hin).trans (congrArg (Run.done · 2) (Run.set_id _).symm)
  have hstore := completes_store (f := Run.opCrst) (mk := .nCrst) (by intros; rfl) h ho he Scan.apart_id hop
  have hclaim := hlaw s e ecc j c0 i h ho he hin
  simp only [hlb, if_true] at hclaim
  have hcycles := completes_cycles_unique hstore hclaim
  exact Nat.add_eq_right.1 (Nat.add_right_cancel hcycles)

end

/-- A scan that stands at word 0 of bank 0 with LB = 1. -/
def scanWithLb : Scan := { scanAtWord0 with lb := true }

/-- Engine 0 is about to issue instruction `i`, on word 0 of bank 0, with a window of one line of the operand's area and
one retentive counter; a snapshot is being read, and has read no line. -/
def retentiveWrite (i : NIns) : Block :=
  { (((Block.reset.wr HID.EXECUTING 0 0 1).wr ENG.AREA_WIN.LINES 0 (Block.winIdx 0 i.arg.area 0) 1).wr
      TSK.RET_CFG.C_RET 0 0 1).p HID.SNAPREAD 1 with
    bench := Memory.writeN [(Block.progAddr 0 0 1 + 2, 1)] (Block.progAddr 0 0 0) 4 i.encode
    scans := [(scanKey 0 0, scanWithLb)] }

/-- STB to bit 0 of the K window, and CRST on counter 0. -/
def stbK : NIns := ⟨.stb, .dir 3 0⟩
def crst0 : NIns := ⟨.crst, .dir 6 0⟩

section
variable (n : Nat)

theorem stbK_issues : ((retentiveWrite stbK).numbered n).issues 0 0 scanWithLb stbK = true :=
  (Block.issues_numbered _ n 0 0 rfl stbK).trans (by decide)

theorem crst0_issues : ((retentiveWrite crst0).numbered n).issues 0 0 scanWithLb crst0 = true :=
  (Block.issues_numbered _ n 0 0 rfl crst0).trans (by decide)

theorem stbK_within :
    let r := ((retentiveWrite stbK).numbered n).runOf 0 .ok 0 scanWithLb stbK
    r.ea < r.opWin.cap (r.unit true) := by
  show 0 < (((retentiveWrite stbK).numbered n).win 0 0 0 3).cap .bit
  rw [Block.win_numbered]
  decide

theorem crst0_within :
    let r := ((retentiveWrite crst0).numbered n).runOf 0 .ok 0 scanWithLb crst0
    r.ea < r.opWin.cap .entry := by
  show 0 < (((retentiveWrite crst0).numbered n).win 0 0 0 6).cap .entry
  rw [Block.win_numbered]
  decide

theorem stbK_waited (b : Bool) :
    let r := ((retentiveWrite stbK).numbered n).runOf 0 .ok 0 scanWithLb stbK
    r.waited (r.bitWrite b) = Config.waitCycles n :=
  Block.waited_numbered _ n 0 0 rfl stbK
    (show ((retentiveWrite stbK).snapWaits 0 0 3 ((retentiveWrite stbK).win 0 0 0 3) [0]).isEmpty = false by decide)

theorem crst0_waited (w0 w1 : Nat) :
    let r := ((retentiveWrite crst0).numbered n).runOf 0 .ok 0 scanWithLb crst0
    r.waited [(2 * r.ea, w0), (2 * r.ea + 1, w1)] = Config.waitCycles n :=
  Block.waited_numbered _ n 0 0 rfl crst0
    (show ((retentiveWrite crst0).snapWaits 0 0 6 ((retentiveWrite crst0).win 0 0 0 6) [0, 1]).isEmpty = false by decide)

end

/-- The statement of the stores (O15) holds exactly where every open wait takes 0 cycles, so it can be neither proved nor
refuted of the model. -/
theorem storesComplete_iff : Obligations.StoresComplete ↔ ∀ n, Config.waitCycles n = 0 := by
  refine ⟨fun h n => ?_, storesComplete_of_waits⟩
  obtain ⟨⟨hstb, -⟩, -⟩ := h
  exact (stbK_waited n _).symm.trans
    (waited_zero_of_stbLaw (s := ⟨[], _⟩) (stbK_issues n) rfl hstb rfl (by decide) (stbK_within n))

/-- The statement of the timers and counters (O16) holds exactly where every open wait takes 0 cycles, so it can be neither
proved nor refuted of the model. -/
theorem timersAndCountersComplete_iff : Obligations.TimersAndCountersComplete ↔ ∀ n, Config.waitCycles n = 0 := by
  refine ⟨fun h n => ?_, timersAndCountersComplete_of_waits⟩
  obtain ⟨-, -, -, -, hcrst, -⟩ := h
  exact (crst0_waited n _ _).symm.trans
    (waited_zero_of_crstLaw (s := ⟨[], _⟩) (crst0_issues n) rfl hcrst rfl rfl (crst0_within n))

end Sys2Proof.Machine
end

section
/-!
The statements of the batches' family. BAT_OPEN and BAT_CMD are command registers, so each command is `wreg_ruled` at its
offset and then the rule of its operation. A COMMIT frame that is taken does what its record says to the module that
receiving it left.
-/
namespace Sys2Proof.Machine
namespace Block

/-! ### Opening a batch (R149, R162) -/

/-- What a requester may write to BAT_OPEN opens a batch. -/
theorem wreg_batOpen {s : Block} {r : Req} (x : Bool) (h : s.mayWrite r 0x002040 = true) :
    s.wreg r 0x002040 (1 + 2 * b2n x) = (s.batOpen r x).1 := by
  cases x <;> exact wreg_ruled h (by decide) rfl

theorem setTag_held {r : Req} {q : Nat} (hq : reqHeld r = some q) (s : Block) (id valid : Nat) :
    s.setTag r id valid =
      ((s.wr HDR.BATCH_TAG.ID 0 q id).wr HDR.BATCH_TAG.VALID 0 q valid).wr HDR.BATCH_TAG.ENDED 0 q 0 := by
  simp only [setTag, setOwn, hq]

/-- A new batch takes the lowest free ID, and its opener's tag names it. -/
theorem batOpen_opens {s : Block} {r : Req} {q id : Nat} {x : Bool} (hq : reqHeld r = some q)
    (hen : s.on HDR.PAGE_CTRL.ENABLE 0x002 0 = true) (hgrid : x = true → s.on MOD.MOD_STATUS.GRID_FREE 0 0 = false)
    (hid : s.lowestId = some id) :
    let s1 : Block := { s with batches := s.batches.put id (s.newBatch r x false false) }
    s.batOpen r x = ((s1.fireIf (s1.freeIds == 0) EV.BAT.IDS_OUT).setTag r id 1, 0) := by
  have hx : (x && s.on MOD.MOD_STATUS.GRID_FREE 0 0) = false := by
    cases x with
    | false => rfl
    | true => exact hgrid rfl
  simp only [batOpen, hq, hen, hx, openBatch, hid, Bool.not_true, Bool.false_eq_true, if_false]

/-! ### The commands of BAT_CMD (R150, R156) -/

/-- What a requester may write to BAT_CMD is taken as a command. -/
theorem wreg_batCmd {s : Block} {r : Req} {op : Nat} (hop : op < 8) (h : s.mayWrite r 0x002044 = true) :
    s.wreg r 0x002044 op = (s.batCmd r op).1 := by
  have hcmd : s.cmdWrite r 0x002044 op = some (s.batCmd r (op % 8)) := rfl
  rw [Nat.mod_eq_of_lt hop] at hcmd
  exact wreg_ruled h (by decide) hcmd

theorem tagged_of_tagNow {s : Block} {r : Req} {id : Nat} {b : Batch} (ht : s.tagNow r = some id)
    (hb : s.batches.find id = some b) : s.tagged r = some (id, b) := by
  simp only [tagged, ht, hb, Option.map_some]

/-- The first tick that a commit of a batch may name (R156, R162). -/
def firstCommit (s : Block) (b : Batch) : Nat := if b.xmod then s.nextCommitTick + 2 else s.nextCommitTick

theorem firstCommit_local {b : Batch} (s : Block) (h : b.xmod = false) : s.firstCommit b = s.nextCommitTick :=
  if_neg (by simp [h])

theorem firstCommit_xmod {b : Batch} (s : Block) (h : b.xmod = true) : s.firstCommit b = s.nextCommitTick + 2 := if_pos h

theorem nextCommitTick_le (s : Block) : s.nextCommitTick ≤ s.tick + 2 := by
  unfold nextCommitTick
  split <;> omega

theorem firstCommit_le (s : Block) (b : Batch) : s.firstCommit b ≤ s.tick + 4 := by
  have := s.nextCommitTick_le
  unfold firstCommit
  split <;> omega

/-- The commit of an open batch is requested for a tick that the command may name. -/
theorem batCommit_requests {s : Block} {r : Req} {id : Nat} {b : Batch} (k : Option Nat) (ht : s.tagged r = some (id, b))
    (hst : b.st = .opened) (hgrid : b.xmod = true → s.on MOD.MOD_STATUS.GRID_FREE 0 0 = false)
    (hfirst : s.firstCommit b ≤ k.getD (s.firstCommit b)) (hlast : k.getD (s.firstCommit b) ≤ s.tick + 240000) :
    s.batCommit r k = (s.putBatch id { b with st := .requested, ctick := k.getD (s.firstCommit b) }, 0) := by
  have hx : (b.xmod && s.on MOD.MOD_STATUS.GRID_FREE 0 0) = false := by
    cases hxm : b.xmod with
    | false => rfl
    | true => exact hgrid hxm
  rw [firstCommit] at hfirst hlast ⊢
  simp only [batCommit, ht, hst, hx, Bool.false_eq_true, if_false, if_neg (Nat.not_lt.2 hlast),
    if_neg (Nat.not_lt.2 hfirst)]

/-- COMMIT_NOW names the first tick, which is always near enough. -/
theorem batCommit_now {s : Block} {r : Req} {id : Nat} {b : Batch} (ht : s.tagged r = some (id, b))
    (hst : b.st = .opened) (hgrid : b.xmod = true → s.on MOD.MOD_STATUS.GRID_FREE 0 0 = false) :
    s.batCommit r none = (s.putBatch id { b with st := .requested, ctick := s.firstCommit b }, 0) :=
  batCommit_requests none ht hst hgrid le_rfl ((s.firstCommit_le b).trans (by omega))

/-- A batch that is neither SEALED nor PREPARED aborts on command. -/
theorem batAbortId_aborts {s : Block} {b : Batch} (r : Req) (id : Nat)
    (hst : b.st = .opened ∨ b.st = .requested ∨ b.st = .doomed) :
    s.batAbortId r id b = (s.abortBatch id 0x0A 0, 0) := by
  rcases hst with h | h | h <;> simp only [batAbortId, h]

theorem batAbort_aborts {s : Block} {r : Req} {id : Nat} {b : Batch} (ht : s.tagged r = some (id, b))
    (hst : b.st = .opened ∨ b.st = .requested ∨ b.st = .doomed) : s.batAbort r = (s.abortBatch id 0x0A 0, 0) := by
  simp only [batAbort, ht, batAbortId_aborts r id hst]

/-- ABORT_SEL acts on the batch that the requester's own BAT_SEL names. -/
theorem batAbortSel_aborts {s : Block} {r : Req} {q : Nat} {b : Batch} (hq : reqHeld r = some q)
    (hcfg : s.tin0cfg r = true) (hb : s.batches.find (s.rd BAT.BAT_SEL.ID 0 q) = some b)
    (hst : b.st = .opened ∨ b.st = .requested ∨ b.st = .doomed) :
    s.batAbortSel r = (s.abortBatch (s.rd BAT.BAT_SEL.ID 0 q) 0x0A 0, 0) := by
  have hown : s.own BAT.BAT_SEL.ID 0 r = s.rd BAT.BAT_SEL.ID 0 q := by simp only [own, hq]
  simp only [batAbortSel, hcfg, hown, hb, batAbortId_aborts r _ hst, Bool.not_true, Bool.false_eq_true, if_false]

end Block

/-- A command that is operation `op` of BAT_CMD answers what that operation leaves. -/
theorem answers_batCmd {c : Instr} {s : State} {r : Req} {op code : Nat} {b : Block}
    (he : exec c s = .next { s with m := s.m.wreg r 0x002044 op }) (hop : op < 8) (hm : s.m.mayWrite r 0x002044 = true)
    (h : s.m.batCmd r op = (b, code)) : Answers c s b :=
  answers_of_eq he ((Block.wreg_batCmd hop hm).trans (congrArg Prod.fst h))

/-- Settles O28: each command is a write of BAT_OPEN, or its own operation written to BAT_CMD. -/
theorem batchCommandsTakeEffect : Obligations.BatchCommandsTakeEffect := by
  intro s r q hq
  refine ⟨fun x id hm hen hgrid hid => ?opens, fun id b hm ht hb => ?tagCommands, fun b hm hcfg hb hst => ?abortSel⟩
  case opens =>
    refine answers_of_eq rfl ((Block.wreg_batOpen x hm).trans ?_)
    rw [Block.batOpen_opens hq hen hgrid hid, Block.setTag_held hq]
  case tagCommands =>
    have htag := Block.tagged_of_tagNow ht hb
    refine ⟨fun hst hx hfirst hlast => ?commitAt, fun hst hx => ?commitNow, fun hst hx hgrid => ?commitNowXmod,
      fun hst => ?abort⟩
    case commitAt =>
      have hf := s.m.firstCommit_local hx
      exact answers_batCmd rfl (by decide) hm
        (Block.batCommit_requests (some _) htag hst (by simp [hx]) (hf.trans_le hfirst) hlast)
    case commitNow =>
      have hf := s.m.firstCommit_local hx
      exact answers_batCmd rfl (by decide) hm (hf ▸ Block.batCommit_now htag hst (by simp [hx]))
    case commitNowXmod =>
      have hf := s.m.firstCommit_xmod hx
      exact answers_batCmd rfl (by decide) hm (hf ▸ Block.batCommit_now htag hst fun _ => hgrid)
    case abort => exact answers_batCmd rfl (by decide) hm (Block.batAbort_aborts htag hst)
  case abortSel => exact answers_batCmd rfl (by decide) hm (Block.batAbortSel_aborts hq hcfg hb hst)

namespace Block

/-! ### The open limit and the wake-up (R151, R170) -/

/-- A batch with no commit requested aborts when its open limit has passed. -/
theorem openLimit_aborts {s : Block} {id : Nat} {b : Batch} (hb : s.batches.find id = some b)
    (hst : b.st = .opened ∨ (b.st = .doomed ∧ b.ctick = 0)) (h : b.openedAt + s.g BAT.BAT_CFG.OPEN_LIMIT ≤ s.tick) :
    s.openLimit id = (s.abortBatch id 0x0E 0).fire EV.BAT.TIMEOUT := by
  simp only [openLimit, hb, if_pos hst, ge_iff_le, if_pos h]

/-- A slot of a power start that has slots left wakes its islands. -/
theorem wakeSlot_wakes {s : Block} (hp : s.powerStart = true) (h : s.g RISE.RISE_WAKE.SLOTS < 8) :
    let n := s.g RISE.RISE_WAKE.SLOTS
    s.wakeSlot = ((s.p RISE.RISE_WAKE.SLOTS (n + 1)).p RISE.RISE_WAKE.WOKEN (min (4 * (n + 1)) 31)).fireIf (n == 7)
      EV.RISE.WAKE_DONE := by
  simp only [wakeSlot, hp, decide_eq_false (Nat.not_le.2 h), Bool.not_true, Bool.or_self, Bool.false_eq_true, if_false,
    ge_iff_le]

/-! ### COMMIT frames that are taken (R161, R164) -/

section
variable {s s1 : Block} {h : Hdr} (ht : s.takes h 0x05 true s1)
include ht

theorem prepareRx_taken {parts : List Nat} (id tick : Nat) (hself : parts.contains s1.selfId = true) :
    s.prepareRx h id tick parts = s1.preparePart h.src.val id (s1.fullTick tick) parts := by
  rw [takes] at ht
  simp only [prepareRx, ht, if_pos hself]

theorem preparedRx_taken {coord id n : Nat} {b : Batch} (hb : s1.recordBatch coord id = some (n, b)) :
    s.preparedRx h coord id = s1.putBatch n { b with
      okFrom := h.src.val :: b.okFrom.erase h.src.val
      ctick := if b.remote && b.ctick == 0 then s1.tick + 1 else b.ctick } := by
  rw [takes] at ht
  simp only [preparedRx, ht, hb]

theorem refusedRx_taken {coord id n : Nat} {b : Batch} (code : Nat) (hb : s1.recordBatch coord id = some (n, b)) :
    s.refusedRx h coord id code = (s1.putBatch n { b with code := code }).abortBatch n code h.src.val := by
  rw [takes] at ht
  simp only [refusedRx, ht, hb]

theorem outcomeFrame_taken (id : Nat) (committed : Bool) :
    s.outcomeFrame h id committed = s1.outcomeRx h.src.val id committed := by
  rw [takes] at ht
  simp only [outcomeFrame, ht]

end
end Block

/-- A command that needs island `k` and the supervisor island answers its effect while both run. -/
theorem answers_onSupIsl {c : Instr} {s : State} {k : Nat} {f : Block → Block} {b : Block}
    (he : exec c s = .next { s with m := s.m.onSupIsl k f }) (hrun : s.m.withSup k = true) (h : f s.m = b) :
    Answers c s b :=
  answers_of_eq he ((s.m.onSupIsl_run k f hrun).trans h)

/-- Settles O29: each event's own rule, and for each COMMIT frame the rule of its record. -/
theorem batchEventsAndCommitFramesTakeEffect : Obligations.BatchEventsAndCommitFramesTakeEffect := by
  refine ⟨fun s hrun => ⟨fun id b hb hst h => ?openLimit, fun hp h => ?wakeSlot, ?outcomeTimeout⟩,
    fun s h s1 hrun ht => ⟨fun id tick parts hself => ?prepare,
      fun coord id n b hb => ⟨?prepared, fun code => ?refused⟩, fun id c => ?outcome⟩⟩
  case openLimit => exact answers_onSup rfl hrun (Block.openLimit_aborts hb hst h)
  case wakeSlot => exact answers_onSup rfl hrun (Block.wakeSlot_wakes hp h)
  case outcomeTimeout => exact answers_onSup rfl hrun rfl
  case prepare =>
    exact answers_onSupIsl rfl hrun (congrArg (·.mirrorSealed s.m) (Block.prepareRx_taken ht id.val tick hself))
  case prepared => exact answers_onSupIsl rfl hrun (Block.preparedRx_taken ht hb)
  case refused => exact answers_onSupIsl rfl hrun (Block.refusedRx_taken ht code.val hb)
  case outcome => exact answers_onSupIsl rfl hrun (Block.outcomeFrame_taken ht id.val c)

end Sys2Proof.Machine
end

section
/-!
The statements of translation's family. Each operation's rule is stated once, at a state where its conditions hold. A
command is one write of its command register (`answers_ruled`), or with SHADOW_OPEN and PW_START an access of its own
(`answers_acc`), and an event is its operation while the supervisor island runs (`answers_onSup`).
-/
namespace Sys2Proof.Machine

/-! ### Accesses and command registers -/

/-- A command that is one access answers the access's effect while the access can be made. -/
theorem answers_acc {c : Instr} {s : State} {r : Req} {f : Block → Block × Nat} {b : Block} {code : Nat}
    (he : exec c s = .next { s with m := s.m.acc r f }) (hl : s.m.live r = true) (h : f s.m = (b, code)) :
    Answers c s b :=
  answers_of_eq he ((s.m.acc_live r f hl).trans (congrArg Prod.fst h))

/-- A command that is one write of a command register answers what the register's rule leaves. -/
theorem answers_ruled {c : Instr} {s : State} {r : Req} {off v code : Nat} {y : Block × Nat} {b : Block}
    (he : exec c s = .next { s with m := s.m.wreg r off v }) (hm : s.m.mayWrite r off = true)
    (ho : isWritableReg off = true) (hc : s.m.cmdWrite r off v = some y) (h : y = (b, code)) : Answers c s b :=
  answers_of_eq he ((Block.wreg_ruled hm ho hc).trans (congrArg Prod.fst h))

namespace Block

theorem SameBut.pmap {s t : Block} (h : SameBut s t) : t.pmap = s.pmap := by
  have hpmap := congrArg Block.pmap h
  exact hpmap

/-! ### The shadow (R187) -/

/-- A tower point map that did not change is not stored again. -/
theorem mapSave_unchanged {s s0 : Block} (h : s.pmap = s0.pmap) : s.mapSave s0 = s := if_pos h

theorem shadowOpen_opens {s : Block} {r : Req} (hr : reqKind r = 1) (hold : s.on XLT.XLT_STAT.HOLD_OLD 0 0 = false)
    (l : List MapLeaf) :
    s.shadowOpen r 1 l = ({ s.p XLT.XLT_CTRL.SHADOW_OPEN 1 with
      pmap := if l.isEmpty then s.pmap else l, wcache := s.wcache.filter fun c => !c.pre }, 0) := by
  simp [shadowOpen, hr, hold, p]

/-- Closing rebuilds SHADOW's tables below ladder stage 2, which the write itself does not move. -/
theorem shadowOpen_closes {s : Block} {r : Req} (hr : reqKind r = 1) (l : List MapLeaf) :
    let s1 := s.p XLT.XLT_CTRL.SHADOW_OPEN 0
    s.shadowOpen r 0 l = (if s.g PWR.PWR_STAT.LADDER < 2 then s1.buildTables s1.shadowRoot else s1, 0) := by
  have hladder := s.g_p_field XLT.XLT_CTRL.SHADOW_OPEN PWR.PWR_STAT.LADDER 0 (by decide)
  simp only [shadowOpen, hr, rebuild, hladder, ge_iff_le, ← not_lt, ite_not, ne_eq, not_true_eq_false, zero_ne_one,
    false_and, if_false]

theorem shadowOpen_held {s : Block} {r : Req} (hr : reqKind r = 1) (hold : s.on XLT.XLT_STAT.HOLD_OLD 0 0 = true)
    (l : List MapLeaf) : s.shadowOpen r 1 l = (s.refuse 0x040 0x0A r 0x040040, 0x0A) := by
  simp [shadowOpen, hr, hold]

/-- SHADOW_OPEN is written by firmware only. -/
theorem shadowOpen_not_firmware {s : Block} {r : Req} (hr : reqKind r ≠ 1) (v : Nat) (l : List MapLeaf) :
    s.shadowOpen r v l = (s.refuse 0x040 0x01 r 0x040040, 0x01) := if_pos hr

end Block

/-- A write of SHADOW_OPEN that changes it answers its rule's effect, with a changed map on its way to the store. -/
theorem answers_shadowOpenWrite {s : State} {r : Req} {o : Option (List MapLeaf)} {b : Block} {code : Nat}
    (hl : s.m.live r = true) (hv : s.m.on XLT.XLT_CTRL.SHADOW_OPEN 0 0 = !o.isSome)
    (h : s.m.shadowOpen r (b2n o.isSome) (o.getD []) = (b, code)) :
    Answers (.shadowOpenWrite r o) s (b.mapSave s.m) := by
  refine answers_acc (code := code) rfl hl ?_
  simp only [hv, Bool.not_beq_self, Bool.false_eq_true, if_false, h]

/-- A refused write of SHADOW_OPEN records the refusal and stores nothing. -/
theorem answers_shadowOpenWrite_refused {s : State} {r : Req} {o : Option (List MapLeaf)} {code : Nat}
    (hl : s.m.live r = true) (hv : s.m.on XLT.XLT_CTRL.SHADOW_OPEN 0 0 = !o.isSome)
    (h : s.m.shadowOpen r (b2n o.isSome) (o.getD []) = (s.m.refuse 0x040 code r 0x040040, code)) :
    Answers (.shadowOpenWrite r o) s (s.m.refuse 0x040 code r 0x040040) := by
  have hmap := Block.mapSave_unchanged (s.m.sameBut_refuse 0x040 code r 0x040040).pmap
  exact hmap ▸ answers_shadowOpenWrite hl hv h

namespace Block

/-! ### Prewarm, table window, roots and the walk-fault record (R176, R182, R187, R191) -/

theorem pwStart_starts {s : Block} {r : Req} (h : s.pwStartCode = 0) (hladder : s.g PWR.PWR_STAT.LADDER < 2) :
    s.pwStart r = ((s.p XLT.XLT_STAT.PW_BUSY 1).p XLT.XLT_PW_COUNT.FAILED 0, 0) := by
  simp only [pwStart, h, hladder, decide_true, b2n, if_true]

theorem pwStart_refused {s : Block} {r : Req} (h : s.pwStartCode ≠ 0) :
    s.pwStart r = (s.refuse 0x040 s.pwStartCode r 0x040040, s.pwStartCode) := if_neg h

section
variable {s : Block} {r : Req} {v : Nat}

/-- On an open page firmware moves either bound within LPDDR5, as long as the limit stays above the base. -/
theorem tblWrite_sets (limit : Bool) (hr : reqKind r = 1) (hopen : s.on HDR.PAGE_CTRL.LOCK 0x040 0 = false)
    (hv : v % 2 ^ 28 ≤ 0x200000)
    (h : (if limit then s.g XLT.XLT_TBL_BASE.BASE else v % 2 ^ 28) <
      if limit then v % 2 ^ 28 else s.g XLT.XLT_TBL_LIMIT.LIMIT) :
    s.tblWrite r limit (v % 2 ^ 28) =
      (s.p (if limit then XLT.XLT_TBL_LIMIT.LIMIT else XLT.XLT_TBL_BASE.BASE) (v % 2 ^ 28), 0) := by
  simp only [tblWrite, hr, hopen, Nat.mod_mod, gt_iff_lt, ne_eq, not_true_eq_false, Bool.false_eq_true, if_false,
    if_neg (Nat.not_lt.2 hv), if_neg (Nat.not_le.2 h)]

/-- Firmware writes the root that is SHADOW while the shadow is open. -/
theorem rootWrite_sets {which : Nat} (hr : reqKind r = 1) (hopen : s.g XLT.XLT_CTRL.SHADOW_OPEN ≠ 0)
    (h : s.g XLT.XLT_STAT.ACTIVE ≠ which) :
    s.rootWrite r which v = (s.p (if which = 0 then XLT.XLT_ROOT0.ROOT0 else XLT.XLT_ROOT1.ROOT1) v, 0) := by
  simp only [rootWrite, hr, hopen, h, or_self, ne_eq, not_true_eq_false, if_false]

/-! ### TIN_GRANT (R45, R185) -/

theorem grantWrite_open (hopen : s.on HDR.PAGE_CTRL.LOCK 0x041 0 = false) :
    s.grantWrite r v =
      (((s.p TIN.TIN_GRANT.OPER (v % 16)).p TIN.TIN_GRANT.LS (v / 16 % 16)).fire EV.TIN.GRANT_CHANGE, 0) := by
  simp [grantWrite, hopen, bits]

/-- On a locked page a value that changes OPER is refused. -/
theorem grantWrite_locked (hlock : s.on HDR.PAGE_CTRL.LOCK 0x041 0 = true) (h : v % 16 ≠ s.g TIN.TIN_GRANT.OPER) :
    s.grantWrite r v = (s.refuse 0x041 0x02 r 0x041048, 0x02) := by
  simp [grantWrite, hlock, bits, h]

end

end Block

/-- Settles O31: a command is the access of SHADOW_OPEN or PW_START, or a write of its own command register. -/
theorem translationAndTinCommandsTakeEffect : Obligations.TranslationAndTinCommandsTakeEffect := by
  refine ⟨fun s r => ⟨fun l hl hr => ⟨fun hv hold => ?opens, fun hv => ?closes, fun hv hold => ?held⟩,
      fun o hl hr hv => ?notFirmware, fun hl h hladder => ?prewarm, fun hl h => ?prewarmRefused,
      fun w hr hopen hw => ⟨fun hm h => ?base, fun hm h => ?limit⟩,
      fun w hr hopen => ⟨fun hm h => ?root0, fun hm h => ?root1⟩, fun hm => ?wfClear⟩,
    fun s r w hm => ⟨fun hopen => ?grant, fun hlock h => ?grantRefused⟩⟩
  case opens => exact answers_shadowOpenWrite hl hv (Block.shadowOpen_opens hr hold l)
  case closes => exact answers_shadowOpenWrite hl hv (Block.shadowOpen_closes hr [])
  case held => exact answers_shadowOpenWrite_refused hl hv (Block.shadowOpen_held hr hold l)
  case notFirmware => exact answers_shadowOpenWrite_refused hl hv (Block.shadowOpen_not_firmware hr _ _)
  case prewarm => exact answers_acc rfl hl (Block.pwStart_starts h hladder)
  case prewarmRefused => exact answers_acc rfl hl (Block.pwStart_refused h)
  case base => exact answers_ruled rfl hm (by decide) rfl (Block.tblWrite_sets false hr hopen hw h)
  case limit => exact answers_ruled rfl hm (by decide) rfl (Block.tblWrite_sets true hr hopen hw h)
  case root0 => exact answers_ruled rfl hm (by decide) rfl (Block.rootWrite_sets hr hopen h)
  case root1 => exact answers_ruled rfl hm (by decide) rfl (Block.rootWrite_sets hr hopen h)
  case wfClear => exact answers_ruled (code := 0) rfl hm (by decide) rfl rfl
  case grant => exact answers_ruled rfl hm (by decide) rfl (Block.grantWrite_open hopen)
  case grantRefused => exact answers_ruled rfl hm (by decide) rfl (Block.grantWrite_locked hlock h)

namespace Block

/-! ### Events of translation (R189 to R191) -/

theorem prewarmDone_busy {s : Block} (h : s.on XLT.XLT_STAT.PW_BUSY 0 0 = true) :
    s.prewarmDone =
      ((s.prewarmAll ((s.genNow + 1) % 16) s.prewarmList).p XLT.XLT_STAT.PW_BUSY 0).fire EV.XLT.PREWARM_DONE := if_pos h

/-- Without a user of the old generation HOLD_OLD clears and the sweep starts. A cache keeps the entries of the generation
now, and the prewarmed entries of the next. -/
theorem holdOldClear_clears {s : Block} (hold : s.on XLT.XLT_STAT.HOLD_OLD 0 0 = true) (h : s.oldUser = false) :
    let keep (c : CEnt) : Bool := c.gen == s.genNow || (c.pre && c.gen == (s.genNow + 1) % 16)
    s.holdOldClear = { (s.p XLT.XLT_STAT.HOLD_OLD 0).p XLT.XLT_STAT.SWEEP 1 with
      wcache := s.wcache.filter keep, ucache := s.ucache.map fun u => (u.1, u.2.filter keep) } := by
  simp [holdOldClear, hold, h, p]

theorem sweepDone_sweeping {s : Block} (h : s.on XLT.XLT_STAT.SWEEP 0 0 = true) :
    s.sweepDone = (s.p XLT.XLT_STAT.SWEEP 0).fire EV.XLT.SWAP_DONE := if_pos h

/-- A dual write settles with its leaf put in the place that root 0 gives it, and then in the place that root 1 gives it in
the tables as the first write left them. -/
theorem dualSettle_writes {s : Block} {page level : Nat} {o : OvEnt} {x0 a0 x1 a1 : Nat}
    (ho : s.overlay.find? (fun x => x.page == page && x.level == level) = some o)
    (h0 : s.leafPlace (o.page * leafSpan o.level) 3 (s.g XLT.XLT_ROOT0.ROOT0) = some (x0, a0))
    (h1 : (s.putEntry a0 o.leaf).leafPlace (o.page * leafSpan o.level) 3 (s.g XLT.XLT_ROOT1.ROOT1) = some (x1, a1)) :
    s.dualSettle page level = { (s.putEntry a0 o.leaf).putEntry a1 o.leaf with
      overlay := s.overlay.filter fun x => x != o } := by
  simp only [dualSettle, ho, h0, h1]
  rfl

end Block

/-- Settles O32: each event's own rule. -/
theorem translationEventsTakeEffect : Obligations.TranslationEventsTakeEffect := by
  intro s hrun
  refine ⟨fun h => ?prewarm, fun hseal hold h => ?hold, fun h => ?sweep, fun page level o ho x0 a0 x1 a1 h0 h1 => ?dual⟩
  case prewarm => exact answers_onSup rfl hrun (Block.prewarmDone_busy h)
  case hold => exact answers_onSup rfl hrun ((if_pos hseal).trans (Block.holdOldClear_clears hold h))
  case sweep => exact answers_onSup rfl hrun (Block.sweepDone_sweeping h)
  case dual => exact answers_onSup rfl hrun (Block.dualSettle_writes ho h0 h1)

end Sys2Proof.Machine
end

section
/-!
The commands of the field pages (R214, R221, R232, R237). Each is a write of its page's command register
(`answers_ruled`): the register's rule is stated once for every page of its kind, and then what the rule leaves with the
right and without it.
-/
namespace Sys2Proof.Machine
namespace Block

/-! ### Command registers of the LOOP, DIO and AIO pages -/

/-- LOOP_CMD of each LOOP page is a command register of its own page. -/
theorem loopCmd_regAt (page : Fin 16) :
    isWritableReg (0x030068 + 0x1000 * page.val) = true ∧ (regAt (0x030068 + 0x1000 * page.val)).1 = page.val := by
  revert page; decide

theorem dioClr_regAt (d : Fin 6) :
    isWritableReg (0x05004C + 0x1000 * d.val) = true ∧ (regAt (0x05004C + 0x1000 * d.val)).1 = d.val := by
  revert d; decide

/-- SLICE_CMD of a slice's page is numbered among the slices of its kind. -/
theorem sliceCmd_regAt (sl : Fin 9) :
    isWritableReg (slPage sl.val * 4096 + if sl.val < 6 then 0x05C else 0x06C) = true ∧
      (regAt (slPage sl.val * 4096 + if sl.val < 6 then 0x05C else 0x06C)).1 = slIdx sl.val := by
  revert sl; decide

section
variable {s : Block} {r : Req} {v : Nat}

theorem cmdWrite_loopCmd (page : Fin 16) :
    s.cmdWrite r (0x030068 + 0x1000 * page.val) v = some (s.loopCmd r page.val (v.testBit 0)) := by
  obtain ⟨-, hat⟩ := loopCmd_regAt page
  have hp : (0x030068 + 0x1000 * page.val) / 4096 = 0x030 + page.val := by omega
  have ho : (0x030068 + 0x1000 * page.val) % 4096 = 0x068 := by omega
  simp (disch := omega) only [cmdWrite, hp, ho, hat, if_pos, if_neg, if_true]

/-- The command registers of a DIO page: DIO_CH_CMD at 0x04C and SLICE_CMD at 0x05C. -/
theorem cmdWrite_dioPage {off d : Nat} (hd : d < 6) (hp : off / 4096 = 0x050 + d) (hat : (regAt off).1 = d)
    (hv : v.testBit 0 = true) :
    s.cmdWrite r off v =
      if off % 4096 = 0x04C then some (s.dioClr r d)
      else if off % 4096 = 0x05C then some (s.sliceRearm r d) else none := by
  simp (disch := omega) only [cmdWrite, hp, hat, hv, if_pos, if_neg, if_true]

/-- The command register of an AIO page: SLICE_CMD at 0x06C. -/
theorem cmdWrite_aioPage {off i : Nat} (hi : i < 3) (hp : off / 4096 = 0x058 + i) (hat : (regAt off).1 = i)
    (hv : v.testBit 0 = true) :
    s.cmdWrite r off v = if off % 4096 = 0x06C then some (s.sliceRearm r (6 + i)) else none := by
  simp (disch := omega) only [cmdWrite, hp, hat, hv, if_pos, if_neg, if_true]

theorem cmdWrite_dioClr (d : Fin 6) (hv : v.testBit 0 = true) :
    s.cmdWrite r (0x05004C + 0x1000 * d.val) v = some (s.dioClr r d.val) :=
  (cmdWrite_dioPage d.isLt (by omega) (dioClr_regAt d).2 hv).trans (if_pos (by omega))

/-- SLICE_CMD rearms the slice of the page that it stands on. -/
theorem cmdWrite_sliceCmd (sl : Fin 9) (hv : v.testBit 0 = true) :
    s.cmdWrite r (slPage sl.val * 4096 + if sl.val < 6 then 0x05C else 0x06C) v = some (s.sliceRearm r sl.val) := by
  obtain ⟨-, hat⟩ := sliceCmd_regAt sl
  by_cases h : sl.val < 6
  · simp only [slPage, slIdx, h, if_true] at hat ⊢
    rw [cmdWrite_dioPage h (by omega) hat hv, if_neg (by omega), if_pos (by omega)]
  · have hself : 6 + (sl.val - 6) = sl.val := by omega
    simp only [slPage, slIdx, h, if_false] at hat ⊢
    rw [cmdWrite_aioPage (by omega) (by omega) hat hv, if_pos (by omega), hself]

/-! ### What each rule does for a session -/

/-- A session may clear a loop of another class than LS, and with tin 0 or tin 1 every loop (R221). -/
theorem loopCmd_clears {n : Fin 64} {page : Nat}
    (h : s.lp LOOP.LOOP_CFG.LS (16 * page + s.own LOOP.LOOP_SEL.LOOP page (.ses n)) ≠ 1 ∨ s.tinOf (.ses n) = 0 ∨
      s.tinOf (.ses n) = 1) :
    s.loopCmd (.ses n) page true = (s.loopFaultClr (16 * page + s.own LOOP.LOOP_SEL.LOOP page (.ses n)), 0) := by
  have hpass : s.loopClassCode (.ses n) (16 * page + s.own LOOP.LOOP_SEL.LOOP page (.ses n)) = 0 :=
    if_neg fun ⟨hls, h0, h1⟩ => h.elim (· hls) (·.elim h0 h1)
  simp only [loopCmd, hpass, if_true]

theorem loopCmd_refused {n : Fin 64} {page : Nat} (clr : Bool)
    (hls : s.lp LOOP.LOOP_CFG.LS (16 * page + s.own LOOP.LOOP_SEL.LOOP page (.ses n)) = 1)
    (h0 : s.tinOf (.ses n) ≠ 0) (h1 : s.tinOf (.ses n) ≠ 1) :
    s.loopCmd (.ses n) page clr = (s.refuse (0x030 + page) 0x01 (.ses n) (0x030068 + 0x1000 * page), 0x01) := by
  have hcode : s.loopClassCode (.ses n) (16 * page + s.own LOOP.LOOP_SEL.LOOP page (.ses n)) = 0x01 :=
    if_pos ⟨hls, h0, h1⟩
  simp only [loopCmd, hcode, one_ne_zero, if_false]

theorem dioClr_clears {n : Fin 64} {d : Nat} (h : s.holds (.ses n) .configure = true) :
    s.dioClr (.ses n) d = (s.setDch HID.DCLR (s.dioSel (.ses n) d) 1, 0) := if_pos h

theorem dioClr_refused {n : Fin 64} {d : Nat} (h : s.holds (.ses n) .configure = false) :
    s.dioClr (.ses n) d = (s.refuse (0x050 + d) 0x01 (.ses n) (0x05004C + 0x1000 * d), 0x01) := by
  have hoff : (0x050 + d) * 4096 + 0x04C = 0x05004C + 0x1000 * d := by omega
  simp only [dioClr, h, hoff, Bool.false_eq_true, if_false]

theorem sliceRearm_rearms {sl : Nat} (h : s.tin01cfg r = true) :
    s.sliceRearm r sl = ((s.wr HID.SLREARM 0 sl 1).wr HID.SLREARMAT 0 sl (s.tick + 1), 0) := if_pos h

theorem sliceRearm_refused {sl : Nat} (h : s.tin01cfg r = false) :
    s.sliceRearm r sl =
      (s.refuse (slPage sl) 0x01 r (slPage sl * 4096 + if sl < 6 then 0x05C else 0x06C), 0x01) :=
  if_neg (Bool.eq_false_iff.1 h)

end
end Block

/-- Settles O35: each command is one write of its page's command register. -/
theorem fieldCommandsTakeEffect : Obligations.FieldCommandsTakeEffect := by
  intro s n
  refine ⟨fun page hm => ⟨fun h => ?loopClears, fun hls h0 h1 => ?loopRefused⟩,
    fun d hm => ⟨fun h => ?dioClears, fun h => ?dioRefused⟩, fun sl => ?slice⟩
  case loopClears =>
    exact answers_ruled rfl hm (Block.loopCmd_regAt page).1 (Block.cmdWrite_loopCmd page) (Block.loopCmd_clears h)
  case loopRefused =>
    exact answers_ruled rfl hm (Block.loopCmd_regAt page).1 (Block.cmdWrite_loopCmd page)
      (Block.loopCmd_refused true hls h0 h1)
  case dioClears =>
    exact answers_ruled rfl hm (Block.dioClr_regAt d).1 (Block.cmdWrite_dioClr d rfl) (Block.dioClr_clears h)
  case dioRefused =>
    exact answers_ruled rfl hm (Block.dioClr_regAt d).1 (Block.cmdWrite_dioClr d rfl) (Block.dioClr_refused h)
  case slice =>
    intro off hm
    have hrule {b : Block} {code : Nat} (h : s.m.sliceRearm (.ses n) sl.val = (b, code)) :
        Answers (.sliceRearmCmd (.ses n) sl) s b :=
      answers_ruled rfl hm (Block.sliceCmd_regAt sl).1 (Block.cmdWrite_sliceCmd sl rfl) h
    exact ⟨fun h => hrule (Block.sliceRearm_rearms h), fun h => hrule (Block.sliceRearm_refused h)⟩

end Sys2Proof.Machine
end

section
/-!
Digital inputs, protected outputs and slices (R226 to R239). Each operation's rule is stated once, at a state where its
conditions hold; an event is that operation while its island runs, with the supervisor island (`answers_onSupIsl`) or
without it (`answers_onIsl`), and a slice's cause sets while there is power (`answers_onPower`).
-/
namespace Sys2Proof.Machine

/-- A command that needs island `k` alone answers its effect while that island runs. -/
theorem answers_onIsl {c : Instr} {s : State} {k : Nat} {f : Block → Block} {b : Block}
    (he : exec c s = .next { s with m := s.m.onIsl k f }) (hrun : s.m.islandRuns k = true) (h : f s.m = b) :
    Answers c s b :=
  answers_of_eq he ((s.m.onIsl_run k f hrun).trans h)

/-- A command that needs power alone answers its effect in RUN and in HALT. -/
theorem answers_onPower {c : Instr} {s : State} {f : Block → Block} {b : Block}
    (he : exec c s = .next { s with m := s.m.onPower f }) (hp : s.m.g HID.PWRST ≤ 1) (h : f s.m = b) : Answers c s b :=
  answers_of_eq he ((if_pos hp).trans h)

namespace Block
section
variable {s : Block} {c sl : Nat}

/-! ### Digital inputs (R226, R228, R229) -/

/-- With FILTER = 0 and a running supervisor a new level passes the filter at once. -/
theorem dioInput_direct (level : Bool) (hin : s.isIn c = true)
    (h : s.dch DIO.DIO_CH_CFG.FILTER c = 0 ∧ s.g HID.PWRST = 0 ∧ s.on HID.ISLANDDOWN 0 0 = false) :
    s.dioInput c level = (s.setDch HID.DTERM c (b2n level)).dioFilter c :=
  (if_pos hin).trans (if_pos h)

theorem dioInput_waits (level : Bool) (hin : s.isIn c = true)
    (h : ¬ (s.dch DIO.DIO_CH_CFG.FILTER c = 0 ∧ s.g HID.PWRST = 0 ∧ s.on HID.ISLANDDOWN 0 0 = false)) :
    s.dioInput c level = s.setDch HID.DTERM c (b2n level) :=
  (if_pos hin).trans (if_neg h)

/-- The filtered value takes the level of the terminal, and the channel alerts a rising or a falling edge. -/
theorem dioFilter_follows {level : Nat} (hin : s.isIn c = true) (hterm : s.dch HID.DTERM c = level)
    (hfilt : s.dch HID.DFILT c ≠ level) :
    s.dioFilter c =
      if level = 1 then (s.setDch HID.DFILT c level).dchAlert c 0 DIO.DIO_CH_CFG.EV_RISE
      else (s.setDch HID.DFILT c level).dchAlert c 1 DIO.DIO_CH_CFG.EV_FALL := by
  subst hterm
  exact if_pos ⟨hin, hfilt.symm⟩

theorem wireBreak_declares (hmode : s.dch DIO.DIO_CH_CFG.MODE c = 3) (h : s.dch HID.DWB c = 0) :
    s.wireBreak c = (s.setDch HID.DWB c 1).dchAlert c 2 DIO.DIO_CH_CFG.EV_FAULT := if_pos ⟨hmode, h⟩

/-! ### Digital outputs (R232 to R234) -/

/-- A conducting output with a short circuit, or with over-temperature (`ot`), turns off with its own bit latched. -/
theorem driverFault_conducting (ot : Bool) (hout : s.isOut c = true) (h : s.dch HID.DDRIVE c = 1) :
    s.driverFault c ot = ((s.setDch (if ot then HID.DOT else HID.DSC) c 1).switchOff c).dchAlert c (if ot then 4 else 3)
      DIO.DIO_CH_CFG.EV_FAULT := if_pos (by simp [hout, h])

theorem openLoad_shows (hout : s.isOut c = true) (hen : s.dch DIO.DIO_CH_CFG.OL_EN c = 1) (hdrive : s.dch HID.DDRIVE c = 1)
    (h : s.dch HID.DOL c = 0) : s.openLoad c = (s.setDch HID.DOL c 1).dchAlert c 5 DIO.DIO_CH_CFG.EV_FAULT :=
  if_pos (by simp [hout, hen, hdrive, h])

theorem overload_begins (h : s.rd HID.OVEPISODE sl 0 ≠ 1) :
    s.overload sl = ((s.wr HID.OVEPISODE sl 0 1).wr HID.OVFIRED sl 0 0).shedOne sl := if_neg h

/-- An episode sheds one more output while the excess lasts, and then ends. -/
theorem overloadNext_episode (excess : Bool) (h : s.rd HID.OVEPISODE sl 0 = 1) :
    s.overloadNext sl excess = if excess then s.shedOne sl else s.wr HID.OVEPISODE sl 0 0 := if_pos h

/-! ### Slices (R235 to R239) -/

/-- A watchdog expires in an OPERATING slice once its TIMEOUT may have passed on the slice's own clock. -/
theorem wdogSlice_expires (hrun : s.slState sl = 0) (hon : s.slTimeout sl ≠ 0)
    (h : 4 * s.slTimeout sl * 9999 < (s.rd HID.SLAGE 0 sl + 1) * 10000) :
    s.wdogSlice sl = ((s.sliceSafe sl).slStop sl 1).fire (evWdog sl) := by
  have hmay : s.wdogMay sl = true := by simp [wdogMay, hrun, hon, h]
  exact if_pos hmay

/-- A new cause takes a slice that is not in FAULT there; FS_LOW is a digital slice's alone. -/
theorem causeSet_faults {b : Nat} (hst : s.slState sl ≠ 2) (h : (s.slCause sl).testBit b = false) :
    s.causeSet sl b = ((((s.setSlCause sl (setBit (s.slCause sl) b)).sliceSafe sl).slStop sl 2).fire (evFaultOn sl)).fireIf
      (b == 0 && decide (sl < 6)) (EV.DIO.FS_LOW sl) := by
  simp only [causeSet, h, hst, Bool.false_eq_true, if_false]

/-- In a slice in FAULT a new cause stands beside the others. -/
theorem causeSet_in_fault {b : Nat} (hst : s.slState sl = 2) (h : (s.slCause sl).testBit b = false) :
    s.causeSet sl b = (s.setSlCause sl (setBit (s.slCause sl) b)).fireIf (b == 0 && decide (sl < 6)) (EV.DIO.FS_LOW sl) := by
  simp only [causeSet, h, hst, Bool.false_eq_true, if_false, if_true]

/-- A cause that stands clears, except ISL without a restart and CFG without a configuration. -/
theorem causeGone_clears {x : SliceCause} (h : (s.slCause sl).testBit (causeBit x) = true)
    (hisl : x = .isl → s.g HID.RESTART ≠ 0) (hcfg : x = .cfg → s.on HID.UNCFG 0 0 = false) :
    s.causeGone sl x = (s.setSlCause sl (clrBit (s.slCause sl) (causeBit x))).wr HID.SLCLEAR 0 sl s.tick := by
  have hkept : (!(s.slCause sl).testBit (causeBit x) || (x == .isl && s.g HID.RESTART == 0) ||
      (x == .cfg && s.on HID.UNCFG 0 0)) = false := by
    simp only [h, Bool.not_true, Bool.false_or, Bool.or_eq_false_iff, Bool.and_eq_false_imp, beq_iff_eq, beq_eq_false_iff_ne]
    exact ⟨hisl, hcfg⟩
  exact if_neg (Bool.eq_false_iff.1 hkept)

/-- A slice without a cause leaves FAULT at a boundary after the one cleared at last. -/
theorem faultExitAt_leaves {n : Nat} (hfault : s.slState sl = 2) (hnone : s.slCause sl = 0)
    (h : s.rd HID.SLCLEAR 0 sl < n) : s.faultExitAt n sl = (s.slStop sl 1).fire (evFaultOff sl) :=
  (if_pos h).trans (if_pos ⟨hfault, hnone⟩)

end
end Block

/-- Settles O34: each event's own rule. -/
theorem inputsOutputsAndSlicesFollow : Obligations.InputsOutputsAndSlicesFollow := by
  refine ⟨fun s c => ⟨fun level hrun hin => ⟨fun h => ?waits, fun h => ?direct⟩,
      fun hrun => ⟨fun hin hterm hfilt => ?rises, fun hin hterm hfilt => ?falls, fun hmode h => ?wireBreaks, ?wireHeals⟩⟩,
    fun s c d => ⟨fun hrun hout h => ⟨?short, ?hot⟩, fun hrun => ⟨fun hout hen hdrive h => ?openLoad, ?loadBack⟩,
      fun hrun => ⟨fun h => ?overload, fun h => ⟨?shedNext, ?episodeEnds⟩⟩⟩,
    fun s sl => ⟨fun hrun hst hon h => ?watchdog, fun hp x h => ⟨fun hst => ?fault, fun hst => ?faultAgain⟩,
      fun hrun x h hisl hcfg => ?causeClears, fun hrun hst hnone h => ?leaves⟩⟩
  case waits => exact answers_onIsl rfl hrun (Block.dioInput_waits level hin h)
  case direct => exact answers_onIsl rfl hrun (Block.dioInput_direct level hin h)
  case rises => exact answers_onSupIsl rfl hrun (Block.dioFilter_follows hin hterm hfilt)
  case falls => exact answers_onSupIsl rfl hrun (Block.dioFilter_follows hin hterm hfilt)
  case wireBreaks => exact answers_onSupIsl rfl hrun (Block.wireBreak_declares hmode h)
  case wireHeals => exact answers_onSupIsl rfl hrun rfl
  case short => exact answers_onIsl rfl hrun (Block.driverFault_conducting false hout h)
  case hot => exact answers_onIsl rfl hrun (Block.driverFault_conducting true hout h)
  case openLoad => exact answers_onSupIsl rfl hrun (Block.openLoad_shows hout hen hdrive h)
  case loadBack => exact answers_onSupIsl rfl hrun rfl
  case overload => exact answers_onSupIsl rfl hrun (Block.overload_begins h)
  case shedNext => exact answers_onSupIsl rfl hrun (Block.overloadNext_episode true h)
  case episodeEnds => exact answers_onSupIsl rfl hrun (Block.overloadNext_episode false h)
  case watchdog => exact answers_onIsl rfl hrun (Block.wdogSlice_expires hst hon h)
  case fault => exact answers_onPower rfl hp (congrArg Block.noteFault (Block.causeSet_faults hst h))
  case faultAgain => exact answers_onPower rfl hp (congrArg Block.noteFault (Block.causeSet_in_fault hst h))
  case causeClears => exact answers_onIsl rfl hrun (Block.causeGone_clears h hisl hcfg)
  case leaves => exact answers_onSupIsl rfl hrun (congrArg Block.noteFault (Block.faultExitAt_leaves hst hnone h))

end Sys2Proof.Machine
end

section
/-!
A read of CAP_FIFO_L (R242) takes an entry of the channel that the requester's own CAP_SEL names, and returns the oldest
entry of the channel that the access's index picks. The two channels are one for every requester but a peer: a peer holds
no CAP_SEL, which then counts as 0 (R462), while its accesses take the index that its STAGE frame carried (R303),
`HID.PEERSEL`. The model gives that field a value only while it handles such a frame; the statement ranges over every
state, and fails where the field is not 0.
-/
namespace Sys2Proof.Machine
namespace Block

/-- CAP_FIFO_L shows the oldest entry of its FIFO; the cells hold nothing of it. -/
theorem regVal_capFifo (s : Block) (r : Req) : s.regVal r 0x05C058 = s.capFifoLow (s.selAt r 0x05C058) := by
  have hreg : regAt 0x05C058 = (0, [CAP.CAP_FIFO_L.TS_L]) := rfl
  have hshown (k : Nat) : s.fieldAt r 0 k CAP.CAP_FIFO_L.TS_L = 0 := if_pos (.inr (by decide))
  simp [regVal, hreg, hshown, packWord, pageKind, extra]

/-- What a requester reads at CAP_FIFO_L is the oldest entry of the channel that its access's index picks. -/
theorem rreg_capFifo_value {s : Block} {r : Req} (hlive : s.live r = true) (hsel : s.selOk r .read 0x05C058 = true) :
    (s.rreg r 0x05C058).rd HID.RDATA 0 (holdKey r) = s.capFifoLow (s.selAt r 0x05C058) % 2 ^ 32 := by
  rw [rreg, acc_live _ _ _ hlive, readReg_low (by decide) hsel, ← regVal_capFifo]
  exact rd_wr_same ..

end Block

/-- Channel 0 has captured an edge, and the index of peers' accesses is 1. -/
def peerIndexOne : Block := { Block.reset.wr HID.PEERSEL 0 0 1 with capFifo := [(0, [⟨5, true⟩])] }

/-- Module 1, of tin 0. -/
def peerOne : Req := .peer 1 0 0 false

/-- What peer 1 reads is channel 1's oldest entry, and channel 1 has none. -/
theorem peerIndexOne_reads : peerIndexOne.capFifoLow (peerIndexOne.selAt peerOne 0x05C058) % 2 ^ 32 = 0 := by decide

/-- Refutes O36: peer 1 pops the edge stamped 5 from channel 0 and reads 0, for channel 1. -/
theorem not_captureAndAnalogConvert : ¬ Obligations.CaptureAndAnalogConvert := by
  rintro ⟨hcapture, -⟩
  obtain ⟨-, -, hpop⟩ := hcapture ⟨[], peerIndexOne⟩ 0
  have hlive : peerIndexOne.live peerOne = true := by decide
  have hsel : peerIndexOne.selOk peerOne .read 0x05C058 = true := by decide
  obtain ⟨u, hu, -, -, hread⟩ := hpop peerOne ⟨5, true⟩ [] hlive hsel rfl
  cases hu
  rw [Block.rreg_capFifo_value hlive hsel, peerIndexOne_reads] at hread
  exact absurd hread (by decide)

end Sys2Proof.Machine
end

section
/-!
The audio path (R258 to R273). Each operation's rule is stated once, at a state where its conditions hold. A command is an
access of its own (`answers_acc`) or one write of its command register (`answers_ruled`), and an event is its operation
while the audio island runs, alone (`answers_onIsl`) or with the supervisor island (`answers_onSupIsl`).
-/
namespace Sys2Proof.Machine
namespace Block

/-! ### Commands of the audio pages (R258, R259, R267) -/

/-- ZONE_CMD of each ZONE page is a command register of its own page. -/
theorem zoneCmd_regAt (page : Fin 4) :
    isWritableReg (0x06107C + 0x1000 * page.val) = true ∧ (regAt (0x06107C + 0x1000 * page.val)).1 = page.val := by
  revert page; decide

section
variable {s : Block} {r : Req}

theorem cmdWrite_zoneCmd {v : Nat} (page : Fin 4) (hv : v.testBit 0 = true) :
    s.cmdWrite r (0x06107C + 0x1000 * page.val) v = some (s.zoneCommission r page.val) := by
  obtain ⟨-, hat⟩ := zoneCmd_regAt page
  have hp : (0x06107C + 0x1000 * page.val) / 4096 = 0x061 + page.val := by omega
  have ho : (0x06107C + 0x1000 * page.val) % 4096 = 0x07C := by omega
  simp (disch := omega) only [cmdWrite, hp, ho, hat, hv, if_pos, if_neg, if_true]

/-- A zone without a line fault and without a commissioning that runs begins one, over eight windows. -/
theorem zoneCommission_begins {page : Nat} (hcfg : s.holds r .configure = true) :
    let z := 4 * page + s.own ZONE.ZONE_SEL.ENTRY page r
    ¬ (1 ≤ s.zoneLine z ∧ s.zoneLine z ≤ 3) → s.zn HID.COMMLEFT z = 0 →
    s.zoneCommission r page = (((s.setZn HID.COMMLEFT z 8).setZn HID.COMMSUM z 0).setZn HID.COMMPH z 0, 0) := by
  intro z hline hnone
  have hfree : ¬ ((1 ≤ s.zoneLine z ∧ s.zoneLine z ≤ 3) ∨ s.zn HID.COMMLEFT z ≠ 0) := not_or.2 ⟨hline, not_not.2 hnone⟩
  simp only [zoneCommission, hcfg, Bool.not_true, Bool.false_eq_true, if_false]
  exact if_neg hfree

/-- A set that fits the audio memory is copied there while no player plays. -/
theorem msgReload_copies {set : List (Nat × MsgInfo)} (hcfg : s.holds r .configure = true)
    (hidle : (List.range 4).any s.mpOn = false) (hfit : (set.map fun m => m.2.len).sum ≤ 86400000) :
    s.msgReload r set = (s.msgCopy set, 0) := by
  simp only [msgReload, hcfg, hidle, gt_iff_lt, Nat.not_lt.2 hfit, Bool.not_true, Bool.false_eq_true, if_false]

/-- A new set that a session of tin 1 has placed goes into its store besides. -/
theorem msgReplace_stores {set : List (Nat × MsgInfo)} (htin : s.tinOf r = 1) (hnew : set ≠ s.msgFlash)
    (h : s.msgReload r set = (s.msgCopy set, 0)) : s.msgReplace r set = ((s.msgCopy set).stoRequest 0x21, 0) := by
  simp only [msgReplace, htin, h, beq_false_of_ne hnew, ne_eq, not_true_eq_false, Bool.false_eq_true, if_false]

end
end Block

/-- Settles O37: MSG_RELOAD is an access of its own, a commissioning one write of ZONE_CMD. -/
theorem audioCommandsTakeEffect : Obligations.AudioCommandsTakeEffect := by
  intro s r
  refine ⟨fun l hl hcfg hidle hfit hnew htin => ?reload, fun page hm hcfg hline hnone => ?commission⟩
  case reload =>
    exact answers_acc rfl hl (Block.msgReplace_stores htin hnew (Block.msgReload_copies hcfg hidle hfit))
  case commission =>
    exact answers_ruled rfl hm (Block.zoneCmd_regAt page).1 (Block.cmdWrite_zoneCmd page rfl)
      (Block.zoneCommission_begins hcfg hline hnone)

namespace Block
section
variable {s : Block}

/-! ### Players and talkback lines (R260, R263) -/

/-- Outside the autonomous state a source of the audio island fires at once. -/
theorem fireAud_at_once (n : Nat) (h : s.on AUD.AUD_STAT.AUTONOMOUS 0 0 = false) : s.fireAud n = s.fire n :=
  if_neg (Bool.eq_false_iff.1 h)

theorem rd_mpStop {f : Fld} (k x y : Nat) (h : f.code ∉ [HID.MPST.code, HID.MPPOS.code, HID.FIREMP0.code]) :
    (s.mpStop k).rd f x y = s.rd f x y := by
  simp only [List.mem_cons, List.not_mem_nil, or_false, not_or] at h
  obtain ⟨hst, hpos, hfire⟩ := h
  by_cases hk : k = 0 <;> simp [mpStop, hk, p, rd_wr_field, hst, hpos, hfire]

theorem playerEnd_ends {k : Nat} (hend : s.mpEnds (s.g HID.AUDBLK + 1) k = true)
    (hgrid : s.on AUD.AUD_STAT.AUTONOMOUS 0 0 = false) : s.playerEnd k = (s.mpStop k).fire EV.AUD.PLAYER_END := by
  have hstop : (s.mpStop k).on AUD.AUD_STAT.AUTONOMOUS 0 0 = false := by
    rw [on, rd_mpStop _ _ _ (by decide)]; exact hgrid
  exact (if_pos hend).trans (fireAud_at_once _ hstop)

theorem tbOpen_opens {t : Nat} (hphantom : s.on AUD.SRC_CFG.PHANTOM 0 t = true) (hdrive : s.driving = true)
    (hclear : s.on AUD.SRC_STAT.OPEN 0 t = false) :
    s.tbOpen t = (s.wr AUD.SRC_STAT.OPEN 0 t 1).fireAud EV.AUD.TB_OPEN := if_pos (by simp [hphantom, hdrive, hclear])

/-! ### Line supervision and insulation (R265, R266) -/

/-- The magnitudes of a supervision window in the registers of its zone. -/
def pilotShown (s : Block) (z mag : Nat) (ph : Int) (vp ip : Nat) : Block :=
  (((s.setZn ZONE.Z_MAG.MAG z mag).setZn ZONE.Z_MAG.PHASE z (uns 12 ph)).setZn ZONE.ZONE_PILOT.V_PILOT z vp).setZn
    ZONE.ZONE_PILOT.I_PILOT z ip

theorem zn_pilotShown {f : Fld} (z mag : Nat) (ph : Int) (vp ip x : Nat)
    (h : f.code ∉ [ZONE.Z_MAG.MAG.code, ZONE.Z_MAG.PHASE.code, ZONE.ZONE_PILOT.V_PILOT.code, ZONE.ZONE_PILOT.I_PILOT.code]) :
    (s.pilotShown z mag ph vp ip).zn f x = s.zn f x := by
  simp only [List.mem_cons, List.not_mem_nil, or_false, not_or] at h
  obtain ⟨hmag, hphase, hv, hi⟩ := h
  simp [pilotShown, zn, setZn, rd_wr_field, hmag, hphase, hv, hi]

/-- A window of a supervised zone shows what the pilot's sums give, as long as the registers hold it, and classifies the
line against the reference, which showing leaves alone. -/
theorem supWindow_classifies {z : Nat} (vc vs ic is : Int) (hsup : s.zoneSup z = true) (hblk : s.g HID.AUDBLK % 1000 = 0)
    (hwin : s.rd HID.ZWIN 0 z ≠ s.g HID.AUDBLK + 1) :
    let a := s.wr HID.ZWIN 0 z (s.g HID.AUDBLK + 1)
    let v2 := (vc ^ 2 + vs ^ 2).toNat
    let i2 := (ic ^ 2 + is ^ 2).toNat
    let vp := supVolt (a.zn ZONE.ZONE_CFG.VDIV z) v2
    let ip := supAmp (a.zn ZONE.ZONE_CFG.RSH z) i2
    let mag := supMag (a.zn ZONE.ZONE_CFG.VDIV z) (a.zn ZONE.ZONE_CFG.RSH z) v2 i2
    let ph := sgn 12 (Config.arcZ vc vs ic is)
    vp < 65536 → ip < 65536 → mag < 2 ^ 20 →
    let s2 := a.pilotShown z mag ph vp ip
    s.supWindow z vc vs ic is =
      (s2.classify z (lineClass vp mag (s2.zn ZONE.ZREF.ZREF z) (s2.zn ZONE.ZONE_CFG.DRIFT z))).commission z mag ph := by
  intro a v2 i2 vp ip mag ph hvp hip hmag s2
  have hdue : ¬ (!s.zoneSup z || s.g HID.AUDBLK % 1000 != 0 || s.rd HID.ZWIN 0 z == s.g HID.AUDBLK + 1) = true := by
    simp [hsup, hblk, hwin]
  have hfit : min mag 0xFFFFF = mag ∧ min vp 65535 = vp ∧ min ip 65535 = ip := by omega
  obtain ⟨hmin, hvmin, himin⟩ := hfit
  have hcut : s.supWindow z vc vs ic is =
      ((a.pilotShown z (min mag 0xFFFFF) ph (min vp 65535) (min ip 65535)).classify z
        (lineClass vp mag (a.zn ZONE.ZREF.ZREF z) (a.zn ZONE.ZONE_CFG.DRIFT z))).commission z (min mag 0xFFFFF) ph :=
    if_neg hdue
  rw [hcut, hmin, hvmin, himin, zn_pilotShown _ _ _ _ _ _ (by decide), zn_pilotShown _ _ _ _ _ _ (by decide)]

/-- From 50 kΩ to below 100 kΩ an insulation measurement is shown, and neither a fault nor its end counts on. -/
theorem earthMeasure_between {z kohm : Nat} (hen : s.zn ZONE.ZONE_CFG.EARTH_EN z ≠ 0)
    (hpage : s.on HDR.PAGE_CTRL.ENABLE (0x061 + z / 4) 0 = true) (hlo : 50 ≤ kohm) (hhi : kohm < 100) :
    s.earthMeasure z kohm =
      ((s.setZn ZONE.ZONE_INSUL.INSUL z kohm).setZn HID.ZEARTHLO z 0).setZn HID.ZEARTHHI z 0 := by
  have hfit : min kohm 65535 = kohm := min_eq_left (by omega)
  simp only [earthMeasure, hen, hpage, hfit, if_neg (Nat.not_lt.2 hlo), ge_iff_le, if_neg (Nat.not_le.2 hhi), Bool.not_true,
    Bool.false_eq_true, or_self, if_false, OfNat.zero_ne_ofNat, and_false]

/-! ### The autonomous state (R268 to R271) -/

/-- The island that enters the autonomous state notes its cuts and shows its flag, before a fire promotes its zones. -/
def aloneNoted (s : Block) : Block := (s.noteCuts (List.range 16)).p AUD.AUD_STAT.AUTONOMOUS 1

theorem audEnter_without_fire (hgrid : s.on AUD.AUD_STAT.AUTONOMOUS 0 0 = false) (hmiss : 7 ≤ s.g HID.AUDMISS)
    (h : s.aloneNoted.on MOD.MOD_STATUS.FIRE 0 0 = false ∨ s.aloneNoted.on AUD.AUD_FIRE.EN 0 0 = false) :
    s.audEnter = s.aloneNoted.zoneAll (List.range 16) := by
  have hfire : (s.aloneNoted.on MOD.MOD_STATUS.FIRE 0 0 && s.aloneNoted.on AUD.AUD_FIRE.EN 0 0) = false :=
    Bool.and_eq_false_iff.2 h
  simp only [aloneNoted] at hfire ⊢
  simp only [audEnter, audAlone, ge_iff_le, hmiss, hgrid, hfire, Bool.false_eq_true, if_false, if_true]

/-- In a fire with no zone to promote, since every fire zone's REQ0 holds a message or a tone, player 0 goes on as it was. -/
theorem audEnter_in_fire (hgrid : s.on AUD.AUD_STAT.AUTONOMOUS 0 0 = false) (hmiss : 7 ≤ s.g HID.AUDMISS)
    (hfire : s.aloneNoted.on MOD.MOD_STATUS.FIRE 0 0 = true) (hen : s.aloneNoted.on AUD.AUD_FIRE.EN 0 0 = true)
    (hnone : (s.aloneNoted.promoteAll s.aloneNoted.fireZones).on HID.AUDPROMOF 0 0 = false) :
    s.audEnter = (s.aloneNoted.promoteAll s.aloneNoted.fireZones).zoneAll (List.range 16) := by
  simp only [aloneNoted] at hfire hen hnone ⊢
  simp only [audEnter, audAlone, ge_iff_le, hmiss, hgrid, hfire, hen, hnone, Bool.and_self, Bool.false_and,
    Bool.false_eq_true, if_false, if_true]

/-- In stage 4 the autonomous island mutes by its own sensor, with a band of 5 °C in which it stays as it is. -/
theorem audMute_stage4 (temp : Int) (halone : s.on AUD.AUD_STAT.AUTONOMOUS 0 0 = true)
    (hstage : s.g PWR.PWR_STAT.LADDER = 4) :
    s.audMute temp =
      if 1250 ≤ temp then (s.p HID.AUDMUTE 1).zoneAll (List.range 16)
      else if temp ≤ 1200 then (s.p HID.AUDMUTE 0).zoneAll (List.range 16) else s := if_pos ⟨halone, hstage⟩

/-- With no tick missed any more, and neither a promotion nor a cut to report, the island leaves with its flag clear; what has
waited for the router is delivered between the two firings of the autonomous state. -/
theorem audExit_leaves (halone : s.on AUD.AUD_STAT.AUTONOMOUS 0 0 = true) (hstage : s.g PWR.PWR_STAT.LADDER ≠ 4)
    (hmiss : s.g HID.AUDMISS = 0) (hpromo : s.on HID.AUDPROMOF 0 0 = false)
    (hcut : ((List.range 16).any fun z => s.on HID.AUDCUT 0 z) = false) :
    let s1 := ((s.mpIdle s.fedSrcs (List.range 4)).audReload.cutsShown (List.range 16)).p AUD.AUD_STAT.AUTONOMOUS 0
    let s2 := (s1.fire EV.AUD.AUTONOMOUS_ON).p HID.AUDPROMOF 0
    s.audExit =
      ((s2.audDeliver ((List.range 64).map fun k => 800 + k)).fire EV.AUD.AUTONOMOUS_OFF).p HID.AUDMUTE 0 := by
  simp only [audExit, audBack, fireIf, halone, hstage, hmiss, hpromo, hcut, Bool.not_true, Bool.false_eq_true, or_self,
    if_false, if_true]

end
end Block

/-- Settles O38: each event's own rule. -/
theorem audioEventsTakeEffect : Obligations.AudioEventsTakeEffect := by
  refine ⟨fun s => ⟨fun k hrun hend hgrid => ?playerEnd,
      fun t hrun => ⟨fun hphantom hdrive hclear => ?lineOpens, ?lineClears⟩,
      fun z vc vs ic is hrun hsup hblk hwin => ?window,
      fun z kohm hrun hen hpage hlo hhi _ => ?earth⟩,
    fun s => ⟨fun hrun hgrid hmiss => ⟨fun h => ?alone, fun hfire hen hnone => ?aloneInFire⟩,
      fun temp hrun halone hstage => ⟨fun h => ?mutes, fun h => ?unmutes, fun hlo hhi => ?stays⟩,
      fun hrun halone hstage hmiss hpromo hcut => ?back⟩⟩
  case playerEnd => exact answers_onIsl rfl hrun (Block.playerEnd_ends hend hgrid)
  case lineOpens => exact answers_onSupIsl rfl hrun (Block.tbOpen_opens hphantom hdrive hclear)
  case lineClears => exact answers_onSupIsl rfl hrun rfl
  case window =>
    intro a v2 i2 vp ip mag ph hvp hip hmag
    exact answers_onIsl rfl hrun (congrArg (s.m.supWindowDone · z.val)
      (Block.supWindow_classifies vc vs ic is hsup hblk hwin hvp hip hmag))
  case earth => exact answers_onIsl rfl hrun (Block.earthMeasure_between hen hpage hlo hhi)
  case alone => exact answers_onIsl rfl hrun (Block.audEnter_without_fire hgrid hmiss h)
  case aloneInFire => exact answers_onIsl rfl hrun (Block.audEnter_in_fire hgrid hmiss hfire hen hnone)
  case mutes => exact answers_onIsl rfl hrun ((Block.audMute_stage4 temp halone hstage).trans (if_pos h))
  case unmutes =>
    exact answers_onIsl rfl hrun
      ((Block.audMute_stage4 temp halone hstage).trans ((if_neg (by omega)).trans (if_pos h)))
  case stays =>
    exact answers_onIsl rfl hrun
      ((Block.audMute_stage4 temp halone hstage).trans ((if_neg (by omega)).trans (if_neg (by omega))))
  case back => exact answers_onSupIsl rfl hrun (Block.audExit_leaves halone hstage hmiss hpromo hcut)

end Sys2Proof.Machine
end

section
/-!
Events of the ring's ports (R264, R307, R311, R313 to R316). Each is its operation's own rule at a state where its
conditions hold, while the ring MAC's island and the supervisor island run.
-/
namespace Sys2Proof.Machine
namespace Block
section
variable {s : Block}

/-- A cycle's first miss of its TOKEN counts; a node that cannot become master does nothing else. -/
theorem tokenMiss_counts (htoken : s.g HID.TOKENAT ≠ s.tick + 1) (hfirst : s.g HID.TMISSAT ≠ s.tick + 1)
    (hen : s.on RCTL.RCTL_CFG.MASTER_EN 0 0 = false) :
    s.tokenMiss = (((s.p HID.TMISSAT (s.tick + 1)).sat RCTL.RCTL_COUNT2.TOKEN_MISS 0 0 1).sat HID.TMISS 0 0 1).fireIf
      (s.g HID.TMISS + 1 == 4) EV.RCTL.TOKEN_LOST := by
  simp only [tokenMiss, htoken, hfirst, hen, or_self, Bool.false_and, Bool.false_eq_true, if_false]

/-- A block of an audio channel that is in time is kept for its tick. -/
theorem ringAudioRx_taken {s1 : Block} {h : Hdr} {ch t : Nat} (ht : s.takes h 0x04 true s1) (hintime : s1.tick < t + 3)
    (hgrid : s1.on AUD.AUD_STAT.AUTONOMOUS 0 0 = false) :
    s.ringAudioRx h ch t = { s1 with audRx := (ch, t) :: s1.audRx } := by
  rw [takes] at ht
  simp only [ringAudioRx, ht, ringAudio, hintime, hgrid, decide_true, Bool.not_false, Bool.and_self, if_true]

/-- A node that steers for a break of its own heals once both its ports have had 16 cycles of LINK frames. -/
theorem healReady_heals (hsteer : s.g RCTL.RCTL_STAT.STATE = 2)
    (hbroken : s.on HID.PBROKEN 0 0 = true ∨ s.on HID.PBROKEN 0 1 = true) (heast : s.linked16 0 = true)
    (hwest : s.linked16 1 = true) (hnone : s.g HID.HEALAT = 0) :
    s.healReady = (s.send ⟨.link 3 0, 0xFF, 0, true, 1⟩).p HID.HEALAT (s.healDue 1) :=
  if_pos ⟨hsteer, Bool.or_eq_true_iff.2 hbroken, heast, hwest, hnone⟩

theorem rateAlternate_tries {q : Nat} (hrate : s.rd RING.PORT_CFG.RATE q 0 = 2) (hdown : s.rd RING.PORT_STAT.LINK q 0 = 0)
    (h : s.rd HID.RTRYAT 0 q + 200 ≤ s.tick) :
    s.rateAlternate q = (s.wr HID.RTRYSLOW 0 q (1 - s.rd HID.RTRYSLOW 0 q)).wr HID.RTRYAT 0 q s.tick :=
  if_pos ⟨hrate, hdown, h⟩

theorem preemptFail_turns_off {q : Nat} (hlink : s.on RING.PORT_STAT.LINK q 0 = true)
    (hen : s.on RING.PORT_CFG.PREEMPT_EN q 0 = true) :
    s.preemptFail q = (s.wr RING.PORT_STAT.PREEMPT q 0 0).fire (EV.RING.PREEMPT_FAIL q) :=
  if_pos (Bool.and_eq_true_iff.2 ⟨hlink, hen⟩)

theorem fireRxTimeout_ends (hon : s.on HID.RINGFIRE 0 0 = true) (h : s.g HID.FIRERXAT + 9 ≤ s.tick) :
    s.fireRxTimeout = s.p HID.RINGFIRE 0 := if_pos (Bool.and_eq_true_iff.2 ⟨hon, decide_eq_true h⟩)

theorem supRuns_of_withSup {k : Nat} (h : s.withSup k = true) : s.supRuns = true := (Bool.and_eq_true_iff.1 h).1

end
end Block

/-- Settles O43: each event's own rule; the fire source alone stands in the supervisor and not in the ring MAC. -/
theorem ringPortEventsTakeEffect : Obligations.RingPortEventsTakeEffect := by
  intro s hrun
  refine ⟨fun n hn htoken hfirst hen => ?miss, fun h x s1 ht hintime hgrid => ?audio, fun p up slow cage cf => ?link,
    fun p h => ?timeout, fun hsteer hbroken heast hwest hnone => ?heal, fun p hrate hdown h => ?rate,
    fun p hlink hen => ?preempt, fun hon h => ?fireEnds⟩
  case miss => exact hn ▸ answers_onSupIsl rfl hrun (Block.tokenMiss_counts htoken hfirst hen)
  case audio => exact answers_onSupIsl rfl hrun (Block.ringAudioRx_taken ht hintime hgrid)
  case link => exact answers_onSupIsl rfl hrun rfl
  case timeout => exact answers_onSupIsl rfl hrun (if_pos h)
  case heal => exact answers_onSupIsl rfl hrun (Block.healReady_heals hsteer hbroken heast hwest hnone)
  case rate => exact answers_onSupIsl rfl hrun (Block.rateAlternate_tries hrate hdown h)
  case preempt => exact answers_onSupIsl rfl hrun (Block.preemptFail_turns_off hlink hen)
  case fireEnds => exact answers_onSup rfl (Block.supRuns_of_withSup hrun) (Block.fireRxTimeout_ends hon h)

end Sys2Proof.Machine
end

section
/-!
Metrology (R274 to R296). The island is a machine of its own beside the module: each of its operations has its rule at an
island where its conditions hold, and an event answers that rule while the island is up (`answers_onMet`). What the module
takes from the link is an operation of the module while the supervisor island runs (`answers_onSup`), and a command is one
write of MET_CMD or MET_LRF_DATA (`answers_ruled`).
-/
namespace Sys2Proof.Machine

/-- An event of the metrology island answers what the island makes of it while the island is up. -/
theorem answers_onMet {c : Instr} {s : State} {f : Island → Island} {y : Island}
    (he : exec c s = .next { s with m := s.m.onMet f }) (hup : s.m.islandUp 29 = true) (h : f s.m.isl = y) :
    Answers c s { s.m with isl := y } :=
  answers_of_eq he ((s.m.onMet_run f hup).trans (congrArg (fun x => ({ s.m with isl := x } : Block)) h))

namespace Block
section
variable {s : Block} {r : Req}

/-! ### Command registers of the MET page (R291 to R293) -/

/-- MET_CMD and MET_LRF_DATA may be written. -/
theorem metRegs_writable : ∀ o ∈ [0x070058, 0x070068], isWritableReg o = true := by decide

theorem cmdWrite_metCmd (c : Nat) : s.cmdWrite r 0x070058 c = some (s.metCmdWrite r (c % 256)) := rfl

theorem cmdWrite_lrfData (w : Word) : s.cmdWrite r 0x070068 w.toNat = some (s.lrfData r w) :=
  congrArg (fun x => some (s.lrfData r x)) ((w.ofNat_toNat 32).trans w.setWidth_eq)

/-! MET_CMD by its code (R293). -/

theorem metCmdWrite_resync : s.metCmdWrite r 0x01 = s.metCmd r 0x01 fun x => (x.resync, 0) := rfl

theorem metCmdWrite_param :
    s.metCmdWrite r 0x10 = s.metCmd r 0x10 fun x => x.paramWrite (s.metArg0 r) (s.metArg1 r) := rfl

theorem metCmdWrite_begin : s.metCmdWrite r 0x20 = s.metCmd r 0x20 fun x => x.lrfBegin (s.metArg0 r) := rfl

theorem metCmdWrite_end : s.metCmdWrite r 0x21 = s.metCmd r 0x21 Island.lrfEnd := rfl

theorem metCmdWrite_abort : s.metCmdWrite r 0x22 = s.metCmd r 0x22 Island.lrfAbort := rfl

theorem metCmdWrite_battery : s.metCmdWrite r 0x30 = s.metCmd r 0x30 fun x => x.batCfg (s.metArg0 r) := rfl

/-- A write of MET_CMD that passes its checks: the island is what its operation makes of it, and the outcome is owed. -/
theorem metCmd_owes {f : Island → Island × Nat} {y : Island} {out : Nat} (code : Nat) (h : s.metCmdCode r = 0)
    (hf : f s.isl = (y, out)) : s.metCmd r code f = (s.metOwes code y out, 0) := by
  simp only [metCmd, h, hf, if_true, metOwes]

theorem metCmd_refused (code : Nat) (f : Island → Island × Nat) (h : s.metCmdCode r ≠ 0) :
    s.metCmd r code f = s.metRefuse r (s.metCmdCode r) := if_neg h

/-- While a load runs, a word joins the words that have come. -/
theorem lrfData_takes (w : Word) (hload : s.isl.loading = true) (hend : s.isl.ended = false) :
    s.lrfData r w = ({ s with isl := { s.isl with words := w :: s.isl.words, idle := 0 } }, 0) :=
  if_pos (by rw [hload, hend]; rfl)

end
end Block

namespace Island
section
variable {x : Island}

theorem lrfEnd_ends (hload : x.loading = true) (hend : x.ended = false) : x.lrfEnd = ({ x with ended := true }, 0) :=
  if_pos (by rw [hload, hend]; rfl)

theorem lrfAbort_refuses (hload : x.loading = true) : x.lrfAbort = (x.lrfRefuse 0x0A, 0) := if_pos hload

/-- BAT_CFG with 30 days at most, and neither PRES nor BURST 0. -/
theorem batCfg_sets {a : Nat} (hdays : bits a 4 0 ≤ 30) (hpres : bits a 15 8 ≠ 0) (hburst : bits a 23 16 ≠ 0) :
    let y : Island := { x with days := bits a 4 0, pres := bits a 15 8, burst := bits a 23 16 }
    x.batCfg a = ({ y with out := y.out ++ [y.parReport] }, 0) :=
  if_neg (by simp only [not_or, gt_iff_lt, not_lt]; exact ⟨hdays, hpres, hburst⟩)

end
end Island

/-- A code of MET_CMD whose rule is an operation of the island answers that operation, for a session that may. -/
theorem answers_metCmd {c : Instr} {s : State} {r : Req} {code : Nat} {f : Island → Island × Nat} {y : Island}
    {out : Nat} (he : exec c s = .next { s with m := s.m.wreg r 0x070058 code }) (hm : s.m.mayWrite r 0x070058 = true)
    (hrule : s.m.metCmdWrite r (code % 256) = s.m.metCmd r code f) (hcode : s.m.metCmdCode r = 0)
    (hf : f s.m.isl = (y, out)) : Answers c s (s.m.metOwes code y out) :=
  answers_ruled he hm (Block.metRegs_writable _ (by decide)) ((Block.cmdWrite_metCmd code).trans (congrArg some hrule))
    (Block.metCmd_owes code hcode hf)

/-- Settles O40: each command is one write of MET_CMD or of MET_LRF_DATA. -/
theorem metrologyCommandsTakeEffect : Obligations.MetrologyCommandsTakeEffect := by
  intro s n r x hm
  refine ⟨fun h => ⟨?resync, ?param, ?begins, fun hload hend => ?ends, fun hload => ?abort,
    fun hdays hpres hburst => ?battery⟩, fun h => ?refused, fun w hmw hload hend => ?word⟩
  case resync => exact answers_metCmd rfl hm Block.metCmdWrite_resync h rfl
  case param => exact answers_metCmd rfl hm Block.metCmdWrite_param h rfl
  case begins => exact answers_metCmd rfl hm Block.metCmdWrite_begin h rfl
  case ends => exact answers_metCmd rfl hm Block.metCmdWrite_end h (Island.lrfEnd_ends hload hend)
  case abort => exact answers_metCmd rfl hm Block.metCmdWrite_abort h (Island.lrfAbort_refuses hload)
  case battery => exact answers_metCmd rfl hm Block.metCmdWrite_battery h (Island.batCfg_sets hdays hpres hburst)
  case refused =>
    exact answers_ruled rfl hm (Block.metRegs_writable _ (by decide)) (Block.cmdWrite_metCmd 0x01)
      (Block.metCmdWrite_resync.trans (Block.metCmd_refused 0x01 _ h))
  case word =>
    exact answers_ruled rfl hmw (Block.metRegs_writable _ (by decide)) (Block.cmdWrite_lrfData w)
      (Block.lrfData_takes w hload hend)

namespace Island
section
variable {x : Island}

/-! ### Measuring (R277 to R283) -/

/-- An interval while an LRF runs: its energies are accounted, and its frame goes on the link. -/
theorem interval_measures (v i : List (List Int)) (f : List Nat) (hpower : x.powered = true) (hbat : x.bat = false)
    (hrun : x.running.isSome = true) :
    let a := x.count 800
    let l := a.phaseVals v i f
    let x1 := (a.account l).coilsNext i (List.range 48)
    let x2 : Island := { x1 with view := x1.views l f }
    x.interval v i f = { x2 with link := some (x2.frame f), seq := x2.seq + 1 } := by
  have hsome : x.running.isNone = false := Option.isNone_eq_false_iff.2 hrun
  simp only [interval, hpower, hbat, hsome, Bool.not_true, Bool.or_self, Bool.false_eq_true, if_false]

/-- An interval while no LRF runs: nothing is measured, and a frame goes on the link all the same. -/
theorem interval_without_lrf (v i : List (List Int)) (f : List Nat) (hpower : x.powered = true) (hbat : x.bat = false)
    (hrun : x.running = none) :
    let a := x.count 800
    let x2 : Island := { a with view := a.views [] f }
    x.interval v i f = { x2 with link := some (x2.frame f), seq := x2.seq + 1 } := by
  simp only [interval, hpower, hbat, hrun, Option.isNone_none, Bool.not_true, Bool.or_self, Bool.false_eq_true, if_false,
    if_true]

/-! ### Supplies and battery mode (R275, R282, R286 to R288) -/

/-- Outside battery mode the island takes another supply of the module or the mains, and nothing else changes. -/
theorem supply_fed {md mn : Bool} (vb : Bool) (hfed : (md || mn) = true) (hbat : x.bat = false) :
    x.supply md mn vb = { x with modSupply := md, mains := mn, vbat := vb } := by
  have hkeeps : ((x.modSupply || x.mains) && !md && !mn) = false := by
    rw [Bool.and_assoc, ← Bool.not_or, hfed, Bool.not_true, Bool.and_false]
  simp only [supply, powered, batOff, hfed, hkeeps, hbat, Bool.true_or, Bool.not_true, Bool.false_eq_true, if_false, if_true]

/-- Battery mode is not entered while a voltage set is present. -/
theorem batCheck_present (h : (x.setAbsent 0 && x.setAbsent 1) = false) : x.batCheck = x :=
  if_neg (Bool.eq_false_iff.1 h)

/-- From the module's supply or the mains to VBAT: the wait for battery mode begins. -/
theorem supply_to_vbat (hfed : (x.modSupply || x.mains) = true) (hset : (x.setAbsent 0 && x.setAbsent 1) = false) :
    x.supply false false true = { x with modSupply := false, mains := false, vbat := true, since := 0 } := by
  simp only [supply, hfed, Bool.and_self, Bool.not_false, if_true]
  exact batCheck_present hset

/-- With no source left the island stops, and loses what it has not written. -/
theorem supply_gone :
    x.supply false false false =
      { x with modSupply := false, mains := false, vbat := false, lost := true, bat := false, running := none,
               loading := false, ended := false, words := [], link := none, out := [],
               since := if (x.modSupply || x.mains) = true then 0 else x.since } := by
  simp only [supply, powered, Bool.or_self, Bool.not_false, Bool.and_true, if_true]

/-- A phase's third further crossing within 40 ms of the one before makes it present. -/
theorem vCross_third {v : Nat} (habs : x.vPresent.testBit v = false) (h : 2 ≤ (x.vCount.find v).getD 0) :
    x.vCross v true = { x with vPresent := setBit x.vPresent v, vCount := x.vCount.del v } := by
  have hthird : 3 ≤ (x.vCount.find v).getD 0 + 1 := Nat.succ_le_succ h
  simp only [vCross, habs, Bool.false_eq_true, if_false, if_true, ge_iff_le, hthird]

/-- A crossing that comes too late counts as none. -/
theorem vCross_late {v : Nat} (habs : x.vPresent.testBit v = false) :
    x.vCross v false = { x with vCount := x.vCount.put v 0 } := by
  simp only [vCross, habs, Bool.false_eq_true, if_false]
  exact if_neg (by decide)

theorem batEnter_enters (hmod : x.modSupply = false) (hmains : x.mains = false) (hvbat : x.vbat = true)
    (hbat : x.bat = false) :
    x.batEnter =
      ({ x with bat := true, batStart := x.sec, bursts := 0, budgetOut := x.days == 0, ah := [], flowing := 0,
                since := 0 } : Island).addLog 0x09 0 0 := if_neg (by simp [hmod, hmains, hvbat, hbat])

/-- A burst that is due, the first at once and each other BURST seconds after the one before. -/
theorem burstRun_due (i : List (List Int)) (hbat : x.bat = true) (hbudget : x.budgetOut = false)
    (hrun : x.running.isSome = true) (hdue : x.bursts = 0 ∨ 4000 * x.burst ≤ x.since) :
    x.burstRun i =
      (({ x with bursts := x.bursts + 1, since := 0 } : Island).burstAll i (List.range 48)).coilsNext i (List.range 48) := by
  have hsome : x.running.isNone = false := Option.isNone_eq_false_iff.2 hrun
  have hnow : (x.bursts != 0 && decide (x.since < 4000 * x.burst)) = false := by
    simpa [or_iff_not_imp_left] using hdue
  simp only [burstRun, hbat, hbudget, hsome, hnow, Bool.not_true, Bool.or_self, Bool.false_eq_true, if_false]

/-- The budget ends by a low cell or by DAYS days. -/
theorem budget_ends {cell : Bool} (hbat : x.bat = true) (hbudget : x.budgetOut = false)
    (h : cell = true ∨ x.batStart + 86400 * x.days ≤ x.sec) :
    x.budget cell = ({ x with budgetOut := true } : Island).addLog 0x0B (b2n cell) 0 := by
  have hnow : (!cell && decide (x.sec < x.batStart + 86400 * x.days)) = false := by
    simpa [or_iff_not_imp_left] using h
  simp only [budget, hbat, hbudget, hnow, Bool.not_true, Bool.or_self, Bool.false_eq_true, if_false]

/-! ### Cover, debug line and start (R289 to R291, R295) -/

/-- An opened cover is logged, and no load ends by it. -/
theorem coverTo_open (hpower : x.powered = true) (hcover : x.cover = false) :
    x.coverTo true = ({ x with cover := true } : Island).addLog 0x01 0 0 := by
  simp only [coverTo, hpower, hcover, beq_false, Bool.not_true, Bool.or_self, Bool.false_and, Bool.false_eq_true,
    if_false, if_true]

theorem debugTo_changes {on : Bool} (hpower : x.powered = true) (hdebug : x.debug = !on) :
    x.debugTo on = ({ x with debug := on } : Island).addLog (if on then 0x07 else 0x08) 0 0 :=
  if_neg (by simp [hpower, hdebug])

/-- After no loss of power, and with no gap, a verified bank that was installed last runs, and everything is sent again. -/
theorem start_runs_installed (hpower : x.powered = true) (hlost : x.lost = false)
    (hbank : (x.bank x.installed).isSome = true) :
    x.start true true 0 = ({ x with running := some x.installed, out := [] } : Island).resync := by
  simp only [start, hpower, hlost, hbank, ite_self, Bool.and_self, Bool.not_true, Bool.false_eq_true, if_false, if_true]

/-! ### Loads of an LRF (R291) -/

/-- A load whose image is not good, or not of its length, is refused. -/
theorem lrfVerify_bad {good : Bool} (version roll gap : Nat) (hload : x.loading = true) (hend : x.ended = true)
    (h : good = false ∨ 4 * x.words.length ≠ x.loadLen) :
    x.lrfVerify good version roll gap = x.lrfRefuse 0x0B := by
  have hbad : (!good || decide (4 * x.words.length ≠ x.loadLen)) = true := by simpa using h
  simp only [lrfVerify, hload, hend, hbad, Bool.not_true, Bool.or_self, Bool.false_eq_true, if_false, if_true]

section
variable {version roll gap : Nat} (hload : x.loading = true) (hend : x.ended = true) (hlen : 4 * x.words.length = x.loadLen)
include hload hend hlen

/-- A good image below the least rollback number is refused. -/
theorem lrfVerify_rollback (hroll : roll < x.minRoll) : x.lrfVerify true version roll gap = x.lrfRefuse 0x08 := by
  simp only [lrfVerify, hload, hend, hlen, hroll, ne_eq, not_true_eq_false, decide_false, Bool.not_true, Bool.or_self,
    Bool.false_eq_true, if_false, if_true]

/-- While bank 0 runs, a good image goes into bank 1, and the island restarts into it. -/
theorem lrfVerify_installs (hroll : x.minRoll ≤ roll) (hrun : x.running = some 0) :
    let img : Lrf := ⟨version, crc32c x.imageBytes x.loadLen⟩
    let y : Island := { x with loading := false, ended := false, words := [], installed := 1, running := some 1,
                               seals := x.seals + 1, bank1 := some img }
    x.lrfVerify true version roll gap =
      ({ (y.addLog 0x03 (version % 65536) img.crc).addLog 0x0C 0 gap with out := [] } : Island).resync := by
  simp only [lrfVerify, hload, hend, hlen, hrun, if_neg (Nat.not_lt.2 hroll), ne_eq, not_true_eq_false, decide_false,
    Bool.not_true, Bool.or_self, Bool.false_eq_true, if_false, Option.getD_some, Nat.sub_zero, one_ne_zero]

end

theorem wordTimeout_refuses (hload : x.loading = true) (hend : x.ended = false) (hidle : 40000 ≤ x.idle) :
    x.wordTimeout = x.lrfRefuse 0x0E := if_pos (by simp [hload, hend, hidle])

end
end Island

namespace Block
section
variable {s : Block}

/-! ### What the module takes from the link (R283, R285, R293, R296) -/

/-- Every alert of a frame is a firing. -/
theorem sameBut_meterAlerts (new : List MMeter) : ∀ (s : Block) (old : List MMeter) (m : Nat),
    SameBut s (s.meterAlerts new old m) := by
  induction new with
  | nil => exact fun s _ _ => SameBut.refl s
  | cons x t ih => exact fun _ _ _ => (sameBut_fireIf ..).trans (ih ..)

/-- A frame with a CRC error is discarded and counted. -/
theorem metFrameRx_bad {f : MFrame} (h : s.isl.link = some f) :
    s.metFrameRx false =
      (({ s with isl := { s.isl with link := none } } : Block).sat MET.MET_LINK.CRC_ERR 0 0 1).fire EV.MET.FRAME_CRC := by
  simp only [metFrameRx, h, Bool.not_false, if_true, island]

theorem SameBut.isl {s t : Block} (h : SameBut s t) : t.isl = s.isl := by
  have hisl := congrArg Block.isl h
  exact hisl

/-- A field of the module that is written, or a firing under a condition, after cells have changed: only cells have. -/
theorem SameBut.p {s t : Block} (h : SameBut s t) (f : Fld) (v : Nat) : SameBut s (t.p f v) := h.trans (sameBut_wr ..)

theorem SameBut.fireIf {s t : Block} (h : SameBut s t) (c : Bool) (n : Nat) : SameBut s (t.fireIf c n) :=
  h.trans (sameBut_fireIf ..)

theorem sameBut_satIf (s : Block) (c : Bool) (f : Fld) (i k n : Nat) : SameBut s (if c then s.sat f i k n else s) :=
  sameBut_ite _ _ _ _ (sameBut_wr ..) (SameBut.refl s)

/-- A good frame is taken off the link and kept for the next latch; of the rest of the module only cells change. -/
theorem metFrameRx_keeps {f : MFrame} (h : s.isl.link = some f) :
    ∃ b : Block, SameBut { s with isl := { s.isl with link := none } } b ∧
      s.metFrameRx true = { b with metKept := some f } := by
  simp only [metFrameRx, h, Bool.not_true, Bool.false_eq_true, if_false, island]
  refine ⟨_, ?cells, rfl⟩
  -- From the frame's time and its alerts back over the voltage sets and the seal to the link and a gap in the sequence.
  refine .p (.trans ?sets (sameBut_meterAlerts ..)) ..
  refine .p (.p (.p (.p (.p (.fireIf (.fireIf ?stamp ..) ..) ..) ..) ..) ..) ..
  refine .p (.p (.fireIf (.fireIf ?link ..) ..) ..) ..
  exact .p (.p (.p (sameBut_satIf ..) ..) ..) ..

theorem metLost_shows (hlink : s.on MET.MET_SEAL.LINK 0 0 = true) (h : s.g HID.METRX + 4000 ≤ s.tick) :
    s.metLost = (s.p MET.MET_SEAL.LINK 0).fire EV.MET.LINK_LOST :=
  if_pos (Bool.and_eq_true_iff.2 ⟨hlink, decide_eq_true h⟩)

theorem metRecordRx_log {x : MetRec} {l : List MReport} (h : s.isl.out = .log x :: l) :
    s.metRecordRx = ({ s with isl := { s.isl with out := l } } : Block).metLogRx x := by
  simp only [metRecordRx, h, island]

theorem metOutcome_ends {c : Nat} (h : s.isl.result = some c) :
    s.metOutcome =
      ((({ s with isl := { s.isl with result := none } } : Block).p MET.MET_CMD_STAT.BUSY 0).p
        MET.MET_CMD_STAT.RESULT c).fireIf (c != 0) EV.MET.CMD_REFUSED := by
  simp only [metOutcome, h, island]

/-- The island that is up follows the debug line. -/
theorem debugFollow_run (hup : s.islandUp 29 = true) :
    (if (s.islandUp 29 && s.debugLine == s.debugLine) = true then s.debugFollow else s) = s.debugFollow :=
  if_pos (by rw [hup, beq_self_eq_true]; rfl)

end
end Block

/-- Settles O39: each event's own rule, of the island or of the module that takes what the island sends. -/
theorem metrologyEventsTakeEffect : Obligations.MetrologyEventsTakeEffect := by
  refine ⟨fun s hup => ?island, fun s hrun => ⟨fun f hf => ⟨?badFrame, ?goodFrame⟩, fun hlink h => ?lost,
    fun x l h => ?record, fun c h => ?outcome⟩⟩
  case island =>
    refine ⟨fun v i f hpower hbat => ⟨fun h => ?measures, fun h => ?unmeasured⟩, fun md m0 m1 vb hfed hbat => ?fed,
      fun hfed hset => ?toVbat, ?gone, fun v hset => ?absent, fun v habs => ⟨?late, fun h => ?third⟩,
      fun hmod hmains hvbat hbat => ?battery, fun i hbat hbudget h hdue => ?burst, fun cell hbat hbudget h => ?budget,
      fun hpower hcover => ?cover, fun hpower hdebug => ?debug, fun hpower hlost hbank => ?starts,
      fun version roll gap hload hend hlen hroll => ?rollback, fun version roll gap hload hend => ?bad,
      fun version roll gap hload hend hlen hroll h => ?installs, fun hload hend hidle => ?timeout⟩
    case measures => exact answers_onMet rfl hup (Island.interval_measures v i f hpower hbat h)
    case unmeasured => exact answers_onMet rfl hup (Island.interval_without_lrf v i f hpower hbat h)
    case fed => exact answers_onMet rfl hup (Island.supply_fed vb hfed hbat)
    case toVbat => exact answers_onMet rfl hup (Island.supply_to_vbat hfed hset)
    case gone => exact answers_onMet rfl hup Island.supply_gone
    case absent => exact answers_onMet rfl hup (Island.batCheck_present hset)
    case late => exact answers_onMet rfl hup (Island.vCross_late habs)
    case third => exact answers_onMet rfl hup (Island.vCross_third habs h)
    case battery => exact answers_onMet rfl hup (Island.batEnter_enters hmod hmains hvbat hbat)
    case burst => exact answers_onMet rfl hup (Island.burstRun_due i hbat hbudget h hdue)
    case budget => exact answers_onMet rfl hup (Island.budget_ends hbat hbudget h)
    case cover => exact answers_onMet rfl hup (Island.coverTo_open hpower hcover)
    case debug =>
      exact answers_of_eq rfl ((Block.debugFollow_run hup).trans
        (congrArg (fun y => ({ s.m with isl := y } : Block)) (Island.debugTo_changes hpower hdebug)))
    case starts => exact answers_onMet rfl hup (Island.start_runs_installed hpower hlost hbank)
    case rollback => exact answers_onMet rfl hup (Island.lrfVerify_rollback hload hend hlen hroll)
    case bad => exact answers_onMet rfl hup (Island.lrfVerify_bad version roll gap hload hend (.inl rfl))
    case installs => exact answers_onMet rfl hup (Island.lrfVerify_installs hload hend hlen hroll h)
    case timeout => exact answers_onMet rfl hup (Island.wordTimeout_refuses hload hend hidle)
  case badFrame => exact answers_onSup rfl hrun (Block.metFrameRx_bad hf)
  case goodFrame =>
    obtain ⟨b, hcells, hb⟩ := Block.metFrameRx_keeps hf
    exact ⟨_, answers_onSup rfl hrun hb, rfl, hcells.isl, rfl, hcells.batches⟩
  case lost => exact answers_onSup rfl hrun (Block.metLost_shows hlink h)
  case record => exact answers_onSup rfl hrun (Block.metRecordRx_log h)
  case outcome => exact answers_onSup rfl hrun (Block.metOutcome_ends h)

end Sys2Proof.Machine
end

section
/-!
Frames for translation (R22, R160, R193, R303, R318, R369). Whether a frame is taken as it arrives or leaves the receive
buffer, what it does is `xlateTake`, which obeys `TranslationLaw`: each kind of frame has its own rule, stated at a module
where its conditions hold.
-/
namespace Sys2Proof.Machine
namespace Block
section
variable {s : Block}

/-! ### Parts that a change of the cells leaves alone -/

theorem SameBut.imgQ {s t : Block} (h : SameBut s t) : t.imgQ = s.imgQ := by
  have himgQ := congrArg Block.imgQ h
  exact himgQ

theorem SameBut.txQ {s t : Block} (h : SameBut s t) : t.txQ = s.txQ := by
  have htxQ := congrArg Block.txQ h
  exact htxQ

/-! ### IMAGE frames (R22, R369) -/

/-- The only word of a frame, while translation waits with none, is dealt with and leaves none waiting. -/
theorem imageFrame_one_word {h : Hdr} {tick addr v : Nat} {b : Block} (hw : s.imgWait = [])
    (hword : s.imageWord ⟨h, tick, addr, v⟩ = some b) :
    s.imageFrame h tick (runWords [(addr, [v])]) = { b with imgWait := [] } := by
  have hframe : s.imageFrame h tick (runWords [(addr, [v])]) = s.imageWords [⟨h, tick, addr, v⟩] := by
    rw [imageFrame, hw]; rfl
  simp only [hframe, imageWords, hword]

/-- A word of another module's point enters the queue to the image builder. -/
theorem imageWord_pushes {x : ImgHeld} {u k a : Nat} (hl : s.locate x.addr = some (u, k, a)) (hother : u ≠ s.selfId)
    (hcredit : s.g XLT.IMG_Q_CREDIT.CREDITS ≠ 0) : s.imageWord x = some (s.imgPush ⟨x.addr, x.tick, x.val⟩) := by
  simp only [imageWord, hl, if_neg hother, if_neg hcredit]

/-- A word of a point of this module is a publication to it. -/
theorem imageWord_publishes {x : ImgHeld} {a : Nat} (hl : s.locate x.addr = some (s.selfId, 0, a)) :
    s.imageWord x = some (s.publishRx x.h x.tick (a / 4 * 4) x.val) := by
  simp only [imageWord, hl, if_true]

theorem imgPush_imgQ (x : RVal) : (s.imgPush x).imgQ = s.imgQ ++ [x] :=
  (sameBut_fireIf ..).imgQ.trans (wr_imgQ ..)

theorem imgPush_credits (x : RVal) :
    (s.imgPush x).g XLT.IMG_Q_CREDIT.CREDITS = (s.g XLT.IMG_Q_CREDIT.CREDITS - 1) % 65536 :=
  (rd_fireIf _ _ _ _ 0 0 (by decide)).trans (g_p_same ..)

/-- A publication of the point's owner that is in time is staged for its tick. -/
theorem publishRx_stages {h : Hdr} {tick a : Nat} (v : Nat) (howner : s.ownerOk a h.src.val h.dstEpoch = true)
    (hintime : s.tick < tick) :
    s.publishRx h tick a v = (s.ownerNote a h.src.val h.dstEpoch).acceptEnt
      ⟨.remoteTask h.src.val, tick, 0, h.ls, 0,
        some ⟨.point a, v, .peer h.src.val 0 0xF h.ls, h.dstEpoch, none⟩⟩ := by
  simp only [publishRx, howner, if_neg (Nat.not_le.2 hintime), Bool.not_true, Bool.false_eq_true, if_false]

/-! ### REQUEST frames (R193) -/

/-- The local address in a frame that names a point is the point's own: its KIND is 0. -/
theorem frameAddr_point {addr : Nat} (hlt : addr < 0x1000000) : addr / 2 ^ 32 = 0 ∧ addr % 2 ^ 32 = addr := by omega

theorem div_four_mul_of_aligned {addr : Nat} (h : addr % 4 = 0) : addr / 4 * 4 = addr :=
  Nat.div_mul_cancel (Nat.dvd_of_mod_eq_zero h)

/-- A read that nothing refuses is the point's value, with what the read leaves. -/
theorem peerAccess_reads {h : Hdr} {r : Req} {addr : Nat} (v : Nat) (halign : addr % 4 = 0) (hlt : addr < 0x1000000)
    (hepoch : s.staleTarget h = false) (hallow : s.pageAllows r .read 0 addr = true) :
    s.peerAccess h r false 0 addr v = (s.pointSnap r addr, 0, s.pointRead r addr) := by
  have hcode : s.peerCode h r .read 0 addr = 0 := by simp [peerCode, hepoch, hallow]
  have hread : s.localRead r 0 addr = (s.pointSnap r addr, 0, s.pointRead r addr) := by
    simp only [localRead, ge_iff_le, if_neg (Nat.not_le.2 hlt), div_four_mul_of_aligned halign, if_true]
  simp only [peerAccess, halign, hcode, hread, ne_eq, not_true_eq_false, Bool.false_eq_true, if_false]
  exact if_neg (by decide)

theorem requestRx_reads {h : Hdr} {tin right addr : Nat} (tag v : Nat) (halign : addr % 4 = 0) (hlt : addr < 0x1000000)
    (hepoch : s.staleTarget h = false)
    (hallow : s.pageAllows (.peer h.src.val tin right h.ls) .read 0 addr = true) :
    let r := Req.peer h.src.val tin right h.ls
    s.requestRx h 1 right tin addr tag v = (s.pointSnap r addr).sendResponse h tag 0 (s.pointRead r addr) := by
  obtain ⟨hkind, hlocal⟩ := frameAddr_point hlt
  have hread := peerAccess_reads v halign hlt hepoch hallow
  simp only [requestRx, hkind, hlocal]
  exact congrArg (fun x : Block × Nat × Nat => x.1.sendResponse h tag x.2.1 x.2.2) hread

/-! ### RESPONSE frames (R303) -/

/-- An answer to a scan's REQUEST ends the frame's wait and reaches the scan, while that scan is still the slot's. -/
theorem responseRx_scan {q : Ask} {d : Scan} {src tag code e j rel : Nat} (v : Nat)
    (hq : s.askOf src tag false = some q) (hwho : q.who = .scan e j rel) (hd : s.scan e j = some d) (hrel : d.rel = rel) :
    let b : Block := { s with asks := s.asks.erase q }
    s.responseRx src tag code v =
      if code = 0 then b.putScan e j { d with ans := some v } else b.putScan e j { d with walked := some .lost } := by
  intro b
  have hscan : b.scan e j = some d := hd
  have htake : s.responseRx src tag code v = b.answer (.scan e j rel) code v := by
    simp only [responseRx, hq, hwho, b]
  simp only [htake, answer, hscan, hrel, ne_eq, not_true_eq_false, if_false]

/-! ### STAGE frames and their answers (R160) -/

/-- The module while it makes the access of a STAGE frame for part `n`: the peer's tag names the part. -/
def partTagged (s : Block) (n sel : Nat) : Block :=
  (s.p HID.PEERTAG (n + 1)).p HID.PEERSEL (if sel = 0xFFFFFFFF then 0 else sel)

theorem sameBut_partTagged (s : Block) (n sel : Nat) : SameBut s (s.partTagged n sel) := (sameBut_wr ..).trans (sameBut_wr ..)

/-- A point that no check refuses joins the batch that the requester's tag names; queues stay as they are. -/
theorem stagePoint_joins {r : Req} {a n : Nat} {b : Batch} (v epoch : Nat) (addr : Option Nat) (halign : a % 4 = 0)
    (hpoint : s.pointCode a = 0) (htag : s.tagNow r = some n) (hb : s.batches.find n = some b)
    (hstage : s.stageCode n b (.point a) = 0) :
    (s.stagePoint r a v epoch addr).2 = 0 ∧ (s.stagePoint r a v epoch addr).1.txQ = s.txQ ∧
      (s.stagePoint r a v epoch addr).1.batches.find n =
        some { b with entries := b.entries ++ [⟨.point a, v, r, epoch, addr⟩] } := by
  have hjoins : s.stagePoint r a v epoch addr = s.stage n ⟨.point a, v, r, epoch, addr⟩ := by
    simp only [stagePoint, div_four_mul_of_aligned halign, hpoint, ne_eq, not_true_eq_false, if_false]
    exact stageFor_tagged htag ..
  rw [hjoins, stage_joins hb hstage, poolEvent_batches]
  exact ⟨rfl, (sameBut_fireIf ..).txQ, AMap.find_put_same ..⟩

/-- A staging of a point whose access is allowed is the staging that the part's tag directs, after which the tag is taken
away. -/
theorem stagePart_point {h : Hdr} {r : Req} {n a : Nat} (v sel : Nat) (halign : a % 4 = 0)
    (hcode : (s.partTagged n sel).peerCode h r .write 0 a = 0) :
    let x := (s.partTagged n sel).stagePoint r a v (if s.paired then s.epoch else 0) none
    s.stagePart h r n 0 a v sel = ((x.1.p HID.PEERTAG 0).p HID.PEERSEL 0, x.2) := by
  rw [partTagged] at hcode ⊢
  simp only [stagePart, hcode, halign, localWrite, ne_eq, not_true_eq_false, OfNat.zero_ne_ofNat, if_false, if_true]

/-- A STAGE for an open part is staged there and answered with the outcome. -/
theorem stageRx_open {h : Hdr} {n addr id : Nat} {b : Batch} (tin tag v sel : Nat)
    (hpart : s.partOf h.src.val id = some (n, b)) (hlt : addr < 0x1000000) :
    let x := s.stagePart h (.peer h.src.val tin (writeRights 0 addr) h.ls) n 0 addr v sel
    s.stageRx h id tin tag addr v sel =
      x.1.queue ⟨.stageAns tag x.2 n, h.src.val, x.1.newestEpoch h.src.val, h.ls, 0⟩ := by
  obtain ⟨hkind, hlocal⟩ := frameAddr_point hlt
  simp only [stageRx, openPart, hpart, hkind, hlocal]

/-- A STAGE of a point for an open part joins that part and is confirmed. -/
theorem stageRx_joins {h : Hdr} {n addr id : Nat} {b : Batch} (tin tag v sel : Nat)
    (hpart : s.partOf h.src.val id = some (n, b)) (halign : addr % 4 = 0) (hlt : addr < 0x1000000) :
    let r := Req.peer h.src.val tin (writeRights 0 addr) h.ls
    let a := s.partTagged n sel
    let t := s.stageRx h id tin tag addr v sel
    a.peerCode h r .write 0 addr = 0 → a.pointCode addr = 0 → a.tagNow r = some n → a.batches.find n = some b →
    a.stageCode n b (.point addr) = 0 →
    t.batches.find n =
        some { b with entries := b.entries ++ [⟨.point addr, v, r, if s.paired then s.epoch else 0, none⟩] } ∧
      ∃ f, t.txQ = s.txQ ++ [f] ∧ f.body = .stageAns tag 0 n ∧ f.dst = h.src.val := by
  intro r a t hcode hpoint htag hb hstage
  obtain ⟨hok, htxQ, hfind⟩ := stagePoint_joins v (if s.paired then s.epoch else 0) none halign hpoint htag hb hstage
  have ht := stageRx_open tin tag v sel hpart hlt
  rw [stagePart_point v sel halign hcode, hok] at ht
  simp only [t, ht, queue, p, wr_batches, wr_txQ, htxQ, a, (s.sameBut_partTagged n sel).txQ]
  exact ⟨hfind, _, rfl, rfl, rfl⟩

/-- The answer to a STAGE that nobody waits for: a refusal dooms the batch that staged. -/
theorem stageAnsRx_unawaited {q : Ask} {src tag code id : Nat} (hq : s.askOf src tag true = some q)
    (hbatch : q.batch = some id) (hwho : q.who = .nobody) :
    let b : Block := { s with asks := s.asks.erase q }
    s.stageAnsRx src tag code = if code ≠ 0 then b.doomBatch id code src else b := by
  simp only [stageAnsRx, hq, hbatch, hwho, answer]

/-! ### The ring-receive queue (R318) -/

/-- A frame that finds a credit and nothing before it reaches translation at once. -/
theorem xlateFrame_taken {s1 : Block} {x : RxHeld} (ht : s.takes x.h (RxBody.type x.body) x.h.ls s1)
    (hdirect : s1.rxDirect = true) : s.xlateFrame x = s1.takeRxCredit.xlateTake x := by
  rw [takes] at ht
  simp only [xlateFrame, ht, hdirect, if_true]

end
end Block

section
variable {c : Instr} {s : State} {a : Block} {h : Hdr}

/-! ### The law of each kind of frame -/

theorem translationLaw_image {tick : Nat} {runs : List (Nat × List Nat)}
    (he : exec c s = .next { s with m := a.imageFrame h tick (Block.runWords runs) }) :
    TranslationLaw c s a ⟨h, .image tick runs⟩ := by
  intro addr v u k p hruns hw hl
  subst hruns
  refine ⟨fun hother hcredit => ?pushes, fun hself hkind howner hintime => ?publishes⟩
  case pushes =>
    rw [Block.imageFrame_one_word hw (Block.imageWord_pushes hl hother hcredit)] at he
    exact ⟨_, he, rfl, Block.imgPush_imgQ _, Block.imgPush_credits _⟩
  case publishes =>
    subst hself hkind
    refine answers_of_eq he (Block.imageFrame_one_word hw ?_)
    rw [Block.imageWord_publishes hl, Block.publishRx_stages v howner hintime]

theorem translationLaw_request {op kind right tin addr tag v : Nat}
    (he : exec c s = .next { s with m := a.requestRx h op right tin addr tag v }) :
    TranslationLaw c s a ⟨h, .request op kind right tin addr tag v⟩ := by
  intro hop halign hlt hepoch hallow
  subst hop
  exact answers_of_eq he (Block.requestRx_reads tag v halign hlt hepoch hallow)

theorem translationLaw_response {tag code v : Nat}
    (he : exec c s = .next { s with m := a.responseRx h.src.val tag code v }) :
    TranslationLaw c s a ⟨h, .response tag code v⟩ := by
  intro q e j rel d hq hwho hd hrel
  have hrx := Block.responseRx_scan (code := code) v hq hwho hd hrel
  exact ⟨fun hok => answers_of_eq he (hrx.trans (if_pos hok)), fun hbad => answers_of_eq he (hrx.trans (if_neg hbad))⟩

theorem translationLaw_stage {id tin tag addr v sel : Nat}
    (he : exec c s = .next { s with m := a.stageRx h id tin tag addr v sel }) :
    TranslationLaw c s a ⟨h, .stage id tin tag addr v sel⟩ := by
  intro n b hpart halign hlt r a1 hcode hpoint htag hb hstage
  obtain ⟨hfind, f, htxQ, hbody, hdst⟩ :=
    Block.stageRx_joins tin tag v sel hpart halign hlt hcode hpoint htag hb hstage
  exact ⟨_, f, he, rfl, hfind, htxQ, hbody, hdst⟩

theorem translationLaw_stageAns {tag code id : Nat}
    (he : exec c s = .next { s with m := a.stageAnsRx h.src.val tag code }) :
    TranslationLaw c s a ⟨h, .stageAns tag code id⟩ := by
  intro q n hq hbatch hwho
  have hrx := Block.stageAnsRx_unawaited (code := code) hq hbatch hwho
  exact ⟨fun hok => answers_of_eq he (hrx.trans (if_neg (not_not.2 hok))),
    fun hbad => answers_of_eq he (hrx.trans (if_pos hbad))⟩

/-- A command by which a frame reaches translation obeys the law of the frame's kind. -/
theorem translationLaw_of_take {x : RxHeld} (he : exec c s = .next { s with m := a.xlateTake x }) :
    TranslationLaw c s a x := by
  obtain ⟨h, body⟩ := x
  cases body with
  | image tick runs => exact translationLaw_image he
  | request op kind right tin addr tag v => exact translationLaw_request he
  | response tag code v => exact translationLaw_response he
  | stage id tin tag addr v sel => exact translationLaw_stage he
  | stageAns tag code id => exact translationLaw_stageAns he

/-- A command by which a frame for translation arrives. -/
theorem translationLaw_of_frame {s1 : Block} {x : RxHeld}
    (he : exec c s = .next { s with m := s.m.onSupIsl 30 fun b => b.xlateFrame x }) (hrun : s.m.withSup 30 = true)
    (hdirect : s1.rxDirect = true) (ht : s.m.takes x.h (Block.RxBody.type x.body) x.h.ls s1) :
    TranslationLaw c s s1.takeRxCredit x :=
  translationLaw_of_take (answers_onSupIsl he hrun (Block.xlateFrame_taken ht hdirect))

end

/-- Settles O30: each frame that arrives is `xlateFrame`, and the one that the buffer releases is taken from it. -/
theorem translationFramesAreTaken : Obligations.TranslationFramesAreTaken := by
  refine ⟨fun s h s1 hrun hdirect => ⟨?image, ?request, ?response, ?stage, ?stageAns⟩,
    fun s x hrun hcredit hnext hw => ?released⟩
  case image => exact fun tick runs ht => translationLaw_of_frame rfl hrun hdirect ht
  case request => exact fun op kind right tin addr tag v ht => translationLaw_of_frame rfl hrun hdirect ht
  case response => exact fun tag code v ht => translationLaw_of_frame rfl hrun hdirect ht
  case stage => exact fun id tin addr tag v sel ht => translationLaw_of_frame rfl hrun hdirect ht
  case stageAns => exact fun tag code id ht => translationLaw_of_frame rfl hrun hdirect ht
  case released =>
    refine translationLaw_of_take (answers_onSup rfl (Block.supRuns_of_withSup hrun) ?_)
    simp only [hcredit, hw, hnext, ne_eq, not_true_eq_false, or_self, if_false]

end Sys2Proof.Machine
end

section
/-!
Frames of the ring's cycle and control frames (R55, R307 to R317). A frame that the ring MAC reads itself, TOKEN, ASYNC_TOKEN
or HELLO, is counted and its sender heard at a port that is up; every other frame passes `receive`. Each operation has its rule
at a module where its conditions hold.
-/
namespace Sys2Proof.Machine
namespace Block
section
variable {s : Block} {h : Hdr}

/-- The module with an express frame counted at its port and its sender heard (R300, R373). -/
def expressHeard (s : Block) (h : Hdr) : Block := (s.rxCount (netPort h.port) h.octets true).heard h

/-! ### Duplicate IDs (R317) -/

theorem dupSeen_first (hfirst : s.on HID.DUPSEEN 0 0 = false) :
    s.dupSeen = ((s.p HID.DUPSEEN 1).p RCTL.RCTL_STAT.MASTER 0).fire EV.RCTL.DUP_ID :=
  if_neg (Bool.eq_false_iff.1 hfirst)

/-! ### TOKEN (R307, R308) -/

section
variable (hup : s.portUp h.port = true) (hhops : h.hops < 320) {tick resAll resLs nodes rank rot : Nat} {iso : Bool}
include hup hhops

/-- A TOKEN with the node's own mark is the master's, which ends a rotation by the west port, or comes from a duplicate. -/
theorem tokenRx_own (hown : s.ownMark h = true) :
    let s2 := ((s.expressHeard h).p HID.TOKENAT (s.tick + 1)).p HID.TMISS 0
    s.tokenRx h tick resAll resLs nodes iso rank rot =
      if s.on RCTL.RCTL_STAT.MASTER 0 0 = true then
        if h.port.val = 1 then s2.tokenBack resAll resLs nodes rot else s2
      else (s.expressHeard h).dupSeen := by
  simp only [tokenRx, hup, hown, ge_iff_le, if_neg (Nat.not_le.2 hhops), Bool.not_true, Bool.false_eq_true, if_false, if_true,
    expressHeard]

/-- Another master's TOKEN that is taken goes on first, and then acts on the node. -/
theorem tokenRx_other {s2 : Block} (hown : s.ownMark h = false)
    (htake : ((s.expressHeard h).tokenPass h tick resAll resLs nodes iso).take h 0x01 = (s2, .taken)) :
    s.tokenRx h tick resAll resLs nodes iso rank rot = s2.tokenTake h nodes iso rank := by
  rw [expressHeard] at htake
  simp only [tokenRx, hup, hown, htake, ge_iff_le, if_neg (Nat.not_le.2 hhops), Bool.not_true, Bool.false_eq_true, if_false]

end

/-- A node that is no master follows the TOKEN's master, its isochronous flag and its count of nodes. -/
theorem tokenTake_follows {nodes rank : Nat} {iso : Bool} (hmaster : s.on RCTL.RCTL_STAT.MASTER 0 0 = false) :
    s.tokenTake h nodes iso rank =
      ((((s.p HID.TOKENAT (s.tick + 1)).p HID.TMISS 0).setMaster h.src.val).setIso iso).p RCTL.RCTL_STAT.NODES
        (min (nodes + 1) 320) := by
  simp only [tokenTake, hmaster, Bool.false_and, Bool.false_eq_true, if_false]

/-! ### ASYNC_TOKEN (R310) -/

section
variable (hup : s.portUp h.port = true) (hhops : h.hops < 320) (hus : h.us < 210)
include hup hhops hus

theorem asyncToken_other {s2 : Block} (hown : s.ownMark h = false)
    (htake : (s.expressHeard h).take h 0x02 = (s2, .taken)) : s.asyncToken h = (s2.asyncUse h.us).asyncPass h := by
  rw [expressHeard] at htake
  simp only [asyncToken, hup, hown, htake, ge_iff_le, if_neg (Nat.not_le.2 hhops), if_neg (Nat.not_le.2 hus), Bool.not_true,
    Bool.false_eq_true, if_false]

/-- The master takes its own token off the ring and sends a new one. -/
theorem asyncToken_own (hown : s.ownMark h = true) (hmaster : s.on RCTL.RCTL_STAT.MASTER 0 0 = true)
    (hiso : s.on RCTL.RCTL_STAT.ISO_OVER 0 0 = false) :
    s.asyncToken h = ((s.expressHeard h).asyncUse h.us).send ⟨.asyncToken s.tick, 0xFF, 0, true, 0⟩ := by
  simp only [asyncToken, hup, hown, hmaster, hiso, ge_iff_le, if_neg (Nat.not_le.2 hhops), hus, decide_true, Bool.and_self,
    Bool.not_true, Bool.not_false, Bool.false_eq_true, if_false, if_true, expressHeard]

end

/-! ### LINK frames (R312 to R314) -/

/-- A HELLO in time, of a neighbour that is no duplicate, names the neighbour and settles the wake time. -/
theorem hello_names_neighbour {tw : Nat} {late : Bool} (hring : h.port.val < 2) (hup : s.portUp h.port = true)
    (hown : s.ownMark h = false) (hfresh : s.stale h = false) :
    let i := h.port.val
    let a := (s.expressHeard h).noteLink i
    s.hello h tw false late =
      ((((a.wr RING.PORT_STAT.PEER_ID i 0 h.src.val).wr RING.PORT_STAT.PEER_POS i 0 (b2n h.pos)).wr RING.PORT_STAT.TW i 0
        (min 31 (max tw (s.rd RING.PORT_CFG.TW_MAX i 0)))).wr RING.PORT_STAT.LPI_RX i 0 0).fireIf late
          (EV.RING.WAKE_LATE i) := by
  have hhere : (decide (h.port.val ≥ 2) || !s.portUp h.port) = false := by simp [hring, hup]
  simp only [hello, hhere, hown, hfresh, Bool.false_eq_true, if_false, expressHeard, b2n]

section
variable {s1 : Block}

theorem breakRx_taken (ht : s.takes h 0x0C true s1) : s.breakRx h = s1.p HID.STEERPEND 1 := by
  rw [takes] at ht
  simp only [breakRx, ht]

theorem healRx_taken (ht : s.takes h 0x0C true s1) (hnone : s.g HID.HEALAT = 0) :
    s.healRx h = s1.p HID.HEALAT (s.healDue h.us) := by
  rw [takes] at ht
  simp only [healRx, ht, hnone, if_true]

/-! ### FIRE and ALARM (R55, R316) -/

theorem fireRx_taken (ids : List Nat) (ht : s.takes h 0x06 true s1) :
    s.fireRx h ids =
      if (h.ls && ids.contains s.selfId) = true then
        ((((s1.p HID.RINGFIRE 1).p HID.FIRERXAT s.tick).p HID.FIREASK 1).p MOD.MOD_FIRE_SRC.RING 1).fire EV.RCTL.FIRE_RX
      else s1 := by
  rw [takes] at ht
  simp only [fireRx, ht]

theorem alarmRx_taken (src n owner : Nat) (ht : s.takes h 0x0B h.ls s1) :
    s.alarmRx h src n owner = { s1 with alarms := s1.alarms ++ [(h.src.val, src, n, owner)] } := by
  rw [takes] at ht
  simp only [alarmRx, ht]

end
end
end Block

/-- Settles O41: each token's own rule, by whose it is and whether the node is the master. -/
theorem ringCycleFramesTakeEffect : Obligations.RingCycleFramesTakeEffect := by
  intro s h hrun hup
  refine ⟨fun hhops tick resAll resLs nodes rot iso rank =>
      ⟨fun hown hmaster => ⟨fun hwest => ?rotation, fun heast => ?ownToken⟩, fun hown hmaster => ?duplicate,
        fun hown s2 htake hmaster => ?follows⟩,
    fun hhops hus => ⟨fun hown s2 htake => ?spends, fun hown hmaster hiso => ?renews⟩, fun hown hfirst => ?mark⟩
  case rotation =>
    exact answers_onSupIsl rfl hrun ((Block.tokenRx_own hup hhops hown).trans ((if_pos hmaster).trans (if_pos hwest)))
  case ownToken =>
    exact answers_onSupIsl rfl hrun ((Block.tokenRx_own hup hhops hown).trans ((if_pos hmaster).trans (if_neg heast)))
  case duplicate =>
    exact answers_onSupIsl rfl hrun ((Block.tokenRx_own hup hhops hown).trans (if_neg (Bool.eq_false_iff.1 hmaster)))
  case follows =>
    exact answers_onSupIsl rfl hrun
      ((Block.tokenRx_other hup hhops hown htake).trans (Block.tokenTake_follows hmaster))
  case spends => exact answers_onSupIsl rfl hrun (Block.asyncToken_other hup hhops hus hown htake)
  case renews => exact answers_onSupIsl rfl hrun (Block.asyncToken_own hup hhops hus hown hmaster hiso)
  case mark =>
    have hhere : (s.m.ownMark h && s.m.portUp h.port) = true := Bool.and_eq_true_iff.2 ⟨hown, hup⟩
    exact answers_onSupIsl rfl hrun ((if_pos hhere).trans (Block.dupSeen_first hfirst))

/-- Settles O42: HELLO's own rule, and for each other frame what it does once it is taken. -/
theorem ringControlFramesTakeEffect : Obligations.RingControlFramesTakeEffect := by
  intro s h s1 hrun
  refine ⟨fun tw late hring hup hown hfresh => ?hello, fun ht => ⟨?steers, fun hnone => ?heals⟩,
    fun ids ht => ⟨fun hls hlisted => ?fires, fun hother => ?ignores⟩, fun src n owner ht => ?alarm⟩
  case hello => exact answers_onSupIsl rfl hrun (Block.hello_names_neighbour hring hup hown hfresh)
  case steers => exact answers_onSupIsl rfl hrun (Block.breakRx_taken ht)
  case heals => exact answers_onSupIsl rfl hrun (Block.healRx_taken ht hnone)
  case fires =>
    exact answers_onSupIsl rfl hrun ((Block.fireRx_taken ids ht).trans (if_pos (Bool.and_eq_true_iff.2 ⟨hls, hlisted⟩)))
  case ignores =>
    have hnot : ¬ (h.ls && ids.contains s.m.selfId) = true := Bool.eq_false_iff.1 (Bool.and_eq_false_iff.2 hother)
    exact answers_onSupIsl rfl hrun ((Block.fireRx_taken ids ht).trans (if_neg hnot))
  case alarm => exact answers_onSupIsl rfl hrun (Block.alarmRx_taken src n owner ht)

end Sys2Proof.Machine
end

section
/-!
The floor segments and the service port (R300, R324 to R333). What a port's counters do stays in cells of its counters page
and of the event registers, so an ANSWER that is kept leaves everything else of the node's page as it was written.
-/
namespace Sys2Proof.Machine
namespace Block
section
variable {s : Block}

/-! ### Counters of ports (R299, R300) -/

/-- The fields that a counter of a port touches. -/
def statFields (p : NetPort) : List Nat := (statFld p).1.code :: (statFld p).2.1.code :: firedFields

theorem touchesOnly_stat (s : Block) (p : NetPort) (k n : Nat) : TouchesOnly (statFields p) s (s.stat p k n) := by
  have hval : (statFld p).1.code ∈ statFields p := .head _
  have hhalf : (statFld p).2.1.code ∈ statFields p := .tail _ (.head _)
  have hfired : firedFields ⊆ statFields p := fun _ hf => .tail _ (.tail _ hf)
  exact touchesOnly_ite _ (.refl _ s) (touchesOnly_ite _
    (((touchesOnly_wr _ _ _ _ _ hval).trans (touchesOnly_wr _ _ _ _ _ hhalf)).trans (touchesOnly_fire _ _ hfired))
    (touchesOnly_wr _ _ _ _ _ hval))

/-- A good frame received changes the cells only. -/
theorem sameBut_rxCount (s : Block) (p : NetPort) (octets : Nat) (express : Bool) :
    SameBut s (s.rxCount p octets express) := by
  have hcounted : SameBut s (((s.stat p 0 1).statOct p 1 octets).stat p (sizeBin octets) 1) :=
    ((sameBut_stat ..).trans (sameBut_statOct ..)).trans (sameBut_stat ..)
  cases p with
  | ring q => exact sameBut_ite _ _ _ _ (hcounted.trans (sameBut_stat ..)) hcounted
  | svc | seg _ | pair => exact hcounted

/-! ### ANSWERs of a segment's nodes (R326, R327) -/

theorem SameBut.segAns {s t : Block} (h : SameBut s t) : t.segAns = s.segAns := by
  have hsegAns := congrArg Block.segAns h
  exact hsegAns

/-- The module with an ANSWER of `n` words counted at its segment. -/
def answerCounted (s : Block) (g : Fin 8) (n : Nat) : Block := s.rxCount (.seg g) (max 64 (30 + 4 * n)) false

/-- The module with an ANSWER of `n` words in time and of the node's type counted and shown. -/
def answerShown (s : Block) (g : Fin 8) (j us type n : Nat) : Block :=
  (((s.answerCounted g n).wr SEG.NODE_STAT.TYPE_SEEN g.val j type).wr SEG.SEG_STAT.LAST_ANS g.val 0 (min us 65535)).stat
    (.seg g) 28 1

theorem sameBut_answerShown (s : Block) (g : Fin 8) (j us type n : Nat) : SameBut s (s.answerShown g j us type n) :=
  (((sameBut_rxCount ..).trans (sameBut_wr ..)).trans (sameBut_wr ..)).trans (sameBut_stat ..)

theorem typeSeen_not_counted : ∀ g : Fin 8, SEG.NODE_STAT.TYPE_SEEN.code ∉ statFields (.seg g) := by decide

theorem answerShown_type (s : Block) (g : Fin 8) (j us type n : Nat) :
    (s.answerShown g j us type n).rd SEG.NODE_STAT.TYPE_SEEN g.val j = type % 2 ^ 16 := by
  have hcounted := fun b : Block => (b.touchesOnly_stat (.seg g) 28 1).2 _ g.val j (typeSeen_not_counted g)
  rw [answerShown, hcounted, rd_wr_field _ _ _ _ _ _ _ _ (by decide), rd_wr_same]
  rfl

/-- An ANSWER in time, to the last poll: by its type it marks the node or is kept. -/
theorem segAnswer_in_time {g : Fin 8} {j us : Nat} (status type : Nat) (l : List Word) (hrun : s.segRuns g.val = true)
    (hpoll : s.rd HID.SEGPOLL g.val 0 ≠ 0) (hasked : s.on HID.SEGASKED g.val j = true)
    (hintime : us < 250 * s.rd SEG.SEG_CFG.PERIOD g.val 0) :
    let s1 := s.answerCounted g l.length
    let s2 := s.answerShown g j us type l.length
    let a : SegAns := ⟨status % 256, type % 2 ^ 16, l.map fun (w : Word) => w.toNat⟩
    s.segAnswer g j us status type l =
      if type % 2 ^ 16 ≠ s.rd SEG.NODE_CFG.TYPE g.val j then
        ((((s1.wr SEG.NODE_STAT.TYPE_SEEN g.val j type).wr SEG.NODE_STAT.STATE g.val j 3).wr HID.SEGOK g.val j 0).wr
          HID.SEGWRONG g.val j 1).fire (EV.SEG.TYPE_ERR g.val)
      else { s2 with segAns := s2.segAns.put (32 * g.val + j) a } := by
  have hlength : 14 + 8 + 4 + 4 * l.length + 4 = 30 + 4 * l.length := by omega
  have hpolled : (s.rd HID.SEGPOLL g.val 0 == 0) = false := beq_eq_false_iff_ne.2 hpoll
  simp only [segAnswer, answerCounted, answerShown, hrun, hpolled, hasked, hlength, ge_iff_le, if_neg (Nat.not_le.2 hintime),
    Bool.not_true, Bool.or_self, Bool.false_eq_true, if_false]

/-! ### The wake pattern (R333) -/

section
variable (hen : s.on HDR.PAGE_CTRL.ENABLE 0x090 0 = true) (hlink : s.on SVC.SVC_STAT.LINK 0 0 = true)
include hen hlink

theorem svcWake_wakes {key : Nat} (hmode : s.g SVC.SVC_CFG.MODE = 2) (hasleep : s.g SVC.SVC_STAT.WOKEN = 0)
    (hkey : key = s.g SVC.SVC_WAKE.KEY) :
    s.svcWake key = (((s.rxCount .svc 64 false).p SVC.SVC_STAT.WOKEN 1).stat .svc 31 1).fire EV.SVC.WAKE := by
  simp only [svcWake, hen, hlink, hmode, hasleep, hkey, Bool.not_true, Bool.or_self, Bool.false_eq_true, and_self, if_false,
    if_true]

theorem svcWake_discards {key : Nat} (hkey : key ≠ s.g SVC.SVC_WAKE.KEY) :
    s.svcWake key = ((s.rxCount .svc 64 false).stat .svc 14 1).fire EV.SVC.RX_DISCARD := by
  simp only [svcWake, hen, hlink, hkey, Bool.not_true, Bool.or_self, Bool.false_eq_true, and_false, if_false]
  rfl

end

/-! ### Bad frames (R300, R302) -/

/-- A frame of no known kind is counted; the service port alone reports it. -/
theorem badFrame_unknown {p : NetPort} (n : Nat) (hp : p ≠ .svc) :
    s.badFrame p (.unknown n) = (s.rxCount p n false).stat p 14 1 := by
  cases p with
  | svc => exact absurd rfl hp
  | ring _ | seg _ | pair => rfl

end
end Block

/-- A bad frame at a port that receives answers what the port does with it. -/
theorem answers_unknownFrameRx {s : State} {p : NetPort} {bad : BadFrame} {b : Block}
    (hrun : s.m.withSup (portIsland p) = true) (hup : s.m.netUp p = true) (h : s.m.badFrame p bad = b) :
    Answers (.unknownFrameRx p bad) s b :=
  answers_onSupIsl rfl hrun ((if_pos hup).trans h)

/-- Settles O44: each frame's own rule, of an ANSWER by its type and of a wake pattern by its key. -/
theorem segmentAndServiceFramesTakeEffect : Obligations.SegmentAndServiceFramesTakeEffect := by
  refine fun s => ⟨fun hrun g => ⟨?beacon, fun j us status type l hseg hpoll => ?answer⟩,
    fun hrun hen hlink hmode hasleep key => ⟨fun hkey => ?wakes, fun hkey => ?discards⟩,
    fun p hrun hup => ⟨?fcs, ?undersize, ?oversize, ?code, fun n hp => ?unknown, fun n hp => ?unknownSvc,
      fun q hp => ?reasm⟩⟩
  case beacon => exact answers_onSupIsl rfl hrun rfl
  case answer =>
    intro s1 hasked hintime htype
    have hanswer := Block.segAnswer_in_time status type l hseg hpoll hasked hintime
    have hfits : type % 2 ^ 16 = type := Nat.mod_eq_of_lt htype
    refine ⟨fun hwrong => ?wrongType, fun hright => ?kept⟩
    case wrongType => exact answers_onSupIsl rfl hrun (hanswer.trans (if_pos (hfits.symm ▸ hwrong)))
    case kept =>
      have hbefore := (s.m.sameBut_answerShown g j.val us type l.length).segAns
      exact ⟨_, answers_onSupIsl rfl hrun (hanswer.trans (if_neg (not_not.2 (hfits.trans hright)))), rfl,
        congrArg (fun x : AMap SegAns => x.put _ _) hbefore,
        (s.m.answerShown_type ..).trans hfits⟩
  case wakes => exact answers_onSup rfl hrun (Block.svcWake_wakes hen hlink hmode hasleep hkey)
  case discards => exact answers_onSup rfl hrun (Block.svcWake_discards hen hlink hkey)
  case fcs | undersize | oversize | code => exact answers_unknownFrameRx hrun hup rfl
  case unknown => exact answers_unknownFrameRx hrun hup (Block.badFrame_unknown n hp)
  case unknownSvc => subst hp; exact answers_unknownFrameRx hrun hup rfl
  case reasm => subst hp; exact answers_unknownFrameRx hrun hup rfl

end Sys2Proof.Machine
end

section
/-!
The queue (spec 95). Every command answers a next state, in which the queue stands as it was and the module is a function of
the module alone. A step is thus the front command's effect with the queue's rest, and as many steps as commands wait work
the queue off.
-/
namespace Sys2Proof.Machine

/-- Every command answers a next state with the queue as it was: each arm of the dispatch is of that shape. -/
theorem exec_effect (c : Instr) (s : State) : exec c s = .next { s with m := effect c s.m } := by
  cases c <;> rfl

theorem step_nil (m : Block) : step ⟨[], m⟩ = .next ⟨[], m⟩ := rfl

theorem step_cons (c : Instr) (rest : List Instr) (m : Block) : step ⟨c :: rest, m⟩ = .next ⟨rest, effect c m⟩ :=
  exec_effect c ⟨rest, m⟩

/-- A step that answers a next state is the first of a run. -/
theorem run_succ_of_next {M : Host.Core} {s t : M.State} (k : Nat) (h : M.step s = .next t) : M.run (k + 1) s = M.run k t := by
  simp only [Host.Core.run, h]

/-- Steps up to the queue's length leave no command, and the effects of all of them in their order. -/
theorem run_pending (l : List Instr) (m : Block) : Host.Core.run core l.length ⟨l, m⟩ = .next ⟨[], effects l m⟩ := by
  induction l generalizing m with
  | nil => rfl
  | cons c rest ih =>
    exact (run_succ_of_next rest.length (step_cons c rest m)).trans (ih (effect c m))

/-- Settles O2, by induction on the queue. -/
theorem queueRunsToCompletion : Obligations.QueueRunsToCompletion := fun s => run_pending s.pending s.m

/-- Settles O1: a step on a queue with a front command is that command. -/
theorem stepPerformsFrontCommand : Obligations.StepPerformsFrontCommand := fun _ _ _ => rfl

/-- Settles O3: a step takes the front command off and puts none in. -/
theorem stepKeepsQueueWellFormed : Obligations.StepKeepsQueueWellFormed := by
  rintro ⟨_ | ⟨c, rest⟩, m⟩ t hwf hstep
  case nil =>
    obtain rfl := Host.Outcome.next.inj ((step_nil m).symm.trans hstep)
    exact hwf
  case cons =>
    obtain rfl := Host.Outcome.next.inj ((step_cons c rest m).symm.trans hstep)
    obtain ⟨_, hrest⟩ := Bool.and_eq_true_iff.1 hwf
    exact hrest

end Sys2Proof.Machine
end

section
/-!
Time (R335 to R348). Each event of the PTP clock and of the RTC domain has its rule, stated as the operation at a state where
its conditions hold. The RTC domain works apart from the supervisor: its commands need its own island only.
-/
namespace Sys2Proof.Machine
namespace Block
section
variable {s : Block}

/-! ### The PTP clock (R335 to R342) -/

/-- A usable Sync is counted and passed on, and disciplines the time by the offset and the frequency that it shows. -/
theorem ptpSync_usable {p : Fin 2} {domain gm seq us : Nat} {two : Bool} (off freq : Int)
    (hup : s.portUp ⟨p.val, by omega⟩ = true) (huse : s.syncUsable p.val domain two gm seq us = true) :
    let lim : Int := s.g PTP.PTP_LIMITS.SLEW * 1000
    let s0 := (s.rxCount (.ring p) 64 true).ptpForward p gm 64
    let s1 := ((s0.p HID.SYNCSEQ seq).p HID.SYNCSEQAT (s.nowUs us + 1)).p HID.SYNCAT s.tick
    let s3 := (((s1.sat HID.SYNCN 0 0 1).p PTP.PTP_STAT.PORT p.val).p PTP.PTP_OFFSET.OFFSET (uns 32 (clamp32 off))).p
      PTP.PTP_FREQ.FREQ (uns 32 (max (-lim) (min freq lim)))
    s.ptpSync p domain two gm seq off freq us = s3.syncState off us := by
  simp only [ptpSync, hup, huse, Bool.not_true, Bool.false_eq_true, if_false]

/-- The first Announce of another clock in its domain names that clock, at a module that can be no grandmaster. -/
theorem ptpAnnounce_first {p : Fin 2} {a : Announce} (hup : s.portUp ⟨p.val, by omega⟩ = true) (hother : a.id ≠ s.ownClockId)
    (hnone : s.on HID.GMKNOWN 0 0 = false) (hslave : s.on PTP.PTP_CFG.GM_EN 0 0 = false) (hstate : s.ptpState ≠ 5) :
    let s1 := (((s.rxCount (.ring p) 82 true).ptpForward p a.id 82).setGm a.id
      (dataSet a.prio1.val a.cls.val a.acc.val a.var.val a.prio2.val a.id)).p HID.ANNAT s.tick
    s.ptpAnnounce p (s.g PTP.PTP_CFG.DOMAIN) a =
      ((s1.p PTP.PTP_STAT.TIME_VALID (b2n a.traceable)).p PTP.PTP_STAT.STEPS (min a.steps 255)).p PTP.PTP_UTC.UTC_RX a.utc := by
  have hmine : ¬ (s.g PTP.PTP_CFG.DOMAIN ≠ s.g PTP.PTP_CFG.DOMAIN ∨ a.id = s.ownClockId) :=
    not_or.2 ⟨fun h => h rfl, hother⟩
  simp only [ptpAnnounce, hup, hnone, hslave, if_neg hmine, if_neg hstate, Bool.not_true, Bool.and_false, Bool.false_and,
    Bool.false_eq_true, if_false]

theorem syncTimeout_locked (hlate : s.g HID.SYNCAT + 4000 ≤ s.tick) (hlocked : s.ptpState = 3) :
    s.syncTimeout = (s.p HID.SYNCN 0).setPtp 1 := by
  simp only [syncTimeout, ge_iff_le, hlate, hlocked, true_or, if_true]

theorem announceTimeout_capable (hcan : s.on PTP.PTP_CFG.GM_EN 0 0 = true) (hnot : s.ptpState ≠ 5) (hnear : s.ptpState ≠ 4)
    (hlate : s.g HID.ANNAT + 12000 ≤ s.tick) :
    s.announceTimeout = (((((s.setGm s.ownClockId s.ownDataSet).p PTP.PTP_STAT.STEPS 0).p PTP.PTP_STAT.TIME_VALID
      (s.g HID.SEEDOK)).p PTP.PTP_FREQ.FREQ 0).p HID.PTPOFF 0).setPtp 5 := by
  simp only [announceTimeout, hcan, bne_iff_ne.2 hnot, bne_iff_ne.2 hnear, ge_iff_le, hlate, decide_true, Bool.and_self,
    if_true]

theorem ptpAdj_starts {r : Req} {w : Nat} (hcfg : s.tin0cfg r = true) (hgm : s.ptpState = 5) (hidle : s.g HID.ADJLEFT = 0)
    (hrange : (sgn 32 w).natAbs ≤ 1000000000) : s.ptpAdj r w = (s.p HID.ADJLEFT (uns 40 (4 * sgn 32 w)), 0) := by
  simp only [ptpAdj, hcfg, hgm, hidle, gt_iff_lt, if_neg (Nat.not_lt.2 hrange), Bool.not_true, Bool.false_eq_true, ne_eq,
    not_true_eq_false, or_self, if_false, if_true]

/-- A read of PTP_NS gives the nanoseconds, and holds the seconds and the fraction of the same moment for the requester. -/
theorem ptpRead_holds {r : Req} (sub frac : Nat) (hlive : s.live r = true) :
    let u := s.ptpRead r sub frac
    u.rd HID.RDATA 0 (holdKey r) = s.ptpNow sub % 1000000000 ∧
      u.rd HID.SNAPH 0x0A0058 (holdKey r) = s.ptpNow sub / 1000000000 % 2 ^ 32 ∧
      u.rd HID.SNAPH 0x0A0060 (holdKey r) = frac % 2 ^ 16 := by
  have hdata : HID.RDATA.w = 32 := rfl
  have hheld : HID.SNAPH.w = 32 := rfl
  have hflag : HID.SNAPH.code ≠ HID.SNAPHV.code := by decide
  have hread : HID.SNAPH.code ≠ HID.RDATA.code := by decide
  simp only [ptpRead, acc_live s r _ hlive, ptpNsRead]
  refine ⟨?ns, ?seconds, ?fraction⟩
  case ns => rw [rd_wr_same, hdata]; omega
  case seconds =>
    rw [rd_wr_field _ _ _ _ _ _ _ _ hread, rd_wr_field _ _ _ _ _ _ _ _ hflag, rd_wr_page _ _ _ _ _ _ _ (by decide),
      rd_wr_field _ _ _ _ _ _ _ _ hflag, rd_wr_page _ _ _ _ _ _ _ (by decide), rd_wr_field _ _ _ _ _ _ _ _ hflag, rd_wr_same,
      hheld, Nat.mod_mod]
  case fraction =>
    rw [rd_wr_field _ _ _ _ _ _ _ _ hread, rd_wr_field _ _ _ _ _ _ _ _ hflag, rd_wr_same, hheld]
    omega

/-! ### The real-time clock (R343 to R348) -/

theorem rtcEdge_lands (hpend : s.on RTC.RTC_STAT.WRITE_PEND 0 0 = true) (hdue : s.g HID.LANDLEFT ≤ 1) :
    s.rtcEdge = s.rtcLand := by
  simp only [rtcEdge, hpend, hdue, decide_true, Bool.and_self, if_true]

theorem rtcEdge_counts (hnone : s.on RTC.RTC_STAT.WRITE_PEND 0 0 = false) :
    s.rtcEdge = (s.p HID.LANDLEFT (s.g HID.LANDLEFT - 1)).rtcSet ((s.rtcCount + 1) % 2 ^ 48) := by
  simp only [rtcEdge, hnone, Bool.false_and, Bool.false_eq_true, if_false]

/-- A landing that is due at the next edge works that edge alone. -/
theorem rtcAhead_landing (hpend : s.on RTC.RTC_STAT.WRITE_PEND 0 0 = true) (hdue : s.g HID.LANDLEFT ≤ 1) :
    s.rtcAhead (max 1 (s.g HID.LANDLEFT)) = s.rtcLand.p HID.RTCDONE (s.g HID.RTCDONE + 1) := by
  rw [Nat.max_eq_left hdue, rtcAhead, rtcEdges, rtcEdges, rtcEdge_lands hpend hdue]

theorem rtcAlarm_begins {k j : Nat} (h : s.almEdges k (9 - s.g HID.RTCDONE) = some j) : s.rtcAlarm k = s.rtcAhead j := by
  simp only [rtcAlarm, h]

theorem rtcAlarm_none {k : Nat} (h : s.almEdges k (9 - s.g HID.RTCDONE) = none) : s.rtcAlarm k = s := by
  simp only [rtcAlarm, h]

theorem rtcSwitch_to_cell (hmain : s.on RTC.RTC_STAT.ON_VBAT 0 0 = false) :
    s.rtcSwitch true =
      ((s.p RTC.RTC_STAT.ON_VBAT 1).sat RTC.RTC_COUNT.VBAT_SWITCH 0 0 1).fireHeld EV.RTC.VBAT_ON := by
  simp only [rtcSwitch, hmain, Bool.false_beq, Bool.not_true, Bool.false_eq_true, if_false, if_true]

theorem rtcSwitch_to_main (hcell : s.on RTC.RTC_STAT.ON_VBAT 0 0 = true) :
    s.rtcSwitch false = (s.p RTC.RTC_STAT.ON_VBAT 0).fireHeld EV.RTC.VBAT_OFF := by
  simp only [rtcSwitch, hcell, Bool.true_beq, Bool.false_eq_true, if_false]

/-- A voltage below 2.8 V is shown as it is, and fires where the last one was not below. -/
theorem vbatLow_below {mv : Nat} (hlow : mv < 2800) :
    let s1 := (s.p RTC.RTC_STAT.VBAT mv).p HID.VBATLO 1
    s.vbatLow mv = if s.g HID.VBATLO = 0 then s1.fireHeld EV.RTC.VBAT_LOW else s1 := by
  have hmin : min mv 4095 = mv := by omega
  simp only [vbatLow, hmin, hlow, decide_true, b2n, true_and, if_true]

theorem vbatLow_above {mv : Nat} (hok : 2800 ≤ mv) :
    s.vbatLow mv = (s.p RTC.RTC_STAT.VBAT (min mv 4095)).p HID.VBATLO 0 := by
  simp only [vbatLow, Nat.not_lt.2 hok, decide_false, b2n, false_and, Bool.false_eq_true, if_false]

/-- A due setting of the RTC opens a batch of the firmware for the next boundary, with the seconds write alone (R345). -/
theorem autoset_opens {id : Nat} (hdue : s.autosetDue (s.tick + 1) = true) (hopen : s.sealed = false)
    (hfree : s.heldByOther 64 (.reg 0x0A1048 0) = false) (hentry : s.entryFree = true) (hid : s.lowestId = some id) :
    let e : Entry := { tgt := .reg 0x0A1048 0, val := (s.tick + 1) / 4000 % 2 ^ 33, by_ := .fw 0, epoch := 0, addr := none }
    let b := { s.newBatch (.fw 0) false true false with st := .requested, ctick := s.tick + 1, entries := [e] }
    let s1 : Block := { s with batches := s.batches.put id b }
    s.autoset = ((s1.fireIf (s1.freeIds == 0) EV.BAT.IDS_OUT).poolEvent s).p HID.AUTOLOCK 0 := by
  simp only [autoset, hdue, hopen, hfree, hentry, openBatch, hid, Bool.not_true, Bool.or_self, Bool.false_eq_true, if_false]

end
end Block

/-- A command of the RTC domain answers its effect while that domain's island runs. -/
theorem answers_onRtc {c : Instr} {s : State} {a b : Block}
    (he : exec c s = .next { s with m := if s.m.islandUp 33 = true then a else s.m }) (hup : s.m.islandUp 33 = true)
    (h : a = b) : Answers c s b :=
  answers_of_eq he ((if_pos hup).trans h)

/-- Settles O45: each event's own rule. -/
theorem timeTakesEffect : Obligations.TimeTakesEffect := by
  refine ⟨fun s => ⟨fun hrun => ⟨fun p ns hlink => ?delay, fun p domain gm seq us two off freq hup huse => ?sync,
      fun p a hup hother hnone hslave hstate => ?announce, fun hlate hlocked => ?missing, fun hcan hnot hnear hlate => ?master⟩,
      fun r w hm hcfg hgm hidle hrange => ?adjust, fun r sub frac hlive => ?read⟩,
    fun s => ⟨fun hup => ⟨fun hpend => ⟨?landing, fun hdue => ?lands⟩, fun k => ⟨fun j h => ?begins, fun h => ?silent⟩,
      fun n => rfl, fun n hnone => ?edge, fun hosf => ?stops, fun hmain => ?toCell, fun hcell => ?toMain, fun mv hlow => ?low,
      fun mv hok => ?ok⟩,
      fun hrun hdue hopen hfree hentry id hid => ?autoset⟩⟩
  case delay => exact answers_onSupIsl rfl hrun (if_pos hlink)
  case sync => exact answers_onSupIsl rfl hrun (congrArg Block.noteFault (Block.ptpSync_usable off freq hup huse))
  case announce =>
    exact answers_onSupIsl rfl hrun (congrArg Block.noteFault (Block.ptpAnnounce_first hup hother hnone hslave hstate))
  case missing => exact answers_onSupIsl rfl hrun (congrArg Block.noteFault (Block.syncTimeout_locked hlate hlocked))
  case master =>
    exact answers_onSupIsl rfl hrun (congrArg Block.noteFault (Block.announceTimeout_capable hcan hnot hnear hlate))
  case adjust => exact answers_ruled rfl hm (by decide) rfl (Block.ptpAdj_starts hcfg hgm hidle hrange)
  case read => exact ⟨_, rfl, rfl, Block.ptpRead_holds sub frac hlive⟩
  case landing => exact answers_onRtc rfl hup (if_pos hpend)
  case lands => exact answers_onRtc rfl hup ((if_pos hpend).trans (Block.rtcAhead_landing hpend hdue))
  case begins => exact answers_onRtc rfl hup (Block.rtcAlarm_begins h)
  case silent => exact answers_onRtc rfl hup (Block.rtcAlarm_none h)
  case edge => exact congrArg (fun b : Block => b.rtcEdges n) (Block.rtcEdge_counts hnone)
  case stops => exact answers_onRtc rfl hup (if_neg (Bool.eq_false_iff.1 hosf))
  case toCell => exact answers_onRtc rfl hup (Block.rtcSwitch_to_cell hmain)
  case toMain => exact answers_onRtc rfl hup (Block.rtcSwitch_to_main hcell)
  case low =>
    exact ⟨fun hfirst => answers_onRtc rfl hup ((Block.vbatLow_below hlow).trans (if_pos hfirst)),
      fun hagain => answers_onRtc rfl hup ((Block.vbatLow_below hlow).trans (if_neg hagain))⟩
  case ok => exact answers_onRtc rfl hup (Block.vbatLow_above hok)
  case autoset => exact answers_onSup rfl hrun (Block.autoset_opens hdue hopen hfree hentry hid)

end Sys2Proof.Machine
end

section
/-!
Lease frames (R352 to R368). A LEASE frame that passes its checks is taken (`leases`), and then has the effect of its kind: at
a partner of the pair, or at the witness. Each kind has its rule, stated as the frame's effect once it is taken.
-/
namespace Sys2Proof.Machine

namespace Block
section
variable {s s1 : Block} {h : Hdr} {l : LeaseIn}

/-! ### Renewals at the partner (R354, R365, R366) -/

section
variable (ht : s.leases h l.lc s1)
include ht

theorem leaseRenew_own (hfrom : s1.fromPartner h = true) (hpair : l.pair.val = s1.selfId) :
    s.leaseRenew h l = s1.partnerRenew h l := by
  rw [leases] at ht
  simp only [leaseRenew, ht, hfrom, hpair, beq_self_eq_true, Bool.and_self, if_true]

theorem leaseRenew_other (hfrom : s1.fromPartner h = false) : s.leaseRenew h l = s1.witRenew h l := by
  rw [leases] at ht
  simp only [leaseRenew, ht, hfrom, Bool.false_and, Bool.false_eq_true, if_false]

end

/-- The module after a renewal of its partner is seen. -/
def renewSeen (s : Block) : Block := s.notePartner.p HID.SEENAT (s.g HID.LEASENOW)

theorem partnerRenew_active (hactive : s.renewSeen.waiting = false) : s.partnerRenew h l = s.renewSeen :=
  if_pos (congrArg not hactive)

/-- The module after a waiting partner has settled its epoch with a renewal's, and after it has answered a renewal. -/
def epochSettled (s : Block) (h : Hdr) (l : LeaseIn) : Block :=
  if (newer l.epoch s.epoch || s.jointOpen) = true then s.adoptEpoch (b2n h.pos) l.epoch else s
def renewAnswered (s : Block) (l : LeaseIn) : Block :=
  if s.epoch = l.epoch % 2 ^ 32 then s.send (s.leaseFrame 2 l.seq 5 false) else s

section
variable (hwait : s.renewSeen.waiting = true)
include hwait

theorem partnerRenew_waiting :
    s.partnerRenew h l = ((s.renewSeen.p PAIR.PAIR_AGE.TEST_AGE 0).epochSettled h l).renewAnswered l :=
  if_neg (ne_true_of_eq_false (congrArg not hwait))

/-- A waiting partner whose epoch stands acknowledges a renewal of that epoch alone. -/
theorem partnerRenew_same (hsettled : (s.renewSeen.p PAIR.PAIR_AGE.TEST_AGE 0).jointOpen = false)
    (hold : newer l.epoch (s.renewSeen.p PAIR.PAIR_AGE.TEST_AGE 0).epoch = false) :
    s.partnerRenew h l = (s.renewSeen.p PAIR.PAIR_AGE.TEST_AGE 0).renewAnswered l := by
  have hstands := ne_true_of_eq_false (Bool.or_eq_false_iff.2 ⟨hold, hsettled⟩)
  rw [partnerRenew_waiting hwait, epochSettled, if_neg hstands]

/-- A waiting partner in a joint start, or one that hears a newer epoch, takes the epoch over and acknowledges it. -/
theorem partnerRenew_adopts
    (h1 : (s.renewSeen.p PAIR.PAIR_AGE.TEST_AGE 0).jointOpen = true ∨
      newer l.epoch (s.renewSeen.p PAIR.PAIR_AGE.TEST_AGE 0).epoch = true) :
    s.partnerRenew h l = ((s.renewSeen.p PAIR.PAIR_AGE.TEST_AGE 0).adoptEpoch (b2n h.pos) l.epoch).renewAnswered l := by
  rw [partnerRenew_waiting hwait, epochSettled, if_pos (Bool.or_eq_true_iff.2 h1.symm)]

end

/-! ### The other frames between partners (R354, R359, R364, R366) -/

section
variable (ht : s.leases h l.lc s1) (hfrom : s1.fromPartner h = true)
include ht hfrom

theorem leaseAck_waiting (hpair : l.pair.val = s1.selfId) (hrole : (s1.notePartner.ackSeq l.seq).role ≠ 1) :
    s.leaseAck h l = s1.notePartner.ackSeq l.seq := by
  rw [leases] at ht
  simp only [leaseAck, ht, hfrom, hpair, hrole, ne_eq, not_true_eq_false, if_false, if_true]

theorem leaseAck_synced (hpair : l.pair.val = s1.selfId) (hrole : (s1.notePartner.ackSeq l.seq).role = 1)
    (hsynced : l.synced = true) :
    s.leaseAck h l = ((s1.notePartner.ackSeq l.seq).p PAIR.PAIR_STAT.SYNCED 1).p HID.RESYNCTX 0 := by
  rw [leases] at ht
  simp only [leaseAck, ht, hfrom, hpair, hrole, hsynced, b2n, ne_eq, not_true_eq_false, if_false, if_true]

theorem leaseTakeover_partner (hwait : s1.waiting = true) (hnewer : newer l.epoch s1.epoch = true) :
    s.leaseTakeover h l = s1.adoptEpoch (b2n h.pos) l.epoch := by
  rw [leases] at ht
  simp only [leaseTakeover, ht, hfrom, hwait, hnewer, Bool.and_self, if_true]

theorem leaseClaim_partner (hopen : s1.jointOpen = true) :
    s.leaseClaim h l = s1.claimIn s1.selfId l.epoch (b2n h.pos) (s1.g PAIR.PAIR_CFG.PREFER) := by
  rw [leases] at ht
  simp only [leaseClaim, ht, hfrom, hopen, if_true]

theorem leasePrepare_synced (hrole : s1.role = 2) (hsynced : s1.syncedFlag = true) :
    s.leasePrepare h l =
      (((s1.p HID.SWAPAT ((s1.tick + (l.seq + 2 ^ 32 - s1.tick % 2 ^ 32) % 2 ^ 32) + 1)).p HID.SWAPMINE 0).p HID.SWAPGOT 0).p
        HID.SWAPDRILL (b2n l.drill) := by
  rw [leases] at ht
  simp only [leasePrepare, ht, hfrom, hrole, hsynced, bne_self_eq_false, Bool.not_true, Bool.or_self, Bool.false_eq_true,
    if_false]

theorem leasePrepare_unsynced (hrole : s1.role = 2) (hsynced : s1.syncedFlag = false) :
    s.leasePrepare h l = s1.err 0x0B0 0x0A 1 0 0x0B0044 none := by
  rw [leases] at ht
  simp only [leasePrepare, ht, hfrom, hrole, hsynced, bne_self_eq_false, Bool.not_true, Bool.not_false, Bool.or_self,
    Bool.false_eq_true, if_false, if_true]

theorem leasePrepared_held (hswap : s1.g HID.SWAPAT ≠ 0) (hthat : (s1.g HID.SWAPAT - 1) % 2 ^ 32 = l.seq % 2 ^ 32) :
    s.leasePrepared h l = s1.p HID.SWAPGOT 1 := by
  rw [leases] at ht
  simp only [leasePrepared, ht, hfrom, bne_iff_ne.2 hswap, hthat, beq_self_eq_true, Bool.and_self, if_true]

end

/-! ### Frames at the witness, and its answers (R356, R357, R366) -/

section
variable (ht : s.leases h l.lc s1)
include ht

/-- A TAKE_REQ of a pair that the witness holds is granted once its active partner has been silent for 6.0 ms. -/
theorem takeReq_held (hwit : l.wit.val = s1.selfId) (hheld : s1.rd HID.WITEPOCH 0 l.pair.val ≠ 0) :
    let u := l.pair.val
    let ep := nextEpoch (s1.rd HID.WITEPOCH 0 u - 1)
    s.takeReq h l =
      if 6000 ≤ s1.leaseSince HID.WITSEEN u then (s1.witHold u ep (b2n h.pos)).send (s1.witFrame 4 u ep (b2n h.pos))
      else s1.send (s1.witFrame 5 u (s1.rd HID.WITEPOCH 0 u - 1) (b2n h.pos)) := by
  rw [leases] at ht
  simp only [takeReq, ht, hwit, hheld, ne_eq, not_true_eq_false, or_self, if_false, ge_iff_le]

theorem leaseRefuse_noted (hpair : l.pair.val = s1.selfId) (hfrom : s1.fromWitness h = true) :
    s.leaseRefuse h l = s1.noteWitness := by
  rw [leases] at ht
  simp only [leaseRefuse, ht, hpair, hfrom, and_self, if_true]

/-- A GRANT to this partner activates it in a joint start, and is noted otherwise. -/
theorem leaseGrant_noted (hpair : l.pair.val = s1.selfId) (hfrom : s1.fromWitness h = true)
    (hwait : s1.noteWitness.waiting = true) (hmine : l.seq % 2 = s1.noteWitness.posn) :
    s.leaseGrant h l =
      if s1.noteWitness.on HID.JOINT 0 0 = true then (s1.noteWitness.p HID.TAKEPEND 1).p HID.TAKEEP l.epoch
      else s1.noteWitness.p HID.GRANT 1 := by
  rw [leases] at ht
  simp only [leaseGrant, ht, hpair, hfrom, hwait, hmine, ne_eq, not_true_eq_false, Bool.not_true, Bool.false_eq_true, or_self,
    if_false]

theorem leaseClaim_witness (hfrom : s1.fromPartner h = false) (hwit : l.wit.val = s1.selfId)
    (hserves : s1.witServes l.pair.val = true) :
    s.leaseClaim h l = s1.claimIn l.pair.val l.epoch (b2n h.pos) (l.seq % 2) := by
  rw [leases] at ht
  simp only [leaseClaim, ht, hfrom, hwit, hserves, and_self, Bool.false_eq_true, if_false, if_true]

theorem leaseTakeover_witness (hfrom : s1.fromPartner h = false) (hheld : s1.rd HID.WITEPOCH 0 l.pair.val ≠ 0)
    (hnewer : newer l.epoch (s1.rd HID.WITEPOCH 0 l.pair.val - 1) = true) :
    s.leaseTakeover h l = s1.witHold l.pair.val l.epoch (b2n h.pos) := by
  rw [leases] at ht
  simp only [leaseTakeover, ht, hfrom, hheld, hnewer, ne_eq, not_false_eq_true, decide_true, Bool.and_self, Bool.false_eq_true,
    if_false, if_true]

end

theorem witRenew_elsewhere (hwit : l.wit.val ≠ s.selfId) : s.witRenew h l = s := if_pos (Or.inl hwit)

section
variable (hwit : l.wit.val = s.selfId) (hserves : s.witServes l.pair.val = true)
include hwit hserves

/-- The witness holds the sender of a new pair's or of a newer epoch's renewal, and answers it. -/
theorem witRenew_holds
    (hnew : s.rd HID.WITEPOCH 0 l.pair.val = 0 ∨ newer l.epoch (s.rd HID.WITEPOCH 0 l.pair.val - 1) = true)
    (hepoch : (s.witHold l.pair.val l.epoch (b2n h.pos)).rd HID.WITEPOCH 0 l.pair.val = l.epoch % 2 ^ 32 + 1)
    (hpos : (s.witHold l.pair.val l.epoch (b2n h.pos)).rd HID.WITPOS 0 l.pair.val = b2n h.pos) :
    let s2 := s.witHold l.pair.val l.epoch (b2n h.pos)
    s.witRenew h l = (s2.wr HID.WITSEEN 0 l.pair.val (s2.g HID.LEASENOW)).send (s2.witFrame 2 l.pair.val l.epoch l.seq) := by
  simp only [witRenew, hwit, hserves, if_pos hnew, hepoch, hpos, ne_eq, not_true_eq_false, Bool.not_true, Bool.false_eq_true,
    or_self, and_self, if_false, if_true]

/-- A renewal of an epoch that is not newer is answered to the partner that the witness holds as active, with its epoch. -/
theorem witRenew_known (hheld : s.rd HID.WITEPOCH 0 l.pair.val ≠ 0)
    (hold : newer l.epoch (s.rd HID.WITEPOCH 0 l.pair.val - 1) = false) :
    s.witRenew h l =
      if s.rd HID.WITEPOCH 0 l.pair.val = l.epoch % 2 ^ 32 + 1 ∧ s.rd HID.WITPOS 0 l.pair.val = b2n h.pos then
        (s.wr HID.WITSEEN 0 l.pair.val (s.g HID.LEASENOW)).send (s.witFrame 2 l.pair.val l.epoch l.seq)
      else s := by
  simp only [witRenew, hwit, hserves, hheld, hold, ne_eq, not_true_eq_false, Bool.not_true, Bool.false_eq_true, or_self,
    if_false]

end
end
end Block

/-- A RENEW answers its own rule while the ring MAC and the supervisor run, and so while the module is not in HALT. -/
theorem answers_leaseRenew {s : State} {h : Hdr} {l : LeaseIn} {b : Block} (hrun : s.m.withSup 30 = true)
    (hb : s.m.leaseRenew h l = b) : Answers (.leaseRenew h l) s b := by
  have hpower : s.m.g HID.PWRST = 0 := eq_of_beq (Block.supPowered_of_supRuns (Block.supRuns_of_withSup hrun))
  have hnotHalt : ¬ s.m.g HID.PWRST = 1 := by omega
  exact answers_of_eq rfl ((if_neg hnotHalt).trans ((s.m.onSupIsl_run 30 _ hrun).trans hb))

section
variable {s : State} {s1 b : Block} {h : Hdr} {l : LeaseIn} (hrun : s.m.withSup 30 = true) (ht : s.m.leases h l.lc s1)
include hrun ht

theorem answers_partnerRenew (hfrom : s1.fromPartner h = true) (hpair : l.pair.val = s1.selfId)
    (hb : s1.partnerRenew h l = b) : Answers (.leaseRenew h l) s b :=
  answers_leaseRenew hrun ((Block.leaseRenew_own ht hfrom hpair).trans hb)

theorem answers_witRenew (hfrom : s1.fromPartner h = false) (hb : s1.witRenew h l = b) : Answers (.leaseRenew h l) s b :=
  answers_leaseRenew hrun ((Block.leaseRenew_other ht hfrom).trans hb)

end

/-- Settles O46: each frame's own rule once it is taken, at a partner and at the witness. -/
theorem leaseFramesTakeEffect : Obligations.LeaseFramesTakeEffect := by
  refine ⟨fun s h l s1 hrun ht hfrom => ⟨fun hpair => ⟨fun hactive => ?active,
        fun hwait hsettled hold => ⟨fun he => ?acks, fun he => ?silent⟩, fun hwait h1 h2 => ?adopts⟩,
      fun hpair hrole => ?ack, fun hpair hrole hsynced => ?ackSynced, fun hwait hnewer => ?takeover, fun hopen => ?claim,
      fun hrole hsynced => ?prepare, fun hrole hsynced => ?unsynced, fun hswap hthat => ?prepared⟩,
    fun s h l s1 hrun ht => ⟨fun hwit hheld => ⟨fun hlate => ?grants, fun hsoon => ?refuses⟩,
      fun hpair hfrom => ⟨?refused, fun hwait hmine => ⟨fun hjoint => ?granted, fun hjoint => ?grantNoted⟩⟩,
      fun hfrom => ⟨fun hwit hserves => ?witClaim, fun hheld hnewer => ?witTakeover, fun hwit => ?elsewhere,
        fun hwit hserves => ⟨fun hnew hepoch hpos => ?holds,
          fun hheld hold => ⟨fun hsame => ?renews, fun hother => ?ignores⟩⟩⟩⟩⟩
  case active => exact answers_partnerRenew hrun ht hfrom hpair (Block.partnerRenew_active hactive)
  case acks =>
    exact answers_partnerRenew hrun ht hfrom hpair ((Block.partnerRenew_same hwait hsettled hold).trans (if_pos he))
  case silent =>
    exact answers_partnerRenew hrun ht hfrom hpair ((Block.partnerRenew_same hwait hsettled hold).trans (if_neg he))
  case adopts => exact answers_partnerRenew hrun ht hfrom hpair ((Block.partnerRenew_adopts hwait h1).trans (if_pos h2))
  case ack => exact answers_onSupIsl rfl hrun (Block.leaseAck_waiting ht hfrom hpair hrole)
  case ackSynced => exact answers_onSupIsl rfl hrun (Block.leaseAck_synced ht hfrom hpair hrole hsynced)
  case takeover => exact answers_onSupIsl rfl hrun (Block.leaseTakeover_partner ht hfrom hwait hnewer)
  case claim => exact answers_onSupIsl rfl hrun (Block.leaseClaim_partner ht hfrom hopen)
  case prepare => exact answers_onSupIsl rfl hrun (Block.leasePrepare_synced ht hfrom hrole hsynced)
  case unsynced => exact answers_onSupIsl rfl hrun (Block.leasePrepare_unsynced ht hfrom hrole hsynced)
  case prepared => exact answers_onSupIsl rfl hrun (Block.leasePrepared_held ht hfrom hswap hthat)
  case grants => exact answers_onSupIsl rfl hrun ((Block.takeReq_held ht hwit hheld).trans (if_pos hlate))
  case refuses => exact answers_onSupIsl rfl hrun ((Block.takeReq_held ht hwit hheld).trans (if_neg (Nat.not_le.2 hsoon)))
  case refused => exact answers_onSupIsl rfl hrun (Block.leaseRefuse_noted ht hpair hfrom)
  case granted =>
    exact answers_onSupIsl rfl hrun ((Block.leaseGrant_noted ht hpair hfrom hwait hmine).trans (if_pos hjoint))
  case grantNoted =>
    exact answers_onSupIsl rfl hrun
      ((Block.leaseGrant_noted ht hpair hfrom hwait hmine).trans (if_neg (Bool.eq_false_iff.1 hjoint)))
  case witClaim => exact answers_onSupIsl rfl hrun (Block.leaseClaim_witness ht hfrom hwit hserves)
  case witTakeover => exact answers_onSupIsl rfl hrun (Block.leaseTakeover_witness ht hfrom hheld hnewer)
  case elsewhere => exact answers_witRenew hrun ht hfrom (Block.witRenew_elsewhere hwit)
  case holds => exact answers_witRenew hrun ht hfrom (Block.witRenew_holds hwit hserves hnew hepoch hpos)
  case renews => exact answers_witRenew hrun ht hfrom ((Block.witRenew_known hwit hserves hheld hold).trans (if_pos hsame))
  case ignores => exact answers_witRenew hrun ht hfrom ((Block.witRenew_known hwit hserves hheld hold).trans (if_neg hother))

end Sys2Proof.Machine
end

section
/-!
The lease timers, drills and the commands of the pair page (R354 to R367, R374). Each event of the lease clock acts on the
module at the clock's reading (`leaseAt`), which alone may fence it; each has its rule, stated at that module.
-/
namespace Sys2Proof.Machine
namespace Block
section
variable {s : Block} {lc : Nat}

/-! ### The lease clock's reading (R354, R355) -/

/-- The module with the lease clock's reading shown, which never runs back. -/
def leaseRead (s : Block) (lc : Nat) : Block := s.p HID.LEASENOW (max lc (s.g HID.LEASENOW))

theorem leaseAt_lapsed (hpaired : (s.leaseRead lc).paired = true) (hactive : (s.leaseRead lc).role = 1)
    (hlapse : 4000 ≤ (s.leaseRead lc).leaseSince HID.ACKEDAT 0) : s.leaseAt lc = (s.leaseRead lc).fenceNow := by
  have hlapsed : (s.leaseRead lc).leaseLapsed = true := by
    rw [leaseLapsed, hpaired, hactive]
    exact decide_eq_true hlapse
  exact if_pos hlapsed

theorem leaseAt_held (hheld : (s.leaseRead lc).leaseLapsed = false) : s.leaseAt lc = s.leaseRead lc :=
  if_neg (ne_true_of_eq_false hheld)

/-! ### Renewals, requests and takeovers (R354, R357) -/

theorem renewSend_sends (hpaired : (s.leaseAt lc).paired = true) (hactive : (s.leaseAt lc).role = 1)
    (hstays : (s.leaseAt lc).on HID.LEAVING 0 0 = false)
    (hdue : (s.leaseAt lc).g HID.RENLAST = 0 ∨ (s.leaseAt lc).g HID.RENLAST + 1000 ≤ (s.leaseAt lc).g HID.LEASENOW + 1) :
    let a := s.leaseAt lc
    let q := (a.g HID.RENSEQ + 1) % 2 ^ 32
    let s1 := ((a.p HID.RENSEQ q).wr HID.RENAT 0 (q % 64) (a.g HID.LEASENOW)).p HID.RENLAST (a.g HID.LEASENOW + 1)
    s.renewSend lc true true = s1.send (s1.leaseFrame 1 q 5 false) := by
  have hspaced : ((s.leaseAt lc).g HID.RENLAST == 0 ||
      decide ((s.leaseAt lc).g HID.LEASENOW + 1 ≥ (s.leaseAt lc).g HID.RENLAST + 1000)) = true := by
    simpa only [Bool.or_eq_true, beq_iff_eq, decide_eq_true_eq, ge_iff_le] using hdue
  simp only [renewSend, hpaired, hactive, hstays, hspaced, beq_self_eq_true, Bool.not_false, Bool.and_self, if_true]

theorem takeoverAsk_pending (hpend : (s.leaseAt lc).on HID.TAKEPEND 0 0 = true) : s.takeoverAsk lc = s.leaseAt lc := by
  simp only [takeoverAsk, hpend, Bool.not_true, Bool.and_false, Bool.false_and, Bool.false_eq_true, if_false]

section
variable (hpaired : (s.leaseAt lc).paired = true) (hwait : (s.leaseAt lc).waiting = true)
include hpaired hwait

theorem takeReqTimer_asks (hsettled : (s.leaseAt lc).jointOpen = false) (hwit : (s.leaseAt lc).g PAIR.PAIR_CFG.WITNESS ≠ 0)
    (hsilent : 5000 ≤ (s.leaseAt lc).leaseSince HID.SEENAT 0) (hspaced : 1000 ≤ (s.leaseAt lc).leaseSince HID.TREQAT 0) :
    let a := s.leaseAt lc
    s.takeReqTimer lc = (a.p HID.TREQAT (a.g HID.LEASENOW)).send (a.leaseFrame 3 0 1 false) := by
  simp only [takeReqTimer, hpaired, hwait, hsettled, bne_iff_ne.2 hwit, ge_iff_le, hsilent, hspaced, decide_true,
    Bool.not_false, Bool.and_self, if_true]

theorem takeoverAsk_asks (hnone : (s.leaseAt lc).on HID.TAKEPEND 0 0 = false) (hlapse : (s.leaseAt lc).lapseTakes = true) :
    let a := s.leaseAt lc
    s.takeoverAsk lc = ((a.p HID.TAKEPEND 1).p HID.TAKEEP (nextEpoch a.epoch)).p HID.TAKELAPSE 1 := by
  simp only [takeoverAsk, hpaired, hwait, hnone, hlapse, Bool.not_false, Bool.and_self, if_true]

theorem pairTakeover_pending (k : Nat) (hpend : (s.leaseAt lc).on HID.TAKEPEND 0 0 = true) :
    let a := s.leaseAt lc
    s.pairTakeover k lc =
      (if a.on HID.TAKELAPSE 0 0 = true then a.sat PAIR.PAIR_COUNT0.TAKEOVERS 0 0 1 else a).becomeActive k
        (a.g HID.TAKEEP) := by
  simp only [pairTakeover, takeoverAsk_pending hpend, hpaired, hwait, hpend, Bool.and_self, if_true]

end

/-! ### Joint start and claims (R366) -/

theorem jointTimeout_claims (hpaired : (s.leaseAt lc).paired = true) (hwaits : (s.leaseAt lc).on HID.JOINTWAIT 0 0 = true)
    (hlate : (s.leaseAt lc).g HID.JOINTAT + 80 ≤ (s.leaseAt lc).tick) :
    let a := s.leaseAt lc
    let s1 := ((a.p HID.JOINTWAIT 0).p HID.JOINT 1).claimIn a.selfId a.epoch a.posn (a.g PAIR.PAIR_CFG.PREFER)
    s.jointTimeout lc = s1.send (s1.leaseFrame 7 (s1.g PAIR.PAIR_CFG.PREFER) 5 false) := by
  simp only [jointTimeout, hpaired, hwaits, ge_iff_le, hlate, decide_true, Bool.and_self, if_true]

section
variable {u : Nat} (hclaim : (s.leaseAt lc).on HID.CLAIMON 0 u = true)
  (hover : 2000 ≤ (s.leaseAt lc).leaseSince HID.CLAIMAT u)
include hclaim hover

theorem claimEnd_witness (hother : u ≠ (s.leaseAt lc).selfId) :
    let a := s.leaseAt lc
    let ep := nextEpoch (a.rd HID.CLAIMEP 0 u)
    let pos := a.rd HID.CLAIMPOS 0 u
    let s1 := a.wr HID.CLAIMON 0 u 0
    s.claimEnd u lc = (s1.witHold u ep pos).send (s1.witFrame 4 u ep pos) := by
  simp only [claimEnd, hclaim, hother, Nat.not_lt.2 hover, Bool.not_true, Bool.false_eq_true, or_self, ne_eq,
    not_false_eq_true, if_false, if_true]

theorem claimEnd_partner (hown : u = (s.leaseAt lc).selfId)
    (hjoint : ((s.leaseAt lc).wr HID.CLAIMON 0 u 0).on HID.JOINT 0 0 = true)
    (hnoWitness : ((s.leaseAt lc).wr HID.CLAIMON 0 u 0).on PAIR.PAIR_STAT.WITNESS_OK 0 0 = false)
    (hlink : ((s.leaseAt lc).wr HID.CLAIMON 0 u 0).on PAIR.PAIR_STAT.LINK 0 0 = true)
    (hmine : (s.leaseAt lc).rd HID.CLAIMPOS 0 u = ((s.leaseAt lc).wr HID.CLAIMON 0 u 0).posn) :
    let a := s.leaseAt lc
    s.claimEnd u lc = ((a.wr HID.CLAIMON 0 u 0).p HID.TAKEPEND 1).p HID.TAKEEP (nextEpoch (a.rd HID.CLAIMEP 0 u)) := by
  simp only [claimEnd, hclaim, Nat.not_lt.2 hover, hjoint, hnoWitness, hlink, hmine, beq_self_eq_true, Bool.not_true,
    Bool.not_false, Bool.and_self, Bool.false_eq_true, or_self, if_false, if_true, if_neg (not_not.2 hown)]

end

/-! ### The fence of a swap, and silence (R364, R374) -/

theorem swapFence_due {n : Nat} (hset : (s.leaseAt lc).g HID.FENCEAT ≠ 0)
    (hdue : (s.leaseAt lc).g HID.FENCEAT ≤ n + 1 ∨ (s.leaseAt lc).g HID.FENCELC ≤ (s.leaseAt lc).g HID.LEASENOW) :
    s.swapFence n lc = (((s.leaseAt lc).p HID.FENCEAT 0).p HID.LEAVING 0).stopDriving := if_pos ⟨hset, hdue⟩

theorem partnerTimeout_lost (hon : (s.leaseAt lc).on PAIR.PAIR_STAT.PARTNER 0 0 = true)
    (hsilent : 6000 ≤ (s.leaseAt lc).leaseSince HID.PARTNERAT 0) :
    s.partnerTimeout lc = ((s.leaseAt lc).p PAIR.PAIR_STAT.PARTNER 0).fire EV.PAIR.PARTNER_LOST :=
  if_pos (Bool.and_eq_true_iff.2 ⟨hon, decide_eq_true hsilent⟩)

theorem witnessTimeout_lost (hon : (s.leaseAt lc).on PAIR.PAIR_STAT.WITNESS_OK 0 0 = true)
    (hsilent : 6000 ≤ (s.leaseAt lc).leaseSince HID.WITNESSAT 0) :
    s.witnessTimeout lc = ((s.leaseAt lc).p PAIR.PAIR_STAT.WITNESS_OK 0).fire EV.PAIR.WITNESS_LOST :=
  if_pos (Bool.and_eq_true_iff.2 ⟨hon, decide_eq_true hsilent⟩)

/-! ### The commands of PAIR_CMD (R363, R366) -/

section
variable {r : Req}

theorem pairCmdWrite_take : s.pairCmdWrite r 1 = s.forceTake r := if_neg fun h => absurd h.2 (by decide)

theorem pairCmdWrite_resync : s.pairCmdWrite r 2 = s.pairResync r := rfl

theorem forceTake_waiting (hright : s.tin01cfg r = true) (hpaired : s.paired = true) (hwait : s.waiting = true) :
    s.forceTake r = ((s.p HID.TAKEPEND 1).p HID.TAKEEP (nextEpoch s.epoch), 0) := by
  simp only [forceTake, hright, hpaired, hwait, Bool.not_true, Bool.and_self, Bool.false_eq_true, if_false, if_true]

theorem forceTake_refused (hright : s.tin01cfg r = false) : s.forceTake r = (s.refuse 0x0B0 0x01 r 0x0B0048, 0x01) := by
  simp only [forceTake, hright, Bool.not_false, if_true]

theorem pairResync_waiting (hrole : s.role ≠ 1) (hpaired : s.paired = true) :
    s.pairResync r = (s.resyncStart.desyncAll, 0) := (if_neg hrole).trans (if_pos hpaired)

end

/-! ### Drills (R367) -/

/-- The outputs that a drill's check finds at fault, and the module with the check's counts shown. -/
def drillBad (s : Block) : List Nat := s.drillSet.filter fun c => !s.phys c
def drillCounted (s : Block) : Block :=
  (((((s.p HID.DRILLAT 0).p HID.DRILLFROM 0).p PAIR.DRILL_RES.DONE 1).p PAIR.DRILL_RES.PASS (b2n s.drillBad.isEmpty)).p
    PAIR.DRILL_RES.TESTED s.drillSet.length).p PAIR.DRILL_RES.FAILED s.drillBad.length

section
variable {n : Nat} (hset : s.g HID.DRILLAT ≠ 0) (hdue : s.g HID.DRILLAT ≤ n + 1) (hactive : s.role = 1)
include hset hdue hactive

/-- A check that is due shows its counts and the first output at fault; a failed one, or one with BACK, plans the swap back. -/
theorem drillCheck_due :
    let s3 := s.drillCounted.p PAIR.DRILL_RES.FIRST (s.drillBad.head?.getD 0)
    s.drillCheck n =
      (if (s.on PAIR.PAIR_CTRL.BACK 0 0 || !s.drillBad.isEmpty) = true then s3.p HID.BACKAT (s.g HID.DRILLAT + 6) else s3).fire
        (if s.drillBad.isEmpty = true then EV.PAIR.DRILL_PASS else EV.PAIR.DRILL_FAIL) := by
  have hnow : ¬ (s.g HID.DRILLAT = 0 ∨ n + 1 < s.g HID.DRILLAT ∨ s.role ≠ 1) := by omega
  exact if_neg hnow

theorem drillCheck_pass (hgood : s.drillBad = []) :
    let s3 := s.drillCounted.p PAIR.DRILL_RES.FIRST 0
    s.drillCheck n = (if s.on PAIR.PAIR_CTRL.BACK 0 0 = true then s3.p HID.BACKAT (s.g HID.DRILLAT + 6) else s3).fire
      EV.PAIR.DRILL_PASS := by
  simp only [drillCheck_due hset hdue hactive, hgood, List.head?_nil, Option.getD_none, List.isEmpty_nil, Bool.not_true,
    Bool.or_false, if_true]

theorem drillCheck_fail {c : Nat} {t : List Nat} (hbad : s.drillBad = c :: t) :
    s.drillCheck n =
      ((s.drillCounted.p PAIR.DRILL_RES.FIRST c).p HID.BACKAT (s.g HID.DRILLAT + 6)).fire EV.PAIR.DRILL_FAIL := by
  simp only [drillCheck_due hset hdue hactive, hbad, List.head?_cons, Option.getD_some, List.isEmpty_cons, Bool.not_false,
    Bool.or_true, Bool.false_eq_true, if_false, if_true]

end

/-- A day of the active role counts in TEST_AGE, which fires as it reaches DRILL_DAYS. -/
theorem drillDay_ends (hpaired : s.paired = true) (hactive : s.role = 1) (hday : s.g HID.DAYAT + dayTicks ≤ s.tick) :
    let s1 := (s.p HID.DAYAT (s.g HID.DAYAT + dayTicks)).sat PAIR.PAIR_AGE.TEST_AGE 0 0 1
    s.drillDay = s1.fireIf (s1.g PAIR.PAIR_CFG.DRILL_DAYS != 0 && s1.g PAIR.PAIR_AGE.TEST_AGE == s1.g PAIR.PAIR_CFG.DRILL_DAYS)
      EV.PAIR.DRILL_DUE := by
  simp only [drillDay, hpaired, hactive, ge_iff_le, hday, decide_true, beq_self_eq_true, Bool.and_self, if_true]

theorem fireIf_of {c : Bool} (n : Nat) (hc : c = true) : s.fireIf c n = s.fire n := if_pos hc

theorem fireIf_not {c : Bool} (n : Nat) (hc : c = false) : s.fireIf c n = s := if_neg (ne_true_of_eq_false hc)

/-- The last slot adopted ends a resynchronisation, and a fenced partner becomes standby. -/
theorem resyncDone_ends (hon : s.on HID.RESYNC 0 0 = true) (hstate : s.on HID.MODSTATE 0 0 = true)
    (hall : ((List.range 128).all fun k => !s.on HID.DSLOT 0 k) = true) :
    let s1 := ((s.p HID.RESYNC 0).p HID.DLOOPS 0).noteDesync.p PAIR.PAIR_STAT.SYNCED 1
    s.resyncDone = (if s1.role = 3 then s1.p PAIR.PAIR_STAT.ROLE 2 else s1).fire EV.PAIR.SYNCED := by
  simp only [resyncDone, hon, hstate, hall, Bool.and_self, if_true]

end
end Block

/-- Settles O47: each event's own rule at the lease clock's reading, and each command's own rule. -/
theorem leaseTimersAndPairCommandsTakeEffect : Obligations.LeaseTimersAndPairCommandsTakeEffect := by
  refine ⟨fun s lc => ⟨fun hpower => ⟨fun hpaired hactive hlapse => ?fenced, fun hheld => ?reading⟩,
      fun hrun => ⟨fun htime hpaired hactive hstays hdue => ?renews,
        fun hpaired hwait hsettled hwit hsilent hspaced => ?asks, fun hpaired hwait hnone hlapse => ?takes,
        fun k hpaired hwait hpend => Block.pairTakeover_pending hpaired hwait k hpend,
        fun hpaired hwaits hlate => ?joint,
        fun u hclaim hover => ⟨fun hother => ?granted, fun hown hjoint hno hlink hmine => ?won⟩,
        fun hset hdue => ?leaves, fun hon hsilent => ?partner, fun hon hsilent => ?witness⟩⟩,
    fun s => ⟨fun r hm => ⟨fun hright hpaired hwait => ?force, fun hright => ?noForce, fun hactive => ?noResync,
        fun hrole hpaired => ?resync⟩,
      fun hrun => ⟨fun hset hdue hactive => ⟨fun hgood hstay => ?pass, fun hgood hback => ?passBack, fun c t hbad => ?fail⟩,
        fun hpaired hactive hday => ⟨fun hnot => ?day, fun hset hreach => ?dayDue⟩, fun hon hstate hall => ?synced⟩⟩⟩
  case fenced => exact answers_of_eq rfl ((if_pos hpower).trans (Block.leaseAt_lapsed hpaired hactive hlapse))
  case reading => exact answers_of_eq rfl ((if_pos hpower).trans (Block.leaseAt_held hheld))
  case renews =>
    have hticks : (true && s.m.islandUp 32) = true := htime
    exact answers_onSup rfl hrun ((congrArg (s.m.renewSend lc true) hticks).trans
      (Block.renewSend_sends hpaired hactive hstays hdue))
  case asks => exact answers_onSup rfl hrun (Block.takeReqTimer_asks hpaired hwait hsettled hwit hsilent hspaced)
  case takes => exact answers_onSup rfl hrun (Block.takeoverAsk_asks hpaired hwait hnone hlapse)
  case joint => exact answers_onSup rfl hrun (Block.jointTimeout_claims hpaired hwaits hlate)
  case granted => exact answers_onSup rfl hrun (Block.claimEnd_witness hclaim hover hother)
  case won => exact answers_onSup rfl hrun (Block.claimEnd_partner hclaim hover hown hjoint hno hlink hmine)
  case leaves => exact answers_onSup rfl hrun (Block.swapFence_due hset hdue)
  case partner => exact answers_onSup rfl hrun (Block.partnerTimeout_lost hon hsilent)
  case witness => exact answers_onSup rfl hrun (Block.witnessTimeout_lost hon hsilent)
  case force =>
    exact answers_ruled rfl hm (by decide) rfl (Block.pairCmdWrite_take.trans (Block.forceTake_waiting hright hpaired hwait))
  case noForce => exact answers_ruled rfl hm (by decide) rfl (Block.pairCmdWrite_take.trans (Block.forceTake_refused hright))
  case noResync => exact answers_ruled rfl hm (by decide) rfl (if_pos hactive)
  case resync => exact answers_ruled rfl hm (by decide) rfl (Block.pairResync_waiting hrole hpaired)
  case pass =>
    exact answers_onSup rfl hrun
      ((Block.drillCheck_pass hset hdue hactive hgood).trans
        (congrArg (fun b : Block => b.fire EV.PAIR.DRILL_PASS) (if_neg (ne_true_of_eq_false hstay))))
  case passBack =>
    exact answers_onSup rfl hrun
      ((Block.drillCheck_pass hset hdue hactive hgood).trans
        (congrArg (fun b : Block => b.fire EV.PAIR.DRILL_PASS) (if_pos hback)))
  case fail => exact answers_onSup rfl hrun (Block.drillCheck_fail hset hdue hactive hbad)
  case day =>
    have hquiet := Bool.and_eq_false_iff.2 (hnot.imp (fun h => bne_eq_false_iff_eq.2 h) beq_eq_false_iff_ne.2)
    exact answers_onSup rfl hrun ((Block.drillDay_ends hpaired hactive hday).trans (Block.fireIf_not _ hquiet))
  case dayDue =>
    have hfires := Bool.and_eq_true_iff.2 ⟨bne_iff_ne.2 hset, beq_iff_eq.2 hreach⟩
    exact answers_onSup rfl hrun ((Block.drillDay_ends hpaired hactive hday).trans (Block.fireIf_of _ hfires))
  case synced => exact answers_onSup rfl hrun (Block.resyncDone_ends hon hstate hall)

end Sys2Proof.Machine
end

section
/-!
State transfer to the standby, and peel (R361 to R363, R371 to R375). A STATE_XFER frame that passes its checks is taken
(`xfers`), and one of the partner then has the effect of its kind. Placements, snapshots, survival and checkpoints have their
rules at a slot whose state lets them.
-/
namespace Sys2Proof.Machine
namespace Block
section
variable {s s1 : Block} {h : Hdr}

/-! ### STATE_XFER frames of the partner (R361 to R363, R371) -/

section
variable (ht : s.xfers h s1) (hfrom : s1.fromPartner h = true)
include ht hfrom

/-- The image of a scan that is captured for the same release stands for the standby's own capture. -/
theorem xferImage_captures {e j tick : Nat} {c : Scan} (ws late : List Nat) (fire : Bool) (ev : Nat) (hrole : s1.role = 2)
    (hscan : s1.scan e j = some c) (hopen : c.ready = false) (hrel : c.rel = tick) :
    let w := s1.win e j c.bank 0
    let s3 := ((s1.putImage e w 0 ws).putLate e w late (List.range (16 * w.lines))).putScan e j
      { c with fire := fire, ev := ev % 8192 }
    s.xferImage h e j tick true ws late fire ev =
      (s3.noteCapture e j (late.filter fun x => decide (x < 16 * w.lines)) (!(s3.forcedWords e j 0).isEmpty)).readySlot
        e j := by
  rw [xfers] at ht
  simp only [xferImage, ht, hfrom, hrole, hscan, hopen, hrel, bne_self_eq_false, Bool.not_true, Bool.or_self,
    Bool.false_eq_true, ne_eq, not_true_eq_false, or_self, if_false]

theorem xferEntries_module {tick : Nat} (items : List (Nat × Nat × Nat)) (hwait : s1.waiting = true) :
    s.xferEntries h 0xFF tick true items = s1.takeState tick items := by
  rw [xfers] at ht
  simp only [xferEntries, ht, hfrom, hwait, Bool.not_true, Bool.or_self, Bool.false_eq_true, if_false, if_true]

/-- A slot's digest is held while the standby has none of its own for that release to compare it with. -/
theorem xferDigest_held {slot tick crc : Nat} (hrole : s1.role = 2) (hslot : slot ≠ 0xFF)
    (hnone : ((s1.wr HID.DIGAT 0 (xferKey slot) (tick + 1)).wr HID.DIGCRC 0 (xferKey slot) crc).rd HID.OWNAT 0 (xferKey slot) ≠
      tick + 1) :
    s.xferDigest h slot tick crc = (s1.wr HID.DIGAT 0 (xferKey slot) (tick + 1)).wr HID.DIGCRC 0 (xferKey slot) crc := by
  rw [xfers] at ht
  simp only [xferDigest, ht, hfrom, hrole, bne_self_eq_false, Bool.not_true, Bool.or_self, Bool.false_eq_true, if_false,
    if_neg hslot, if_neg fun hown : _ ∧ _ => hnone hown.1]

theorem xferLines_dropped {slot tick : Nat} (l : List (Nat × List Nat)) :
    s.xferLines h slot tick false l = { s1 with xfer := s1.xfer.del (xferKey slot) } := by
  rw [xfers] at ht
  simp only [xferLines, ht, hfrom, Bool.true_or, Bool.false_eq_true, if_false, if_true]

theorem xferEnd_module {tick us : Nat} (hwait : s1.waiting = true) : s.xferEnd h 0xFF tick us = s1.p HID.MODSTATE 1 := by
  rw [xfers] at ht
  simp only [xferEnd, ht, hfrom, hwait, Bool.and_self, if_true]

end

theorem xferLines_gathered (ht : s.xfers h s1) {slot tick : Nat} (l : List (Nat × List Nat)) :
    s.xferLines h slot tick true l =
      { s1 with xfer := s1.xfer.put (xferKey slot) ((s1.xfer.find (xferKey slot)).getD [] ++ l) } := by
  rw [xfers] at ht
  simp only [xferLines, ht, if_true]

/-! ### Placements and snapshots (R371) -/

theorem leasePlace_kept (p : Place) (ht : s.takes h 0x0D true s1) :
    s.leasePlace h p = { s1 with places := s1.places ++ [{ p with tick := s1.fullTick p.tick }] } := by
  rw [takes] at ht
  simp only [leasePlace, ht]

section
variable {e j us : Nat} (hnew : s.on HID.SNAPHELD 0 (scanKey e j) = false) (hwaits : s.rd HID.PEELWAIT 0 (scanKey e j) ≠ 0)
include hnew hwaits

theorem snapshotDone_frames {x : Ckpt} (hno : s.localSource e j = none) (hx : s.ckpt.find (scanKey e j) = some x) :
    s.snapshotDone e j us = s.snapIn e j us x.lines := by
  simp only [snapshotDone, hnew, hno, hx, Bool.false_eq_true, if_false, if_pos hwaits]

/-- A snapshot of a slot of this module shows its lines and its time at the source too. -/
theorem snapshotDone_benches {q : Nat} (hq : s.localSource e j = some q) :
    let l := s.retLines (q / 8) (q % 8)
    s.snapshotDone e j us =
      ((s.wr PEEL.PEEL_XFER.LINES 0 q (min l.length 4095)).wr PEEL.PEEL_XFER.TIME 0 q (min us 65535)).snapIn e j us l := by
  simp only [snapshotDone, hnew, hq, Bool.false_eq_true, if_false, if_pos hwaits]

end

/-! ### Survival and checkpoints (R373, R375) -/

section
variable {r : Req}

theorem peelTake_refused (hright : s.tin01cfg r = false) : s.peelTake r = (s.refuse 0x0B1 0x01 r 0x0B1068, 0x01) := by
  simp only [peelTake, hright, Bool.not_false, if_true]

theorem peelTake_asks (hright : s.tin01cfg r = true)
    (hcode : s.takeCode (s.own PEEL.PEEL_SEL.ENGINE 0 r) (s.own PEEL.PEEL_SEL.SLOT 0 r) = 0) :
    s.peelTake r = (s.survAsk (s.own PEEL.PEEL_SEL.ENGINE 0 r) (s.own PEEL.PEEL_SEL.SLOT 0 r), 0) := by
  simp only [peelTake, hright, hcode, Bool.not_true, Bool.false_eq_true, ne_eq, not_true_eq_false, if_false]

end

section
variable {e j : Nat} {c : Ckpt}

theorem survivalAuto_asks (hcode : s.takeCode e j = 0) (hauto : s.on PEEL.PEEL_CFG.AUTO 0 (scanKey e j) = true)
    (hc : s.ckpt.find (scanKey e j) = some c) (hsilent : s.rd HID.HEARD 0 c.src + 40 ≤ s.tick + 1)
    (htoken : s.g HID.TOKENAT ≠ 0) (hcomes : s.tick ≤ s.g HID.TOKENAT) : s.survivalAuto e j = s.survAsk e j := by
  simp only [survivalAuto, sourceLost, hcode, hauto, hc, hsilent, bne_iff_ne.2 htoken, ge_iff_le, hcomes, decide_true,
    Bool.and_self, if_true]

theorem ckptMissed_none (hparked : s.parked e j = true) (hc : s.ckpt.find (scanKey e j) = none) :
    s.ckptMissed e j = s.fire EV.PEEL.CKPT_MISSED := by
  simp only [ckptMissed, hparked, hc, Bool.and_self, if_true]

/-- A checkpoint is missed once the slot's period has passed since the newest one. -/
theorem ckptMissed_since (hparked : s.parked e j = true) (hc : s.ckpt.find (scanKey e j) = some c) :
    s.ckptMissed e j =
      if c.tick + s.rd TSK.TSK_PERIOD.PERIOD e j ≤ s.tick then s.fire EV.PEEL.CKPT_MISSED else s := by
  simp only [ckptMissed, hparked, hc, ge_iff_le, Bool.true_and, decide_eq_true_eq]

end
end
end Block

/-- Settles O48: each frame's own rule once it is taken. -/
theorem transferFramesTakeEffect : Obligations.TransferFramesTakeEffect := by
  refine fun s h s1 hrun ht hfrom => ⟨fun e j tick ev ws late fire c hrole hscan hopen hrel => ?image,
    fun tick items hwait => ?state, fun slot tick crc hrole hslot => ?digest, fun slot tick l => ⟨?gathered, ?dropped⟩,
    fun tick us hwait => ?ends⟩
  case image =>
    exact answers_onSupIsl rfl hrun (Block.xferImage_captures ht hfrom _ late fire ev hrole hscan hopen hrel)
  case state => exact answers_onSupIsl rfl hrun (Block.xferEntries_module ht hfrom _ hwait)
  case digest =>
    intro k s2 hnone
    exact answers_onSupIsl rfl hrun (Block.xferDigest_held ht hfrom hrole hslot hnone)
  case gathered => exact answers_onSupIsl rfl hrun (Block.xferLines_gathered ht _)
  case dropped => exact answers_onSupIsl rfl hrun (Block.xferLines_dropped ht hfrom _)
  case ends => exact answers_onSupIsl rfl hrun (Block.xferEnd_module ht hfrom hwait)

/-- Settles O49: the rule of a placement, of a snapshot, of survival by either way, and of a missed checkpoint. -/
theorem peelTakesEffect : Obligations.PeelTakesEffect := by
  refine fun s e j => ⟨fun h s1 epoch tick al sm dm sl dl hrun ht => ?place,
    fun us x hrun hnew hwaits => ⟨fun hno hx => ?frames, fun q hq => ?benches⟩,
    fun r hm => ⟨fun hright => ?refused, fun hright hcode => ?asked⟩,
    fun hrun => ⟨fun hcode hauto c hc hsilent htoken hcomes => ?auto,
      fun hparked => ⟨fun hnone => ?noCkpt, fun c hc => ⟨fun hlate => ?late, fun hsoon => ?soon⟩⟩⟩⟩
  case place => exact answers_onSupIsl rfl hrun (Block.leasePlace_kept _ ht)
  case frames => exact answers_onSup rfl hrun (Block.snapshotDone_frames hnew hwaits hno hx)
  case benches => exact answers_onSup rfl hrun (Block.snapshotDone_benches hnew hwaits hq)
  case refused => exact answers_ruled rfl hm (by decide) rfl (Block.peelTake_refused hright)
  case asked => exact answers_ruled rfl hm (by decide) rfl (Block.peelTake_asks hright hcode)
  case auto => exact answers_onSup rfl hrun (Block.survivalAuto_asks hcode hauto hc hsilent htoken hcomes)
  case noCkpt => exact answers_onSup rfl hrun (Block.ckptMissed_none hparked hnone)
  case late => exact answers_onSup rfl hrun ((Block.ckptMissed_since hparked hc).trans (if_pos hlate))
  case soon => exact answers_onSup rfl hrun ((Block.ckptMissed_since hparked hc).trans (if_neg (Nat.not_le.2 hsoon)))

end Sys2Proof.Machine
end

section
/-!
Keys (R380 to R387, R396, R397). A KEY_CMD of a session that has the operation's right, while none runs, passes the checks of
its operation or is refused; the words of an operation go in by KEY_DATA and out by KEY_OUT; its end is one effect.
-/
namespace Sys2Proof.Machine
namespace Block
section
variable {s : Block} {r : Req}

/-! ### Registers whose read pops a FIFO (R37, R397, R453) -/

/-- A read of a register that is no half, outside the recorder's records: its effect, with the value kept as read. -/
theorem rreg_whole {off : Nat} (hlive : s.live r = true) (hsel : s.selOk r .read off = true)
    (hpage : ¬ (0x0D1080 ≤ off ∧ off < 0x0D10C0)) :
    s.rreg r off = (s.readEffect r off).wr HID.RDATA 0 (holdKey r) (s.readValue r off) := by
  have hdenied : s.recDenied r off = false := by
    have hpast : (decide (0x0D1080 ≤ off) && decide (off < 0x0D10C0)) = false := by simpa using hpage
    simp only [recDenied, hpast, Bool.false_and]
  simp only [rreg, acc_live _ _ _ hlive, readReg, hsel, hdenied, Bool.not_true, Bool.or_self, Bool.false_eq_true, if_false,
    if_true]

theorem readEffect_keyOut : s.readEffect r 0x0C0058 = s.keyOutPop r := rfl

theorem keyOutPop_held {q : Nat} (hq : reqHeld r = some q) :
    s.keyOutPop r = { s with keyOut := s.keyOut.put q (s.keyOutOf r).tail } := by
  simp only [keyOutPop, hq]

/-- A read of KEY_OUT takes the oldest word out of the requester's own FIFO. -/
theorem rreg_keyOut {q : Nat} (hq : reqHeld r = some q) (hlive : s.live r = true)
    (hsel : s.selOk r .read 0x0C0058 = true) :
    s.rreg r 0x0C0058 =
      ({ s with keyOut := s.keyOut.put q (s.keyOutOf r).tail } : Block).wr HID.RDATA 0 (holdKey r)
        (s.readValue r 0x0C0058) := by
  rw [rreg_whole hlive hsel (by decide), readEffect_keyOut, keyOutPop_held hq]

/-! ### KEY_CMD (R396, R397) -/

/-- The word that spells an operation on two slots. -/
def keyWord (op src aux : Nat) : Nat := op + 256 * src + 65536 * aux

theorem cmdWrite_keyCmd {op src aux : Nat} (hop : op < 16) (hsrc : src < 64) (haux : aux < 64) :
    s.cmdWrite r 0x0C0054 (keyWord op src aux) = some (s.keyCmd r op src aux) := by
  have h1 : keyWord op src aux % 16 = op := by simp only [keyWord]; omega
  have h2 : bits (keyWord op src aux) 13 8 = src := by simp only [keyWord, bits]; omega
  have h3 : bits (keyWord op src aux) 21 16 = aux := by simp only [keyWord, bits]; omega
  have hcmd : s.cmdWrite r 0x0C0054 (keyWord op src aux) = some (s.keyCmd r (keyWord op src aux % 16)
    (bits (keyWord op src aux) 13 8) (bits (keyWord op src aux) 21 16)) := rfl
  rw [hcmd, h1, h2, h3]

/-- The operation that a session asks for, with the words that it wrote to KEY_DATA, and the module once they are taken. -/
def keyAsked (s : Block) (n : Fin 64) (op src aux : Nat) : KeyOp :=
  ⟨.ses n, op, src, aux, s.keyIn (.ses n), s.own KEY.KEY_NEWATTR.NEWATTR 0 (.ses n)⟩
def keyTaken (s : Block) (n : Fin 64) : Block := { s with keyData := s.keyData.del (4 + n.val) }

section
variable {n : Fin 64} {op src aux : Nat} (hop : 1 ≤ op) (hlast : op ≤ 11)
  (hright : (if op = 8 then s.meterRead (.ses n) (aux % 16) else s.tin0cfg (.ses n)) = true)
  (hidle : s.on KEY.KEY_RESULT.BUSY 0 0 = false)
include hop hlast hright hidle

/-- A session's KEY_CMD that passes its operation's checks takes the words of KEY_DATA, and its operation is in progress. -/
theorem keyCmd_starts (hcode : s.keyOpCode (s.keyAsked n op src aux) (s.tinOf (.ses n)) = 0) :
    s.keyCmd (.ses n) op src aux =
      ({ ((s.keyTaken n).p KEY.KEY_RESULT.BUSY 1).p KEY.KEY_RESULT.LAST op with keyOp := some (s.keyAsked n op src aux) },
        0) := by
  have hkind : (reqKind (.ses n) == 3) = true := rfl
  have hheld : reqHeld (.ses n) = some (4 + n.val) := rfl
  have hknown : ¬ (op = 0 ∨ op > 11) := by omega
  rw [keyAsked] at hcode
  simp only [keyCmd, hkind, hheld, hright, hidle, hcode, if_neg hknown, keyAsked, keyTaken, Bool.not_true, Bool.and_false,
    Bool.false_eq_true, ne_eq, not_true_eq_false, if_false]

/-- One that fails them takes the words too, and is refused with the code that it shows. -/
theorem keyCmd_fails {code : Nat} (hcode : s.keyOpCode (s.keyAsked n op src aux) (s.tinOf (.ses n)) = code)
    (hfail : code ≠ 0) : s.keyCmd (.ses n) op src aux = ((s.keyTaken n).keyResult op code).keyRefuse (.ses n) code := by
  have hkind : (reqKind (.ses n) == 3) = true := rfl
  have hheld : reqHeld (.ses n) = some (4 + n.val) := rfl
  have hknown : ¬ (op = 0 ∨ op > 11) := by omega
  rw [keyAsked] at hcode
  simp only [keyCmd, hkind, hheld, hright, hidle, hcode, hfail, if_neg hknown, keyTaken, Bool.not_true, Bool.and_false,
    Bool.false_eq_true, ne_eq, not_false_eq_true, if_false, if_true]

end
end
end Block

/-- A command that is one KEY_CMD follows the law of its operation. -/
theorem keyCmd_law {c : Instr} {s : State} {n : Fin 64} {op src aux : Nat}
    (he : exec c s = .next { s with m := s.m.wreg (.ses n) 0x0C0054 (Block.keyWord op src aux) })
    (hm : s.m.mayWrite (.ses n) 0x0C0054 = true) (hidle : s.m.on KEY.KEY_RESULT.BUSY 0 0 = false) (hop : 1 ≤ op)
    (hlast : op ≤ 11) (hsrc : src < 64) (haux : aux < 64)
    (hright : (if op = 8 then s.m.meterRead (.ses n) (aux % 16) else s.m.tin0cfg (.ses n)) = true) :
    let o := s.m.keyAsked n op src aux
    let code := s.m.keyOpCode o (s.m.tinOf (.ses n))
    (code = 0 → Answers c s
      { ((s.m.keyTaken n).p KEY.KEY_RESULT.BUSY 1).p KEY.KEY_RESULT.LAST op with keyOp := some o }) ∧
    (code ≠ 0 → Answers c s
      ((((s.m.keyTaken n).keyResult op code).refuse 0x0C0 code (.ses n) 0x0C0054).fire EV.KEY.CMD_REFUSED)) := by
  have hcmd := s.m.cmdWrite_keyCmd (r := .ses n) (op := op) (by omega) hsrc haux
  exact ⟨fun hpass => answers_ruled he hm (by decide) hcmd (Block.keyCmd_starts hop hlast hright hidle hpass),
    fun hfail => answers_ruled he hm (by decide) hcmd (Block.keyCmd_fails hop hlast hright hidle rfl hfail)⟩

/-- Settles O50: each command is its own operation written to KEY_CMD. -/
theorem keyCommandsStartOperations : Obligations.KeyCommandsStartOperations := by
  intro s n r hm hidle law
  have hlaw (c : Instr) (op src aux : Nat)
      (he : exec c s = .next { s with m := s.m.wreg (.ses n) 0x0C0054 (Block.keyWord op src aux) }) (hop : 1 ≤ op)
      (hlast : op ≤ 11) (hsrc : src < 64) (haux : aux < 64)
      (hright : (if op = 8 then s.m.meterRead (.ses n) (aux % 16) else s.m.tin0cfg (.ses n)) = true) : law c op src aux :=
    keyCmd_law he hm hidle hop hlast hsrc haux hright
  refine ⟨fun hcfg k a => ⟨?load, ?generate, ?derive, ?wrap, ?unwrap, ?erase, ?pubkey, ?arm, ?disarm, ?lifecycle⟩,
    fun m hread => ?sign⟩
  case load => exact hlaw _ 1 k 0 rfl (by decide) (by decide) k.isLt (by decide) hcfg
  case generate => exact hlaw _ 2 k 0 rfl (by decide) (by decide) k.isLt (by decide) hcfg
  case derive => exact hlaw _ 3 k a rfl (by decide) (by decide) k.isLt a.isLt hcfg
  case wrap => exact hlaw _ 4 k a rfl (by decide) (by decide) k.isLt a.isLt hcfg
  case unwrap => exact hlaw _ 5 k a rfl (by decide) (by decide) k.isLt a.isLt hcfg
  case erase => exact hlaw _ 6 k 0 rfl (by decide) (by decide) k.isLt (by decide) hcfg
  case pubkey => exact hlaw _ 7 k 0 rfl (by decide) (by decide) k.isLt (by decide) hcfg
  case arm => exact hlaw _ 9 0 0 rfl (by decide) (by decide) (by decide) (by decide) hcfg
  case disarm => exact hlaw _ 10 0 0 rfl (by decide) (by decide) (by decide) (by decide) hcfg
  case lifecycle => exact hlaw _ 11 0 0 rfl (by decide) (by decide) (by decide) (by decide) hcfg
  case sign => exact hlaw _ 8 0 m rfl (by decide) (by decide) (by decide) m.isLt hread

namespace Block
section
variable {s : Block} {r : Req}

/-! ### The words of an operation, and its end (R382, R396, R397) -/

theorem keyDataWrite_held {q : Nat} (hq : reqHeld r = some q) (w : Nat) :
    s.keyDataWrite r w =
      if 128 ≤ (s.keyIn r).length then (s.refuse 0x0C0 0x08 r 0x0C0050, 0x08)
      else ({ s with keyData := s.keyData.put q (s.keyIn r ++ [w]) }, 0) := by
  simp only [keyDataWrite, hq, ge_iff_le]

theorem integSweep_clean {l : List (Fin 64)}
    (hnone : ((l.map fun k => k.val).filter fun k => (s.keyAttr k).testBit 0) = []) :
    s.integSweep l = s.fire EV.KEY.SCRUB_DONE := by
  simp only [integSweep, hnone, List.isEmpty_nil, if_true]

/-- The module after the effect and the outcome of an operation, and with the sessions ended whose credential it erased. -/
def keyEnded (s : Block) (o : KeyOp) (ok : Bool) (attr : Nat) : Block :=
  let e := ({ s with keyOp := none } : Block).keyEffect o ok attr
  let s1 := (e.1.keyResult o.op e.2).noteFailed
  let s2 := if e.2 = 0 then s1 else (s1.refuse 0x0C0 e.2 o.by_ 0x0C0054).fire EV.KEY.CMD_REFUSED
  let gone := ((List.range 64).filter fun k => (s.keyAttr k).testBit 0).filter fun k => !(s2.keyAttr k).testBit 0
  s2.credGone gone allSes

theorem keyOpDone_running {o : KeyOp} (ho : s.keyOp = some o) (ok : Bool) (attr : Nat) :
    s.keyOpDone ok attr =
      if ((s.keyEnded o ok attr).keyAttrs != s.keyAttrs) = true then (s.keyEnded o ok attr).stoRequest 0x22
      else s.keyEnded o ok attr := by
  rw [keyOpDone, ho]
  rfl

end
end Block

/-- Settles O51: the rule of each word's access, of a clean sweep, and of an operation's end. -/
theorem keyOperationsTakeEffect : Obligations.KeyOperationsTakeEffect := by
  refine ⟨fun s r q hq => ⟨fun w hm => ⟨fun hroom => ?takes, fun hfull => ?full⟩, fun hlive hsel => ?pop,
      fun hrun l hnone => ?clean⟩,
    fun s ok attr o hrun ho => ⟨fun hsame => ?kept, fun hchanged => ?stored⟩⟩
  case takes =>
    exact answers_ruled rfl hm (by decide) rfl ((Block.keyDataWrite_held hq _).trans (if_neg (Nat.not_le.2 hroom)))
  case full => exact answers_ruled rfl hm (by decide) rfl ((Block.keyDataWrite_held hq _).trans (if_pos hfull))
  case pop =>
    have hread := Block.rreg_keyOut hq hlive hsel
    exact ⟨_, answers_of_eq rfl hread, rfl, Block.wr_keyOut .., Block.wr_keyData .., Block.wr_keyMat ..⟩
  case clean => exact answers_onSupIsl rfl hrun (congrArg Block.noteFault (Block.integSweep_clean hnone))
  case kept =>
    have hno := ne_true_of_eq_false (bne_eq_false_iff_eq.2 hsame)
    exact answers_onSupIsl rfl hrun ((Block.keyOpDone_running ho ok _).trans (if_neg hno))
  case stored =>
    exact answers_onSupIsl rfl hrun ((Block.keyOpDone_running ho ok _).trans (if_pos (bne_iff_ne.2 hchanged)))

end Sys2Proof.Machine
end

section
/-!
Sessions (R388 to R396). A SESSION frame that its port takes has the effect of its kind: a HELLO is refused or opens a
handshake, a FINISH makes the session READY or ends the handshake, DATA performs its operations and CLOSE ends the session.
What a frame to a client leaves alone is said once, for what a FINISH must keep.
-/
namespace Sys2Proof.Machine
namespace Block

/-! ### Sending leaves the sessions alone -/

/-- Two modules whose sessions have the same states, the same keys, and the same handshakes in progress. -/
def SameSessions (s t : Block) : Prop :=
  t.handshakes = s.handshakes ∧ t.sesKeys = s.sesKeys ∧
    ∀ n, t.rd SES.SES_STATE.STATE 0 n = s.rd SES.SES_STATE.STATE 0 n

theorem SameSessions.refl (s : Block) : SameSessions s s := ⟨rfl, rfl, fun _ => rfl⟩

theorem SameSessions.trans {a b c : Block} (h1 : SameSessions a b) (h2 : SameSessions b c) : SameSessions a c := by
  obtain ⟨hshakes1, hkeys1, hstate1⟩ := h1
  obtain ⟨hshakes2, hkeys2, hstate2⟩ := h2
  exact ⟨hshakes2.trans hshakes1, hkeys2.trans hkeys1, fun n => (hstate2 n).trans (hstate1 n)⟩

theorem sameSessions_ite {s a b : Block} (c : Prop) [Decidable c] (ha : SameSessions s a) (hb : SameSessions s b) :
    SameSessions s (if c then a else b) := by
  split
  · exact ha
  · exact hb

theorem sameSessions_wr (s : Block) (f : Fld) (i k v : Nat) (h : SES.SES_STATE.STATE.code ≠ f.code) :
    SameSessions s (s.wr f i k v) :=
  ⟨wr_handshakes .., wr_sesKeys .., fun n => s.rd_wr_field f _ i k v 0 n h⟩

/-- What touches the cells of fields other than STATE only leaves the sessions alone. -/
theorem TouchesOnly.sameSessions {l : List Nat} {s t : Block} (h : TouchesOnly l s t)
    (hl : SES.SES_STATE.STATE.code ∉ l) : SameSessions s t := by
  obtain ⟨hcells, hrd⟩ := h
  exact ⟨(congrArg handshakes hcells :), (congrArg sesKeys hcells :), fun n => hrd _ 0 n hl⟩

theorem state_not_counted : ∀ p : NetPort, SES.SES_STATE.STATE.code ∉ statFields p
  | .ring p => (by decide : ∀ p : Fin 2, SES.SES_STATE.STATE.code ∉ statFields (.ring p)) p
  | .seg g => (by decide : ∀ g : Fin 8, SES.SES_STATE.STATE.code ∉ statFields (.seg g)) g
  | .svc => by decide
  | .pair => by decide

theorem sameSessions_stat (s : Block) (p : NetPort) (k n : Nat) : SameSessions s (s.stat p k n) :=
  (s.touchesOnly_stat p k n).sameSessions (state_not_counted p)

theorem sameSessions_statOct (s : Block) (p : NetPort) (k n : Nat) : SameSessions s (s.statOct p k n) :=
  (sameSessions_wr _ _ _ _ _ (by decide)).trans (sameSessions_stat ..)

theorem sameSessions_onWire (s : Block) (p : Fin 3) (head : List Nat) (octets : Nat) (express both : Bool) :
    SameSessions s (s.onWire p head octets express both) := by
  have hwire : SameSessions s { s with wire := s.wire ++ [⟨p, head, octets⟩] } := ⟨rfl, rfl, fun _ => rfl⟩
  have hcounted := hwire.trans ((sameSessions_stat _ (netPort p) 19 1).trans (sameSessions_statOct _ (netPort p) 20 octets))
  have hexpress (c : Prop) [Decidable c] :=
    sameSessions_ite c (hcounted.trans (sameSessions_stat _ (netPort p) 21 1)) hcounted
  exact sameSessions_ite _ ((hexpress _).trans (sameSessions_stat ..)) (hexpress _)

theorem sameSessions_txOver (s : Block) (f : TxFrame) (both : Bool) (l : List (Fin 3)) :
    SameSessions s (s.txOver f both l) := by
  induction l generalizing s with
  | nil => exact .refl s
  | cons p t ih =>
    have hport : SameSessions s (s.txPort f both p) :=
      sameSessions_ite _ (.refl s) (sameSessions_ite _ (sameSessions_stat ..) (sameSessions_onWire ..))
    exact hport.trans (ih _)

theorem sameSessions_send (s : Block) (f : TxFrame) : SameSessions s (s.send f) := by
  have hover := s.sameSessions_txOver f (decide (((s.txPorts f).filter fun p => decide (p.val < 2)).length > 1)) (s.txPorts f)
  have hcount (a : Block) :=
    a.sameSessions_wr HID.TXSEQ 0 f.body.type (a.rd HID.TXSEQ 0 f.body.type + 1) (by decide)
  exact sameSessions_ite _ (.refl s) (hover.trans (hcount _))

/-- A frame to the client of a session leaves the sessions alone, by the service port and by the ring. -/
theorem sameSessions_sesSend (s : Block) (n kind : Nat) (data : List Nat) : SameSessions s (s.sesSend n kind data) :=
  sameSessions_ite _ (((sameSessions_stat ..).trans (sameSessions_statOct ..)).trans (sameSessions_send ..))
    ⟨rfl, rfl, fun _ => rfl⟩

section
variable {s s1 : Block} {src : SesSrc}

/-! ### HELLO (R388 to R391, R394) -/

section
variable {h : HelloIn} (ht : s.sesRx src = (s1, true))
include ht

theorem sesHello_locked (hlock : s1.lockedOut (srcNum src) = true) : s.sesHello src h = s1.sesSendTo src 7 [0x0A] := by
  simp only [sesHello, ht, hlock, if_true]

section
variable (hlock : s1.lockedOut (srcNum src) = false)
include hlock

theorem sesHello_full (hfree : s1.freeSes = none) (hcode : s1.helloCode src h = 0x0A)
    (hen : s1.on HDR.PAGE_CTRL.ENABLE 0x0C1 0 = true) :
    s.sesHello src h = ((s1.sesSendTo src 7 [0x0A]).fire EV.SES.FULL).authFail (srcNum src) := by
  simp only [sesHello, ht, hlock, hfree, hcode, hen, beq_self_eq_true, Bool.and_self, fireIf, Bool.false_eq_true, if_false,
    if_true]

variable {n : Fin 64} (hfree : s1.freeSes = some n)
include hfree

theorem sesHello_refused (hcode : s1.helloCode src h ≠ 0) :
    s.sesHello src h = (s1.sesSendTo src 7 [s1.helloCode src h]).authFail (srcNum src) := by
  simp only [sesHello, ht, hlock, hfree, hcode, ne_eq, not_false_eq_true, Bool.false_eq_true, if_false, if_true]

end
end

/-- The module with a HELLO entered at a free session under a fresh serial number. -/
def helloEntered (s : Block) (n : Fin 64) (h : HelloIn) : Block :=
  ((s.takeFree.1.wr SES.SES_STATE.STATE 0 n.val 1).wr SES.SES_STATE.MODE 0 n.val h.mode).wr SES.SES_STATE.TIN 0 n.val h.tin.val

/-- The keys that the module `s` makes of a HELLO. -/
def helloKeys (s : Block) (h : HelloIn) : Handshake :=
  makeHandshake h (if h.mode = 1 then wordOcts ((s.keyMat.find h.slot.val).getD []) else List.replicate 48 0)
    (wordOcts ((s.keyMat.find 0).getD [])) s.takeFree.2

/-- The module `b`, where the client is noted, once the handshake of a HELLO to `s` at a tick is open and answered. -/
def helloOpened (s : Block) (n : Fin 64) (h : HelloIn) (tick : Nat) (b : Block) : Block :=
  let b1 := (b.wr SES.SES_ID.SID 0 n.val (Config.sessionId s.takeFree.2)).wr SES.SES_ID.CRED 0 n.val
    (if h.mode = 1 then h.slot.val else 0)
  (({ b1 with
    handshakes := b1.handshakes.put n.val (s.helloKeys h),
    sesKeys := b1.sesKeys.put n.val (handshakeKeys (s.helloKeys h)) } : Block).wr HID.SESHELLO 0 n.val tick).sesSend n.val 2
      (ackBody h.mode (secretOcts s.takeFree.2 48 32) (pubPoint (s.helloKeys h).eph) ++ (s.helloKeys h).auth)

section
variable {h : HelloIn} {n : Fin 64}

theorem sesHello_opens_service {k : Nat} (ht : s.sesRx (.svc k) = (s1, true))
    (hlock : s1.lockedOut (srcNum (.svc k)) = false) (hfree : s1.freeSes = some n) (hcode : s1.helloCode (.svc k) h = 0) :
    s.sesHello (.svc k) h = s1.helloOpened n h s.tick ((s1.helloEntered n h).wr SES.SES_STATE.SERVICE 0 n.val 1) := by
  simp only [sesHello, ht, hlock, hfree, hcode, ne_eq, not_true_eq_false, Bool.false_eq_true, if_false, helloOpened, helloKeys,
    helloEntered]

theorem sesHello_opens_ring {y : Hdr} (ht : s.sesRx (.ring y) = (s1, true))
    (hlock : s1.lockedOut (srcNum (.ring y)) = false) (hfree : s1.freeSes = some n) (hcode : s1.helloCode (.ring y) h = 0) :
    s.sesHello (.ring y) h = s1.helloOpened n h s.tick
      (((s1.helloEntered n h).wr SES.SES_STATE.PEER_ID 0 n.val y.src.val).wr SES.SES_STATE.PEER_POS 0 n.val (b2n y.pos)) := by
  simp only [sesHello, ht, hlock, hfree, hcode, ne_eq, not_true_eq_false, Bool.false_eq_true, if_false, helloOpened, helloKeys,
    helloEntered]

end

/-! ### FINISH (R388, R390, R391) -/

/-- The module with a session OPEN and what made its keys erased, before READY is sent. -/
def sesOpen (s : Block) (n : Nat) (f : FinishIn) : Block :=
  let s1 := (s.wr SES.SES_STATE.STATE 0 n 2).wr SES.SES_STATE.RIGHTS 0 n (s.sesRights n f)
  let s2 := if s.on SES.SES_STATE.MODE 0 n then s1
    else (s1.wr SES.SES_ID.CRED 0 n f.anchor.val).wr SES.SES_STATE.NO_DATES 0 n (b2n (!s.on PTP.PTP_STAT.TIME_VALID 0 0))
  let s3 := ((s2.wr HID.SESREADY 0 n s.tick).wr HID.SESLAST 0 n s.tick).wr HID.SESTX 0 n 1
  { s3 with handshakes := s3.handshakes.del n }

theorem sesReady_open (n : Nat) (f : FinishIn) :
    s.sesReady n f = ((s.sesOpen n f).sesSend n 4 [s.rd SES.SES_STATE.TIN 0 n, s.sesRights n f, s.g SES.SES_CFG.IDLE,
      s.g SES.SES_CFG.LIFE]).fire EV.SES.OPENED := rfl

theorem sameSessions_sesReady (n : Nat) (f : FinishIn) : SameSessions (s.sesOpen n f) (s.sesReady n f) := by
  have hfire (a : Block) := (a.touchesOnly_fire EV.SES.OPENED fun _ hf => hf).sameSessions (by decide)
  rw [sesReady_open]
  exact (sameSessions_sesSend ..).trans (hfire _)

/-- Beside the state and the handshake of the session, opening it leaves the sessions alone. -/
theorem sesOpen_sessions (n : Nat) (f : FinishIn) :
    (s.sesOpen n f).handshakes = s.handshakes.del n ∧ (s.sesOpen n f).sesKeys = s.sesKeys ∧
      (s.sesOpen n f).rd SES.SES_STATE.STATE 0 n = 2 := by
  have hrights := (s.wr SES.SES_STATE.STATE 0 n 2).sameSessions_wr SES.SES_STATE.RIGHTS 0 n (s.sesRights n f) (by decide)
  have hcred {a b : Block} (h : SameSessions a b) (c v : Nat) :=
    (h.trans (b.sameSessions_wr SES.SES_ID.CRED 0 n c (by decide))).trans
      (sameSessions_wr _ SES.SES_STATE.NO_DATES 0 n v (by decide))
  have htimes (b : Block) (t : Nat) :=
    ((b.sameSessions_wr HID.SESREADY 0 n t (by decide)).trans (sameSessions_wr _ HID.SESLAST 0 n t (by decide))).trans
      (sameSessions_wr _ HID.SESTX 0 n 1 (by decide))
  obtain ⟨hshakes, hkeys, hstate⟩ :=
    (sameSessions_ite (s.on SES.SES_STATE.MODE 0 n = true) hrights (hcred hrights f.anchor.val _)).trans (htimes _ s.tick)
  exact ⟨congrArg (fun x : AMap Handshake => x.del n) (hshakes.trans (wr_handshakes ..)), hkeys.trans (wr_sesKeys ..),
    (hstate n).trans (rd_wr_same ..)⟩

/-- READY leaves the session OPEN with its keys, and nothing of its handshake. -/
theorem sesReady_sessions (n : Nat) (f : FinishIn) :
    (s.sesReady n f).handshakes = s.handshakes.del n ∧ (s.sesReady n f).sesKeys = s.sesKeys ∧
      (s.sesReady n f).rd SES.SES_STATE.STATE 0 n = 2 := by
  obtain ⟨hshakes, hkeys, hstate⟩ := s.sameSessions_sesReady n f
  obtain ⟨hshakes', hkeys', hstate'⟩ := s.sesOpen_sessions n f
  exact ⟨hshakes.trans hshakes', hkeys.trans hkeys', (hstate n).trans hstate'⟩

/-- A FINISH of the client whose handshake waits for it, by the code of its checks. -/
theorem sesFinish_checked {n : Fin 64} {f : FinishIn} (ht : s.sesRx src = (s1, true))
    (hstate : s1.rd SES.SES_STATE.STATE 0 n.val = 1) (hfrom : s1.sesFrom n.val src = true) :
    s.sesFinish src n f = if s1.finishCode n.val f ≠ 0 then s1.handshakeEnd n (some (s1.finishCode n.val f))
      else s1.sesReady n.val f := by
  simp only [sesFinish, ht, hstate, hfrom, ne_eq, not_true_eq_false, decide_false, Bool.not_true, Bool.or_self,
    Bool.false_eq_true, if_false]

/-! ### DATA and CLOSE (R392, R393, R395) -/

section
variable {n : Fin 64} {seq : Nat} (ht : s.sesFrame src n seq true = (s1, true))
include ht

theorem sesClose_accepted : s.sesClose src n seq true = s1.sesEnd n none := by simp only [sesClose, ht]

/-- DATA that is accepted performs its operations, and is answered while its session is still OPEN. -/
theorem sesData_accepted {l : List SesOp} (hsome : l ≠ []) (hmany : l.length ≤ 64) :
    let x := (s1.wrap HID.ANSNO 0 0 1).sesOps n (s1.g HID.ANSNO) [] l
    s.sesData src n seq true l =
      if x.1.rd SES.SES_STATE.STATE 0 n.val = 2 then x.1.sesReply ⟨n.val, s1.g HID.ANSNO, x.2⟩ else x.1 := by
  have hcount : (l.isEmpty || decide (l.length > 64)) = false :=
    Bool.or_eq_false_iff.2 ⟨List.isEmpty_eq_false_iff.2 hsome, decide_eq_false (Nat.not_lt.2 hmany)⟩
  simp only [sesData, ht, hcount, Bool.false_eq_true, if_false]

end

/-! ### Ends of sessions (R388, R395) -/

theorem handshakeTimeout_late {n : Fin 64} (hstate : s.rd SES.SES_STATE.STATE 0 n.val = 1)
    (hlate : s.rd HID.SESHELLO 0 n.val + 8000 ≤ s.tick) : s.handshakeTimeout n = s.handshakeEnd n none :=
  if_pos ⟨hstate, hlate⟩

theorem sesIdle_late {n : Fin 64} (hstate : s.rd SES.SES_STATE.STATE 0 n.val = 2)
    (hlate : s.rd HID.SESLAST 0 n.val + 4000 * s.g SES.SES_CFG.IDLE ≤ s.tick) :
    s.sesIdle n = (s.sesEnd n (some 1)).fire EV.SES.EXPIRED := if_pos ⟨hstate, hlate⟩

theorem sesLife_late {n : Fin 64} (hstate : s.rd SES.SES_STATE.STATE 0 n.val = 2)
    (hlate : s.rd HID.SESREADY 0 n.val + 4000 * (3600 * s.g SES.SES_CFG.LIFE) ≤ s.tick) :
    s.sesLife n = (s.sesEnd n (some 2)).fire EV.SES.EXPIRED := if_pos ⟨hstate, hlate⟩

theorem lockoutExpire_eq :
    s.lockoutExpire = { s with lockouts := s.lockouts.filter fun x => decide (s.tick < x.at_ + 240000) } := rfl

/-! ### SES_CMD.CLOSE (R395) -/

section
variable {r : Req} {k : Fin 64} (hsel : s.own SES.SES_SEL.SESSION 0 r = k.val)
include hsel

/-- A session selected by tin 0 with the configure right or by itself ends; one in its handshake ends as a handshake. -/
theorem sesCloseCmd_allowed (hwho : s.tin0cfg r = true ∨ r = .ses k) :
    s.sesCloseCmd r =
      (if s.rd SES.SES_STATE.STATE 0 k.val = 1 then s.handshakeEnd k none else s.sesEnd k (some 5), 0) := by
  rcases hwho with hcfg | rfl
  · simp only [sesCloseCmd, hsel, hcfg, Bool.true_or, if_true, k.isLt, dif_pos]
  · simp only [sesCloseCmd, hsel, beq_self_eq_true, Bool.or_true, if_true, k.isLt, dif_pos]

theorem sesCloseCmd_refused (hcfg : s.tin0cfg r = false) (hother : r ≠ .ses k) :
    s.sesCloseCmd r = (s.refuse 0x0C1 0x01 r 0x0C1058, 0x01) := by
  cases r with
  | ses k' =>
    have hne : (k'.val == k.val) = false := beq_eq_false_iff_ne.2 fun h => hother (congrArg Req.ses (Fin.ext h))
    simp only [sesCloseCmd, hsel, hcfg, hne, Bool.or_self, Bool.false_eq_true, if_false]
  | fw _ | task _ _ | peer _ _ _ _ | loop _ | pairBlk | peelBlk =>
    simp only [sesCloseCmd, hcfg, Bool.or_self, Bool.false_eq_true, if_false]

end
end
end Block

/-- Settles O52: each frame's own rule once it is taken, the keys of a handshake, and each way in which a session ends. -/
theorem sessionsTakeEffect : Obligations.SessionsTakeEffect := by
  refine ⟨fun s src s1 hrun => ⟨fun h ht => ⟨fun hlock => ?locked, fun hlock hfree hcode hen => ?full,
        fun n hlock hfree => ⟨fun hcode => ?refused, fun hcode => ?opens⟩⟩,
      fun n f ht hstate hfrom => ⟨fun hcode => ?ready, fun hcode => ?fails⟩,
      fun n seq ht => ⟨?close, fun l hsome hmany => ⟨fun hopen => ?answered, fun hended => ?unanswered⟩⟩⟩,
    fun h f psk idKey serial => ⟨rfl, rfl, rfl, rfl, rfl, fun hpsk => if_pos hpsk, rfl⟩,
    fun s => ⟨fun hrun => ⟨fun n => ⟨fun hstate hlate => ?handshake, fun hstate hlate => ?idle, fun hstate hlate => ?life⟩,
        ?lockouts⟩,
      fun r k hm hsel => ⟨fun hwho hstate => ?ends, fun hwho hstate => ?endsHandshake, fun hcfg hother => ?denied⟩⟩⟩
  case locked => exact answers_onSupIsl rfl hrun (Block.sesHello_locked ht hlock)
  case full => exact answers_onSupIsl rfl hrun (Block.sesHello_full ht hlock hfree hcode hen)
  case refused => exact answers_onSupIsl rfl hrun (Block.sesHello_refused ht hlock hfree hcode)
  case opens =>
    refine ⟨fun k hk => ?_, fun y hy => ?_⟩
    · subst hk
      exact answers_onSupIsl rfl hrun (Block.sesHello_opens_service ht hlock hfree hcode)
    · subst hy
      exact answers_onSupIsl rfl hrun (Block.sesHello_opens_ring ht hlock hfree hcode)
  case ready =>
    have hfinish := (Block.sesFinish_checked ht hstate hfrom).trans (if_neg (not_not.2 hcode))
    exact ⟨_, answers_onSupIsl rfl hrun hfinish, rfl, rfl, s1.sesReady_sessions n.val f⟩
  case fails =>
    exact answers_onSupIsl rfl hrun ((Block.sesFinish_checked ht hstate hfrom).trans (if_pos hcode))
  case close => exact answers_onSupIsl rfl hrun (Block.sesClose_accepted ht)
  case answered => exact answers_onSupIsl rfl hrun ((Block.sesData_accepted ht hsome hmany).trans (if_pos hopen))
  case unanswered => exact answers_onSupIsl rfl hrun ((Block.sesData_accepted ht hsome hmany).trans (if_neg hended))
  case handshake => exact answers_onSup rfl hrun (Block.handshakeTimeout_late hstate hlate)
  case idle => exact answers_onSup rfl hrun (Block.sesIdle_late hstate hlate)
  case life => exact answers_onSup rfl hrun (Block.sesLife_late hstate hlate)
  case lockouts => exact answers_onSup rfl hrun Block.lockoutExpire_eq
  case ends =>
    have hrule := (Block.sesCloseCmd_allowed hsel hwho).trans (congrArg (·, 0) (if_neg hstate))
    exact answers_ruled rfl hm (by decide) rfl hrule
  case endsHandshake =>
    have hrule := (Block.sesCloseCmd_allowed hsel hwho).trans (congrArg (·, 0) (if_pos hstate))
    exact answers_ruled rfl hm (by decide) rfl hrule
  case denied => exact answers_ruled rfl hm (by decide) rfl (Block.sesCloseCmd_refused hsel hcfg hother)

end Sys2Proof.Machine
end

section
/-!
Stores and the event recorder (R403, R411, R412). The end of a store's write and a block of the spill have a rule for each
outcome; a requester's selection stands in its own copy.
-/
namespace Sys2Proof.Machine
namespace Block
section
variable {s : Block}

/-! ### The end of a write (R403) -/

section
variable {id : Nat} {b : Bank} (hwriting : s.on STO.STO_STAT.WRITING 0 id = true) (hw : (s.sto id).writing = some b)
include hwriting hw

/-- The bank that was written is valid, and the next write that waits begins. -/
theorem stoDone_done :
    let st := { s.sto id with writing := none }
    let s1 := if s.stoTarget id then s.putSto id { st with b1 := some b } else s.putSto id { st with b0 := some b }
    s.stoDone id true = ((s1.wrap STO.STO_COUNT.WRITES 0 id 1).stoWritten id).stoNext id := by
  simp only [stoDone, hwriting, hw, Bool.not_true, Bool.false_eq_true, if_false, if_true]

theorem stoDone_repeats (hfirst : s.on HID.STORETRY 0 id = false) :
    s.stoDone id false =
      ((s.sat STO.STO_COUNT.FAILS 0 id 1).fire EV.STO.WRITE_FAIL).wr HID.STORETRY 0 id 1 := by
  simp only [stoDone, hwriting, hw, hfirst, Bool.not_true, Bool.false_eq_true, if_false]

theorem stoDone_gives_up (hsecond : s.on HID.STORETRY 0 id = true) :
    s.stoDone id false =
      (((s.sat STO.STO_COUNT.FAILS 0 id 1).fire EV.STO.WRITE_FAIL).putSto id { s.sto id with writing := none }).stoNext
        id := by
  simp only [stoDone, hwriting, hw, hsecond, Bool.not_true, Bool.false_eq_true, if_false, if_true]

end

/-! ### The recorder (R411, R412) -/

/-- A block of the spill is due: 512 records, or any while everything is to be spilled. -/
theorem recSpill_due (hsome : s.unspilled ≠ []) (hdue : s.on HID.SPILLING 0 0 = true ∨ 512 ≤ s.unspilled.length) (ok : Bool) :
    s.recSpill ok =
      if !ok then s.fire EV.REC.SPILL_FAIL else (s.spillAll (s.unspilled.take 512)).stoRequest 0x32 := by
  have hnow : ¬ (s.unspilled.isEmpty || (decide (s.unspilled.length < 512) && !s.on HID.SPILLING 0 0)) = true := by
    simpa [hsome, imp_iff_not_or, or_comm] using hdue
  exact if_neg hnow

theorem recSel_held {r : Req} {q : Nat} (hq : reqHeld r = some q) (seq : Nat) :
    s.recSel r seq = (s.wr REC.REC_SEL.SEQ 0 q seq).wr HID.RECBUSY 0 q
      (b2n ((s.recAt seq).isNone && (s.spillAt seq).isSome)) := by
  simp only [recSel, hq]

theorem setOwn_held {r : Req} {q : Nat} (hq : reqHeld r = some q) (f : Fld) (i v : Nat) :
    s.setOwn f i r v = s.wr f i q v := by simp only [setOwn, hq]

end
end Block

/-- Settles O53: the rule of each outcome of a write and of a spill, and of a requester's selection. -/
theorem storesTakeEffect : Obligations.StoresTakeEffect := by
  refine fun s => ⟨fun hrun id b hwriting hw => ⟨?done, fun hfirst => ?repeats, fun hsecond => ?givesUp⟩,
    fun hrun hsome hdue => ⟨?spilled, ?spillFails⟩, fun r q hq => ⟨fun w hm => ?selects, fun hlive => ?fetched⟩⟩
  case done => exact answers_onIsl rfl hrun (Block.stoDone_done hwriting hw)
  case repeats => exact answers_onIsl rfl hrun (Block.stoDone_repeats hwriting hw hfirst)
  case givesUp => exact answers_onIsl rfl hrun (Block.stoDone_gives_up hwriting hw hsecond)
  case spilled => exact answers_onSupIsl rfl hrun (Block.recSpill_due hsome hdue true)
  case spillFails => exact answers_onSupIsl rfl hrun (Block.recSpill_due hsome hdue false)
  case selects => exact answers_ruled rfl hm (by decide) rfl (congrArg (·, 0) (Block.recSel_held hq _))
  case fetched => exact answers_acc rfl hlive (congrArg (·, 0) (Block.setOwn_held hq ..))

end Sys2Proof.Machine
end

section
/-!
Performance counters, samples and life histograms (R450, R453 to R455).
-/
namespace Sys2Proof.Machine
namespace Block
section
variable {s : Block} {r : Req}

theorem counterOverflow_at_maximum {i : Nat} (hrun : s.perfRunning = true) (hen : s.on PERF.PERF_CFG.EN 0 i = true)
    (halone : s.perfChained i = false) (hmax : s.perfVal i = 2 ^ 48 - 1) : s.counterOverflow i = s.perfAdd i 1 := by
  simp only [counterOverflow, hrun, hen, halone, hmax, beq_self_eq_true, Bool.not_false, Bool.and_self, if_true]

/-! ### SMP_W0 (R453) -/

theorem setOwn_smp (f : Fld) (i v : Nat) : (s.setOwn f i r v).smp = s.smp := by
  unfold setOwn
  split
  · exact wr_smp ..
  · rfl

theorem smpPop_smp : (s.smpPop r).1.smp = s.smp.tail := by simp only [smpPop, setOwn_smp]

theorem readEffect_smpW0 : s.readEffect r 0x0E006C = (s.smpPop r).1 := rfl

/-- A read of SMP_W0 takes the oldest record out of the FIFO. -/
theorem rreg_smpW0_smp (hlive : s.live r = true) (hsel : s.selOk r .read 0x0E006C = true) :
    (s.rreg r 0x0E006C).smp = s.smp.tail := by
  rw [rreg_whole hlive hsel (by decide), wr_smp, readEffect_smpW0, smpPop_smp]

/-! ### The histograms (R454, R455) -/

theorem lifeSave_allowed (hright : s.tin0cfg r = true) : s.lifeSave r = (s.stoRequest 0x31, 0) := by
  simp only [lifeSave, hright, Bool.not_true, Bool.false_eq_true, if_false]

theorem lifeSave_refused (hright : s.tin0cfg r = false) : s.lifeSave r = (s.refuse 0x0E1 0x01 r 0x0E104C, 0x01) := by
  simp only [lifeSave, hright, Bool.not_false, if_true]

theorem lifeHourly_due (hpower : s.g HID.PWRST ≤ 1) (hdue : s.on HID.LIFEDUE 0 0 = true) :
    s.lifeHourly = (s.p HID.LIFEDUE 0).stoRequest 0x31 := by
  simp only [lifeHourly, hpower, hdue, decide_true, Bool.and_self, if_true]

theorem lifeHourly_early (hnot : s.on HID.LIFEDUE 0 0 = false) : s.lifeHourly = s := by
  simp only [lifeHourly, hnot, Bool.and_false, Bool.false_eq_true, if_false]

/-- The fields that a minute of a 60-minute count writes beside the count itself. -/
def minuteFields : List Nat :=
  LIFE.LIFE_VAL.VALUE.code :: LIFE.LIFE_STAT.REPLACE.code :: LIFE.LIFE_STAT.WEAR_HIGH.code :: HID.LIFEDUE.code :: firedFields

theorem firedFields_subset_minute : firedFields ⊆ minuteFields :=
  fun _ h => .tail _ (.tail _ (.tail _ (.tail _ h)))

theorem touchesOnly_lifeCheck : TouchesOnly minuteFields s s.lifeCheck := by
  have hfire (a : Block) (n : Nat) : TouchesOnly minuteFields a (a.fire n) := touchesOnly_fire a n firedFields_subset_minute
  have hreplace := touchesOnly_wr (l := minuteFields) s LIFE.LIFE_STAT.REPLACE 0 0 1 (by decide)
  have hwear (a : Block) := touchesOnly_wr (l := minuteFields) a LIFE.LIFE_STAT.WEAR_HIGH 0 0 1 (by decide)
  exact (touchesOnly_ite _ (hreplace.trans (hfire ..)) (.refl _ s)).trans
    (touchesOnly_ite _ ((hwear _).trans (hfire ..)) (.refl _ _))

theorem touchesOnly_lifeAdd (hist bin n : Nat) : TouchesOnly minuteFields s (s.lifeAdd hist bin n) :=
  (touchesOnly_wr s _ _ _ _ (by decide)).trans touchesOnly_lifeCheck

theorem touchesOnly_minuteOf (f : Fld) (bin : Nat) : TouchesOnly (f.code :: minuteFields) s (s.minuteOf f bin) := by
  have hcount (v : Nat) := touchesOnly_wr (l := f.code :: minuteFields) s f 0 0 v (.head _)
  have hbin : TouchesOnly (f.code :: minuteFields) (s.p f 0) ((s.p f 0).lifeAdd 9 bin 1) :=
    ⟨touchesOnly_lifeAdd .. |>.1, fun g i k hg => (touchesOnly_lifeAdd ..).2 g i k fun h => hg (.tail _ h)⟩
  have hdue (a : Block) := touchesOnly_wr (l := f.code :: minuteFields) a HID.LIFEDUE 0 0 1
    (List.mem_cons_of_mem _ (by decide))
  exact touchesOnly_ite _ (((hcount 0).trans hbin).trans (hdue _)) (hcount _)

/-- A minute in RUN below ladder stage 2, with no board sensor valid, counts in AGE and in the hours of RUN. -/
theorem lifeMinute_run (hpower : s.g HID.PWRST = 0) (hladder : s.g PWR.PWR_STAT.LADDER ≤ 1)
    (hsens : s.g PWR.PWR_STAT.SENS_VALID = 0) :
    s.lifeMinute = (s.sat LIFE.LIFE_STAT.AGE 0 0 1).minuteOf HID.LIFEMIN 0 := by
  set s1 := s.sat LIFE.LIFE_STAT.AGE 0 0 1 with hs1
  have hkeep (f : Fld) (hf : f.code ≠ LIFE.LIFE_STAT.AGE.code) : s1.g f = s.g f := rd_wr_field _ _ _ _ _ _ _ _ hf
  have hsens1 : s1.g PWR.PWR_STAT.SENS_VALID = 0 := (hkeep _ (by decide)).trans hsens
  have hladder1 : s1.g PWR.PWR_STAT.LADDER ≤ 1 := (hkeep _ (by decide)).trans_le hladder
  have hcold : ¬ 2 ≤ s1.g PWR.PWR_STAT.LADDER := by omega
  have hcool : ¬ 3 ≤ s1.g PWR.PWR_STAT.LADDER := by omega
  have hrun : (s1.minuteOf HID.LIFEMIN 0).g HID.PWRST = 0 :=
    ((touchesOnly_minuteOf ..).2 _ 0 0 (by decide)).trans ((hkeep _ (by decide)).trans hpower)
  simp only [lifeMinute, ← hs1, hpower, hsens1, hcold, hcool, hrun, gt_iff_lt, Nat.not_lt_zero, if_false, if_true,
    Nat.zero_ne_one]

end
end Block

/-- A command of the module's life answers its effect in RUN and in HALT while island 0 runs. -/
theorem answers_onLife {c : Instr} {s : State} {f : Block → Block} {b : Block}
    (he : exec c s = .next { s with m := s.m.onLife f }) (hpower : s.m.g HID.PWRST ≤ 1) (hup : s.m.islandUp 0 = true)
    (h : f s.m = b) : Answers c s b :=
  answers_of_eq he ((if_pos (Bool.and_eq_true_iff.2 ⟨decide_eq_true hpower, hup⟩)).trans h)

/-- Settles O56: each event's own rule, and for AGE that a minute leaves the module in RUN. -/
theorem performanceAndLifeTakeEffect : Obligations.PerformanceAndLifeTakeEffect := by
  refine fun s => ⟨fun c hrun hperf hen halone hmax => ?overflow, fun r q _ hlive hsel => ?pop,
    fun r hm => ⟨fun hright => ?saves, fun hright => ?refused⟩, fun hpower hup => ⟨fun hdue => ?hour, fun hnot => ?early⟩,
    fun hrun hladder hsens => ?minute⟩
  case overflow => exact answers_onSup rfl hrun (Block.counterOverflow_at_maximum hperf hen halone hmax)
  case pop => exact ⟨_, rfl, rfl, Block.rreg_smpW0_smp hlive hsel⟩
  case saves => exact answers_ruled rfl hm (by decide) rfl (Block.lifeSave_allowed hright)
  case refused => exact answers_ruled rfl hm (by decide) rfl (Block.lifeSave_refused hright)
  case hour => exact answers_onLife rfl hpower hup (Block.lifeHourly_due hpower hdue)
  case early => exact answers_onLife rfl hpower hup (Block.lifeHourly_early hnot)
  case minute =>
    obtain ⟨hrunning, hup⟩ := Bool.and_eq_true_iff.1 hrun
    have hpower := eq_of_beq hrunning
    exact answers_onLife rfl (by omega) hup (Block.lifeMinute_run hpower hladder hsens)

end Sys2Proof.Machine
end

section
/-!
Updates (R414 to R419). UPD_CMD's word spells an operation, a slot and a partner bit; a session of tin 0 with the configure
right passes the page's own check, and then each operation has its rule.
-/
namespace Sys2Proof.Machine
namespace Block
section
variable {s : Block} {n : Fin 64} {k : Nat}

/-! ### UPD_CMD (R415 to R419) -/

/-- The word that spells an operation on a slot, by the partner or not. -/
def updWord (op k : Nat) (partner : Bool) : Nat := op + 16 * k + 32 * b2n partner

theorem updWord_decodes : ∀ op < 16, ∀ (k : Fin 2) (p : Bool),
    updWord op k.val p % 16 = op ∧ bitN (updWord op k.val p) 4 = k.val ∧ (updWord op k.val p).testBit 5 = p := by
  decide

/-- What UPD_CMD does for an operation; END, whose verdict is open, stands apart. -/
def updOperation (s : Block) (r : Req) (op k : Nat) (partner : Bool) : Block × Nat :=
  if op = 1 then s.updBegin r k partner
  else if op = 3 then s.updAbort r k
  else if op = 4 then s.updConfirm r partner
  else if op = 5 then s.updRevert r partner
  else s.updRefuse r 0x0D2044 (if s.updReqCode r ≠ 0 then s.updReqCode r else 0x0D)

theorem cmdWrite_updWord {op : Nat} (r : Req) (k : Fin 2) (p : Bool) (hop : op < 16) (hend : op ≠ 2) :
    s.cmdWrite r 0x0D2044 (updWord op k.val p) = some (s.updOperation r op k.val p) := by
  obtain ⟨hop, hk, hp⟩ := updWord_decodes op hop k p
  change some (s.updCmdWrite r (updWord op k.val p)) = _
  rw [updCmdWrite, hop, hk, hp, if_neg hend, updOperation]

theorem updAbort_refused (hright : s.tin0cfg (.ses n) = false) :
    s.updAbort (.ses n) k = (s.refuse 0x0D2 0x01 (.ses n) 0x0D2044, 0x01) := by
  have hcode : s.updReqCode (.ses n) = 0x01 := if_neg (ne_true_of_eq_false hright)
  simp only [updAbort, hcode, updRefuse, ne_eq, Nat.one_ne_zero, not_false_eq_true, if_true]

theorem updReqCode_allowed (hright : s.tin0cfg (.ses n) = true) : s.updReqCode (.ses n) = 0 := if_pos hright

section
variable (hright : s.tin0cfg (.ses n) = true)
include hright

/-- BEGIN opens a slot that no session loads and no ACTIVATE names, below ladder stage 1. -/
theorem updBegin_opens (hpage : s.on HDR.PAGE_CTRL.ENABLE 0x0D2 0 = true) (hcold : s.g PWR.PWR_STAT.LADDER = 0)
    (hidle : s.updLoading k = false) (hfree : s.updNamed k = false) :
    let s1 := (((s.p (updState k) 1).p (updCodeF k) 0).p (updSesF k) n.val).p (updVer k) 0
    let s2 := (((s1.wr HID.UPDLEN 0 k 0).wr HID.UPDPROOF 0 k 0).wr HID.UPDPART 0 k 0).wr HID.UPDSES 0 n.val (k + 1)
    s.updBegin (.ses n) k false = ({ s2 with updImg := s2.updImg.put k [] }, 0) := by
  have hstage : ¬ 1 ≤ s.g PWR.PWR_STAT.LADDER := by omega
  simp only [updBegin, updReqCode_allowed hright, hpage, hstage, hidle, hfree, sesOf, b2n, ne_eq, not_true_eq_false,
    decide_false, Bool.not_true, Bool.false_and, Bool.or_self, Bool.false_eq_true, if_false]

theorem updAbort_allowed : s.updAbort (.ses n) k = (s.updDrop k, 0) := if_neg (not_not.2 (updReqCode_allowed hright))

theorem updRevert_trial (htrial : s.on UPD.UPD_STAT.TRIAL 0 0 = true) :
    s.updRevert (.ses n) false = (s.p HID.UPDREVERT 1, 0) := by
  simp only [updRevert, updReqCode_allowed hright, htrial, ne_eq, not_true_eq_false, Bool.not_true, Bool.false_eq_true,
    if_false]

theorem updRevert_no_trial (hnone : s.on UPD.UPD_STAT.TRIAL 0 0 = false) :
    s.updRevert (.ses n) false = (s.refuse 0x0D2 0x0A (.ses n) 0x0D2044, 0x0A) := by
  simp only [updRevert, updReqCode_allowed hright, hnone, updRefuse, ne_eq, not_true_eq_false, Bool.not_false,
    Bool.false_eq_true, if_false, if_true]

/-- CONFIRM of an image whose ROLLBACK is not above MIN leaves MIN as it is. -/
theorem updConfirm_trial (htrial : s.on UPD.UPD_STAT.TRIAL 0 0 = true)
    (hmin : s.g UPD.UPD_ROLLBACK.RUN ≤ s.g UPD.UPD_ROLLBACK.MIN) :
    s.updConfirm (.ses n) false =
      ((((s.p UPD.UPD_STAT.TRIAL 0).fire EV.UPD.CONFIRMED).stoRelease cfgStoreIds).stoRequest 0x33, 0) := by
  have hrun : (s.p UPD.UPD_STAT.TRIAL 0).g UPD.UPD_ROLLBACK.RUN = s.g UPD.UPD_ROLLBACK.RUN := g_p_field _ _ _ _ (by decide)
  have hkept : (s.p UPD.UPD_STAT.TRIAL 0).g UPD.UPD_ROLLBACK.MIN = s.g UPD.UPD_ROLLBACK.MIN := g_p_field _ _ _ _ (by decide)
  simp only [updConfirm, updReqCode_allowed hright, htrial, hrun, hkept, gt_iff_lt, Nat.not_lt.2 hmin, ne_eq,
    not_true_eq_false, Bool.not_true, Bool.false_eq_true, if_false]

/-! ### Words and the end of an image (R415) -/

section
variable (hloading : s.updLoading k = true) (hown : s.g (updSesF k) = n.val)
include hloading hown

/-- A word of a header goes into the slot, and the 128th starts the header's proof. -/
theorem updData_header (w : Nat) (hslot : s.rd HID.UPDSES 0 n.val = k + 1) (hopen : s.on HID.UPDPROOF 0 k = false)
    (hheader : s.g (updState k) = 1) :
    let s1 : Block := { (s.wrap HID.UPDLEN 0 k 1) with updImg := s.updImg.put k (w :: (s.updImg.find k).getD []) }
    s.updData (.ses n) w = (s1.wr HID.UPDPROOF 0 k (b2n (s1.rd HID.UPDLEN 0 k == 128)), 0) := by
  simp only [updData, updReqCode_allowed hright, sesOf, hslot, Nat.add_sub_cancel, hloading, hown, hopen, hheader, ne_eq,
    not_true_eq_false, Nat.succ_ne_zero, decide_false, bne_self_eq_false, Bool.not_true, Bool.or_self, Bool.false_eq_true,
    OfNat.one_ne_ofNat, false_and, if_false]

/-- END of a whole payload stages it or fails it by the verdict on its digest. -/
theorem updEnd_whole (hpayload : s.g (updState k) = 2) (hlen : s.rd HID.UPDLEN 0 k = 128 + s.updHdr k 8 / 4) (ok : Bool) :
    s.updEnd (.ses n) k ok =
      if !ok then (s.updFail k 4 0x0B, 0) else ((s.p (updState k) 3).fire EV.UPD.STAGED, 0) := by
  simp only [updEnd, updReqCode_allowed hright, sesOf, hloading, hown, hpayload, hlen, ne_eq, not_true_eq_false,
    bne_self_eq_false, Bool.not_true, Bool.or_self, Bool.false_eq_true, if_false]

end
end

/-! ### The proof of a header (R414) -/

theorem updProof_ends (hon : s.on HID.UPDPROOF 0 k = true) (hheader : s.g (updState k) = 1) (sig : Bool) :
    let c := s.proofCode (s.updHdr k) sig
    s.updProof k sig =
      if c = 0 then ((s.p (updState k) 2).p (updVer k) (s.updHdr k 6)).wr HID.UPDPROOF 0 k 0
      else (s.updFail k 4 c).fire EV.UPD.PROOF_FAIL := by
  simp only [updProof, hon, hheader, bne_self_eq_false, Bool.not_true, Bool.or_self, Bool.false_eq_true, if_false]

/-! ### The watchdog of a trial (R417) -/

section
variable (hpower : s.g HID.PWRST = 0) (hlate : s.g HID.RESTARTAT + 10000 + 400 * s.g PTP.PTP_LIMITS.START_WAIT ≤ s.tick)
include hpower hlate

theorem trialWatchdog_over : ¬ (s.g HID.PWRST ≠ 0 ∨ s.watchdogOver = false) := by
  have hover : s.watchdogOver = true := by simp only [watchdogOver, ge_iff_le, hlate, decide_true, Bool.or_true]
  simp only [hpower, hover, ne_eq, not_true_eq_false, Bool.true_eq_false, or_self, not_false_eq_true]

theorem trialWatchdog_trial (hnone : s.g HID.ACTSLOT = 0) (htrial : s.on UPD.UPD_STAT.TRIAL 0 0 = true)
    (hstart : s.on HID.STARTPEND 0 0 = true) : s.trialWatchdog = (s.restartBegin 5 true).p HID.TRIALFAIL 1 := by
  simp only [trialWatchdog, if_neg (trialWatchdog_over hpower hlate), hnone, htrial, hstart, ne_eq, not_true_eq_false,
    Bool.and_self, Bool.true_or, if_false, if_true]

/-- An activation whose restart has not completed has copied its image. -/
theorem trialWatchdog_activation (hact : s.g HID.ACTSLOT ≠ 0) :
    s.trialWatchdog =
      (((s.bootTake (s.g HID.ACTSLOT - 1)).p HID.ACTSLOT 0).restartBegin 5 true).p HID.TRIALFAIL 1 := by
  simp only [trialWatchdog, if_neg (trialWatchdog_over hpower hlate), bne_iff_ne.2 hact, hact, ne_eq, not_false_eq_true,
    Bool.or_true, if_true]

end
end
end Block

/-- A command that is one UPD_CMD answers what its operation leaves. -/
theorem answers_updCmd {c : Instr} {s : State} {r : Req} {code : Nat} {b : Block} (op : Nat) (k : Fin 2)
    (p : Bool) (he : exec c s = .next { s with m := s.m.wreg r 0x0D2044 (Block.updWord op k.val p) })
    (hm : s.m.mayWrite r 0x0D2044 = true) (hop : op < 16) (hend : op ≠ 2)
    (h : s.m.updOperation r op k.val p = (b, code)) : Answers c s b :=
  answers_ruled he hm (by decide) (Block.cmdWrite_updWord r k p hop hend) h

/-- Settles O54: each operation's rule past the page's check, the header's proof, and the watchdog. -/
theorem updatesTakeEffect : Obligations.UpdatesTakeEffect := by
  refine ⟨fun s n k => ⟨fun hm hright => ⟨fun hpage hcold hidle hfree => ?opens, ?aborts, fun htrial => ?reverts,
        fun hnone => ?noTrial, fun htrial hmin => ?confirms⟩, fun hm hright => ?refused,
      fun hlive hright hloading hown hpayload hlen => ⟨?stages, ?fails⟩,
      fun w hm hright hslot hloading hown hopen hheader => ?word⟩,
    fun s => ⟨fun k sig hrun hon hheader => ⟨fun hproves => ?proves, fun hfails => ?proofFails⟩,
      fun hpower hlate => ⟨fun hnone htrial hstart => ?trial, fun hact => ?activation⟩⟩⟩
  case opens =>
    exact answers_updCmd 1 k false rfl hm (by decide) (by decide) (Block.updBegin_opens hright hpage hcold hidle hfree)
  case aborts => exact answers_updCmd 3 k false rfl hm (by decide) (by decide) (Block.updAbort_allowed hright)
  case reverts =>
    exact answers_updCmd 5 0 false rfl hm (by decide) (by decide) (Block.updRevert_trial hright htrial)
  case noTrial =>
    exact answers_updCmd 5 0 false rfl hm (by decide) (by decide) (Block.updRevert_no_trial hright hnone)
  case confirms =>
    exact answers_updCmd 4 0 false rfl hm (by decide) (by decide) (Block.updConfirm_trial hright htrial hmin)
  case refused => exact answers_updCmd 3 k false rfl hm (by decide) (by decide) (Block.updAbort_refused hright)
  case stages => exact answers_acc rfl hlive (Block.updEnd_whole hright hloading hown hpayload hlen true)
  case fails => exact answers_acc rfl hlive (Block.updEnd_whole hright hloading hown hpayload hlen false)
  case word =>
    exact answers_ruled rfl hm (by decide) rfl (Block.updData_header hright hloading hown _ hslot hopen hheader)
  case proves => exact answers_onSup rfl hrun ((Block.updProof_ends hon hheader sig).trans (if_pos hproves))
  case proofFails => exact answers_onSup rfl hrun ((Block.updProof_ends hon hheader sig).trans (if_neg hfails))
  case trial => exact answers_of_eq rfl (Block.trialWatchdog_trial hpower hlate hnone htrial hstart)
  case activation => exact answers_of_eq rfl (Block.trialWatchdog_activation hpower hlate hact)

end Sys2Proof.Machine
end
